-- ==== Sys2Proof/Word.lean ====
section
/-! DEFINITION. Bytes and numbers, little-endian (00 R12) and big-endian, and two's complement. -/

namespace Sys2Proof

/-- A byte. -/
abbrev Byte := BitVec 8

/-- `n` bytes of `v`, least significant first (00 R12). -/
def leBytes : Nat → Nat → List Byte
  | 0, _ => []
  | n + 1, v => BitVec.ofNat 8 v :: leBytes n (v / 256)

/-- The number whose bytes, least significant first, are `bs` (00 R12). -/
def leNat : List Byte → Nat
  | [] => 0
  | b :: bs => b.toNat + 256 * leNat bs

/-- `n` bytes of `v`, most significant first. -/
def beBytes (n v : Nat) : List Byte := (leBytes n v).reverse

/-- The number whose bytes, most significant first, are `bs`. -/
def beNat (bs : List Byte) : Nat := leNat bs.reverse

/-- The two's complement pattern of `i` in `w` bits. -/
def toBits (w : Nat) (i : Int) : Nat := (i % (2 ^ w : Int)).toNat

/-- The signed value of the `w`-bit pattern `n`. -/
def ofBits (w n : Nat) : Int :=
  if n < 2 ^ (w - 1) then (n : Int) else (n : Int) - (2 ^ w : Int)

/-- `n` bytes of `bs` from position `o`; a position past the end gives 0. -/
def bytesAt (bs : List Byte) (o n : Nat) : List Byte :=
  (List.range n).map fun i => bs.getD (o + i) 0

/-- The `n`-byte little-endian field of `bs` at byte `o`. -/
def fieldAt (bs : List Byte) (o n : Nat) : Nat := leNat (bytesAt bs o n)

/-- The `n`-byte big-endian field of `bs` at byte `o`. -/
def beFieldAt (bs : List Byte) (o n : Nat) : Nat := beNat (bytesAt bs o n)

/-- Bit `k` of `n`. -/
def bit (n k : Nat) : Bool := (n / 2 ^ k) % 2 == 1

/-- 1 for true, 0 for false. -/
def b2n (b : Bool) : Nat := if b then 1 else 0

end Sys2Proof
end

