-- ==== Sys2Proof/Syntax.lean ====
section
/-! DEFINITION. The commands of the K760: one constructor of `Instr` per row of spec/opcode_table.json,
in the table's order. The table gives no operands; an operand names the unit the row is about (a slot, a
queue pair, a port, a layer ...) or carries what comes to the block from outside it: bytes the host, the
service port or a partner sends, a value a sensor or the medium yields, the verdict of a test. What a
row computes from state is no operand. Ranges of operands are checked by `Instr.wf` (WellFormed.lean). -/

namespace Sys2Proof

/-- An Ethernet frame as a camera MAC receives it (08 Table 8.3), already split into the fields its
filters test. -/
structure CamFrame where
  fcsOk : Bool
  frameLen : Nat
  destMac : Nat
  vlan : Option Nat
  ipVersion : Nat
  ihl : Nat
  ipChecksumOk : Bool
  fragment : Bool
  proto : Nat
  destIp : Nat
  ipLen : Nat
  destPort : Nat
  udpChecksumOk : Bool
  udpLen : Nat
  payload : List Byte
  deriving DecidableEq, Repr

/-- A camera's IEEE 802.1AS message (08 R349, R351). -/
inductive GptpMsg where
  | sync | announce
  | pdelayReq (seq : Nat)
  | pdelayResp (seq t2 : Nat)
  | pdelayRespFollowUp (seq t3 t4 : Nat)
  | other
  deriving DecidableEq, Repr

/-- A frame on P5 or P6 (08 Table 8.6) as received: the bytes from SF_SOF to SF_CRC, and whether a gap of
more than 10 character times or a bad stop bit broke it (08 Table 8.7). -/
structure SerialFrame where
  bytes : List Byte
  broken : Bool
  deriving DecidableEq, Repr

/-- A CAN frame (08 R364, R369); `ok` is the outcome of the ISO 11898-1 checks. -/
structure CanFrame where
  ok : Bool
  remote : Bool
  id : Nat
  ide : Bool
  fdf : Bool
  brs : Bool
  dlc : Nat
  data : List Byte
  deriving DecidableEq, Repr

/-- An NMEA 0183 sentence (08 R374, Table 8.12): its kind, whether framing, checksum and time fields are
good, its RMC status, and the UTC second it names (seconds since 2000). -/
structure Nmea where
  rmc : Bool
  zda : Bool
  good : Bool
  statusA : Bool
  second : Nat
  deriving DecidableEq, Repr

/-- One sample of the photodetector outputs that form an RF signal, one sample per channel bit (12 R554): A, B, C and D
of the main spot, or V alone of the verify spot. -/
abbrev RfSample := List Int

/-- The row of one frame as it comes to the block, at the stage of the channel where the operand gives it (12 R554-R557):
the RF samples of each stretch between splits, with those before and after the frame that warm the lane up (R558); the
channel bits of the data field between splits as the detector decides them; the 208 bytes as the K-RLL decoder gives
them; or the inner decoder's result, the symbols it corrected or a failure. -/
inductive RowSeen where
  | rf (lead : List RfSample) (runs : List (List RfSample)) (trail : List RfSample)
  | bits (runs : List (List Bool))
  | bytes (bs : List Byte)
  | fixed (n : Nat)
  | lost
  deriving DecidableEq, Repr

/-- One frame as a spot sees it (12 R548, R565): where its FS was found, in channel bits from the expected position, if
at all; whether the defect detector flagged it; the largest |VT| in it, in nm (verify spot); its row. -/
structure FrameSeen where
  fs : Option Int
  flag : Bool
  vt : Nat
  row : RowSeen
  deriving DecidableEq, Repr

/-- What the verify stream shows of one written cluster (12 R547-R549, R583, R584): `cs` the CS was found, the RF of the
run-in, the frames in recording order; `tcl` the measured duration of the cluster in us (03 R117). -/
structure Verdict where
  cs : Bool
  runIn : List RfSample
  frames : List FrameSeen
  tcl : Nat
  deriving DecidableEq, Repr

/-- What one read of a cluster yields (12 R565-R569): the RF of its run-in, its frames in recording order; a frame
the list does not reach was not seen. `colErr` is the largest number of undetected symbol errors of a column in the set
that this read leaves combined, `cut` a read cut short by a loss of focus or track or a shock hold, `parity` a parity
error in the read-back data (12 R584). -/
structure ReadOutcome where
  runIn : List RfSample
  frames : List FrameSeen
  colErr : Nat
  cut : Bool
  parity : Bool
  deriving DecidableEq, Repr

/-- A metadata block of a recorded cluster (02 Table 2.8). -/
structure Metadata where
  stream : Nat
  bytesUsed : Nat
  streamOffset : Nat
  firstRec : Nat
  recCount : Nat
  firstTime : Nat
  lastTime : Nat
  flags : Nat
  gcmIv : Nat
  gcmTag : Nat
  keyEpoch : Nat
  deriving DecidableEq, Repr

/-- The trailer of a recorded cluster (02 Table 2.9). -/
structure Trailer where
  flags : Nat
  blockId : Nat
  stream : Nat
  clIndex : Nat
  clCount : Nat
  homeAca : Nat
  selvSeq : Nat
  writeTime : Nat
  chainPrev : Nat
  clHash : Nat
  chainVal : Nat
  sig : Nat
  keyId : Nat
  deriving DecidableEq, Repr

/-- A session directory entry (02 Table 2.11). -/
structure DirEntry where
  type : Nat
  flags : Nat
  stream : Nat
  firstAca : Nat
  lastAca : Nat
  clCount : Nat
  blockId : Nat
  streamOffset : Nat
  byteCount : Nat
  selvSeq : Nat
  firstTime : Nat
  lastTime : Nat
  chainHead : Nat
  deriving DecidableEq, Repr

/-- A defect list entry (02 Table 2.12). -/
structure DefectEntry where
  home : Nat
  repl : Nat
  reason : Nat
  time : Nat
  block : Nat
  deriving DecidableEq, Repr

/-- A black-box record (17 Table 17.4); its CRC is computed from the rest. -/
structure BbRecord where
  seq : Nat
  time : Nat
  code : Nat
  source : Nat
  sev : Nat
  flags : Nat
  boot : Nat
  data : Nat
  deriving DecidableEq, Repr

/-- A system cluster header (02 Table 2.10). -/
structure SysHeader where
  magic : Nat
  sysSeq : Nat
  session : Nat
  sessionStart : Nat
  sessionEnd : Nat
  nextPcn : List Nat
  spareNext : List Nat
  linkAca : Nat
  echoAca : Nat
  firstSeq : Nat
  lastSeq : Nat
  deriving DecidableEq, Repr

/-- The body of a disc identity cluster (02, System zones). -/
structure Identity where
  serial : Nat
  layer : Nat
  layerCount : Nat
  depthNm : Nat
  trackPitchPm : Nat
  cbitPm : Nat
  userCl : Nat
  spareCl : Nat
  opcHint : Nat
  mfgTime : Nat
  deriving DecidableEq, Repr

/-- What the user area of a recorded cluster holds: user bytes, or a system cluster's header and
entries (02 Table 2.10 and the entry layouts), or the test pattern of 13 R600. -/
inductive ClusterBody where
  | user (bytes : List Byte)
  | identity (h : SysHeader) (i : Identity)
  | directory (h : SysHeader) (es : List DirEntry)
  | defects (h : SysHeader) (es : List DefectEntry)
  | echo (h : SysHeader) (rs : List BbRecord)
  | test
  deriving DecidableEq, Repr

/-- A cluster as recorded on a disc. `decodes` is false for a broken or undecodable cluster; `hdrCrcOk`
says whether its stored HDR_CRC passes, the header's and the trailer's. -/
structure Cluster where
  decodes : Bool
  hdrCrcOk : Bool
  md : Metadata
  trailer : Trailer
  body : ClusterBody
  deriving DecidableEq, Repr

/-- A cartridge: its recorded clusters by address (ACA), rising, those of the factory among them (02 Table 2.7). -/
structure Disc where
  clusters : List (Nat × Cluster)
  deriving DecidableEq, Repr

/-- A failing unit found by a memory test (16 R702, R709): the failing cells as (row, column). -/
abbrev FailCells := List (Nat × Nat)

/-- The means of the tracking balance at the two sled positions (13 Table 13.2): (A + D) − (B + C), and E − F. -/
structure Balance where
  main0 : Int
  side0 : Int
  main1 : Int
  side1 : Int
  deriving DecidableEq, Repr

/-- Who writes GPIO_OUT (18 R762, Table 18.2). -/
inductive PinOwner where
  | host | coreA | coreB | servo | security | warden
  deriving DecidableEq, Repr

/-- What caused a master reset (07 Master reset mid-burst; 14 R621, R645; 15 Table 15.2). -/
inductive ResetCause where
  | resetN | watchdog | pll | drain | parity
  deriving DecidableEq, Repr

/-- What a boot meets (19 R782, R687, R652; 07 R336): failing checkers (rows of Table 15.3 with the unit; row 10 is
that of the windows' save buffer, 16 R721),
failing macros with their cells, SFDP size in MiB (none: absent), whether each slot's image verifies,
whether each repair-map copy passes, channels that fail training, copies of the settings that pass,
whether a migration succeeds, whether MRAM copies of the wrapped key decode, LAST_BOOT_MS, the pool size, which copies of
the boot control block pass their CRC. -/
structure BootInputs where
  checkers : List (Nat × Nat)
  macros : List (Nat × FailCells)
  sfdpMib : Option Nat
  slotOk : Bool × Bool
  mapOk : Bool
  trainFail : Nat
  settingsOk : Bool
  migrationOk : Bool
  keyOk : Bool
  poolMib : Nat
  bootMs : Nat
  controlOk : Bool × Bool := (true, true)
  deriving DecidableEq, Repr

/-- PCIe link power states (04 R161, Table 4.9). -/
inductive LinkState where
  | down | l0 | l1 | l11 | l12 | l2 | l3
  deriving DecidableEq, Repr

/-- What MSIX_MASK_WRITE writes (04 R155): the enable, the function mask, or an entry of the table. -/
inductive MsixWrite where
  | enable (on : Bool)
  | functionMask (on : Bool)
  | entry (vector : Nat) (addr data : Nat) (masked : Bool)
  deriving DecidableEq, Repr

/-- TAP instructions (20 R830). -/
inductive TapOp where
  | bypass | idcode | samplePreload | extest
  | scan (bits : List Bool)
  deriving DecidableEq, Repr

/-- The structures of 15 Table 15.2 that recover by refetch and have no step of their own. -/
inductive ParityUnit where
  | contextCache (qp : Nat) (loomPoisoned : Bool)
  | poisonBitmap (byte : Nat) (ledgerPoisoned : Bool)
  | channelScratch (toWrite : Bool)
  | coreCode
  | coreData (core : Nat)
  | servoMemory
  | securityMemory
  | mram
  | crossbar (identity granule : Nat) (write second : Bool)
  deriving DecidableEq, Repr

/-- What a self-test measured, and how long it took in µs (16 Table 16.5). -/
structure Timed (α : Type) where
  seen : α
  duration : Nat
  deriving DecidableEq, Repr

/-- A queue command's tag, and how much of its work the row does: a count, or all that is left. -/
structure PartOf where
  tag : Nat
  part : Option Nat
  deriving DecidableEq, Repr

/-- Whether a bank's ring slot, and the pin slot where one is written, pass their read-back (17 R739). -/
structure BankCheck where
  ring : Bool
  pin : Bool
  deriving DecidableEq, Repr

/-- The commands: one constructor per row of spec/opcode_table.json, in its order. -/
inductive Instr where
  | w0BadAccess (window offset size : Nat) (write : Bool)
  | mbGo (slot : Nat) (ctrl : BitVec 32) (byP8 : Bool)
  | mbComplete (slot : Nat)
  | mbDoneClear (slot : Nat) (byP8 : Bool)
  | mbClaim (byHost byP8 : Bool)
  | mbRelease (byP8 : Bool)
  | p8ClaimTimeout
  | p8Write (offset : Nat) (data : List Byte)
  | p8Read (offset len : Nat)
  | p8Status
  | ntTailWrite (v : Nat)
  | doorbellWrite (offset size value : Nat)
  | d3hotEntry
  | d0Return
  | linkRetrainTimeout
  | functionLevelReset
  | hotReset
  | perstAssert
  | perstRelease (speed width : Nat)
  | hostResetComplete
  | hostReadTimeout (qp : Nat) (tag : Option Nat)
  | poisonedTlp (qp : Nat) (tag : Option Nat)
  | qpCreate (slot : Nat)
  | qpDelete (slot : Nat)
  | sqFetch (qp : Nat) (entry buffer descriptors : List Byte)
  | fencedStart (qp tag : Nat)
  | coalTimerExpiry (qp : Nat)
  | paramGet (slot : Nat)
  | paramSet (slot : Nat)
  | powerHoldRun (slot : Nat)
  | powerDoze (slot : Nat)
  | powerNap (slot : Nat)
  | powerHibernate (slot : Nat)
  | powerReleaseHold (slot : Nat)
  | fwActivate (slot : Nat)
  | commission (slot : Nat)
  | keyRead (slot : Nat)
  | streamKeyOff (slot : Nat)
  | streamKeyHost (slot : Nat)
  | streamKeyDevice (slot : Nat)
  | svcChallenge (slot : Nat)
  | svcUnlock (slot : Nat)
  | bbErase (slot : Nat)
  | windowNow (slot : Nat) (cells : FailCells) (duration : Nat)
  | windowPass (slot : Nat) (fails : List (Nat × FailCells)) (duration : Nat)
  | laserDac (slot : Nat) (codes : Timed (List Int))
  | coilSense (slot : Nat) (ma : Timed (List Int))
  | motorSense (slot : Nat) (ma : Timed (List Int))
  | adcTone (slot : Nat) (snr : Timed (List Int))
  | shuttleLoop (slot : Nat) (failed : List Nat) (duration : Nat)
  | tempCross (slot : Nat) (temps : Timed (List Int))
  | d2dLoop (slot : Nat) (errors : Timed Nat)
  | allAnalogue (slot : Nat) (failed : List Nat) (readings : Timed (List (List Int)))
  | injD2dBreak (slot : Nat)
  | injLeaseStop (slot : Nat)
  | injBemfBlank (slot : Nat)
  | injBemfSpurious (slot : Nat)
  | injLaneError (slot : Nat)
  | injLaneLoopFail (slot : Nat)
  | injParityFlip (slot : Nat)
  | injCheckerBreak (slot : Nat)
  | injReedCorrupt (slot : Nat)
  | injPoison (slot : Nat)
  | injVerifyFail (slot : Nat)
  | injEraseFrames (slot : Nat)
  | injDefectFlag (slot : Nat)
  | injTrainFail (slot : Nat)
  | injPoolWrite (slot : Nat)
  | servoTestStart
  | nop (qp tag : Nat)
  | fence (qp tag : Nat)
  | abort (qp tag : Nat)
  | poolRead (qp : Nat) (work : PartOf)
  | poolAppend (qp : Nat) (work : PartOf)
  | eventMark (qp tag : Nat)
  | flush (qp tag : Nat)
  | discDir (qp tag : Nat)
  | exportBlock (qp tag : Nat)
  | discRead (qp tag : Nat)
  | cartridgeEject (qp tag : Nat)
  | cartridgeLoad (qp tag : Nat)
  | timeSet (qp tag : Nat)
  | timeGet (qp tag : Nat)
  | tallyRead (qp tag : Nat)
  | cntConfig (qp tag : Nat)
  | cntSnapshot (qp tag : Nat)
  | bbRead (qp tag : Nat)
  | fwStage (qp tag : Nat)
  | holdupLockSet (slot : Nat)
  | holdupUnlock (slot : Nat)
  | ustepApply (slot : Nat)
  | ustepTableActivate
  | bqApply (slot : Nat)
  | bqActivate (loop : Nat)
  | calNow (slot : Nat)
  | setDefaults (slot : Nat)
  | gpioOutWrite (writer : PinOwner) (slot : Nat) (value : BitVec 24)
  | gpioMaskedUpdate (slot : Nat)
  | gpioLockKey (slot : Nat)
  | canmapWrite (slot : Nat)
  | tallySourceWrite (slot : Nat)
  | rcvDataWrite (slot : Nat)
  | rcvClose (slot : Nat)
  | recoveryReboot
  | dozeIdleExpiry
  | napIdleExpiry
  | napCommit
  | hibIdleExpiry
  | hibernateCommit
  | wakeEvent (source : Nat)
  | wakeExitComplete
  | rtcAlarmFire
  | pfailAssert (tRem : Nat)
  | pfailSpinupTimeout
  | pfailRelease (railsOk : Bool)
  | slowCrystalStop
  | wardenRcCalibrate (crystalGood : Bool) (correctionPpm : Int)
  | crystalReturn
  | referenceStartTimeout
  | servoPllUnlock (channelPll relocked : Bool)
  | corePllLoss (memoryPll : Bool) (inFlight : List Nat)
  | powerOnReset
  | pwrMainEnRaise
  | mainPgoodRise
  | mainPgoodTimeout
  | mainPgoodFall
  | railLowVlasVana
  | masterReset (cause : ResetCause) (inFlight : List Nat)
  | boot (inp : BootInputs)
  | goodDelayExpiry
  | d2dLinkLoss (inFlight : List Nat)
  | d2dRetrainDone (ok : Bool) (ustepIndex : Nat)
  | clusterVerifyVerdict (v : Verdict)
  | leaseRenew (bobbin : Nat)
  | leaseExpiry (bobbin : Nat)
  | engineLoopbackDone (bobbin : Nat) (pass : Bool)
  | engineLoopbackRetry (bobbin : Nat)
  | crossbarAccess (agent addr : Nat) (write : Bool) (data : List Byte)
  | tailCommit (agent bobbin newTail : Nat)
  | segCloseHeldAppend (bobbin : Nat)
  | markRetire (markId : Nat)
  | poolLoss (channels : Nat)
  | poolRetrain (failed : Nat)
  | mr4Poll (ok inLimit : Bool)
  | camDatagram (port : Nat) (frame : CamFrame)
  | arpRequest (port target : Nat)
  | gptpFrame (port : Nat) (msg : GptpMsg)
  | syncTimer (port : Nat)
  | announceTimer (port : Nat)
  | pdelayTimer (port : Nat)
  | camLinkDown (port : Nat)
  | camLinkUp (port speed : Nat) (fullDuplex : Bool)
  | portTimeout (port : Nat)
  | serialDataFrame (port : Nat) (frame : SerialFrame)
  | serialHeartbeat (port : Nat) (frame : SerialFrame)
  | serialAnswer (port : Nat) (collision : Bool)
  | serialGapDiscard (port : Nat)
  | timeFrameTimer (port : Nat) (collision : Bool)
  | canFrame (frame : CanFrame)
  | canBusOff
  | canBusoffRecovery
  | ppsEdge (falling : Bool) (widthNs : Nat)
  | nmeaSentence (s : Nmea)
  | ppsTimeout
  | holdoverExpiry
  | tallyEdgeDebounced (edges : List (Nat × Bool)) (firstAt : Nat)
  | tallyMaxOpen (channel : Nat)
  | spinupRequest (readings : List (List Int)) (laneFails : List Nat)
  | senseEnd (crossings : List (Nat × Bool))
  | alignEnd
  | rampTimeout
  | shortRetryEnd
  | bemfCrossing (periodNs : Nat) (forward : Bool)
  | toothSynth
  | commutation
  | spindleStall
  | stopRequest
  | shortCycle (crossing : Bool)
  | spindleOvercurrent (phase : Nat)
  | spindleFaultRetry
  | spindleOpenPhase (phase : Nat)
  | vmotLow
  | vmotRecover
  | spindleStageHot
  | spindleStageCool
  | sledSeekDemand (ustep : Int)
  | sledMoveEnd
  | holdDelayExpiry
  | sledReenergiseEnd
  | homeSwitchEdge (asserted : Bool)
  | sledStall
  | homingSettle
  | homingFail
  | sledOvercurrent (coil : Nat)
  | sledRehomeTimer
  | sledOpenCoil (coil : Nat)
  | sledStageHot
  | sledStageCool
  | coilRmsTrip (coil : Nat)
  | coilOpenShort (coil : Nat) (below : Bool)
  | loaderEndSwitch (inner : Bool) (disc : Option Disc)
  | loaderTimeout
  | cartridgePull
  | focusClose (crossings wedgeLayer : Nat) (coilOfsNm : Int) (wedgeTrack : Nat)
  | focusSweepEnd
  | layerJumpTimeout
  | trackLoss
  | focusLoss
  | settleComplete (track : Nat)
  | seekRequest (layer track : Nat)
  | seekDone (track : Nat)
  | writeGateTrip (te fe acc : Bool) (peakTe peakFe : Nat)
  | shockHoldClear
  | accSample (bytes : List Byte) (ok : Bool)
  | accTimeout
  | accReinit
  | defectFlagAssert
  | defectFlagRelease
  | defectHoldOverrun
  | sampleMissed
  | laneDisagree (spareFixes shadowFixes : Option Nat)
  | laneLoopbackDone (lane : Nat) (pass : Bool)
  | shadowRotate
  | readAttemptDone (r : ReadOutcome)
  | apcUpdate (slopeUwMa ithDma : Nat)
  | apcLockTimeout
  | monitorDeviation
  | laserOverpower
  | scratchParity (toWrite : Bool)
  | tempCheck (tempDc : Int)
  | readCalStart
  | readCalDone (focusSweep tiltSweep : Option (List Nat)) (balance : Option Balance) (trackOfs : Option Int)
      (seeds : Option (List Int)) (gains : List Nat)
  | opcRun (frames : List (Option Nat)) (followed : Bool)
  | ffFitWindow (loop : Nat) (x y z demand : List Int)
  | tempSensorStale (sensor : Nat)
  | coreWatchdogExpiry (core : Nat) (inFlight : List Nat)
  | securityWatchdogExpiry
  | coreWrite (core addr : Nat) (data : List Byte)
  | mergeDrain
  | deviceReadMatch (agent addr : Nat)
  | drainBarrier (core : Nat)
  | drainTimeout (core : Nat) (inFlight : List Nat)
  | rangePreload (line count : Nat)
  | rangeInvalidate (line count : Nat)
  | rangeLock (line count : Nat)
  | rangeUnlock (line count : Nat)
  | rangeOpDone
  | l2DataParity (line : Nat) (sameBytes : Bool)
  | l2TagParity (line : Nat)
  | mergeParity (entry : Nat)
  | parityError (u : ParityUnit) (same : Bool)
  | clusterEncode
  | signatureDone (ok : Bool)
  | entropyReady
  | entropyHealthFail (rct : Bool)
  | sramWindowTimer (cells : FailCells) (saveParity : Bool)
  | poolWindowTimer (fail saveParity otherPoison : Bool)
  | bbRecordWrite (bank0 bank1 : BankCheck)
  | bbSuppressWindowClose (code source : Nat)
  | gpioWakeEdge (pins : BitVec 8) (rising : Bool)
  | auxSample (mv : List (List Nat)) (vioMv : Nat)
  | mbFieldWrite (slot offset : Nat) (data : List Byte) (byP8 : Bool)
  | msixMaskWrite (w : MsixWrite)
  | linkPowerStateChange (l : LinkState)
  | supplyRemoved
  | servoLoopSample (ac bd : Int × Int) (e f : Int) (wedge : Option Nat)
  | dsHeartbeatTick
  | jtagTapOperation (op : TapOp) (resetLow : Bool)
  deriving DecidableEq, Repr

end Sys2Proof
end

