-- ==== Sys2Proof/Config.lean ====
section
/-! DEFINITION. The free values and the constants the spec names without a number: constants without a body, so that
no proof can lean on a value. The public algorithms the spec cites are computed in Machine/Crypto.lean. -/

namespace Sys2Proof.Config

/-- The free value drawn at a given count of draws: entropy, a result the spec leaves open. -/
opaque freeValue : Nat → Nat

/-- The Lueri service public key held in boot ROM (06 R251). -/
opaque serviceKey : Nat

/-- The Lueri firmware public key held in boot ROM (19). -/
opaque firmwareKey : Nat

/-- The value a settings migration gives a setting (19 R791); the spec states no migration's values. -/
opaque migrateValue : (version key old : Nat) → Nat

/-- LUERI_VID, the PCI vendor ID the spec names and gives no number for (00 Table 0.2). -/
opaque lueriVid : Nat

/-- LUERI_JEDEC_ID of the IDCODE, which the spec names and gives no number for (20 R830). -/
opaque jedecId : Nat

/-- How long the spindle stage drives in a PWM period, in ns; the spec gives no law of its current control (09 R401). -/
opaque pwmOn : (period : Nat) → Nat

/-- The error of the warden's RC oscillator in ppm, at a model time in seconds; the spec bounds it by 50,000 (03 R125). -/
opaque rcError : (second : Nat) → Int

/-- When, in ns from the start of a chopper period, the current sensed in a sled coil reaches its demand (10 R446). -/
opaque senseReach : (coil period : Nat) → Nat

/-- The calibrated sum A + B + C + D of a layer, which SUM shows as 1,024; the spec states none (11 Table 11.2). -/
opaque calSum : (layer : Nat) → Nat

/-- TILT_ERR in mdeg from E − F and E + F: the spec gives the quotient and the unit, and no scale (11 Table 11.2). -/
opaque tiltErr : (difference sum : Int) → Int

/-- The gain that the gain control sets from the RF of a run-in; the spec gives no law (12 R554). -/
opaque runInGain : List Int → Nat

/-- The interpolator of the timing recovery, at a fraction of a channel bit between two samples (12 R555). -/
opaque interpolate : (fraction before after : Int) → Int

/-- The proportional and integral coefficients of the timing loop, whose bandwidth is 1/1,000 of the channel bit rate;
the spec gives no damping (12 R555). -/
opaque loopGains : Int × Int

/-- ADC counts of one unit of the PR(1,2,3,2,1) target, and the weight of a unit of an equaliser coefficient as a divisor
(12 R556). -/
opaque targetScale : Nat × Nat

end Sys2Proof.Config
end

