-- ==== Sys2Proof/Machine/Crypto.lean ====
section
/-! DEFINITION. The public algorithms the spec fixes by citing their standards: SHA-256 (FIPS 180-4), ECDSA P-256
with the nonces of RFC 6979 (FIPS 186-4), AES-256-GCM (FIPS 197, SP 800-38D) (02 R67, R68, R70; 15 R659, R662,
R668, R672). -/

namespace Sys2Proof.Machine

/-- A 32-bit word rotated right by `k`. -/
def rotr32 (x k : Nat) : Nat := (x / 2 ^ k) ||| (x * 2 ^ (32 - k) % 2 ^ 32)

/-- The round constants of SHA-256 (FIPS 180-4, 4.2.2). -/
def shaK : List Nat :=
  [0x428a2f98, 0x71374491, 0xb5c0fbcf, 0xe9b5dba5, 0x3956c25b, 0x59f111f1, 0x923f82a4, 0xab1c5ed5,
   0xd807aa98, 0x12835b01, 0x243185be, 0x550c7dc3, 0x72be5d74, 0x80deb1fe, 0x9bdc06a7, 0xc19bf174] ++
  [0xe49b69c1, 0xefbe4786, 0x0fc19dc6, 0x240ca1cc, 0x2de92c6f, 0x4a7484aa, 0x5cb0a9dc, 0x76f988da,
   0x983e5152, 0xa831c66d, 0xb00327c8, 0xbf597fc7, 0xc6e00bf3, 0xd5a79147, 0x06ca6351, 0x14292967] ++
  [0x27b70a85, 0x2e1b2138, 0x4d2c6dfc, 0x53380d13, 0x650a7354, 0x766a0abb, 0x81c2c92e, 0x92722c85,
   0xa2bfe8a1, 0xa81a664b, 0xc24b8b70, 0xc76c51a3, 0xd192e819, 0xd6990624, 0xf40e3585, 0x106aa070] ++
  [0x19a4c116, 0x1e376c08, 0x2748774c, 0x34b0bcb5, 0x391c0cb3, 0x4ed8aa4a, 0x5b9cca4f, 0x682e6ff3,
   0x748f82ee, 0x78a5636f, 0x84c87814, 0x8cc70208, 0x90befffa, 0xa4506ceb, 0xbef9a3f7, 0xc67178f2]

/-- The initial hash value of SHA-256 (FIPS 180-4, 5.3.3). -/
def shaInit : List Nat :=
  [0x6a09e667, 0xbb67ae85, 0x3c6ef372, 0xa54ff53a, 0x510e527f, 0x9b05688c, 0x1f83d9ab, 0x5be0cd19]

/-- The message schedule, newest word first, extended by `n` words (FIPS 180-4, 6.2.2). -/
def shaSchedule : Nat → List Nat → List Nat
  | 0, w => w
  | n + 1, w =>
    let a := w.getD 14 0
    let b := w.getD 1 0
    let s0 := rotr32 a 7 ^^^ rotr32 a 18 ^^^ (a / 8)
    let s1 := rotr32 b 17 ^^^ rotr32 b 19 ^^^ (b / 1024)
    shaSchedule n ((w.getD 15 0 + s0 + w.getD 6 0 + s1) % 2 ^ 32 :: w)

/-- One round of SHA-256 on the working variables (FIPS 180-4, 6.2.2). -/
def shaRound (v : List Nat) (kw : Nat) : List Nat :=
  match v with
  | [a, b, c, d, e, f, g, h] =>
    let s1 := rotr32 e 6 ^^^ rotr32 e 11 ^^^ rotr32 e 25
    let ch := (e &&& f) ^^^ ((2 ^ 32 - 1 - e) &&& g)
    let t1 := h + s1 + ch + kw
    let s0 := rotr32 a 2 ^^^ rotr32 a 13 ^^^ rotr32 a 22
    let maj := (a &&& b) ^^^ (a &&& c) ^^^ (b &&& c)
    [(t1 + s0 + maj) % 2 ^ 32, a, b, c, (d + t1) % 2 ^ 32, e, f, g]
  | v => v

/-- One 64-byte block of SHA-256. -/
def shaBlock (h : List Nat) (block : List Byte) : List Nat :=
  let w := (List.range 16).map fun i => beFieldAt block (4 * i) 4
  let ws := (shaSchedule 48 w.reverse).reverse
  let v := (List.zipWith (· + ·) shaK ws).foldl shaRound h
  List.zipWith (fun a b => (a + b) % 2 ^ 32) h v

/-- The blocks of a padded message in turn, `n` of them. -/
def shaBlocks : Nat → List Nat → List Byte → List Nat
  | 0, h, _ => h
  | n + 1, h, bs => shaBlocks n (shaBlock h (bs.take 64)) (bs.drop 64)

/-- SHA-256 of a byte string, as a 256-bit number (FIPS 180-4). -/
def sha256 (bs : List Byte) : Nat :=
  let pad := (119 - bs.length % 64) % 64
  let m := bs ++ 0x80 :: leBytes pad 0 ++ beBytes 8 (8 * bs.length)
  (shaBlocks (m.length / 64) shaInit m).foldl (fun a w => a * 2 ^ 32 + w) 0

/-- HMAC-SHA-256 with a key of at most 64 bytes (FIPS 198-1). -/
def hmacSha256 (key msg : List Byte) : List Byte :=
  let k := bytesAt key 0 64
  let inner := sha256 (k.map (· ^^^ 0x36) ++ msg)
  beBytes 32 (sha256 (k.map (· ^^^ 0x5c) ++ beBytes 32 inner))

/-- The field prime of P-256 (FIPS 186-4, D.1.2.3). -/
def p256P : Nat := 0xffffffff00000001000000000000000000000000ffffffffffffffffffffffff

/-- The order of P-256. -/
def p256N : Nat := 0xffffffff00000000ffffffffffffffffbce6faada7179e84f3b9cac2fc632551

/-- The coefficient b of P-256. -/
def p256B : Nat := 0x5ac635d8aa3a93e7b3ebbd55769886bc651d06b0cc53b0f63bce3c3e27d2604b

/-- The base point of P-256. -/
def p256G : Nat × Nat :=
  (0x6b17d1f2e12c4247f8bce6e563a440f277037d812deb33a0f4a13945d898c296,
   0x4fe342e2fe1a7f9b8ee7eb4a7c0f9e162bce33576b315ececbb6406837bf51f5)

/-- `b ^ e` modulo `m`, on the low `n` bits of `e`. -/
def powMod (m b e : Nat) : Nat → Nat
  | 0 => 1 % m
  | n + 1 =>
    let r := powMod m (b * b % m) (e / 2) n
    if e % 2 = 1 then b * r % m else r

/-- The inverse of `a` modulo the prime `m`. -/
def invMod (m a : Nat) : Nat := powMod m (a % m) (m - 2) 256

/-- The sum of two points of P-256; none is the point at infinity. -/
def p256Add : Option (Nat × Nat) → Option (Nat × Nat) → Option (Nat × Nat)
  | none, q => q
  | p, none => p
  | some (x1, y1), some (x2, y2) =>
    let p := p256P
    if x1 = x2 ∧ (y1 + y2) % p = 0 then none
    else
      let l := if x1 = x2 then (3 * x1 * x1 + (p - 3)) * invMod p (2 * y1) % p
        else (y2 + p - y1) * invMod p (x2 + p - x1) % p
      let x := (l * l + (p - x1) + (p - x2)) % p
      some (x, (l * (x1 + p - x) + (p - y1)) % p)

/-- `k` times a point of P-256, on the low `n` bits of `k`. -/
def p256Mul (q : Option (Nat × Nat)) (k : Nat) : Nat → Option (Nat × Nat)
  | 0 => none
  | n + 1 =>
    let r := p256Mul (p256Add q q) (k / 2) n
    if k % 2 = 1 then p256Add q r else r

/-- The P-256 public key of a private key, X then Y (FIPS 186-4). -/
def publicKey (d : Nat) : Nat :=
  match p256Mul (some p256G) d 256 with
  | none => 0
  | some (x, y) => x * 2 ^ 256 + y

/-- One candidate nonce of RFC 6979 gives a signature, or none. -/
def ecdsaTry (d e k : Nat) : Option Nat :=
  if k = 0 ∨ p256N ≤ k then none
  else match p256Mul (some p256G) k 256 with
    | none => none
    | some (x, _) =>
      let r := x % p256N
      let s := invMod p256N k * (e + r * d) % p256N
      if r = 0 ∨ s = 0 then none else some (r * 2 ^ 256 + s)

/-- The candidates of RFC 6979, 3.2 step h, `n` of them: HMAC key and value. -/
def ecdsaTries (d e : Nat) : Nat → List Byte → List Byte → Nat
  | 0, _, _ => 0
  | n + 1, key, v =>
    let v := hmacSha256 key v
    match ecdsaTry d e (beNat v) with
    | some sig => sig
    | none =>
      let key := hmacSha256 key (v ++ [0])
      ecdsaTries d e n key (hmacSha256 key v)

/-- The ECDSA P-256 signature of a digest under a private key, r then s (FIPS 186-4), its nonce that of RFC 6979
with HMAC-SHA-256 (15 R659). A candidate fails with a chance near 2^-32; 128 of them stand for a search that ends. -/
def ecdsaSign (d digest : Nat) : Nat :=
  let e := digest % p256N
  let seed := beBytes 32 d ++ beBytes 32 e
  let v := List.replicate 32 (1 : Byte)
  let key := hmacSha256 (List.replicate 32 0) (v ++ 0 :: seed)
  let v := hmacSha256 key v
  let key := hmacSha256 key (v ++ 1 :: seed)
  ecdsaTries d e 128 key (hmacSha256 key v)

/-- A point lies on P-256 (FIPS 186-4). -/
def p256On (x y : Nat) : Bool :=
  x < p256P && y < p256P && y * y % p256P == (x * x * x + (p256P - 3) * x + p256B) % p256P

/-- ECDSA P-256 verification of a signature, r then s, of a digest under a public key, X then Y (FIPS 186-4). -/
def ecdsaVerify (pub digest sig : Nat) : Bool :=
  let x := pub / 2 ^ 256
  let y := pub % 2 ^ 256
  let r := sig / 2 ^ 256
  let s := sig % 2 ^ 256
  if r = 0 ∨ p256N ≤ r ∨ s = 0 ∨ p256N ≤ s ∨ p256On x y = false then false
  else
    let w := invMod p256N s
    match p256Add (p256Mul (some p256G) (digest * w % p256N) 256) (p256Mul (some (x, y)) (r * w % p256N) 256) with
    | none => false
    | some (v, _) => v % p256N == r

/-- Doubling in the field of AES, polynomial x^8 + x^4 + x^3 + x + 1 (FIPS 197, 4.2.1). -/
def aesDouble (a : Nat) : Nat := if a < 128 then 2 * a else (2 * a) ^^^ 0x11B

/-- Multiplication in the field of AES, on the low `n` bits of `b`. -/
def aesMul (a b : Nat) : Nat → Nat
  | 0 => 0
  | n + 1 => (if b % 2 = 1 then a else 0) ^^^ aesMul (aesDouble a) (b / 2) n

/-- `a ^ e` in the field of AES, on the low `n` bits of `e`. -/
def aesPow (a e : Nat) : Nat → Nat
  | 0 => 1
  | n + 1 =>
    let r := aesPow (aesMul a a 8) (e / 2) n
    if e % 2 = 1 then aesMul a r 8 else r

/-- The S-box of AES: the inverse in the field, then the affine map (FIPS 197, 5.1.1). -/
def aesSbox (b : Nat) : Nat :=
  let i := aesPow b 254 8
  let rot (k : Nat) := (i * 2 ^ k ||| i / 2 ^ (8 - k)) % 256
  i ^^^ rot 1 ^^^ rot 2 ^^^ rot 3 ^^^ rot 4 ^^^ 0x63

/-- Bytes as numbers and back, most significant first. -/
def aesBytes (n v : Nat) : List Nat := (beBytes n v).map (·.toNat)

/-- The key schedule of AES-256, oldest word last, extended by `n` words of four bytes (FIPS 197, 5.2). -/
def aesExpand : Nat → Nat → List (List Nat) → List (List Nat)
  | 0, _, ws => ws
  | n + 1, i, ws =>
    let t := ws.headD []
    let t := if i % 8 = 0 then
        match (t.drop 1 ++ t.take 1).map aesSbox with
        | x :: xs => (x ^^^ aesPow 2 (i / 8 - 1) 8) :: xs
        | [] => []
      else if i % 8 = 4 then t.map aesSbox else t
    aesExpand n (i + 1) (List.zipWith (· ^^^ ·) (ws.getD 7 []) t :: ws)

/-- The 60 words of a 256-bit key, as 15 round keys of 16 bytes. -/
def aesRoundKeys (key : Nat) : List (List Nat) :=
  let k := aesBytes 32 key
  let first := (List.range 8).map fun i => (k.drop (4 * i)).take 4
  let ws := (aesExpand 52 8 first.reverse).reverse
  (List.range 15).map fun r => ((ws.drop (4 * r)).take 4).flatten

/-- SubBytes and ShiftRows of a 16-byte state held column by column (FIPS 197, 5.1.1, 5.1.2). -/
def aesSubShift (s : List Nat) : List Nat :=
  (List.range 16).map fun i => aesSbox (s.getD ((i + 4 * (i % 4)) % 16) 0)

/-- MixColumns (FIPS 197, 5.1.3). -/
def aesMix (s : List Nat) : List Nat :=
  (List.range 16).map fun i =>
    let at' (k : Nat) := s.getD (i / 4 * 4 + (i + k) % 4) 0
    aesDouble (at' 0) ^^^ (aesDouble (at' 1) ^^^ at' 1) ^^^ at' 2 ^^^ at' 3

/-- The AES-256 cipher of one 128-bit block (FIPS 197, 5.1). -/
def aes256 (key block : Nat) : Nat :=
  let ks := aesRoundKeys key
  let add (s k : List Nat) := List.zipWith (· ^^^ ·) s k
  let s := add (aesBytes 16 block) (ks.headD [])
  let s := ((ks.drop 1).take 13).foldl (fun s k => add (aesMix (aesSubShift s)) k) s
  (add (aesSubShift s) (ks.getLastD [])).foldl (fun a b => a * 256 + b) 0

/-- Multiplication in GF(2^128) as SP 800-38D, 6.3 numbers its bits, over the top `n` bits of `x`. -/
def ghashMul (x v z : Nat) : Nat → Nat
  | 0 => z
  | n + 1 =>
    let z := if bit x n then z ^^^ v else z
    ghashMul x (if v % 2 = 1 then (v / 2) ^^^ (0xe1 * 2 ^ 120) else v / 2) z n

/-- Bytes padded with zeros to whole 16-byte blocks. -/
def pad16 (bs : List Byte) : List Byte := bs ++ leBytes ((16 - bs.length % 16) % 16) 0

/-- GHASH over whole blocks, `n` of them (SP 800-38D, 6.4). -/
def ghash (h : Nat) : Nat → Nat → List Byte → Nat
  | 0, y, _ => y
  | n + 1, y, bs => ghash h n (ghashMul (y ^^^ beNat (bs.take 16)) h 0 128) (bs.drop 16)

/-- Counter-mode encryption from counter block `c` (SP 800-38D, 6.5), `n` blocks. -/
def gctr (key : Nat) : Nat → Nat → List Byte → List Byte
  | 0, _, _ => []
  | n + 1, c, bs =>
    let x := bs.take 16
    List.zipWith (· ^^^ ·) x (beBytes 16 (aes256 key c))
      ++ gctr key n (c / 2 ^ 32 * 2 ^ 32 + (c + 1) % 2 ^ 32) (bs.drop 16)

/-- AES-256-GCM ciphertext of a plaintext under a key and a 96-bit IV (SP 800-38D, 7.1). -/
def gcmEncrypt (key iv : Nat) (plain : List Byte) : List Byte :=
  gctr key ((plain.length + 15) / 16) (iv * 2 ^ 32 + 2) plain

/-- AES-256-GCM plaintext of a ciphertext under a key and a 96-bit IV: counter mode is its own inverse. -/
def gcmDecrypt (key iv : Nat) (cipher : List Byte) : List Byte := gcmEncrypt key iv cipher

/-- The 128-bit AES-256-GCM tag of additional data and a plaintext under a key and an IV (SP 800-38D, 7.1). -/
def gcmTag (key iv : Nat) (aad plain : List Byte) : Nat :=
  let c := gcmEncrypt key iv plain
  let m := pad16 aad ++ pad16 c ++ beBytes 8 (8 * aad.length) ++ beBytes 8 (8 * c.length)
  ghash (aes256 key 0) (m.length / 16) 0 m ^^^ aes256 key (iv * 2 ^ 32 + 1)

end Sys2Proof.Machine
end

