-- ==== Sys2Proof/Machine/Names.lean ====
section
/-! DEFINITION. Names for the numbers of three tables: status codes (06 Table 6.4), fault and event codes
with their reporters (17 Table 17.2), bead events (17 Table 17.3). -/

namespace Sys2Proof.Machine

namespace St

/-- Status SUCCESS (06 Table 6.4). -/
def success : Nat := 0x0000
/-- Status UNKNOWN_COMMAND (06 Table 6.4). -/
def unknownCommand : Nat := 0x0001
/-- Status BAD_LENGTH (06 Table 6.4). -/
def badLength : Nat := 0x0002
/-- Status BAD_ALIGN (06 Table 6.4). -/
def badAlign : Nat := 0x0003
/-- Status OUT_OF_RANGE (06 Table 6.4). -/
def outOfRange : Nat := 0x0004
/-- Status NOT_PERMITTED (06 Table 6.4). -/
def notPermitted : Nat := 0x0005
/-- Status HOST_TIMEOUT (06 Table 6.4). -/
def hostTimeout : Nat := 0x0006
/-- Status POISONED_INPUT (06 Table 6.4). -/
def poisonedInput : Nat := 0x0007
/-- Status INTERNAL (06 Table 6.4). -/
def internal : Nat := 0x0008
/-- Status ABORTED (06 Table 6.4). -/
def aborted : Nat := 0x0101
/-- Status HALT_FLUSHED (06 Table 6.4). -/
def haltFlushed : Nat := 0x0102
/-- Status QP_HALTED (06 Table 6.4). -/
def qpHalted : Nat := 0x0103
/-- Status QP_IN_USE (06 Table 6.4). -/
def qpInUse : Nat := 0x0104
/-- Status QP_UNKNOWN (06 Table 6.4). -/
def qpUnknown : Nat := 0x0105
/-- Status UNKNOWN_PAGE (06 Table 6.4). -/
def unknownPage : Nat := 0x0201
/-- Status LOCKED (06 Table 6.4). -/
def locked : Nat := 0x0202
/-- Status POISONED (06 Table 6.4). -/
def poisoned : Nat := 0x0301
/-- Status RANGE_GONE (06 Table 6.4). -/
def rangeGone : Nat := 0x0302
/-- Status RANGE_BEYOND (06 Table 6.4). -/
def rangeBeyond : Nat := 0x0303
/-- Status NO_RIGHTS (06 Table 6.4). -/
def noRights : Nat := 0x0304
/-- Status BOBBIN_UNKNOWN (06 Table 6.4). -/
def bobbinUnknown : Nat := 0x0305
/-- Status POOL_LOST (06 Table 6.4). -/
def poolLost : Nat := 0x0306
/-- Status NO_MEDIUM (06 Table 6.4). -/
def noMedium : Nat := 0x0401
/-- Status MEDIUM_UNSUPPORTED (06 Table 6.4). -/
def mediumUnsupported : Nat := 0x0402
/-- Status DISC_OUT_OF_SERVICE (06 Table 6.4). -/
def discOutOfService : Nat := 0x0403
/-- Status READ_ONLY (06 Table 6.4). -/
def readOnly : Nat := 0x0404
/-- Status CARTRIDGE_FULL (06 Table 6.4). -/
def cartridgeFull : Nat := 0x0405
/-- Status UNCORRECTABLE (06 Table 6.4). -/
def uncorrectable : Nat := 0x0406
/-- Status INTEGRITY_UNVERIFIABLE (06 Table 6.4). -/
def integrityUnverifiable : Nat := 0x0407
/-- Status BLOCK_UNKNOWN (06 Table 6.4). -/
def blockUnknown : Nat := 0x0408
/-- Status BUSY_DISC (06 Table 6.4). -/
def busyDisc : Nat := 0x0409
/-- Status ENTROPY_WARMUP (06 Table 6.4). -/
def entropyWarmup : Nat := 0x0501
/-- Status NOT_COMMISSIONED (06 Table 6.4). -/
def notCommissioned : Nat := 0x0502
/-- Status ALREADY_COMMISSIONED (06 Table 6.4). -/
def alreadyCommissioned : Nat := 0x0503
/-- Status TOKEN_REJECTED (06 Table 6.4). -/
def tokenRejected : Nat := 0x0504
/-- Status FW_BAD_SIGNATURE (06 Table 6.4). -/
def fwBadSignature : Nat := 0x0601
/-- Status FW_SEQUENCE (06 Table 6.4). -/
def fwSequence : Nat := 0x0602
/-- Status FW_SLOT_ACTIVE (06 Table 6.4). -/
def fwSlotActive : Nat := 0x0603
/-- Status FW_INCOMPLETE (06 Table 6.4). -/
def fwIncomplete : Nat := 0x0604
/-- Status BUSY_SERVO (06 Table 6.4). -/
def busyServo : Nat := 0x0701
/-- Status TIME_REFUSED (06 Table 6.4). -/
def timeRefused : Nat := 0x0702
/-- Status STATE_REFUSED (06 Table 6.4). -/
def stateRefused : Nat := 0x0703

end St

namespace Code

/-- Code HOST_RESET (17 Table 17.2). -/
def hostReset : Nat := 0x0101
/-- Code HOST_DMA_TIMEOUT (17 Table 17.2). -/
def hostDmaTimeout : Nat := 0x0140
/-- Code HOST_POISONED_TLP (17 Table 17.2). -/
def hostPoisonedTlp : Nat := 0x0141
/-- Code AER_UNCORRECTABLE (17 Table 17.2). -/
def aerUncorrectable : Nat := 0x0142
/-- Code QP_HALTED (17 Table 17.2). -/
def qpHalted : Nat := 0x0201
/-- Code BOBBIN_DEFAULTS (17 Table 17.2). -/
def bobbinDefaults : Nat := 0x0301
/-- Code GRANULE_SKIPPED (17 Table 17.2). -/
def granuleSkipped : Nat := 0x0302
/-- Code POOL_RESTORED (17 Table 17.2). -/
def poolRestored : Nat := 0x0303
/-- Code LEASE_REVOKED (17 Table 17.2). -/
def leaseRevoked : Nat := 0x0340
/-- Code TABLE_MISMATCH (17 Table 17.2). -/
def tableMismatch : Nat := 0x0341
/-- Code POOL_DEGRADED (17 Table 17.2). -/
def poolDegraded : Nat := 0x0342
/-- Code REFRESH_POLLING (17 Table 17.2). -/
def refreshPolling : Nat := 0x0343
/-- Code POOL_LOST (17 Table 17.2). -/
def poolLost : Nat := 0x0380
/-- Code TIME_STEP (17 Table 17.2). -/
def timeStep : Nat := 0x0401
/-- Code TIME_LOCK (17 Table 17.2). -/
def timeLock : Nat := 0x0402
/-- Code TIME_HOLDOVER (17 Table 17.2). -/
def timeHoldover : Nat := 0x0403
/-- Code TIME_FORCED (17 Table 17.2). -/
def timeForced : Nat := 0x0404
/-- Code PORT_STALE (17 Table 17.2). -/
def portStale : Nat := 0x0440
/-- Code PORT_LOOPBACK (17 Table 17.2). -/
def portLoopback : Nat := 0x0441
/-- Code CAN_BUS_OFF (17 Table 17.2). -/
def canBusOff : Nat := 0x0442
/-- Code SPINDLE_CATCH (17 Table 17.2). -/
def spindleCatch : Nat := 0x0501
/-- Code SPINDLE_STALL (17 Table 17.2). -/
def spindleStall : Nat := 0x0540
/-- Code SPINDLE_REVERSE (17 Table 17.2). -/
def spindleReverse : Nat := 0x0541
/-- Code SPINUP_FAILED (17 Table 17.2). -/
def spinupFailed : Nat := 0x0542
/-- Code SPINDLE_OVERCURRENT (17 Table 17.2). -/
def spindleOvercurrent : Nat := 0x0543
/-- Code SPINDLE_OPEN_PHASE (17 Table 17.2). -/
def spindleOpenPhase : Nat := 0x0544
/-- Code VMOT_LOW (17 Table 17.2). -/
def vmotLow : Nat := 0x0545
/-- Code SPINDLE_HOT (17 Table 17.2). -/
def spindleHot : Nat := 0x0546
/-- Code NOISY_BEMF (17 Table 17.2). -/
def noisyBemf : Nat := 0x0547
/-- Code SLED_POS_SLIP (17 Table 17.2). -/
def sledPosSlip : Nat := 0x0601
/-- Code SLED_STALL (17 Table 17.2). -/
def sledStall : Nat := 0x0640
/-- Code HOME_FAIL (17 Table 17.2). -/
def homeFail : Nat := 0x0641
/-- Code SLED_OVERCURRENT (17 Table 17.2). -/
def sledOvercurrent : Nat := 0x0642
/-- Code SLED_OPEN_COIL (17 Table 17.2). -/
def sledOpenCoil : Nat := 0x0643
/-- Code COIL_RMS_TRIP (17 Table 17.2). -/
def coilRmsTrip : Nat := 0x0644
/-- Code COIL_OPEN_SHORT (17 Table 17.2). -/
def coilOpenShort : Nat := 0x0645
/-- Code LOADER_JAM (17 Table 17.2). -/
def loaderJam : Nat := 0x0646
/-- Code CARTRIDGE_PULL (17 Table 17.2). -/
def cartridgePull : Nat := 0x0647
/-- Code SLED_STAGE_HOT (17 Table 17.2). -/
def sledStageHot : Nat := 0x0648
/-- Code SHOCK_EVENT (17 Table 17.2). -/
def shockEvent : Nat := 0x0701
/-- Code FOCUS_FAIL (17 Table 17.2). -/
def focusFail : Nat := 0x0740
/-- Code SEEK_FAIL (17 Table 17.2). -/
def seekFail : Nat := 0x0741
/-- Code JUMP_FAIL (17 Table 17.2). -/
def jumpFail : Nat := 0x0742
/-- Code SLED_CLAMP (17 Table 17.2). -/
def sledClamp : Nat := 0x0743
/-- Code DEFECT_OVERRUN (17 Table 17.2). -/
def defectOverrun : Nat := 0x0744
/-- Code ACC_FAIL (17 Table 17.2). -/
def accFail : Nat := 0x0745
/-- Code BQ_REJECT (17 Table 17.2). -/
def bqReject : Nat := 0x0746
/-- Code SAMPLE_MISSED (17 Table 17.2). -/
def sampleMissed : Nat := 0x0747
/-- Code LANE_SWAP (17 Table 17.2). -/
def laneSwap : Nat := 0x0801
/-- Code REALLOCATED (17 Table 17.2). -/
def reallocated : Nat := 0x0802
/-- Code CL_UNCORRECTABLE (17 Table 17.2). -/
def clUncorrectable : Nat := 0x0803
/-- Code LASER_HEADROOM (17 Table 17.2). -/
def laserHeadroom : Nat := 0x0840
/-- Code SLIP_EXHAUSTED (17 Table 17.2). -/
def slipExhausted : Nat := 0x0841
/-- Code LASER_MONITOR (17 Table 17.2). -/
def laserMonitor : Nat := 0x0842
/-- Code LASER_OVERPOWER (17 Table 17.2). -/
def laserOverpower : Nat := 0x0843
/-- Code VERIFY_LOST (17 Table 17.2). -/
def verifyLost : Nat := 0x0844
/-- Code LANE_RETIRED (17 Table 17.2). -/
def laneRetired : Nat := 0x0845
/-- Code SYS_LOW_MARGIN (17 Table 17.2). -/
def sysLowMargin : Nat := 0x0846
/-- Code CAL_RUN (17 Table 17.2). -/
def calRun : Nat := 0x0901
/-- Code OPC_FAILED (17 Table 17.2). -/
def opcFailed : Nat := 0x0940
/-- Code OPC_EXHAUSTED (17 Table 17.2). -/
def opcExhausted : Nat := 0x0941
/-- Code TEMP_SENSOR (17 Table 17.2). -/
def tempSensor : Nat := 0x0942
/-- Code SECURITY_WATCHDOG (17 Table 17.2). -/
def securityWatchdog : Nat := 0x0A40
/-- Code CORE_WATCHDOG (17 Table 17.2). -/
def coreWatchdog : Nat := 0x0A80
/-- Code DRAIN_TIMEOUT (17 Table 17.2). -/
def drainTimeout : Nat := 0x0A81
/-- Code PARITY_RECOVERED (17 Table 17.2). -/
def parityRecovered : Nat := 0x0B01
/-- Code CHECKBIT_SUSPECT (17 Table 17.2). -/
def checkbitSuspect : Nat := 0x0B02
/-- Code RECORD_CRC_REJECT (17 Table 17.2). -/
def recordCrcReject : Nat := 0x0B03
/-- Code INTEGRITY_UNVERIFIABLE (17 Table 17.2). -/
def integrityUnverifiable : Nat := 0x0B04
/-- Code COMMISSIONED (17 Table 17.2). -/
def commissioned : Nat := 0x0B05
/-- Code CHECKER_FAILED (17 Table 17.2). -/
def checkerFailed : Nat := 0x0B40
/-- Code CHAIN_HEAD_MISSING (17 Table 17.2). -/
def chainHeadMissing : Nat := 0x0B41
/-- Code SIGNATURE_SELF_FAIL (17 Table 17.2). -/
def signatureSelfFail : Nat := 0x0B42
/-- Code ENTROPY_FAILED (17 Table 17.2). -/
def entropyFailed : Nat := 0x0B43
/-- Code PATH_FAULT (17 Table 17.2). -/
def pathFault : Nat := 0x0B44
/-- Code CORE_DATA_PARITY (17 Table 17.2). -/
def coreDataParity : Nat := 0x0B80
/-- Code KEY_LOST (17 Table 17.2). -/
def keyLost : Nat := 0x0B81
/-- Code REPAIRED (17 Table 17.2). -/
def repaired : Nat := 0x0C01
/-- Code INJECTED (17 Table 17.2). -/
def injected : Nat := 0x0C02
/-- Code HEALTH_CHANGE (17 Table 17.2). -/
def healthChange : Nat := 0x0C03
/-- Code BB_ERASED (17 Table 17.2). -/
def bbErased : Nat := 0x0C04
/-- Code REPEATS_SUPPRESSED (17 Table 17.2). -/
def repeatsSuppressed : Nat := 0x0C05
/-- Code BB_BANK_FAULT (17 Table 17.2). -/
def bbBankFault : Nat := 0x0C06
/-- Code ANALOGUE_FAIL (17 Table 17.2). -/
def analogueFail : Nat := 0x0C40
/-- Code AGEING (17 Table 17.2). -/
def ageing : Nat := 0x0C41
/-- Code REPAIR_MAP_LOST (17 Table 17.2). -/
def repairMapLost : Nat := 0x0C42
/-- Code WINDOWS_OFF (17 Table 17.2). -/
def windowsOff : Nat := 0x0C43
/-- Code PFAIL (17 Table 17.2). -/
def pfail : Nat := 0x0D01
/-- Code HIBERNATE_FORCED (17 Table 17.2). -/
def hibernateForced : Nat := 0x0D02
/-- Code HOLDUP_UNLOCKED (17 Table 17.2). -/
def holdupUnlocked : Nat := 0x0D03
/-- Code SLOW_CRYSTAL (17 Table 17.2). -/
def slowCrystal : Nat := 0x0D40
/-- Code FAST_PLL_UNLOCK (17 Table 17.2). -/
def fastPllUnlock : Nat := 0x0D41
/-- Code REFERENCE_FAILED (17 Table 17.2). -/
def referenceFailed : Nat := 0x0D80
/-- Code CORE_PLL_LOSS (17 Table 17.2). -/
def corePllLoss : Nat := 0x0D81
/-- Code D2D_RETRAINED (17 Table 17.2). -/
def d2dRetrained : Nat := 0x0E40
/-- Code D2D_FAILED (17 Table 17.2). -/
def d2dFailed : Nat := 0x0E41
/-- Code OWNER_VIOLATION (17 Table 17.2). -/
def ownerViolation : Nat := 0x0F01
/-- Code PIN_LOCKED (17 Table 17.2). -/
def pinLocked : Nat := 0x0F02
/-- Code FW_ACTIVATED (17 Table 17.2). -/
def fwActivated : Nat := 0x1001
/-- Code BOOT_GOOD (17 Table 17.2). -/
def bootGood : Nat := 0x1002
/-- Code BOOT_FALLBACK (17 Table 17.2). -/
def bootFallback : Nat := 0x1040
/-- Code MIGRATION_FAILED (17 Table 17.2). -/
def migrationFailed : Nat := 0x1041
/-- Code DEGRADED_BOOT (17 Table 17.2). -/
def degradedBoot : Nat := 0x1042
/-- Code RECOVERY_BOOT (17 Table 17.2). -/
def recoveryBoot : Nat := 0x1080
/-- Code MOUNTED (17 Table 17.2). -/
def mounted : Nat := 0x1101
/-- Code SESSION_CLOSED (17 Table 17.2). -/
def sessionClosed : Nat := 0x1102
/-- Code BLOCK_ABANDONED (17 Table 17.2). -/
def blockAbandoned : Nat := 0x1103
/-- Code BROKEN_CLUSTER (17 Table 17.2). -/
def brokenCluster : Nat := 0x1104
/-- Code MOUNTED_READ_ONLY (17 Table 17.2). -/
def mountedReadOnly : Nat := 0x1140
/-- Code DISC_OUT_OF_SERVICE (17 Table 17.2). -/
def discOutOfService : Nat := 0x1141
/-- Code CARTRIDGE_FULL (17 Table 17.2). -/
def cartridgeFull : Nat := 0x1142
/-- Code MEDIUM_UNSUPPORTED (17 Table 17.2). -/
def mediumUnsupported : Nat := 0x1143

/-- The codes with N among their reporters (17 Table 17.2). -/
def noticed : List Nat :=
  [0x0101, 0x0142, 0x0303, 0x0340, 0x0341, 0x0342, 0x0343, 0x0380, 0x0440, 0x0441, 0x0442,
   0x0540, 0x0541, 0x0542, 0x0543, 0x0544, 0x0545, 0x0546, 0x0547, 0x0640, 0x0641, 0x0642,
   0x0643, 0x0644, 0x0645, 0x0646, 0x0647, 0x0648, 0x0740, 0x0741, 0x0745, 0x0747, 0x0840,
   0x0841, 0x0842, 0x0843, 0x0844, 0x0845, 0x0846, 0x0940, 0x0941, 0x0942, 0x0A40, 0x0A80,
   0x0A81, 0x0B40, 0x0B41, 0x0B42, 0x0B43, 0x0B44, 0x0B80, 0x0B81, 0x0C03, 0x0C06, 0x0C40,
   0x0C41, 0x0C42, 0x0C43, 0x0D40, 0x0D41, 0x0D80, 0x0D81, 0x0E40, 0x0E41, 0x1040, 0x1041,
   0x1042, 0x1140, 0x1141, 0x1142]

/-- The codes with B among their reporters (17 Table 17.2). -/
def recorded : List Nat :=
  [0x0101, 0x0140, 0x0141, 0x0142, 0x0301, 0x0302, 0x0303, 0x0340, 0x0341, 0x0342, 0x0343,
   0x0380, 0x0401, 0x0402, 0x0403, 0x0404, 0x0440, 0x0441, 0x0442, 0x0540, 0x0541, 0x0542,
   0x0543, 0x0544, 0x0545, 0x0546, 0x0547, 0x0601, 0x0640, 0x0641, 0x0642, 0x0643, 0x0644,
   0x0645, 0x0646, 0x0647, 0x0648, 0x0740, 0x0741, 0x0742, 0x0745, 0x0747, 0x0801, 0x0802,
   0x0803, 0x0840, 0x0841, 0x0842, 0x0843, 0x0844, 0x0845, 0x0846, 0x0940, 0x0941, 0x0942,
   0x0A40, 0x0A80, 0x0A81, 0x0B02, 0x0B04, 0x0B05, 0x0B40, 0x0B41, 0x0B42, 0x0B43, 0x0B44,
   0x0B80, 0x0B81, 0x0C01, 0x0C02, 0x0C03, 0x0C04, 0x0C05, 0x0C06, 0x0C40, 0x0C41, 0x0C42,
   0x0C43, 0x0D01, 0x0D02, 0x0D03, 0x0D40, 0x0D41, 0x0D80, 0x0D81, 0x0E40, 0x0E41, 0x0F01,
   0x0F02, 0x1001, 0x1002, 0x1040, 0x1041, 0x1042, 0x1080, 0x1101, 0x1102, 0x1103, 0x1140,
   0x1141, 0x1142, 0x1143]

end Code

namespace Ev

/-- Bead event DOORBELLS (17 Table 17.3). -/
def doorbells : Nat := 1
/-- Bead event MBX_COMMANDS (17 Table 17.3). -/
def mbxCommands : Nat := 2
/-- Bead event COMPLETIONS (17 Table 17.3). -/
def completions : Nat := 3
/-- Bead event MSIX_MESSAGES (17 Table 17.3). -/
def msixMessages : Nat := 4
/-- Bead event FLRS (17 Table 17.3). -/
def flrs : Nat := 5
/-- Bead event LINK_RESETS (17 Table 17.3). -/
def linkResets : Nat := 6
/-- Bead event DMA_TIMEOUTS (17 Table 17.3). -/
def dmaTimeouts : Nat := 7
/-- Bead event AER_CORR (17 Table 17.3). -/
def aerCorr : Nat := 8
/-- Bead event CTX_HITS (17 Table 17.3). -/
def ctxHits : Nat := 9
/-- Bead event CTX_MISSES (17 Table 17.3). -/
def ctxMisses : Nat := 10
/-- Bead event DB_QUEUE_FULL (L) (17 Table 17.3). -/
def dbQueueFull : Nat := 11
/-- Bead event QP_HALTS (17 Table 17.3). -/
def qpHalts : Nat := 12
/-- Bead event ABORTS_CAUGHT (17 Table 17.3). -/
def abortsCaught : Nat := 13
/-- Bead event ABORTS_MISSED (17 Table 17.3). -/
def abortsMissed : Nat := 14
/-- Bead event DB_TO_CQE (value in ns) (17 Table 17.3). -/
def dbToCqe : Nat := 15
/-- Bead event RECORDS (17 Table 17.3). -/
def records : Nat := 16
/-- Bead event APPEND_KIB (value in KiB) (17 Table 17.3). -/
def appendKib : Nat := 17
/-- Bead event HEDDLE_DENY (17 Table 17.3). -/
def heddleDeny : Nat := 18
/-- Bead event TABLE_MISMATCH (17 Table 17.3). -/
def tableMismatch : Nat := 19
/-- Bead event LEASE_REVOKES (17 Table 17.3). -/
def leaseRevokes : Nat := 20
/-- Bead event GRANULES_POISONED (17 Table 17.3). -/
def granulesPoisoned : Nat := 21
/-- Bead event BOBBIN_FULL (L) (17 Table 17.3). -/
def bobbinFull : Nat := 22
/-- Bead event MARK_TABLE_FULL (L) (17 Table 17.3). -/
def markTableFull : Nat := 23
/-- Bead event DGRAM_P1 (17 Table 17.3). -/
def dgramP1 : Nat := 24
/-- Bead event DGRAM_P2 (17 Table 17.3). -/
def dgramP2 : Nat := 25
/-- Bead event DGRAM_P3 (17 Table 17.3). -/
def dgramP3 : Nat := 26
/-- Bead event DGRAM_P4 (17 Table 17.3). -/
def dgramP4 : Nat := 27
/-- Bead event FRAMES_P5 (17 Table 17.3). -/
def framesP5 : Nat := 28
/-- Bead event FRAMES_P6 (17 Table 17.3). -/
def framesP6 : Nat := 29
/-- Bead event CAN_MATCHED (17 Table 17.3). -/
def canMatched : Nat := 30
/-- Bead event PORT_STALE (L, any port) (17 Table 17.3). -/
def portStale : Nat := 31
/-- Bead event PORT_DROPS (17 Table 17.3). -/
def portDrops : Nat := 32
/-- Bead event SEQ_GAPS (17 Table 17.3). -/
def seqGaps : Nat := 33
/-- Bead event COLLISIONS (17 Table 17.3). -/
def collisions : Nat := 34
/-- Bead event DUPLICATES (17 Table 17.3). -/
def duplicates : Nat := 35
/-- Bead event CAN_BUS_OFF (L) (17 Table 17.3). -/
def canBusOff : Nat := 36
/-- Bead event PPS_ACCEPTED (17 Table 17.3). -/
def ppsAccepted : Nat := 37
/-- Bead event TIME_STEPS (17 Table 17.3). -/
def timeSteps : Nat := 38
/-- Bead event TIME_LOCKED (L) (17 Table 17.3). -/
def timeLocked : Nat := 39
/-- Bead event SPINDLE_POWERED (L, SP_STATE 2–6) (17 Table 17.3). -/
def spindlePowered : Nat := 40
/-- Bead event COLD_STARTS (17 Table 17.3). -/
def coldStarts : Nat := 41
/-- Bead event CATCHES (17 Table 17.3). -/
def catches : Nat := 42
/-- Bead event TOOTH_REJECTS (17 Table 17.3). -/
def toothRejects : Nat := 43
/-- Bead event TOOTH_SYNTH (17 Table 17.3). -/
def toothSynth : Nat := 44
/-- Bead event DEFERRALS (17 Table 17.3). -/
def deferrals : Nat := 45
/-- Bead event STALLS (17 Table 17.3). -/
def stalls : Nat := 46
/-- Bead event REVERSES (17 Table 17.3). -/
def reverses : Nat := 47
/-- Bead event SPEED_OK (L) (17 Table 17.3). -/
def speedOk : Nat := 48
/-- Bead event SLED_MOVES (17 Table 17.3). -/
def sledMoves : Nat := 49
/-- Bead event SLED_STALLS (17 Table 17.3). -/
def sledStalls : Nat := 50
/-- Bead event HOMINGS (17 Table 17.3). -/
def homings : Nat := 51
/-- Bead event COIL_CLIPS (17 Table 17.3). -/
def coilClips : Nat := 52
/-- Bead event RMS_TRIPS (17 Table 17.3). -/
def rmsTrips : Nat := 53
/-- Bead event LOADER_OPS (17 Table 17.3). -/
def loaderOps : Nat := 54
/-- Bead event CART_PULLS (17 Table 17.3). -/
def cartPulls : Nat := 55
/-- Bead event FOCUS_ACQS (17 Table 17.3). -/
def focusAcqs : Nat := 56
/-- Bead event FOCUS_LOSSES (17 Table 17.3). -/
def focusLosses : Nat := 57
/-- Bead event TRACK_LOSSES (17 Table 17.3). -/
def trackLosses : Nat := 58
/-- Bead event SEEKS (17 Table 17.3). -/
def seeks : Nat := 59
/-- Bead event LAYER_JUMPS (17 Table 17.3). -/
def layerJumps : Nat := 60
/-- Bead event GATE_TRIPS (17 Table 17.3). -/
def gateTrips : Nat := 61
/-- Bead event SHOCK_HOLD (L) (17 Table 17.3). -/
def shockHold : Nat := 62
/-- Bead event DEFECT_HOLDS (17 Table 17.3). -/
def defectHolds : Nat := 63
/-- Bead event WRITE_GATE_OPEN (L) (17 Table 17.3). -/
def writeGateOpen : Nat := 64
/-- Bead event CL_WRITTEN (17 Table 17.3). -/
def clWritten : Nat := 65
/-- Bead event VFY_FAILS (17 Table 17.3). -/
def vfyFails : Nat := 66
/-- Bead event SLIPS (17 Table 17.3). -/
def slips : Nat := 67
/-- Bead event BROKEN_CLUSTERS (17 Table 17.3). -/
def brokenClusters : Nat := 68
/-- Bead event HEADROOM_EVENTS (17 Table 17.3). -/
def headroomEvents : Nat := 69
/-- Bead event LASER_ON (L) (17 Table 17.3). -/
def laserOn : Nat := 70
/-- Bead event LASER_WRITE (L) (17 Table 17.3). -/
def laserWrite : Nat := 71
/-- Bead event CL_READ (17 Table 17.3). -/
def clRead : Nat := 72
/-- Bead event CL_RECOVERED (17 Table 17.3). -/
def clRecovered : Nat := 73
/-- Bead event CL_UNCORRECTABLE (17 Table 17.3). -/
def clUncorrectable : Nat := 74
/-- Bead event REALLOCS (17 Table 17.3). -/
def reallocs : Nat := 75
/-- Bead event LANE_DISAGREE (17 Table 17.3). -/
def laneDisagree : Nat := 76
/-- Bead event ERASED_ROWS (value in rows) (17 Table 17.3). -/
def erasedRows : Nat := 77
/-- Bead event LADDER_READS (17 Table 17.3). -/
def ladderReads : Nat := 78
/-- Bead event RECOVERING (L) (17 Table 17.3). -/
def recovering : Nat := 79
/-- Bead event CAL_RUNS (17 Table 17.3). -/
def calRuns : Nat := 80
/-- Bead event OPC_RUNS (17 Table 17.3). -/
def opcRuns : Nat := 81
/-- Bead event STATE_RUN (L) (17 Table 17.3). -/
def stateRun : Nat := 82
/-- Bead event STATE_DOZE (L) (17 Table 17.3). -/
def stateDoze : Nat := 83
/-- Bead event STATE_NAP (L) (17 Table 17.3). -/
def stateNap : Nat := 84
/-- Bead event ENTRIES_CANCELLED (17 Table 17.3). -/
def entriesCancelled : Nat := 85
/-- Bead event WAKES (17 Table 17.3). -/
def wakes : Nat := 86
/-- Bead event PFAIL_ACTIVE (L) (17 Table 17.3). -/
def pfailActive : Nat := 87
/-- Bead event L2_READ_HITS (17 Table 17.3). -/
def l2ReadHits : Nat := 88
/-- Bead event L2_READ_MISSES (17 Table 17.3). -/
def l2ReadMisses : Nat := 89
/-- Bead event MERGE_FULL_STALL (L) (17 Table 17.3). -/
def mergeFullStall : Nat := 90
/-- Bead event DRAINS (17 Table 17.3). -/
def drains : Nat := 91
/-- Bead event RANGE_ENGINE_BUSY (L) (17 Table 17.3). -/
def rangeEngineBusy : Nat := 92
/-- Bead event L2_EVICTIONS (17 Table 17.3). -/
def l2Evictions : Nat := 93
/-- Bead event ICACHE_MISSES (17 Table 17.3). -/
def icacheMisses : Nat := 94
/-- Bead event DEVICE_READ_WAITS (17 Table 17.3). -/
def deviceReadWaits : Nat := 95
/-- Bead event PARITY_ERRORS (17 Table 17.3). -/
def parityErrors : Nat := 96
/-- Bead event CHECKBIT_SUSPECTS (17 Table 17.3). -/
def checkbitSuspects : Nat := 97
/-- Bead event CRC_REJECTS (17 Table 17.3). -/
def crcRejects : Nat := 98
/-- Bead event SIGNATURES (17 Table 17.3). -/
def signatures : Nat := 99
/-- Bead event SIGN_LATE (17 Table 17.3). -/
def signLate : Nat := 100
/-- Bead event ENTROPY_WARMUP (L) (17 Table 17.3). -/
def entropyWarmup : Nat := 101
/-- Bead event INTEG_UNVERIFIABLE (17 Table 17.3). -/
def integUnverifiable : Nat := 102
/-- Bead event CLUSTERS_ENCRYPTED (17 Table 17.3). -/
def clustersEncrypted : Nat := 103
/-- Bead event WINDOWS_RUN (17 Table 17.3). -/
def windowsRun : Nat := 104
/-- Bead event WINDOW_FAILS (17 Table 17.3). -/
def windowFails : Nat := 105
/-- Bead event REPAIRS (17 Table 17.3). -/
def repairs : Nat := 106
/-- Bead event INJECTIONS (17 Table 17.3). -/
def injections : Nat := 107
/-- Bead event ANALOGUE_TESTS (17 Table 17.3). -/
def analogueTests : Nat := 108
/-- Bead event BB_RECORDS (17 Table 17.3). -/
def bbRecords : Nat := 109
/-- Bead event BB_DROPPED (17 Table 17.3). -/
def bbDropped : Nat := 110
/-- Bead event NOTICES_LOST (17 Table 17.3). -/
def noticesLost : Nat := 111
/-- Bead event BURSTS (17 Table 17.3). -/
def bursts : Nat := 112
/-- Bead event BLOCKS_SELVEDGED (17 Table 17.3). -/
def blocksSelvedged : Nat := 113
/-- Bead event BLOCKS_ABANDONED (17 Table 17.3). -/
def blocksAbandoned : Nat := 114
/-- Bead event BURST_ACTIVE (L) (17 Table 17.3). -/
def burstActive : Nat := 115

/-- The level events; the other assigned codes are pulses (17 R730). -/
def levels : List Nat :=
  [0x0B, 0x16, 0x17, 0x1F, 0x24, 0x27, 0x28, 0x30, 0x3E, 0x40, 0x46, 0x47, 0x4F, 0x52, 0x53,
   0x54, 0x57, 0x5A, 0x5C, 0x65, 0x73]

end Ev

end Sys2Proof.Machine
end

