-- ==== Sys2Proof/Machine/Map.lean ====
section
/-! DEFINITION. A sparse table: a list of (key, value) pairs with keys strictly rising. Equal tables are
equal lists. Registers, memories, queue pairs and the other keyed state are held in it. -/

namespace Sys2Proof.Machine

/-- A sparse table keyed by numbers. -/
abbrev Map (α : Type) := List (Nat × α)

namespace Map

variable {α : Type}

/-- The entry at `k`. -/
def get (m : Map α) (k : Nat) : Option α :=
  match m with
  | [] => none
  | (k', v) :: m => if k = k' then some v else get m k

/-- The table with `v` at `k`. -/
def put (m : Map α) (k : Nat) (v : α) : Map α :=
  match m with
  | [] => [(k, v)]
  | (k', v') :: m =>
    if k = k' then (k, v) :: m
    else if k < k' then (k, v) :: (k', v') :: m
    else (k', v') :: put m k v

/-- The table without an entry at `k`. -/
def erase (m : Map α) (k : Nat) : Map α := m.filter fun e => e.1 != k

/-- Whether `k` has an entry. -/
def has (m : Map α) (k : Nat) : Bool := (m.get k).isSome

/-- The table with its entry at `k`, if any, changed by `f`. -/
def update (m : Map α) (k : Nat) (f : α → α) : Map α :=
  match m.get k with
  | none => m
  | some v => m.put k (f v)

/-- Keys strictly rising: the canonical form. -/
def wf : Map α → Bool
  | [] => true
  | [_] => true
  | (k, _) :: (k', v') :: m => k < k' && wf ((k', v') :: m)

end Map

/-- A byte memory whose unlisted cells read 0: a sparse table with no entry equal to 0. -/
abbrev Mem := Map Byte

namespace Mem

/-- The byte at `a`. -/
def read (m : Mem) (a : Nat) : Byte := (Map.get m a).getD 0

/-- The memory with `b` at `a`; writing 0 removes the entry. -/
def write (m : Mem) (a : Nat) (b : Byte) : Mem := if b = 0 then Map.erase m a else Map.put m a b

/-- `n` bytes from `a`. -/
def readN (m : Mem) (a : Nat) : Nat → List Byte
  | 0 => []
  | n + 1 => read m a :: readN m (a + 1) n

/-- The memory with `bs` written from `a`. -/
def writeN (m : Mem) (a : Nat) : List Byte → Mem
  | [] => m
  | b :: bs => writeN (write m a b) (a + 1) bs

/-- The memory with `n` zeros written from `a`. -/
def zero (m : Mem) (a n : Nat) : Mem := m.filter fun c => !(a ≤ c.1 && c.1 < a + n)

/-- The canonical form: addresses strictly rising, no entry equal to what an unlisted address reads as. -/
def wf (m : Mem) : Bool := Map.wf m && m.all fun c => c.2 != 0

end Mem

end Sys2Proof.Machine
end

