-- ==== Sys2Proof/Machine/Regs.lean ====
section
/-! DEFINITION. Every register of the K760 by name, with the place, width, access code and reset value
that its field map in the spec gives it (chapters 03-19, the tables "Offset | Bits | Field | Access |
Reset | Meaning"). A name shared by two pages carries a prefix; a bit of a flags byte is a register of
its own; registers the rules name but no page shows stand on the pseudo-page 0x20000, and the W0 status
block (04 Table 4.5) on the pseudo-page 0x10000. -/

namespace Sys2Proof.Machine

/-- The register names. The comment gives the file and rule that maps the field. -/
inductive RegName where
  /-- 03_power_clocks, Table 3.7, R122 -/
  | PWR_STATE
  | ENTRY_BUSY
  | DISC_TURNING
  | PFAIL_ACTIVE
  | TIME_UNSET
  | SLOW_RC
  | DOZE_IDLE_MS
  | NAP_IDLE_S
  | HIB_IDLE_S
  | DEEPEST_STATE
  | HIB_ALLOW
  | EXIT_DOZE_NS
  | EXIT_NAP_NS
  | EXIT_HIB_NS
  | SPINUP_MS
  | SPINDOWN_MS
  | HOLDUP_MS
  | HOLDUP_LOCK
  | HOLDUP_UNLOCK
  | RESERVE_MS
  | PFAIL_COUNT
  | PFAIL_OUTCOME
  | PFAIL_FLUSHED
  | WAKE_CAUSE
  | WAKE_FROM
  | WAKE_PENDING
  | WAKE_ENABLE
  | RTC_ALARM
  | CLK_CORE
  | CLK_SERVO
  | CLK_CHANNEL
  | CLK_MEMORY
  | CLK_PCIE
  | CLK_REF25
  | CLK_XTAL32
  | CORE_MHZ
  /-- 04_host_window, Table 4.5, R135 -/
  | DS_MAGIC
  | DS_IF_LEVEL
  | DS_STEPPING
  | READY
  | FATAL
  | DS_PFAIL
  | BOOT_DEGRADED
  | DS_PWR
  | DS_HEARTBEAT
  | NT_HEAD
  | NT_TAIL
  | NT_LOST
  | DS_FATAL_CODE
  /-- 04_host_window, Table 4.13, R169 -/
  | ID_MAGIC
  | STEPPING
  | IF_LEVEL
  | ID_DEVICE
  | FW_VERSION
  | FW_SLOT
  | BOOT_MODE
  | DEVICE_SERIAL
  | POOL_MIB
  | NOR_MIB
  | QP_MAX
  | QP_DEPTH_MAX
  | MSIX_VECTORS
  | CTX_CACHE
  | MBX_DATA_MAX
  | SUBSYS_VID
  | SUBSYS_ID
  /-- 04_host_window, Table 4.14, R170 -/
  | LINK_SPEED
  | LINK_WIDTH
  | LINK_STATE
  | MAX_SPEED
  | FLR_COUNT
  | LINK_RESETS
  | BAD_ACCESS
  | DB_STRAY
  | AER_CORR
  | AER_UNCORR
  | DMA_TIMEOUTS
  /-- 07_loom, Table 7.6, R309 -/
  | H_BASE
  | H_LIMIT
  | H_READ
  | H_WRITE
  | H_APPEND
  | H_VALID
  | H_BOBBIN
  | H_LEASE
  | H_GEN
  /-- 07_loom, Table 7.7, R310 -/
  | RD_BASE
  | RD_LIMIT
  | RD_READ_MASK
  | RD_WRITE_MASK
  | RD_VALID
  /-- 07_loom, Table 7.9, R333 -/
  | POOL_MIB_MIRROR
  | POOL_STATE
  | POOL_CH0_TRAINED
  | POOL_CH1_TRAINED
  | POOL_FLUSH_MIB
  | BOBBIN_AREA_MIB
  | POISON_SET
  | POISON_NOW
  | HEDDLE_DENY
  | TABLE_MISMATCHES
  | LEASE_EXPIRED
  | RESET_ROLLBACKS
  | POOL_LOST_COUNT
  | MARKS_HELD
  /-- 07_loom, Table 7.10, R334 -/
  | BB_STATE
  | BOB_FULL
  | BOB_MARKED_PENDING
  | BOB_HOLDING
  | BB_HOLDER
  | BB_SIZE_MIB
  | FLUSH_MARK_MIB
  | FULL_POLICY
  | LEASE_MS
  | BB_BASE
  | HEAD_OFFSET
  | FLUSHED_OFFSET
  | TAIL_OFFSET
  | LEASE_SERIAL
  | SEG_COUNT
  | REC_DROPPED
  | WRAP_LOST_KIB
  | REVOKES
  | STALE_GAPS
  /-- 08_partner_ports, Table 8.5, R352 -/
  | CAM_STATE
  | CAM_ENABLE
  | CAM_ACCEPT_RTP
  | CAM_GPTP_ENABLE
  | UDP_PORT
  | IP_ADDR
  | MAC_ADDR
  | VLAN_ID
  | CAM_TIMEOUT_MS
  | DGRAM_OK
  | CAM_RX_DROPPED
  | DROP_FILTER
  | DROP_RANGE
  | SEQ_GAPS
  | CAM_STALE_COUNT
  | ANNOUNCE_IGNORED
  | CAM_LAST_RX_TIME
  | GPTP_PDELAY_NS
  /-- 08_partner_ports, Table 8.8, R363 -/
  | SER_STATE
  | SER_ENABLE
  | SER_TIME_FRAMES
  | SER_TIMEOUT_MS
  | BAUD
  | SER_FRAMES_OK
  | SER_RX_DROPPED
  | DUPLICATES
  | COLLISIONS
  | SER_STALE_COUNT
  | SER_LAST_RX_TIME
  /-- 08_partner_ports, Table 8.9, R365 -/
  | CM_ID
  | CM_IDE
  | CM_MASK
  | CM_START
  | CM_BITS
  | CM_BIG_ENDIAN
  | CM_SIGNED
  | CM_KIND
  | CM_INDEX
  | CM_MIN_GAP_MS
  | CM_SCALE
  | CM_OFFSET
  | CM_RAW_MIN
  | CM_RAW_MAX
  /-- 08_partner_ports, Table 8.11, R373 -/
  | CAN_STATE
  | CAN_ENABLE
  | CAN_LISTEN_ONLY
  | CAN_FD_ENABLE
  | CAN_TIMEOUT_MS
  | NOM_BITRATE
  | DATA_BITRATE
  | NOM_SAMPLE_PCT
  | DATA_SAMPLE_PCT
  | TEC
  | REC
  | CAN_FRAMES_OK
  | FRAMES_UNMAPPED
  | FRAMES_SUPPRESSED
  | RANGE_REJECTS
  | BUSOFF_COUNT
  | CAN_STALE_COUNT
  | CAN_LAST_RX_TIME
  | CAN_RX_DROPPED
  /-- 08_partner_ports, Table 8.14, R382 -/
  | TIME_STATE
  | PPS_ENABLE
  | PPS_FALLING
  | NMEA_ENABLE
  | UTC_OFFSET_S
  | NMEA_BAUD
  | PPS_COUNT
  | PPS_REJECTED
  | NMEA_REJECTED
  | TIME_STEPS
  | LAST_OFFSET_NS
  | LAST_PPS_TIME
  /-- 08_partner_ports, Table 8.18, R390 -/
  | TL_START
  | TL_STOP
  | TL_DEBOUNCE_MS
  | TL_MAX_OPEN_S
  | TL_INTERVALS
  | TL_ORPHANS
  | TL_STATE
  | TALLY_NEXT_SEQ
  /-- 09_spindle, Table 9.6, R431 -/
  | SP_STATE
  | SP_SPEED_OK
  | SP_CLV_ZONE
  | SP_LOCKED
  | SP_RPM
  | SP_TARGET_RPM
  | SP_DEMAND_MA
  | SP_TOOTH_NS
  | SLEW_US
  | ADVANCE_DEG
  | ILIM_MA
  | ALIGN_MA
  | ALIGN_MS
  | RAMP_RPM_S
  | BRAKE_MA
  | PWM_KHZ
  | TOOTH_WINDOW_PCT
  | CATCH_ENABLE
  | SPD_KP
  | SPD_KI
  | COLD_STARTS
  | CATCHES
  | TOOTH_REJECTS
  | TOOTH_SYNTH
  | DEFERRALS
  | STALLS
  | REVERSES
  | START_FAILS
  | RUN_SECONDS
  | LAST_SPINUP_MS
  | LAST_SPINDOWN_MS
  | SPF_OVERCURRENT
  | SPF_OPEN_PHASE
  | SPF_VMOT_LOW
  | SPF_STAGE_HOT
  | SPF_NOISY_BEMF
  /-- 10_sled_actuators, Table 10.3, R481 -/
  | SL_STATE
  | SL_POS_VALID
  | SL_PROVISIONAL
  | SL_HOME_SW
  | SL_STALL_SENSE_ACTIVE
  | SL_TABLE_PENDING
  | STANDSTILL
  | POS_MEMORY
  | SLED_POS
  | SL_RUN_MA
  | HOLD_PCT
  | FAST_16THS
  | CHOP_KHZ
  | TOFF_US
  | HOLD_DELAY_MS
  | SL_VMAX_MM_S
  | SL_ACC_MM_S2
  | HOME_MODE
  | STALL_DEG
  | SL_HOME_MM_S
  | SL_MIN_USTEP
  | SL_MAX_USTEP
  | SL_ORIGIN_NM
  | USTEP_APPLY
  | USTEP_BAD_INDEX
  | LOAD_ANGLE_DEG
  | SL_STALLS
  | HOMINGS
  | HOME_FAILS
  | POS_SLIPS
  | SLF_OVERCURRENT
  | SLF_OPEN_COIL
  | SLF_STAGE_HOT
  | SLF_HOME_FAIL
  /-- 10_sled_actuators, Table 10.4, R483 -/
  | CL_LIMIT_MA
  | CL_RMS_MA
  | CL_DEMAND
  | CL_SENSE
  | CL_CLIPS
  | CL_OPEN
  | CL_SHORT
  | CL_RMS_TRIP
  /-- 10_sled_actuators, Table 10.5, R484 -/
  | LD_STATE
  | IN_SW
  | OUT_SW
  | LD_MA
  | LD_TIMEOUT_MS
  | LOADS
  | EJECTS
  | JAMS
  | CART_PULLS
  /-- 11_servo, Table 11.8, R525 -/
  | SV_STATE
  | FOCUS_LOCK
  | TRACK_LOCK
  | GATE_PERMIT
  | SHOCK_HOLD
  | DEFECT_HOLD
  | BQ_PENDING
  | SV_LAYER
  | SV_TRACK
  | FE_NM
  | TE_NM
  | TILT_MDEG
  | FA_SWEEP_MA
  | FA_SWEEP_MS
  | FA_SUM_MIN
  | FL_SUM_MIN
  | SEEK_COIL_MAX
  | SETTLE_NM
  | SETTLE_SAMPLES
  | DEF_HOLD_US
  | WG_TE_NM
  | WG_FE_NM
  | WG_ACC_MG
  | WG_QUIET_MS
  | SLED_FOLLOW_UM
  | FOCUS_ACQS
  | FOCUS_LOSSES
  | FOCUS_FAILS
  | TRACK_LOSSES
  | SEEKS
  | SEEK_RETRIES
  | LAYER_JUMPS
  | JUMP_FAILS
  | WG_TRIPS_TE
  | WG_TRIPS_FE
  | WG_TRIPS_ACC
  | WG_BROKEN
  | DEFECT_HOLDS
  | DEFECT_OVERRUNS
  | SLED_CLAMPS
  | SHOCK_EVENTS
  | LINKS
  /-- 11_servo, Table 11.9, R526 -/
  | ACC_STATE
  | ACC_ENABLE
  | FF_ENABLE
  | ACC_TRIP
  | ACC_LSB_UG
  | ACC_READ_CMD
  | ACC_SPI_MHZ
  | ACC_INIT_COUNT
  | ACC_INIT
  | FF_AXIS_F
  | FF_INVERT_F
  | FF_AXIS_T
  | FF_INVERT_T
  | FF_GAIN_F
  | FF_GAIN_T
  | FF_DELAY_F_US
  | FF_DELAY_T_US
  | ACC_X_MG
  | ACC_Y_MG
  | ACC_Z_MG
  | ACC_SAMPLES
  | ACC_ERRORS
  /-- 11_servo, Table 11.10, R527 -/
  | LOOP_GAIN
  | BQ_APPLY
  | BQ_BAD_SECTION
  /-- 12_optics_channel, Table 12.4, R578 -/
  | LAS_STATE
  | APC_LOCK
  | HEADROOM_LOW
  | MON_FAULT
  | OVERPOWER
  | VFY_FAULT
  | LAS_I_MAX_MA
  | LAS_I_BIAS
  | LAS_I_COOL
  | LAS_I_PEAK
  | LAS_I_OD
  | SLOPE_UW_MA
  | ITH_DMA
  | VFY_BAD_ROWS_MAX
  | SLIP_MAX
  | VFY_SYM_MAX
  | CL_WRITTEN
  | VFY_FAILS
  | SLIPS
  | SLIP_EXHAUSTED
  | HEADROOM_EVENTS
  | LASER_ON_S
  /-- 12_optics_channel, Table 12.5, R579 -/
  | P_READ
  | P_BIAS
  | P_COOL
  | P_PEAK
  | P_OD
  | OD_40THS
  | DT_TOP
  | DT_E
  | T_COOL
  /-- 12_optics_channel, Table 12.6, R580 -/
  | CH_STATE
  | DEFECT
  | SPARE_AVAILABLE
  | LANES_WORKING
  | SHADOWED_LANE
  | SH_STATE
  | ERASE_ENV_PCT
  | ERASE_MIN_BITS
  | FIR_MU_SHIFT
  | RETRY_REVS
  | REALLOC_STEP
  | MARGIN_ROWS
  | MARGIN_COL
  | LADDER_MAX_STEP
  | CL_READ
  | CL_RECOVERED
  | CL_UNCORRECTABLE
  | REALLOCS
  | REALLOC_SKIPPED
  | SYS_LOW_MARGIN
  | ERASED_ROWS
  | SH_DISAGREE
  | SH_RETIRED
  | STEP_WINS
  | ATTEMPTS_LOST
  | SCRATCH_PARITY
  /-- 13_calibration, Table 13.4, R612 -/
  | CAL_STATE
  | TEMP_TRIGGER
  | FF_FIT
  | CAL_NOW
  | CAL_DUE
  | CAL_DT_DC
  | CAL_SLEW_SAMPLES
  | OPC_SYM_MAX
  | OPC_MARGIN_PCT
  | TEMP_NOW_DC
  | CAL_RUNS
  | OPC_RUNS
  | OPC_FAILS
  | FIT_REJECTS
  | FF_FITS
  | CAL_DEFERRED
  /-- 13_calibration, Table 13.5, R613 -/
  | READ_VALID
  | OPC_VALID
  | OPC_EXHAUSTED
  | SEEDS_DEFAULT
  | LC_FOCUS_OFS_NM
  | LC_TRACK_OFS_NM
  | LC_TILT_MDEG
  | LC_TE_K
  | LC_OPC_PEAK
  | LC_NEXT_TEST
  | LC_CAL_TEMP_DC
  | LC_OPC_TEMP_DC
  | LC_CAL_TIME
  | LC_OPC_TIME
  | LC_SEED
  /-- 15_integrity_security, Table 15.7, R681 -/
  | PAR_ERRORS
  | PAR_ERR
  | CHECKBIT_SUSPECT
  | CRC_REJECTS
  | CHECKER_FAIL
  | L2_WAYS
  | SCRATCH_BANKS
  | INTEG_UNVERIFIABLE
  | LAST_INTEG_REASON
  | LAST_INTEG_BLOCK
  /-- 15_integrity_security, Table 15.8, R682 -/
  | COMMISSIONED
  | KEY_LOST
  | SIGNING_HALTED
  | ENTROPY_STATE
  | ENC_MASK
  | SEC_KEY_ID
  | SIGNATURES
  | SIG_SELF_FAILS
  | SIGN_LATE
  | RCT_FAILS
  | APT_FAILS
  | KEY_EPOCH
  /-- 16_selftest_repair, Table 16.6, R712 -/
  | RM_MACRO
  | RM_KIND
  | RM_INDEX
  | RM_SPARE
  | RM_SOURCE
  | RM_SEQ
  | RM_TIME
  /-- 16_selftest_repair, Table 16.9, R718 -/
  | WIN_SRAM_ENABLE
  | WIN_POOL_ENABLE
  | HEALTH_LEVEL
  | WIN_SRAM_US
  | WIN_POOL_US
  | SPARE_ROWS_LEFT
  | SPARE_COLS_LEFT
  | MACROS_NO_ROW
  | MAP_FULL
  | SLOPE_PCT
  | GAIN_PCT_F
  | GAIN_PCT_T
  | GAIN_PCT_TILT
  | WINDOWS_RUN
  | WIN_FAILS
  | POOL_WIN_FAILS
  | REPAIRS
  | INJECTIONS
  | ANALOGUE_FAILS
  | MAP_USED
  /-- 17_faults_blackbox, Table 17.6, R745 -/
  | CNT_EVENT
  | CNT_MODE
  | ROD_GATE
  | CNT_CARRY
  | LAST_SNAPSHOT_TIME
  /-- 17_faults_blackbox, Table 17.7, R747 -/
  | DISC_SERVICE
  | HLT_LEVEL
  | HLT_POOL
  | HLT_FATAL
  | HLT_FAULT_LINE
  | HLT_COMMISSIONED
  | HLT_TIME_UNSET
  | OOS_CODE
  | PENDING_BYTES
  | OLDEST_PENDING
  | USER_CL_FREE
  | SPARE_CL_FREE
  /-- 17_faults_blackbox, Table 17.8, R748 -/
  | BBS_BANK0_FAULT
  | BBS_BANK1_FAULT
  | BBS_PINS_FULL
  | PINNED
  | BB_QUEUED
  | BB_NEXT_SEQ
  | BB_OLDEST_SEQ
  | BB_DROPPED
  | BB_TORN_REPAIRED
  | BB_SUPPRESSED
  | LAST_ERASE_SEQ
  | LAST_ERASE_TIME
  /-- 18_gpio, Table 18.5, R770 -/
  | GP_FUNC
  | GP_OUTPUT
  | GP_OPEN_DRAIN
  | GP_THRESH_LOW
  | GP_HYST
  | GP_PULL_UP
  | GP_PULL_DOWN
  | GPW_RISING
  | GPW_FALLING
  | GP_OWNER
  /-- 18_gpio, Table 18.6, R771 -/
  | GPIO_IN
  | GPIO_OUT
  | GPIO_UPD_MASK
  | GPIO_UPD_VALUE
  | GPIO_LOCK_KEY
  | GPIO_LOCKED
  | GP_WAKE_CAUSE
  | LOCK_STEP
  | GP_VIOLATIONS
  | LOCK_ABORTS
  | AUX_MV
  /-- 19_firmware_boot, Table 19.6, R799 -/
  | RUN_SLOT
  | NEXT_SLOT
  | A_COMPLETE
  | A_GOOD
  | B_COMPLETE
  | B_GOOD
  | GOOD_PENDING
  | FELL_BACK
  | ATTEMPTS
  | STAGED_A
  | STAGED_B
  | FW_VERSION_A
  | FW_VERSION_B
  | SET_VERSION
  | SET_SOURCE
  | SET_DEFAULTS
  | GOOD_DELAY_S
  | LAST_BOOT_MS
  | BOOTS
  | FALLBACKS
  | RECOVERIES
  /-- 19_firmware_boot, Table 19.7, R800 -/
  | RCV_SLOT
  | RCV_STATE
  | RCV_LEN
  | RCV_OFFSET
  | RCV_CLOSE
  | RCV_WRITTEN
  | RCV_DATA
  /-- 10_sled_actuators, Table x1, R482 -/
  | USTEP_T
  /-- 08_partner_ports, Table x2, R368 -/
  | CANVAL
  /-- 17_faults_blackbox, Table x3, R746 -/
  | BEAD_VALUE
  | BEAD_CARRY
  /-- 11_servo, Table x4, R527 -/
  | BQ_COEF
  /-- 10_sled_actuators, Table x5, R483 -/
  | RMS_TRIPS
  /-- active microstep table of the drive die (10 R442) -/
  | USTEP_ACTIVE
  /-- active biquad coefficients (11 R495) -/
  | BQ_ACTIVE
  /-- bobbin size in force (07 R296) -/
  | ACTIVE_SIZE_MIB
  /-- MRAM ceiling on the stream offset (07 R856) -/
  | TOFFSET_CEIL
  /-- MRAM ceiling on RC_SEQ (07 R856) -/
  | TSEQ_CEIL
  /-- TAIL_OFFSET saved in MRAM at Hibernate or pool loss (07 R856) -/
  | TOFFSET_SAVED
  /-- next RC_SEQ saved in MRAM (07 R856) -/
  | TSEQ_SAVED
  /-- the saved pair of R856 is the one to resume from -/
  | TSAVED_VALID
  /-- next record sequence of the bobbin (07 R306, R856) -/
  | RC_SEQ_NEXT
  /-- AES-GCM invocation count of the bobbin, MRAM (15 R663) -/
  | GCM_COUNT
  /-- key-wrap IV counter, MRAM (15 R670) -/
  | WRAP_IV_COUNT
  /-- HOLDUP_MS as locked, MRAM (03 R123) -/
  | HOLDUP_MRAM
  /-- sled position in the always-on RETAIN register (10 R456) -/
  | RETAIN_POS
  /-- POS_VALID in the RETAIN register (10 R456) -/
  | RETAIN_VALID
  /-- reference LOOP_GAIN of each loop, at the first read calibration (16 R714) -/
  | GAIN_REF
  /-- laser slope at the first calibration (16 R716) -/
  | SLOPE_REF
  deriving DecidableEq, Repr

/-- Access codes (00 R15, Table 0.6). -/
inductive Access where
  | ro | rw | w1c | w1s | wo | rwl
  deriving DecidableEq, Repr

/-- Where a register's value comes from at power-on (00 R22): the Reset column; the settings held in
NOR; MRAM; eFuse; or the spec gives no value (a dash). -/
inductive Keep where
  | power | stored | mram | efuse | dash
  deriving DecidableEq, Repr

/-- A field map row. Entry i of a repeated field (first index `idx0`, `count` of them, `per` on one
page) lies on page `page + (i - idx0) / per` at byte `off + stride * ((i - idx0) % per)`; `lo` is its
lowest bit counted from that byte. `reset` lists the values of the entries (one value: all entries). -/
structure RegInfo where
  page : Nat
  idx0 : Nat
  count : Nat
  per : Nat
  off : Nat
  stride : Nat
  lo : Nat
  width : Nat
  access : Access
  keep : Keep
  signed : Bool
  reset : List Nat
  ranges : List (Int × Int)
  deriving DecidableEq, Repr

/-- The default microstep table of 10 R445, T[i] = round(1,023 sin(π (i + 0.5) / 512)), written out. -/
def ustepDefault : List Nat :=
  [3, 9, 16, 22, 28, 35, 41, 47, 53, 60, 66, 72, 78, 85, 91, 97, 103, 110, 116, 122, 128, 135, 141, 147, 153, 159, 166, 172, 178, 184, 190, 196] ++
  [203, 209, 215, 221, 227, 233, 239, 246, 252, 258, 264, 270, 276, 282, 288, 294, 300, 306, 312, 318, 324, 330, 336, 342, 348, 353, 359, 365, 371, 377, 383, 389] ++
  [394, 400, 406, 412, 417, 423, 429, 435, 440, 446, 452, 457, 463, 468, 474, 479, 485, 491, 496, 502, 507, 512, 518, 523, 529, 534, 539, 545, 550, 555, 560, 566] ++
  [571, 576, 581, 586, 592, 597, 602, 607, 612, 617, 622, 627, 632, 637, 642, 647, 651, 656, 661, 666, 671, 675, 680, 685, 689, 694, 699, 703, 708, 712, 717, 721] ++
  [726, 730, 734, 739, 743, 747, 752, 756, 760, 764, 768, 773, 777, 781, 785, 789, 793, 797, 801, 805, 808, 812, 816, 820, 824, 827, 831, 835, 838, 842, 845, 849] ++
  [852, 856, 859, 863, 866, 869, 873, 876, 879, 882, 885, 889, 892, 895, 898, 901, 904, 907, 909, 912, 915, 918, 921, 923, 926, 929, 931, 934, 937, 939, 941, 944] ++
  [946, 949, 951, 953, 956, 958, 960, 962, 964, 966, 968, 970, 972, 974, 976, 978, 980, 982, 983, 985, 987, 988, 990, 992, 993, 995, 996, 997, 999, 1000, 1001, 1003] ++
  [1004, 1005, 1006, 1007, 1008, 1010, 1011, 1011, 1012, 1013, 1014, 1015, 1016, 1016, 1017, 1018, 1018, 1019, 1019, 1020, 1020, 1021, 1021, 1022, 1022, 1022, 1022, 1023, 1023, 1023, 1023, 1023]

/-- The field maps, row by row. -/
def RegName.info : RegName → RegInfo
  | .PWR_STATE => ⟨0x400, 0, 1, 1, 0, 0, 0, 8, .ro, .power, false, [0], []⟩
  | .ENTRY_BUSY => ⟨0x400, 0, 1, 1, 1, 0, 0, 1, .ro, .power, false, [0], []⟩
  | .DISC_TURNING => ⟨0x400, 0, 1, 1, 1, 0, 1, 1, .ro, .power, false, [0], []⟩
  | .PFAIL_ACTIVE => ⟨0x400, 0, 1, 1, 1, 0, 2, 1, .ro, .power, false, [0], []⟩
  | .TIME_UNSET => ⟨0x400, 0, 1, 1, 1, 0, 3, 1, .ro, .power, false, [0], []⟩
  | .SLOW_RC => ⟨0x400, 0, 1, 1, 1, 0, 4, 1, .ro, .power, false, [0], []⟩
  | .DOZE_IDLE_MS => ⟨0x400, 0, 1, 1, 4, 0, 0, 32, .rw, .stored, false, [50], [(0, 0), (1, 10000)]⟩
  | .NAP_IDLE_S => ⟨0x400, 0, 1, 1, 8, 0, 0, 32, .rw, .stored, false, [30], [(0, 0), (1, 3600)]⟩
  | .HIB_IDLE_S => ⟨0x400, 0, 1, 1, 12, 0, 0, 32, .rw, .stored, false, [1800], [(0, 0), (60, 86400)]⟩
  | .DEEPEST_STATE => ⟨0x400, 0, 1, 1, 16, 0, 0, 8, .rw, .stored, false, [3], [(0, 3)]⟩
  | .HIB_ALLOW => ⟨0x400, 0, 1, 1, 17, 0, 0, 1, .rw, .stored, false, [0], []⟩
  | .EXIT_DOZE_NS => ⟨0x400, 0, 1, 1, 20, 0, 0, 32, .ro, .power, false, [20000], []⟩
  | .EXIT_NAP_NS => ⟨0x400, 0, 1, 1, 24, 0, 0, 32, .ro, .power, false, [1600000], []⟩
  | .EXIT_HIB_NS => ⟨0x400, 0, 1, 1, 28, 0, 0, 32, .ro, .power, false, [210000000], []⟩
  | .SPINUP_MS => ⟨0x400, 0, 1, 1, 32, 0, 0, 16, .ro, .power, false, [1800], []⟩
  | .SPINDOWN_MS => ⟨0x400, 0, 1, 1, 34, 0, 0, 16, .ro, .power, false, [1000], []⟩
  | .HOLDUP_MS => ⟨0x400, 0, 1, 1, 36, 0, 0, 32, .rwl, .stored, false, [45], [(45, 10000)]⟩
  | .HOLDUP_LOCK => ⟨0x400, 0, 1, 1, 40, 0, 0, 1, .w1s, .mram, false, [0], []⟩
  | .HOLDUP_UNLOCK => ⟨0x400, 0, 1, 1, 40, 0, 1, 1, .wo, .power, false, [0], []⟩
  | .RESERVE_MS => ⟨0x400, 0, 1, 1, 44, 0, 0, 32, .ro, .power, false, [10], []⟩
  | .PFAIL_COUNT => ⟨0x400, 0, 1, 1, 48, 0, 0, 32, .ro, .stored, false, [0], []⟩
  | .PFAIL_OUTCOME => ⟨0x400, 0, 1, 1, 52, 0, 0, 8, .ro, .stored, false, [0], []⟩
  | .PFAIL_FLUSHED => ⟨0x400, 0, 1, 1, 53, 0, 0, 8, .ro, .stored, false, [0], []⟩
  | .WAKE_CAUSE => ⟨0x400, 0, 1, 1, 56, 0, 0, 8, .ro, .power, false, [0], []⟩
  | .WAKE_FROM => ⟨0x400, 0, 1, 1, 57, 0, 0, 8, .ro, .power, false, [0], []⟩
  | .WAKE_PENDING => ⟨0x400, 0, 1, 1, 58, 0, 0, 8, .w1c, .power, false, [0], []⟩
  | .WAKE_ENABLE => ⟨0x400, 0, 1, 1, 60, 0, 0, 8, .rw, .stored, false, [255], []⟩
  | .RTC_ALARM => ⟨0x400, 0, 1, 1, 64, 0, 0, 64, .rw, .power, false, [0], []⟩
  | .CLK_CORE => ⟨0x400, 0, 1, 1, 72, 0, 0, 1, .ro, .power, false, [0], []⟩
  | .CLK_SERVO => ⟨0x400, 0, 1, 1, 72, 0, 1, 1, .ro, .power, false, [0], []⟩
  | .CLK_CHANNEL => ⟨0x400, 0, 1, 1, 72, 0, 2, 1, .ro, .power, false, [0], []⟩
  | .CLK_MEMORY => ⟨0x400, 0, 1, 1, 72, 0, 3, 1, .ro, .power, false, [0], []⟩
  | .CLK_PCIE => ⟨0x400, 0, 1, 1, 72, 0, 4, 1, .ro, .power, false, [0], []⟩
  | .CLK_REF25 => ⟨0x400, 0, 1, 1, 72, 0, 5, 1, .ro, .power, false, [0], []⟩
  | .CLK_XTAL32 => ⟨0x400, 0, 1, 1, 72, 0, 6, 1, .ro, .power, false, [0], []⟩
  | .CORE_MHZ => ⟨0x400, 0, 1, 1, 74, 0, 0, 16, .ro, .power, false, [1200], []⟩
  | .DS_MAGIC => ⟨0x10000, 0, 1, 1, 0, 0, 0, 32, .ro, .power, false, [811026507], []⟩
  | .DS_IF_LEVEL => ⟨0x10000, 0, 1, 1, 4, 0, 0, 8, .ro, .power, false, [1], []⟩
  | .DS_STEPPING => ⟨0x10000, 0, 1, 1, 5, 0, 0, 8, .ro, .power, false, [177], []⟩
  | .READY => ⟨0x10000, 0, 1, 1, 8, 0, 0, 1, .ro, .power, false, [0], []⟩
  | .FATAL => ⟨0x10000, 0, 1, 1, 8, 0, 1, 1, .ro, .power, false, [0], []⟩
  | .DS_PFAIL => ⟨0x10000, 0, 1, 1, 8, 0, 2, 1, .ro, .power, false, [0], []⟩
  | .BOOT_DEGRADED => ⟨0x10000, 0, 1, 1, 8, 0, 3, 1, .ro, .power, false, [0], []⟩
  | .DS_PWR => ⟨0x10000, 0, 1, 1, 8, 0, 4, 3, .ro, .power, false, [0], []⟩
  | .DS_HEARTBEAT => ⟨0x10000, 0, 1, 1, 12, 0, 0, 32, .ro, .power, false, [0], []⟩
  | .NT_HEAD => ⟨0x10000, 0, 1, 1, 16, 0, 0, 6, .ro, .power, false, [0], []⟩
  | .NT_TAIL => ⟨0x10000, 0, 1, 1, 20, 0, 0, 6, .rw, .power, false, [0], []⟩
  | .NT_LOST => ⟨0x10000, 0, 1, 1, 24, 0, 0, 32, .ro, .power, false, [0], []⟩
  | .DS_FATAL_CODE => ⟨0x10000, 0, 1, 1, 28, 0, 0, 16, .ro, .power, false, [0], []⟩
  | .ID_MAGIC => ⟨0x0, 0, 1, 1, 0, 0, 0, 32, .ro, .power, false, [808859467], []⟩
  | .STEPPING => ⟨0x0, 0, 1, 1, 4, 0, 0, 8, .ro, .power, false, [177], []⟩
  | .IF_LEVEL => ⟨0x0, 0, 1, 1, 5, 0, 0, 8, .ro, .power, false, [1], []⟩
  | .ID_DEVICE => ⟨0x0, 0, 1, 1, 6, 0, 0, 16, .ro, .power, false, [1888], []⟩
  | .FW_VERSION => ⟨0x0, 0, 1, 1, 8, 0, 0, 32, .ro, .dash, false, [0], []⟩
  | .FW_SLOT => ⟨0x0, 0, 1, 1, 12, 0, 0, 8, .ro, .dash, false, [0], []⟩
  | .BOOT_MODE => ⟨0x0, 0, 1, 1, 13, 0, 0, 8, .ro, .dash, false, [0], []⟩
  | .DEVICE_SERIAL => ⟨0x0, 0, 1, 1, 16, 0, 0, 128, .ro, .dash, false, [0], []⟩
  | .POOL_MIB => ⟨0x0, 0, 1, 1, 32, 0, 0, 32, .ro, .dash, false, [8192], []⟩
  | .NOR_MIB => ⟨0x0, 0, 1, 1, 36, 0, 0, 32, .ro, .dash, false, [0], []⟩
  | .QP_MAX => ⟨0x0, 0, 1, 1, 40, 0, 0, 32, .ro, .power, false, [65536], []⟩
  | .QP_DEPTH_MAX => ⟨0x0, 0, 1, 1, 44, 0, 0, 16, .ro, .power, false, [4096], []⟩
  | .MSIX_VECTORS => ⟨0x0, 0, 1, 1, 46, 0, 0, 16, .ro, .power, false, [1024], []⟩
  | .CTX_CACHE => ⟨0x0, 0, 1, 1, 48, 0, 0, 16, .ro, .power, false, [1024], []⟩
  | .MBX_DATA_MAX => ⟨0x0, 0, 1, 1, 50, 0, 0, 16, .ro, .power, false, [768], []⟩
  | .SUBSYS_VID => ⟨0x0, 0, 1, 1, 52, 0, 0, 16, .rw, .stored, false, [Config.lueriVid % 65536], []⟩
  | .SUBSYS_ID => ⟨0x0, 0, 1, 1, 54, 0, 0, 16, .rw, .stored, false, [1888], []⟩
  | .LINK_SPEED => ⟨0x1, 0, 1, 1, 0, 0, 0, 4, .ro, .power, false, [0], []⟩
  | .LINK_WIDTH => ⟨0x1, 0, 1, 1, 0, 0, 4, 4, .ro, .power, false, [0], []⟩
  | .LINK_STATE => ⟨0x1, 0, 1, 1, 1, 0, 0, 8, .ro, .power, false, [0], []⟩
  | .MAX_SPEED => ⟨0x1, 0, 1, 1, 2, 0, 0, 8, .rw, .stored, false, [3], [(1, 3)]⟩
  | .FLR_COUNT => ⟨0x1, 0, 1, 1, 4, 0, 0, 32, .ro, .power, false, [0], []⟩
  | .LINK_RESETS => ⟨0x1, 0, 1, 1, 8, 0, 0, 32, .ro, .power, false, [0], []⟩
  | .BAD_ACCESS => ⟨0x1, 0, 1, 1, 12, 0, 0, 32, .ro, .power, false, [0], []⟩
  | .DB_STRAY => ⟨0x1, 0, 1, 1, 16, 0, 0, 32, .ro, .power, false, [0], []⟩
  | .AER_CORR => ⟨0x1, 0, 1, 1, 20, 0, 0, 32, .ro, .power, false, [0], []⟩
  | .AER_UNCORR => ⟨0x1, 0, 1, 1, 24, 0, 0, 32, .ro, .power, false, [0], []⟩
  | .DMA_TIMEOUTS => ⟨0x1, 0, 1, 1, 28, 0, 0, 32, .ro, .power, false, [0], []⟩
  | .H_BASE => ⟨0x340, 0, 1024, 16, 0, 16, 0, 21, .ro, .power, false, [0], []⟩
  | .H_LIMIT => ⟨0x340, 0, 1024, 16, 4, 16, 0, 21, .ro, .power, false, [0], []⟩
  | .H_READ => ⟨0x340, 0, 1024, 16, 8, 16, 0, 1, .ro, .power, false, [0], []⟩
  | .H_WRITE => ⟨0x340, 0, 1024, 16, 8, 16, 1, 1, .ro, .power, false, [0], []⟩
  | .H_APPEND => ⟨0x340, 0, 1024, 16, 8, 16, 2, 1, .ro, .power, false, [0], []⟩
  | .H_VALID => ⟨0x340, 0, 1024, 16, 8, 16, 3, 1, .ro, .power, false, [0], []⟩
  | .H_BOBBIN => ⟨0x340, 0, 1024, 16, 9, 16, 0, 8, .ro, .power, false, [255], []⟩
  | .H_LEASE => ⟨0x340, 0, 1024, 16, 10, 16, 0, 16, .ro, .power, false, [0], []⟩
  | .H_GEN => ⟨0x340, 0, 1024, 16, 12, 16, 0, 32, .ro, .power, false, [0], []⟩
  | .RD_BASE => ⟨0x380, 0, 256, 16, 0, 16, 0, 21, .ro, .power, false, [0], []⟩
  | .RD_LIMIT => ⟨0x380, 0, 256, 16, 4, 16, 0, 21, .ro, .power, false, [0], []⟩
  | .RD_READ_MASK => ⟨0x380, 0, 256, 16, 8, 16, 0, 16, .ro, .power, false, [0], []⟩
  | .RD_WRITE_MASK => ⟨0x380, 0, 256, 16, 10, 16, 0, 16, .ro, .power, false, [0], []⟩
  | .RD_VALID => ⟨0x380, 0, 256, 16, 12, 16, 0, 1, .ro, .power, false, [0], []⟩
  | .POOL_MIB_MIRROR => ⟨0x300, 0, 1, 1, 0, 0, 0, 32, .ro, .dash, false, [0], []⟩
  | .POOL_STATE => ⟨0x300, 0, 1, 1, 4, 0, 0, 8, .ro, .power, false, [0], []⟩
  | .POOL_CH0_TRAINED => ⟨0x300, 0, 1, 1, 5, 0, 0, 1, .ro, .power, false, [0], []⟩
  | .POOL_CH1_TRAINED => ⟨0x300, 0, 1, 1, 5, 0, 1, 1, .ro, .power, false, [0], []⟩
  | .POOL_FLUSH_MIB => ⟨0x300, 0, 1, 1, 8, 0, 0, 32, .rw, .stored, false, [512], [(0, 0), (16, 8192)]⟩
  | .BOBBIN_AREA_MIB => ⟨0x300, 0, 1, 1, 12, 0, 0, 32, .ro, .dash, false, [0], []⟩
  | .POISON_SET => ⟨0x300, 0, 1, 1, 16, 0, 0, 32, .ro, .power, false, [0], []⟩
  | .POISON_NOW => ⟨0x300, 0, 1, 1, 20, 0, 0, 32, .ro, .power, false, [0], []⟩
  | .HEDDLE_DENY => ⟨0x300, 0, 1, 1, 24, 0, 0, 32, .ro, .power, false, [0], []⟩
  | .TABLE_MISMATCHES => ⟨0x300, 0, 1, 1, 28, 0, 0, 32, .ro, .power, false, [0], []⟩
  | .LEASE_EXPIRED => ⟨0x300, 0, 1, 1, 32, 0, 0, 32, .ro, .power, false, [0], []⟩
  | .RESET_ROLLBACKS => ⟨0x300, 0, 1, 1, 36, 0, 0, 32, .ro, .power, false, [0], []⟩
  | .POOL_LOST_COUNT => ⟨0x300, 0, 1, 1, 40, 0, 0, 32, .ro, .stored, false, [0], []⟩
  | .MARKS_HELD => ⟨0x300, 0, 1, 1, 44, 0, 0, 16, .ro, .power, false, [0], []⟩
  | .BB_STATE => ⟨0x310, 0, 10, 1, 0, 0, 0, 8, .ro, .power, false, [0], []⟩
  | .BOB_FULL => ⟨0x310, 0, 10, 1, 1, 0, 0, 1, .ro, .power, false, [0], []⟩
  | .BOB_MARKED_PENDING => ⟨0x310, 0, 10, 1, 1, 0, 1, 1, .ro, .power, false, [0], []⟩
  | .BOB_HOLDING => ⟨0x310, 0, 10, 1, 1, 0, 2, 1, .ro, .power, false, [0], []⟩
  | .BB_HOLDER => ⟨0x310, 0, 10, 1, 2, 0, 0, 16, .ro, .dash, false, [65535], []⟩
  | .BB_SIZE_MIB => ⟨0x310, 0, 10, 1, 4, 0, 0, 32, .rw, .stored, false, [256, 1920, 1920, 1920, 1920, 64, 32, 64, 16, 16], [(0, 8128)]⟩
  | .FLUSH_MARK_MIB => ⟨0x310, 0, 10, 1, 8, 0, 0, 32, .rw, .stored, false, [0], []⟩
  | .FULL_POLICY => ⟨0x310, 0, 10, 1, 12, 0, 0, 8, .rw, .stored, false, [0, 1, 1, 1, 1, 0, 0, 0, 0, 0], [(0, 1)]⟩
  | .LEASE_MS => ⟨0x310, 0, 10, 1, 14, 0, 0, 16, .rw, .stored, false, [250], [(10, 10000)]⟩
  | .BB_BASE => ⟨0x310, 0, 10, 1, 16, 0, 0, 64, .ro, .dash, false, [0], []⟩
  | .HEAD_OFFSET => ⟨0x310, 0, 10, 1, 24, 0, 0, 64, .ro, .power, false, [0], []⟩
  | .FLUSHED_OFFSET => ⟨0x310, 0, 10, 1, 32, 0, 0, 64, .ro, .power, false, [0], []⟩
  | .TAIL_OFFSET => ⟨0x310, 0, 10, 1, 40, 0, 0, 64, .ro, .power, false, [0], []⟩
  | .LEASE_SERIAL => ⟨0x310, 0, 10, 1, 48, 0, 0, 32, .ro, .power, false, [0], []⟩
  | .SEG_COUNT => ⟨0x310, 0, 10, 1, 52, 0, 0, 32, .ro, .power, false, [0], []⟩
  | .REC_DROPPED => ⟨0x310, 0, 10, 1, 56, 0, 0, 32, .ro, .power, false, [0], []⟩
  | .WRAP_LOST_KIB => ⟨0x310, 0, 10, 1, 60, 0, 0, 32, .ro, .power, false, [0], []⟩
  | .REVOKES => ⟨0x310, 0, 10, 1, 64, 0, 0, 32, .ro, .power, false, [0], []⟩
  | .STALE_GAPS => ⟨0x310, 0, 10, 1, 68, 0, 0, 32, .ro, .power, false, [0], []⟩
  | .CAM_STATE => ⟨0x320, 1, 4, 1, 0, 0, 0, 8, .ro, .power, false, [0], []⟩
  | .CAM_ENABLE => ⟨0x320, 1, 4, 1, 1, 0, 0, 1, .rw, .stored, false, [1], []⟩
  | .CAM_ACCEPT_RTP => ⟨0x320, 1, 4, 1, 1, 0, 1, 1, .rw, .stored, false, [0], []⟩
  | .CAM_GPTP_ENABLE => ⟨0x320, 1, 4, 1, 1, 0, 2, 1, .rw, .stored, false, [1], []⟩
  | .UDP_PORT => ⟨0x320, 1, 4, 1, 2, 0, 0, 16, .rw, .stored, false, [47600], [(1, 65535)]⟩
  | .IP_ADDR => ⟨0x320, 1, 4, 1, 4, 0, 0, 32, .rw, .stored, false, [172752897, 172752898, 172752899, 172752900], []⟩
  | .MAC_ADDR => ⟨0x320, 1, 4, 1, 8, 0, 0, 48, .ro, .efuse, false, [0], []⟩
  | .VLAN_ID => ⟨0x320, 1, 4, 1, 14, 0, 0, 16, .rw, .stored, false, [0], [(0, 0), (1, 4094)]⟩
  | .CAM_TIMEOUT_MS => ⟨0x320, 1, 4, 1, 16, 0, 0, 16, .rw, .stored, false, [2000], [(100, 60000)]⟩
  | .DGRAM_OK => ⟨0x320, 1, 4, 1, 20, 0, 0, 32, .ro, .power, false, [0], []⟩
  | .CAM_RX_DROPPED => ⟨0x320, 1, 4, 1, 24, 0, 0, 32, .ro, .power, false, [0], []⟩
  | .DROP_FILTER => ⟨0x320, 1, 4, 1, 28, 0, 0, 32, .ro, .power, false, [0], []⟩
  | .DROP_RANGE => ⟨0x320, 1, 4, 1, 32, 0, 0, 32, .ro, .power, false, [0], []⟩
  | .SEQ_GAPS => ⟨0x320, 1, 4, 1, 36, 0, 0, 32, .ro, .power, false, [0], []⟩
  | .CAM_STALE_COUNT => ⟨0x320, 1, 4, 1, 40, 0, 0, 32, .ro, .power, false, [0], []⟩
  | .ANNOUNCE_IGNORED => ⟨0x320, 1, 4, 1, 44, 0, 0, 32, .ro, .power, false, [0], []⟩
  | .CAM_LAST_RX_TIME => ⟨0x320, 1, 4, 1, 48, 0, 0, 64, .ro, .power, false, [0], []⟩
  | .GPTP_PDELAY_NS => ⟨0x320, 1, 4, 1, 56, 0, 0, 32, .ro, .power, false, [0], []⟩
  | .SER_STATE => ⟨0x324, 5, 2, 1, 0, 0, 0, 8, .ro, .power, false, [0], []⟩
  | .SER_ENABLE => ⟨0x324, 5, 2, 1, 1, 0, 0, 1, .rw, .stored, false, [1], []⟩
  | .SER_TIME_FRAMES => ⟨0x324, 5, 2, 1, 1, 0, 1, 1, .rw, .stored, false, [1], []⟩
  | .SER_TIMEOUT_MS => ⟨0x324, 5, 2, 1, 2, 0, 0, 16, .rw, .stored, false, [5000], [(100, 60000)]⟩
  | .BAUD => ⟨0x324, 5, 2, 1, 4, 0, 0, 32, .rw, .stored, false, [115200], [(9600, 4000000)]⟩
  | .SER_FRAMES_OK => ⟨0x324, 5, 2, 1, 8, 0, 0, 32, .ro, .power, false, [0], []⟩
  | .SER_RX_DROPPED => ⟨0x324, 5, 2, 1, 12, 0, 0, 32, .ro, .power, false, [0], []⟩
  | .DUPLICATES => ⟨0x324, 5, 2, 1, 16, 0, 0, 32, .ro, .power, false, [0], []⟩
  | .COLLISIONS => ⟨0x324, 5, 2, 1, 20, 0, 0, 32, .ro, .power, false, [0], []⟩
  | .SER_STALE_COUNT => ⟨0x324, 5, 2, 1, 24, 0, 0, 32, .ro, .power, false, [0], []⟩
  | .SER_LAST_RX_TIME => ⟨0x324, 5, 2, 1, 32, 0, 0, 64, .ro, .power, false, [0], []⟩
  | .CM_ID => ⟨0x330, 0, 64, 8, 0, 32, 0, 29, .rw, .stored, false, [0], []⟩
  | .CM_IDE => ⟨0x330, 0, 64, 8, 0, 32, 29, 1, .rw, .stored, false, [0], []⟩
  | .CM_MASK => ⟨0x330, 0, 64, 8, 4, 32, 0, 29, .rw, .stored, false, [0], []⟩
  | .CM_START => ⟨0x330, 0, 64, 8, 8, 32, 0, 16, .rw, .stored, false, [0], [(0, 511)]⟩
  | .CM_BITS => ⟨0x330, 0, 64, 8, 10, 32, 0, 8, .rw, .stored, false, [0], [(1, 32)]⟩
  | .CM_BIG_ENDIAN => ⟨0x330, 0, 64, 8, 11, 32, 0, 1, .rw, .stored, false, [0], []⟩
  | .CM_SIGNED => ⟨0x330, 0, 64, 8, 11, 32, 1, 1, .rw, .stored, false, [0], []⟩
  | .CM_KIND => ⟨0x330, 0, 64, 8, 12, 32, 0, 8, .rw, .stored, false, [0], [(0, 6)]⟩
  | .CM_INDEX => ⟨0x330, 0, 64, 8, 13, 32, 0, 8, .rw, .stored, false, [0], [(0, 255)]⟩
  | .CM_MIN_GAP_MS => ⟨0x330, 0, 64, 8, 14, 32, 0, 16, .rw, .stored, false, [0], [(0, 10000)]⟩
  | .CM_SCALE => ⟨0x330, 0, 64, 8, 16, 32, 0, 32, .rw, .stored, true, [0], []⟩
  | .CM_OFFSET => ⟨0x330, 0, 64, 8, 20, 32, 0, 32, .rw, .stored, true, [0], []⟩
  | .CM_RAW_MIN => ⟨0x330, 0, 64, 8, 24, 32, 0, 32, .rw, .stored, false, [0], []⟩
  | .CM_RAW_MAX => ⟨0x330, 0, 64, 8, 28, 32, 0, 32, .rw, .stored, false, [0], []⟩
  | .CAN_STATE => ⟨0x326, 0, 1, 1, 0, 0, 0, 8, .ro, .power, false, [0], []⟩
  | .CAN_ENABLE => ⟨0x326, 0, 1, 1, 1, 0, 0, 1, .rw, .stored, false, [1], []⟩
  | .CAN_LISTEN_ONLY => ⟨0x326, 0, 1, 1, 1, 0, 1, 1, .rw, .stored, false, [0], []⟩
  | .CAN_FD_ENABLE => ⟨0x326, 0, 1, 1, 1, 0, 2, 1, .rw, .stored, false, [1], []⟩
  | .CAN_TIMEOUT_MS => ⟨0x326, 0, 1, 1, 2, 0, 0, 16, .rw, .stored, false, [1000], [(100, 60000)]⟩
  | .NOM_BITRATE => ⟨0x326, 0, 1, 1, 4, 0, 0, 32, .rw, .stored, false, [500000], [(125000, 125000), (250000, 250000), (500000, 500000), (1000000, 1000000)]⟩
  | .DATA_BITRATE => ⟨0x326, 0, 1, 1, 8, 0, 0, 32, .rw, .stored, false, [2000000], [(1000000, 1000000), (2000000, 2000000), (4000000, 4000000), (5000000, 5000000)]⟩
  | .NOM_SAMPLE_PCT => ⟨0x326, 0, 1, 1, 12, 0, 0, 8, .rw, .stored, false, [80], [(50, 90)]⟩
  | .DATA_SAMPLE_PCT => ⟨0x326, 0, 1, 1, 13, 0, 0, 8, .rw, .stored, false, [75], [(50, 90)]⟩
  | .TEC => ⟨0x326, 0, 1, 1, 14, 0, 0, 8, .ro, .power, false, [0], []⟩
  | .REC => ⟨0x326, 0, 1, 1, 15, 0, 0, 8, .ro, .power, false, [0], []⟩
  | .CAN_FRAMES_OK => ⟨0x326, 0, 1, 1, 16, 0, 0, 32, .ro, .power, false, [0], []⟩
  | .FRAMES_UNMAPPED => ⟨0x326, 0, 1, 1, 20, 0, 0, 32, .ro, .power, false, [0], []⟩
  | .FRAMES_SUPPRESSED => ⟨0x326, 0, 1, 1, 24, 0, 0, 32, .ro, .power, false, [0], []⟩
  | .RANGE_REJECTS => ⟨0x326, 0, 1, 1, 28, 0, 0, 32, .ro, .power, false, [0], []⟩
  | .BUSOFF_COUNT => ⟨0x326, 0, 1, 1, 32, 0, 0, 32, .ro, .power, false, [0], []⟩
  | .CAN_STALE_COUNT => ⟨0x326, 0, 1, 1, 36, 0, 0, 32, .ro, .power, false, [0], []⟩
  | .CAN_LAST_RX_TIME => ⟨0x326, 0, 1, 1, 40, 0, 0, 64, .ro, .power, false, [0], []⟩
  | .CAN_RX_DROPPED => ⟨0x326, 0, 1, 1, 48, 0, 0, 32, .ro, .power, false, [0], []⟩
  | .TIME_STATE => ⟨0x327, 0, 1, 1, 0, 0, 0, 8, .ro, .power, false, [0], []⟩
  | .PPS_ENABLE => ⟨0x327, 0, 1, 1, 1, 0, 0, 1, .rw, .stored, false, [1], []⟩
  | .PPS_FALLING => ⟨0x327, 0, 1, 1, 1, 0, 1, 1, .rw, .stored, false, [0], []⟩
  | .NMEA_ENABLE => ⟨0x327, 0, 1, 1, 1, 0, 2, 1, .rw, .stored, false, [1], []⟩
  | .UTC_OFFSET_S => ⟨0x327, 0, 1, 1, 2, 0, 0, 16, .rw, .stored, false, [37], [(0, 255)]⟩
  | .NMEA_BAUD => ⟨0x327, 0, 1, 1, 4, 0, 0, 32, .rw, .stored, false, [9600], [(4800, 115200)]⟩
  | .PPS_COUNT => ⟨0x327, 0, 1, 1, 8, 0, 0, 32, .ro, .power, false, [0], []⟩
  | .PPS_REJECTED => ⟨0x327, 0, 1, 1, 12, 0, 0, 32, .ro, .power, false, [0], []⟩
  | .NMEA_REJECTED => ⟨0x327, 0, 1, 1, 16, 0, 0, 32, .ro, .power, false, [0], []⟩
  | .TIME_STEPS => ⟨0x327, 0, 1, 1, 20, 0, 0, 32, .ro, .power, false, [0], []⟩
  | .LAST_OFFSET_NS => ⟨0x327, 0, 1, 1, 24, 0, 0, 32, .ro, .power, true, [0], []⟩
  | .LAST_PPS_TIME => ⟨0x327, 0, 1, 1, 32, 0, 0, 64, .ro, .power, false, [0], []⟩
  | .TL_START => ⟨0x328, 0, 8, 8, 0, 16, 0, 8, .rw, .stored, false, [0], [(0, 0), (32, 55), (64, 87), (128, 255)]⟩
  | .TL_STOP => ⟨0x328, 0, 8, 8, 1, 16, 0, 8, .rw, .stored, false, [0], [(0, 0), (32, 55), (64, 87), (128, 255)]⟩
  | .TL_DEBOUNCE_MS => ⟨0x328, 0, 8, 8, 2, 16, 0, 16, .rw, .stored, false, [20], [(0, 1000)]⟩
  | .TL_MAX_OPEN_S => ⟨0x328, 0, 8, 8, 4, 16, 0, 32, .rw, .stored, false, [0], [(0, 0), (1, 86400)]⟩
  | .TL_INTERVALS => ⟨0x328, 0, 8, 8, 8, 16, 0, 32, .ro, .power, false, [0], []⟩
  | .TL_ORPHANS => ⟨0x328, 0, 8, 8, 12, 16, 0, 16, .ro, .power, false, [0], []⟩
  | .TL_STATE => ⟨0x328, 0, 8, 8, 14, 16, 0, 8, .ro, .power, false, [0], []⟩
  | .TALLY_NEXT_SEQ => ⟨0x328, 0, 1, 1, 128, 0, 0, 32, .ro, .power, false, [0], []⟩
  | .SP_STATE => ⟨0x100, 0, 1, 1, 0, 0, 0, 8, .ro, .power, false, [0], []⟩
  | .SP_SPEED_OK => ⟨0x100, 0, 1, 1, 1, 0, 0, 1, .ro, .power, false, [0], []⟩
  | .SP_CLV_ZONE => ⟨0x100, 0, 1, 1, 1, 0, 1, 1, .ro, .power, false, [0], []⟩
  | .SP_LOCKED => ⟨0x100, 0, 1, 1, 1, 0, 2, 1, .ro, .power, false, [0], []⟩
  | .SP_RPM => ⟨0x100, 0, 1, 1, 2, 0, 0, 16, .ro, .power, false, [0], []⟩
  | .SP_TARGET_RPM => ⟨0x100, 0, 1, 1, 4, 0, 0, 16, .ro, .power, false, [0], []⟩
  | .SP_DEMAND_MA => ⟨0x100, 0, 1, 1, 6, 0, 0, 16, .ro, .power, false, [0], []⟩
  | .SP_TOOTH_NS => ⟨0x100, 0, 1, 1, 8, 0, 0, 32, .ro, .power, false, [0], []⟩
  | .SLEW_US => ⟨0x100, 0, 1, 1, 12, 0, 0, 8, .rw, .stored, false, [16], [(2, 64)]⟩
  | .ADVANCE_DEG => ⟨0x100, 0, 1, 1, 13, 0, 0, 8, .rw, .stored, false, [0], [(0, 15)]⟩
  | .ILIM_MA => ⟨0x100, 0, 1, 1, 14, 0, 0, 16, .rw, .stored, false, [1600], [(200, 1600)]⟩
  | .ALIGN_MA => ⟨0x100, 0, 1, 1, 16, 0, 0, 16, .rw, .stored, false, [800], [(200, 1600)]⟩
  | .ALIGN_MS => ⟨0x100, 0, 1, 1, 18, 0, 0, 16, .rw, .stored, false, [200], [(50, 1000)]⟩
  | .RAMP_RPM_S => ⟨0x100, 0, 1, 1, 20, 0, 0, 16, .rw, .stored, false, [2000], [(500, 8000)]⟩
  | .BRAKE_MA => ⟨0x100, 0, 1, 1, 22, 0, 0, 16, .rw, .stored, false, [1200], [(200, 1600)]⟩
  | .PWM_KHZ => ⟨0x100, 0, 1, 1, 24, 0, 0, 8, .rw, .stored, false, [40], [(25, 50)]⟩
  | .TOOTH_WINDOW_PCT => ⟨0x100, 0, 1, 1, 25, 0, 0, 8, .ro, .power, false, [25], []⟩
  | .CATCH_ENABLE => ⟨0x100, 0, 1, 1, 26, 0, 0, 1, .rw, .stored, false, [1], []⟩
  | .SPD_KP => ⟨0x100, 0, 1, 1, 28, 0, 0, 16, .rw, .stored, false, [400], [(0, 4000)]⟩
  | .SPD_KI => ⟨0x100, 0, 1, 1, 30, 0, 0, 16, .rw, .stored, false, [200], [(0, 4000)]⟩
  | .COLD_STARTS => ⟨0x100, 0, 1, 1, 32, 0, 0, 32, .ro, .stored, false, [0], []⟩
  | .CATCHES => ⟨0x100, 0, 1, 1, 36, 0, 0, 32, .ro, .stored, false, [0], []⟩
  | .TOOTH_REJECTS => ⟨0x100, 0, 1, 1, 40, 0, 0, 32, .ro, .power, false, [0], []⟩
  | .TOOTH_SYNTH => ⟨0x100, 0, 1, 1, 44, 0, 0, 32, .ro, .power, false, [0], []⟩
  | .DEFERRALS => ⟨0x100, 0, 1, 1, 48, 0, 0, 32, .ro, .power, false, [0], []⟩
  | .STALLS => ⟨0x100, 0, 1, 1, 52, 0, 0, 32, .ro, .stored, false, [0], []⟩
  | .REVERSES => ⟨0x100, 0, 1, 1, 56, 0, 0, 32, .ro, .stored, false, [0], []⟩
  | .START_FAILS => ⟨0x100, 0, 1, 1, 60, 0, 0, 32, .ro, .stored, false, [0], []⟩
  | .RUN_SECONDS => ⟨0x100, 0, 1, 1, 64, 0, 0, 32, .ro, .stored, false, [0], []⟩
  | .LAST_SPINUP_MS => ⟨0x100, 0, 1, 1, 68, 0, 0, 16, .ro, .power, false, [0], []⟩
  | .LAST_SPINDOWN_MS => ⟨0x100, 0, 1, 1, 70, 0, 0, 16, .ro, .power, false, [0], []⟩
  | .SPF_OVERCURRENT => ⟨0x100, 0, 1, 1, 72, 0, 0, 1, .ro, .power, false, [0], []⟩
  | .SPF_OPEN_PHASE => ⟨0x100, 0, 1, 1, 72, 0, 1, 1, .ro, .power, false, [0], []⟩
  | .SPF_VMOT_LOW => ⟨0x100, 0, 1, 1, 72, 0, 2, 1, .ro, .power, false, [0], []⟩
  | .SPF_STAGE_HOT => ⟨0x100, 0, 1, 1, 72, 0, 3, 1, .ro, .power, false, [0], []⟩
  | .SPF_NOISY_BEMF => ⟨0x100, 0, 1, 1, 72, 0, 4, 1, .ro, .power, false, [0], []⟩
  | .SL_STATE => ⟨0x110, 0, 1, 1, 0, 0, 0, 8, .ro, .power, false, [0], []⟩
  | .SL_POS_VALID => ⟨0x110, 0, 1, 1, 1, 0, 0, 1, .ro, .power, false, [0], []⟩
  | .SL_PROVISIONAL => ⟨0x110, 0, 1, 1, 1, 0, 1, 1, .ro, .power, false, [0], []⟩
  | .SL_HOME_SW => ⟨0x110, 0, 1, 1, 1, 0, 2, 1, .ro, .power, false, [0], []⟩
  | .SL_STALL_SENSE_ACTIVE => ⟨0x110, 0, 1, 1, 1, 0, 3, 1, .ro, .power, false, [0], []⟩
  | .SL_TABLE_PENDING => ⟨0x110, 0, 1, 1, 1, 0, 4, 1, .ro, .power, false, [0], []⟩
  | .STANDSTILL => ⟨0x110, 0, 1, 1, 2, 0, 0, 8, .rw, .stored, false, [0], [(0, 2)]⟩
  | .POS_MEMORY => ⟨0x110, 0, 1, 1, 3, 0, 0, 8, .rw, .stored, false, [0], [(0, 1)]⟩
  | .SLED_POS => ⟨0x110, 0, 1, 1, 4, 0, 0, 32, .ro, .power, true, [0], []⟩
  | .SL_RUN_MA => ⟨0x110, 0, 1, 1, 8, 0, 0, 16, .rw, .stored, false, [600], [(100, 750)]⟩
  | .HOLD_PCT => ⟨0x110, 0, 1, 1, 10, 0, 0, 8, .rw, .stored, false, [40], [(10, 100)]⟩
  | .FAST_16THS => ⟨0x110, 0, 1, 1, 11, 0, 0, 8, .rw, .stored, false, [6], [(0, 16)]⟩
  | .CHOP_KHZ => ⟨0x110, 0, 1, 1, 12, 0, 0, 8, .rw, .stored, false, [30], [(20, 40)]⟩
  | .TOFF_US => ⟨0x110, 0, 1, 1, 13, 0, 0, 8, .rw, .stored, false, [8], [(1, 32)]⟩
  | .HOLD_DELAY_MS => ⟨0x110, 0, 1, 1, 14, 0, 0, 16, .rw, .stored, false, [100], [(0, 5000)]⟩
  | .SL_VMAX_MM_S => ⟨0x110, 0, 1, 1, 16, 0, 0, 16, .rw, .stored, false, [150], [(10, 250)]⟩
  | .SL_ACC_MM_S2 => ⟨0x110, 0, 1, 1, 18, 0, 0, 16, .rw, .stored, false, [2000], [(100, 5000)]⟩
  | .HOME_MODE => ⟨0x110, 0, 1, 1, 20, 0, 0, 8, .rw, .stored, false, [0], [(0, 1)]⟩
  | .STALL_DEG => ⟨0x110, 0, 1, 1, 21, 0, 0, 8, .rw, .stored, false, [100], [(45, 135)]⟩
  | .SL_HOME_MM_S => ⟨0x110, 0, 1, 1, 22, 0, 0, 16, .rw, .stored, false, [25], [(20, 50)]⟩
  | .SL_MIN_USTEP => ⟨0x110, 0, 1, 1, 24, 0, 0, 32, .rw, .stored, false, [512], [(0, 4096)]⟩
  | .SL_MAX_USTEP => ⟨0x110, 0, 1, 1, 28, 0, 0, 32, .rw, .stored, false, [64000], [(32768, 68000)]⟩
  | .SL_ORIGIN_NM => ⟨0x110, 0, 1, 1, 32, 0, 0, 32, .ro, .stored, false, [21400000], []⟩
  | .USTEP_APPLY => ⟨0x110, 0, 1, 1, 36, 0, 0, 1, .w1s, .power, false, [0], []⟩
  | .USTEP_BAD_INDEX => ⟨0x110, 0, 1, 1, 40, 0, 0, 16, .ro, .power, false, [65535], []⟩
  | .LOAD_ANGLE_DEG => ⟨0x110, 0, 1, 1, 42, 0, 0, 16, .ro, .power, false, [0], []⟩
  | .SL_STALLS => ⟨0x110, 0, 1, 1, 44, 0, 0, 32, .ro, .stored, false, [0], []⟩
  | .HOMINGS => ⟨0x110, 0, 1, 1, 48, 0, 0, 32, .ro, .stored, false, [0], []⟩
  | .HOME_FAILS => ⟨0x110, 0, 1, 1, 52, 0, 0, 32, .ro, .stored, false, [0], []⟩
  | .POS_SLIPS => ⟨0x110, 0, 1, 1, 56, 0, 0, 32, .ro, .power, false, [0], []⟩
  | .SLF_OVERCURRENT => ⟨0x110, 0, 1, 1, 60, 0, 0, 1, .ro, .power, false, [0], []⟩
  | .SLF_OPEN_COIL => ⟨0x110, 0, 1, 1, 60, 0, 1, 1, .ro, .power, false, [0], []⟩
  | .SLF_STAGE_HOT => ⟨0x110, 0, 1, 1, 60, 0, 2, 1, .ro, .power, false, [0], []⟩
  | .SLF_HOME_FAIL => ⟨0x110, 0, 1, 1, 60, 0, 3, 1, .ro, .power, false, [0], []⟩
  | .CL_LIMIT_MA => ⟨0x118, 0, 3, 3, 0, 16, 0, 16, .rw, .stored, false, [300, 300, 150], [(50, 300)]⟩
  | .CL_RMS_MA => ⟨0x118, 0, 3, 3, 2, 16, 0, 16, .rw, .stored, false, [150, 120, 80], [(20, 300)]⟩
  | .CL_DEMAND => ⟨0x118, 0, 3, 3, 4, 16, 0, 16, .ro, .power, true, [0], []⟩
  | .CL_SENSE => ⟨0x118, 0, 3, 3, 6, 16, 0, 16, .ro, .power, true, [0], []⟩
  | .CL_CLIPS => ⟨0x118, 0, 3, 3, 8, 16, 0, 32, .ro, .power, false, [0], []⟩
  | .CL_OPEN => ⟨0x118, 0, 3, 3, 12, 16, 0, 1, .ro, .power, false, [0], []⟩
  | .CL_SHORT => ⟨0x118, 0, 3, 3, 12, 16, 1, 1, .ro, .power, false, [0], []⟩
  | .CL_RMS_TRIP => ⟨0x118, 0, 3, 3, 12, 16, 2, 1, .ro, .power, false, [0], []⟩
  | .LD_STATE => ⟨0x119, 0, 1, 1, 0, 0, 0, 8, .ro, .power, false, [0], []⟩
  | .IN_SW => ⟨0x119, 0, 1, 1, 1, 0, 0, 1, .ro, .power, false, [0], []⟩
  | .OUT_SW => ⟨0x119, 0, 1, 1, 1, 0, 1, 1, .ro, .power, false, [0], []⟩
  | .LD_MA => ⟨0x119, 0, 1, 1, 2, 0, 0, 16, .rw, .stored, false, [300], [(100, 500)]⟩
  | .LD_TIMEOUT_MS => ⟨0x119, 0, 1, 1, 4, 0, 0, 16, .rw, .stored, false, [3000], [(500, 10000)]⟩
  | .LOADS => ⟨0x119, 0, 1, 1, 8, 0, 0, 32, .ro, .stored, false, [0], []⟩
  | .EJECTS => ⟨0x119, 0, 1, 1, 12, 0, 0, 32, .ro, .stored, false, [0], []⟩
  | .JAMS => ⟨0x119, 0, 1, 1, 16, 0, 0, 32, .ro, .stored, false, [0], []⟩
  | .CART_PULLS => ⟨0x119, 0, 1, 1, 20, 0, 0, 32, .ro, .stored, false, [0], []⟩
  | .SV_STATE => ⟨0x220, 0, 1, 1, 0, 0, 0, 8, .ro, .power, false, [0], []⟩
  | .FOCUS_LOCK => ⟨0x220, 0, 1, 1, 1, 0, 0, 1, .ro, .power, false, [0], []⟩
  | .TRACK_LOCK => ⟨0x220, 0, 1, 1, 1, 0, 1, 1, .ro, .power, false, [0], []⟩
  | .GATE_PERMIT => ⟨0x220, 0, 1, 1, 1, 0, 2, 1, .ro, .power, false, [0], []⟩
  | .SHOCK_HOLD => ⟨0x220, 0, 1, 1, 1, 0, 3, 1, .ro, .power, false, [0], []⟩
  | .DEFECT_HOLD => ⟨0x220, 0, 1, 1, 1, 0, 4, 1, .ro, .power, false, [0], []⟩
  | .BQ_PENDING => ⟨0x220, 0, 1, 1, 1, 0, 5, 1, .ro, .power, false, [0], []⟩
  | .SV_LAYER => ⟨0x220, 0, 1, 1, 2, 0, 0, 8, .ro, .power, false, [255], []⟩
  | .SV_TRACK => ⟨0x220, 0, 1, 1, 4, 0, 0, 32, .ro, .power, false, [4294967295], []⟩
  | .FE_NM => ⟨0x220, 0, 1, 1, 8, 0, 0, 16, .ro, .power, true, [0], []⟩
  | .TE_NM => ⟨0x220, 0, 1, 1, 10, 0, 0, 16, .ro, .power, true, [0], []⟩
  | .TILT_MDEG => ⟨0x220, 0, 1, 1, 12, 0, 0, 16, .ro, .power, true, [0], []⟩
  | .FA_SWEEP_MA => ⟨0x220, 0, 1, 1, 16, 0, 0, 16, .rw, .stored, false, [200], [(50, 300)]⟩
  | .FA_SWEEP_MS => ⟨0x220, 0, 1, 1, 18, 0, 0, 16, .rw, .stored, false, [80], [(20, 500)]⟩
  | .FA_SUM_MIN => ⟨0x220, 0, 1, 1, 20, 0, 0, 16, .rw, .stored, false, [512], [(64, 1023)]⟩
  | .FL_SUM_MIN => ⟨0x220, 0, 1, 1, 22, 0, 0, 16, .rw, .stored, false, [256], [(32, 1023)]⟩
  | .SEEK_COIL_MAX => ⟨0x220, 0, 1, 1, 24, 0, 0, 16, .rw, .stored, false, [256], [(16, 1024)]⟩
  | .SETTLE_NM => ⟨0x220, 0, 1, 1, 26, 0, 0, 16, .rw, .stored, false, [20], [(5, 100)]⟩
  | .SETTLE_SAMPLES => ⟨0x220, 0, 1, 1, 28, 0, 0, 16, .rw, .stored, false, [64], [(8, 1024)]⟩
  | .DEF_HOLD_US => ⟨0x220, 0, 1, 1, 30, 0, 0, 16, .rw, .stored, false, [200], [(20, 1000)]⟩
  | .WG_TE_NM => ⟨0x220, 0, 1, 1, 32, 0, 0, 16, .rw, .stored, false, [60], [(20, 160)]⟩
  | .WG_FE_NM => ⟨0x220, 0, 1, 1, 34, 0, 0, 16, .rw, .stored, false, [80], [(20, 300)]⟩
  | .WG_ACC_MG => ⟨0x220, 0, 1, 1, 36, 0, 0, 16, .rw, .stored, false, [1500], [(200, 8000)]⟩
  | .WG_QUIET_MS => ⟨0x220, 0, 1, 1, 38, 0, 0, 16, .rw, .stored, false, [5], [(1, 100)]⟩
  | .SLED_FOLLOW_UM => ⟨0x220, 0, 1, 1, 40, 0, 0, 16, .rw, .stored, false, [10], [(2, 50)]⟩
  | .FOCUS_ACQS => ⟨0x220, 0, 1, 1, 44, 0, 0, 32, .ro, .power, false, [0], []⟩
  | .FOCUS_LOSSES => ⟨0x220, 0, 1, 1, 48, 0, 0, 32, .ro, .power, false, [0], []⟩
  | .FOCUS_FAILS => ⟨0x220, 0, 1, 1, 52, 0, 0, 32, .ro, .power, false, [0], []⟩
  | .TRACK_LOSSES => ⟨0x220, 0, 1, 1, 56, 0, 0, 32, .ro, .power, false, [0], []⟩
  | .SEEKS => ⟨0x220, 0, 1, 1, 60, 0, 0, 32, .ro, .power, false, [0], []⟩
  | .SEEK_RETRIES => ⟨0x220, 0, 1, 1, 64, 0, 0, 32, .ro, .power, false, [0], []⟩
  | .LAYER_JUMPS => ⟨0x220, 0, 1, 1, 68, 0, 0, 32, .ro, .power, false, [0], []⟩
  | .JUMP_FAILS => ⟨0x220, 0, 1, 1, 72, 0, 0, 32, .ro, .power, false, [0], []⟩
  | .WG_TRIPS_TE => ⟨0x220, 0, 1, 1, 76, 0, 0, 32, .ro, .power, false, [0], []⟩
  | .WG_TRIPS_FE => ⟨0x220, 0, 1, 1, 80, 0, 0, 32, .ro, .power, false, [0], []⟩
  | .WG_TRIPS_ACC => ⟨0x220, 0, 1, 1, 84, 0, 0, 32, .ro, .power, false, [0], []⟩
  | .WG_BROKEN => ⟨0x220, 0, 1, 1, 88, 0, 0, 32, .ro, .power, false, [0], []⟩
  | .DEFECT_HOLDS => ⟨0x220, 0, 1, 1, 92, 0, 0, 32, .ro, .power, false, [0], []⟩
  | .DEFECT_OVERRUNS => ⟨0x220, 0, 1, 1, 96, 0, 0, 32, .ro, .power, false, [0], []⟩
  | .SLED_CLAMPS => ⟨0x220, 0, 1, 1, 100, 0, 0, 32, .ro, .power, false, [0], []⟩
  | .SHOCK_EVENTS => ⟨0x220, 0, 1, 1, 104, 0, 0, 32, .ro, .power, false, [0], []⟩
  | .LINKS => ⟨0x220, 0, 1, 1, 108, 0, 0, 32, .ro, .power, false, [0], []⟩
  | .ACC_STATE => ⟨0x221, 0, 1, 1, 0, 0, 0, 8, .ro, .power, false, [0], []⟩
  | .ACC_ENABLE => ⟨0x221, 0, 1, 1, 1, 0, 0, 1, .rw, .stored, false, [1], []⟩
  | .FF_ENABLE => ⟨0x221, 0, 1, 1, 1, 0, 1, 1, .rw, .stored, false, [1], []⟩
  | .ACC_TRIP => ⟨0x221, 0, 1, 1, 1, 0, 2, 1, .rw, .stored, false, [1], []⟩
  | .ACC_LSB_UG => ⟨0x221, 0, 1, 1, 2, 0, 0, 16, .rw, .stored, false, [488], [(1, 65535)]⟩
  | .ACC_READ_CMD => ⟨0x221, 0, 1, 1, 4, 0, 0, 8, .rw, .stored, false, [168], []⟩
  | .ACC_SPI_MHZ => ⟨0x221, 0, 1, 1, 5, 0, 0, 8, .rw, .stored, false, [8], [(1, 10)]⟩
  | .ACC_INIT_COUNT => ⟨0x221, 0, 1, 1, 6, 0, 0, 8, .rw, .stored, false, [0], [(0, 8)]⟩
  | .ACC_INIT => ⟨0x221, 0, 8, 8, 8, 2, 0, 16, .rw, .stored, false, [0], []⟩
  | .FF_AXIS_F => ⟨0x221, 0, 1, 1, 24, 0, 0, 2, .rw, .stored, false, [2], [(0, 2)]⟩
  | .FF_INVERT_F => ⟨0x221, 0, 1, 1, 24, 0, 2, 1, .rw, .stored, false, [0], []⟩
  | .FF_AXIS_T => ⟨0x221, 0, 1, 1, 25, 0, 0, 2, .rw, .stored, false, [0], [(0, 2)]⟩
  | .FF_INVERT_T => ⟨0x221, 0, 1, 1, 25, 0, 2, 1, .rw, .stored, false, [0], []⟩
  | .FF_GAIN_F => ⟨0x221, 0, 1, 1, 26, 0, 0, 16, .rw, .stored, true, [0], [(-30000, 30000)]⟩
  | .FF_GAIN_T => ⟨0x221, 0, 1, 1, 28, 0, 0, 16, .rw, .stored, true, [0], [(-30000, 30000)]⟩
  | .FF_DELAY_F_US => ⟨0x221, 0, 1, 1, 30, 0, 0, 16, .rw, .stored, false, [0], [(0, 500)]⟩
  | .FF_DELAY_T_US => ⟨0x221, 0, 1, 1, 32, 0, 0, 16, .rw, .stored, false, [0], [(0, 500)]⟩
  | .ACC_X_MG => ⟨0x221, 0, 1, 1, 34, 0, 0, 16, .ro, .power, true, [0], []⟩
  | .ACC_Y_MG => ⟨0x221, 0, 1, 1, 36, 0, 0, 16, .ro, .power, true, [0], []⟩
  | .ACC_Z_MG => ⟨0x221, 0, 1, 1, 38, 0, 0, 16, .ro, .power, true, [0], []⟩
  | .ACC_SAMPLES => ⟨0x221, 0, 1, 1, 40, 0, 0, 32, .ro, .power, false, [0], []⟩
  | .ACC_ERRORS => ⟨0x221, 0, 1, 1, 44, 0, 0, 32, .ro, .power, false, [0], []⟩
  | .LOOP_GAIN => ⟨0x228, 0, 3, 1, 80, 0, 0, 16, .rw, .stored, false, [256], []⟩
  | .BQ_APPLY => ⟨0x228, 0, 3, 1, 82, 0, 0, 1, .w1s, .power, false, [0], []⟩
  | .BQ_BAD_SECTION => ⟨0x228, 0, 3, 1, 84, 0, 0, 8, .ro, .power, false, [255], []⟩
  | .LAS_STATE => ⟨0x200, 0, 1, 1, 0, 0, 0, 8, .ro, .power, false, [0], []⟩
  | .APC_LOCK => ⟨0x200, 0, 1, 1, 1, 0, 0, 1, .ro, .power, false, [0], []⟩
  | .HEADROOM_LOW => ⟨0x200, 0, 1, 1, 1, 0, 1, 1, .ro, .power, false, [0], []⟩
  | .MON_FAULT => ⟨0x200, 0, 1, 1, 1, 0, 2, 1, .ro, .power, false, [0], []⟩
  | .OVERPOWER => ⟨0x200, 0, 1, 1, 1, 0, 3, 1, .ro, .power, false, [0], []⟩
  | .VFY_FAULT => ⟨0x200, 0, 1, 1, 1, 0, 4, 1, .ro, .power, false, [0], []⟩
  | .LAS_I_MAX_MA => ⟨0x200, 0, 1, 1, 2, 0, 0, 16, .rw, .stored, false, [170], [(100, 180)]⟩
  | .LAS_I_BIAS => ⟨0x200, 0, 1, 1, 4, 0, 0, 16, .ro, .power, false, [0], []⟩
  | .LAS_I_COOL => ⟨0x200, 0, 1, 1, 6, 0, 0, 16, .ro, .power, false, [0], []⟩
  | .LAS_I_PEAK => ⟨0x200, 0, 1, 1, 8, 0, 0, 16, .ro, .power, false, [0], []⟩
  | .LAS_I_OD => ⟨0x200, 0, 1, 1, 10, 0, 0, 16, .ro, .power, false, [0], []⟩
  | .SLOPE_UW_MA => ⟨0x200, 0, 1, 1, 12, 0, 0, 16, .ro, .stored, false, [0], []⟩
  | .ITH_DMA => ⟨0x200, 0, 1, 1, 14, 0, 0, 16, .ro, .stored, false, [0], []⟩
  | .VFY_BAD_ROWS_MAX => ⟨0x200, 0, 1, 1, 16, 0, 0, 8, .rw, .stored, false, [4], [(0, 16)]⟩
  | .SLIP_MAX => ⟨0x200, 0, 1, 1, 17, 0, 0, 8, .rw, .stored, false, [3], [(1, 8)]⟩
  | .VFY_SYM_MAX => ⟨0x200, 0, 1, 1, 18, 0, 0, 16, .rw, .stored, false, [2000], [(0, 3072)]⟩
  | .CL_WRITTEN => ⟨0x200, 0, 1, 1, 20, 0, 0, 32, .ro, .stored, false, [0], []⟩
  | .VFY_FAILS => ⟨0x200, 0, 1, 1, 24, 0, 0, 32, .ro, .power, false, [0], []⟩
  | .SLIPS => ⟨0x200, 0, 1, 1, 28, 0, 0, 32, .ro, .power, false, [0], []⟩
  | .SLIP_EXHAUSTED => ⟨0x200, 0, 1, 1, 32, 0, 0, 32, .ro, .stored, false, [0], []⟩
  | .HEADROOM_EVENTS => ⟨0x200, 0, 1, 1, 36, 0, 0, 32, .ro, .power, false, [0], []⟩
  | .LASER_ON_S => ⟨0x200, 0, 1, 1, 40, 0, 0, 32, .ro, .stored, false, [0], []⟩
  | .P_READ => ⟨0x201, 0, 4, 1, 0, 0, 0, 16, .rw, .stored, false, [140, 120, 110, 100], [(50, 250)]⟩
  | .P_BIAS => ⟨0x201, 0, 4, 1, 2, 0, 0, 16, .rw, .stored, false, [300, 260, 240, 220], [(0, 1000)]⟩
  | .P_COOL => ⟨0x201, 0, 4, 1, 4, 0, 0, 16, .rw, .stored, false, [20], [(0, 1000)]⟩
  | .P_PEAK => ⟨0x201, 0, 4, 1, 6, 0, 0, 16, .rw, .stored, false, [3400, 3000, 2700, 2400], [(500, 6000)]⟩
  | .P_OD => ⟨0x201, 0, 4, 1, 8, 0, 0, 16, .rw, .stored, false, [4200, 3700, 3300, 3000], [(500, 8000)]⟩
  | .OD_40THS => ⟨0x201, 0, 4, 1, 10, 0, 0, 8, .rw, .stored, false, [20], [(0, 80)]⟩
  | .DT_TOP => ⟨0x201, 0, 16, 4, 12, 4, 0, 8, .rw, .stored, true, [6, 4, 2, 0, 6, 4, 2, 0, 6, 4, 2, 0, 6, 4, 2, 0], [(-40, 40)]⟩
  | .DT_E => ⟨0x201, 0, 16, 4, 13, 4, 0, 8, .rw, .stored, true, [14, 12, 10, 8, 14, 12, 10, 8, 14, 12, 10, 8, 14, 12, 10, 8], [(-40, 40)]⟩
  | .T_COOL => ⟨0x201, 0, 16, 4, 14, 4, 0, 8, .rw, .stored, false, [30, 28, 26, 24, 30, 28, 26, 24, 30, 28, 26, 24, 30, 28, 26, 24], [(0, 120)]⟩
  | .CH_STATE => ⟨0x210, 0, 1, 1, 0, 0, 0, 8, .ro, .power, false, [0], []⟩
  | .DEFECT => ⟨0x210, 0, 1, 1, 1, 0, 0, 1, .ro, .power, false, [0], []⟩
  | .SPARE_AVAILABLE => ⟨0x210, 0, 1, 1, 1, 0, 1, 1, .ro, .stored, false, [1], []⟩
  | .LANES_WORKING => ⟨0x210, 0, 1, 1, 2, 0, 0, 8, .ro, .stored, false, [4], []⟩
  | .SHADOWED_LANE => ⟨0x210, 0, 1, 1, 3, 0, 0, 8, .ro, .power, false, [255], []⟩
  | .SH_STATE => ⟨0x210, 0, 5, 5, 4, 1, 0, 8, .ro, .stored, false, [0, 0, 0, 0, 1], []⟩
  | .ERASE_ENV_PCT => ⟨0x210, 0, 1, 1, 9, 0, 0, 8, .rw, .stored, false, [60], [(30, 90)]⟩
  | .ERASE_MIN_BITS => ⟨0x210, 0, 1, 1, 10, 0, 0, 16, .rw, .stored, false, [64], [(16, 1024)]⟩
  | .FIR_MU_SHIFT => ⟨0x210, 0, 1, 1, 12, 0, 0, 8, .rw, .stored, false, [10], [(6, 14)]⟩
  | .RETRY_REVS => ⟨0x210, 0, 1, 1, 13, 0, 0, 8, .rw, .stored, false, [2], [(1, 8)]⟩
  | .REALLOC_STEP => ⟨0x210, 0, 1, 1, 14, 0, 0, 8, .rw, .stored, false, [3], [(0, 0), (2, 6)]⟩
  | .MARGIN_ROWS => ⟨0x210, 0, 1, 1, 15, 0, 0, 8, .rw, .stored, false, [16], [(1, 32)]⟩
  | .MARGIN_COL => ⟨0x210, 0, 1, 1, 16, 0, 0, 8, .rw, .stored, false, [24], [(1, 32)]⟩
  | .LADDER_MAX_STEP => ⟨0x210, 0, 1, 1, 17, 0, 0, 8, .rw, .stored, false, [6], [(1, 6)]⟩
  | .CL_READ => ⟨0x210, 0, 1, 1, 20, 0, 0, 32, .ro, .power, false, [0], []⟩
  | .CL_RECOVERED => ⟨0x210, 0, 1, 1, 24, 0, 0, 32, .ro, .power, false, [0], []⟩
  | .CL_UNCORRECTABLE => ⟨0x210, 0, 1, 1, 28, 0, 0, 32, .ro, .power, false, [0], []⟩
  | .REALLOCS => ⟨0x210, 0, 1, 1, 32, 0, 0, 32, .ro, .stored, false, [0], []⟩
  | .REALLOC_SKIPPED => ⟨0x210, 0, 1, 1, 36, 0, 0, 32, .ro, .power, false, [0], []⟩
  | .SYS_LOW_MARGIN => ⟨0x210, 0, 1, 1, 40, 0, 0, 32, .ro, .power, false, [0], []⟩
  | .ERASED_ROWS => ⟨0x210, 0, 1, 1, 44, 0, 0, 32, .ro, .power, false, [0], []⟩
  | .SH_DISAGREE => ⟨0x210, 0, 1, 1, 48, 0, 0, 32, .ro, .stored, false, [0], []⟩
  | .SH_RETIRED => ⟨0x210, 0, 1, 1, 52, 0, 0, 32, .ro, .stored, false, [0], []⟩
  | .STEP_WINS => ⟨0x210, 1, 6, 6, 56, 4, 0, 32, .ro, .power, false, [0], []⟩
  | .ATTEMPTS_LOST => ⟨0x210, 0, 1, 1, 80, 0, 0, 32, .ro, .power, false, [0], []⟩
  | .SCRATCH_PARITY => ⟨0x210, 0, 1, 1, 84, 0, 0, 32, .ro, .power, false, [0], []⟩
  | .CAL_STATE => ⟨0x230, 0, 1, 1, 0, 0, 0, 8, .ro, .power, false, [0], []⟩
  | .TEMP_TRIGGER => ⟨0x230, 0, 1, 1, 1, 0, 0, 1, .rw, .stored, false, [1], []⟩
  | .FF_FIT => ⟨0x230, 0, 1, 1, 1, 0, 1, 1, .rw, .stored, false, [1], []⟩
  | .CAL_NOW => ⟨0x230, 0, 1, 1, 2, 0, 0, 4, .w1s, .power, false, [0], []⟩
  | .CAL_DUE => ⟨0x230, 0, 1, 1, 3, 0, 0, 8, .ro, .power, false, [255], []⟩
  | .CAL_DT_DC => ⟨0x230, 0, 1, 1, 4, 0, 0, 16, .rw, .stored, false, [50], [(10, 200)]⟩
  | .CAL_SLEW_SAMPLES => ⟨0x230, 0, 1, 1, 6, 0, 0, 16, .rw, .stored, false, [384], [(1, 65535)]⟩
  | .OPC_SYM_MAX => ⟨0x230, 0, 1, 1, 8, 0, 0, 16, .rw, .stored, false, [48], [(0, 384)]⟩
  | .OPC_MARGIN_PCT => ⟨0x230, 0, 1, 1, 10, 0, 0, 8, .rw, .stored, false, [6], [(0, 20)]⟩
  | .TEMP_NOW_DC => ⟨0x230, 0, 1, 1, 12, 0, 0, 16, .ro, .power, true, [0], []⟩
  | .CAL_RUNS => ⟨0x230, 0, 1, 1, 16, 0, 0, 32, .ro, .stored, false, [0], []⟩
  | .OPC_RUNS => ⟨0x230, 0, 1, 1, 20, 0, 0, 32, .ro, .stored, false, [0], []⟩
  | .OPC_FAILS => ⟨0x230, 0, 1, 1, 24, 0, 0, 32, .ro, .stored, false, [0], []⟩
  | .FIT_REJECTS => ⟨0x230, 0, 1, 1, 28, 0, 0, 32, .ro, .power, false, [0], []⟩
  | .FF_FITS => ⟨0x230, 0, 1, 1, 32, 0, 0, 32, .ro, .power, false, [0], []⟩
  | .CAL_DEFERRED => ⟨0x230, 0, 1, 1, 36, 0, 0, 32, .ro, .power, false, [0], []⟩
  | .READ_VALID => ⟨0x231, 0, 4, 1, 0, 0, 0, 1, .ro, .power, false, [0], []⟩
  | .OPC_VALID => ⟨0x231, 0, 4, 1, 0, 0, 1, 1, .ro, .power, false, [0], []⟩
  | .OPC_EXHAUSTED => ⟨0x231, 0, 4, 1, 0, 0, 2, 1, .ro, .power, false, [0], []⟩
  | .SEEDS_DEFAULT => ⟨0x231, 0, 4, 1, 0, 0, 3, 1, .ro, .power, false, [0], []⟩
  | .LC_FOCUS_OFS_NM => ⟨0x231, 0, 4, 1, 2, 0, 0, 16, .ro, .power, true, [0], []⟩
  | .LC_TRACK_OFS_NM => ⟨0x231, 0, 4, 1, 4, 0, 0, 16, .ro, .power, true, [0], []⟩
  | .LC_TILT_MDEG => ⟨0x231, 0, 4, 1, 6, 0, 0, 16, .ro, .power, true, [0], []⟩
  | .LC_TE_K => ⟨0x231, 0, 4, 1, 8, 0, 0, 16, .ro, .power, false, [0], []⟩
  | .LC_OPC_PEAK => ⟨0x231, 0, 4, 1, 10, 0, 0, 16, .ro, .power, false, [0], []⟩
  | .LC_NEXT_TEST => ⟨0x231, 0, 4, 1, 12, 0, 0, 32, .ro, .power, false, [0], []⟩
  | .LC_CAL_TEMP_DC => ⟨0x231, 0, 4, 1, 16, 0, 0, 16, .ro, .power, true, [0], []⟩
  | .LC_OPC_TEMP_DC => ⟨0x231, 0, 4, 1, 18, 0, 0, 16, .ro, .power, true, [0], []⟩
  | .LC_CAL_TIME => ⟨0x231, 0, 4, 1, 20, 0, 0, 64, .ro, .power, false, [0], []⟩
  | .LC_OPC_TIME => ⟨0x231, 0, 4, 1, 28, 0, 0, 64, .ro, .power, false, [0], []⟩
  | .LC_SEED => ⟨0x231, 0, 60, 15, 36, 2, 0, 12, .ro, .power, true, [0], []⟩
  | .PAR_ERRORS => ⟨0x500, 0, 1, 1, 0, 0, 0, 32, .ro, .power, false, [0], []⟩
  | .PAR_ERR => ⟨0x500, 0, 10, 10, 4, 4, 0, 32, .ro, .power, false, [0], []⟩
  | .CHECKBIT_SUSPECT => ⟨0x500, 0, 1, 1, 44, 0, 0, 32, .ro, .power, false, [0], []⟩
  | .CRC_REJECTS => ⟨0x500, 0, 1, 1, 48, 0, 0, 32, .ro, .power, false, [0], []⟩
  | .CHECKER_FAIL => ⟨0x500, 0, 1, 1, 52, 0, 0, 10, .ro, .power, false, [0], []⟩
  | .L2_WAYS => ⟨0x500, 0, 1, 1, 54, 0, 0, 8, .ro, .power, false, [16], []⟩
  | .SCRATCH_BANKS => ⟨0x500, 0, 1, 1, 55, 0, 0, 8, .ro, .power, false, [8], []⟩
  | .INTEG_UNVERIFIABLE => ⟨0x500, 0, 1, 1, 56, 0, 0, 32, .ro, .power, false, [0], []⟩
  | .LAST_INTEG_REASON => ⟨0x500, 0, 1, 1, 60, 0, 0, 8, .ro, .power, false, [0], []⟩
  | .LAST_INTEG_BLOCK => ⟨0x500, 0, 1, 1, 64, 0, 0, 64, .ro, .power, false, [0], []⟩
  | .COMMISSIONED => ⟨0x501, 0, 1, 1, 0, 0, 0, 1, .ro, .stored, false, [0], []⟩
  | .KEY_LOST => ⟨0x501, 0, 1, 1, 0, 0, 1, 1, .ro, .stored, false, [0], []⟩
  | .SIGNING_HALTED => ⟨0x501, 0, 1, 1, 0, 0, 2, 1, .ro, .stored, false, [0], []⟩
  | .ENTROPY_STATE => ⟨0x501, 0, 1, 1, 1, 0, 0, 8, .ro, .power, false, [0], []⟩
  | .ENC_MASK => ⟨0x501, 0, 1, 1, 2, 0, 0, 10, .ro, .stored, false, [0], []⟩
  | .SEC_KEY_ID => ⟨0x501, 0, 1, 1, 4, 0, 0, 256, .ro, .stored, false, [0], []⟩
  | .SIGNATURES => ⟨0x501, 0, 1, 1, 36, 0, 0, 32, .ro, .stored, false, [0], []⟩
  | .SIG_SELF_FAILS => ⟨0x501, 0, 1, 1, 40, 0, 0, 32, .ro, .stored, false, [0], []⟩
  | .SIGN_LATE => ⟨0x501, 0, 1, 1, 44, 0, 0, 32, .ro, .power, false, [0], []⟩
  | .RCT_FAILS => ⟨0x501, 0, 1, 1, 48, 0, 0, 32, .ro, .power, false, [0], []⟩
  | .APT_FAILS => ⟨0x501, 0, 1, 1, 52, 0, 0, 32, .ro, .power, false, [0], []⟩
  | .KEY_EPOCH => ⟨0x501, 0, 10, 10, 56, 4, 0, 32, .ro, .stored, false, [0], []⟩
  | .RM_MACRO => ⟨0x630, 0, 256, 16, 0, 16, 0, 8, .ro, .dash, false, [0], []⟩
  | .RM_KIND => ⟨0x630, 0, 256, 16, 1, 16, 0, 8, .ro, .dash, false, [0], []⟩
  | .RM_INDEX => ⟨0x630, 0, 256, 16, 2, 16, 0, 16, .ro, .dash, false, [0], []⟩
  | .RM_SPARE => ⟨0x630, 0, 256, 16, 4, 16, 0, 8, .ro, .dash, false, [0], []⟩
  | .RM_SOURCE => ⟨0x630, 0, 256, 16, 5, 16, 0, 8, .ro, .dash, false, [0], []⟩
  | .RM_SEQ => ⟨0x630, 0, 256, 16, 6, 16, 0, 16, .ro, .dash, false, [0], []⟩
  | .RM_TIME => ⟨0x630, 0, 256, 16, 8, 16, 0, 64, .ro, .dash, false, [0], []⟩
  | .WIN_SRAM_ENABLE => ⟨0x620, 0, 1, 1, 0, 0, 0, 1, .rw, .stored, false, [1], []⟩
  | .WIN_POOL_ENABLE => ⟨0x620, 0, 1, 1, 0, 0, 1, 1, .rw, .stored, false, [1], []⟩
  | .HEALTH_LEVEL => ⟨0x620, 0, 1, 1, 1, 0, 0, 8, .ro, .power, false, [0], []⟩
  | .WIN_SRAM_US => ⟨0x620, 0, 1, 1, 2, 0, 0, 16, .rw, .stored, false, [1000], [(100, 60000)]⟩
  | .WIN_POOL_US => ⟨0x620, 0, 1, 1, 4, 0, 0, 16, .rw, .stored, false, [200], [(50, 60000)]⟩
  | .SPARE_ROWS_LEFT => ⟨0x620, 0, 1, 1, 6, 0, 0, 16, .ro, .dash, false, [0], []⟩
  | .SPARE_COLS_LEFT => ⟨0x620, 0, 1, 1, 8, 0, 0, 16, .ro, .dash, false, [0], []⟩
  | .MACROS_NO_ROW => ⟨0x620, 0, 1, 1, 10, 0, 0, 8, .ro, .power, false, [0], []⟩
  | .MAP_FULL => ⟨0x620, 0, 1, 1, 11, 0, 0, 1, .ro, .stored, false, [0], []⟩
  | .SLOPE_PCT => ⟨0x620, 0, 1, 1, 12, 0, 0, 8, .ro, .power, false, [100], []⟩
  | .GAIN_PCT_F => ⟨0x620, 0, 1, 1, 13, 0, 0, 8, .ro, .power, false, [100], []⟩
  | .GAIN_PCT_T => ⟨0x620, 0, 1, 1, 14, 0, 0, 8, .ro, .power, false, [100], []⟩
  | .GAIN_PCT_TILT => ⟨0x620, 0, 1, 1, 15, 0, 0, 8, .ro, .power, false, [100], []⟩
  | .WINDOWS_RUN => ⟨0x620, 0, 1, 1, 16, 0, 0, 32, .ro, .power, false, [0], []⟩
  | .WIN_FAILS => ⟨0x620, 0, 1, 1, 20, 0, 0, 32, .ro, .power, false, [0], []⟩
  | .POOL_WIN_FAILS => ⟨0x620, 0, 1, 1, 24, 0, 0, 32, .ro, .power, false, [0], []⟩
  | .REPAIRS => ⟨0x620, 0, 1, 1, 28, 0, 0, 32, .ro, .stored, false, [0], []⟩
  | .INJECTIONS => ⟨0x620, 0, 1, 1, 32, 0, 0, 32, .ro, .stored, false, [0], []⟩
  | .ANALOGUE_FAILS => ⟨0x620, 0, 1, 1, 36, 0, 0, 32, .ro, .power, false, [0], []⟩
  | .MAP_USED => ⟨0x620, 0, 1, 1, 40, 0, 0, 16, .ro, .stored, false, [0], []⟩
  | .CNT_EVENT => ⟨0x600, 0, 32, 32, 0, 1, 0, 8, .ro, .stored, false, [0], []⟩
  | .CNT_MODE => ⟨0x600, 0, 32, 32, 32, 1, 0, 8, .ro, .stored, false, [0], []⟩
  | .ROD_GATE => ⟨0x600, 0, 4, 4, 64, 1, 0, 8, .rw, .stored, false, [0], []⟩
  | .CNT_CARRY => ⟨0x600, 0, 1, 1, 68, 0, 0, 32, .ro, .power, false, [0], []⟩
  | .LAST_SNAPSHOT_TIME => ⟨0x600, 0, 1, 1, 72, 0, 0, 64, .ro, .power, false, [0], []⟩
  | .DISC_SERVICE => ⟨0x602, 0, 1, 1, 0, 0, 0, 8, .ro, .power, false, [0], []⟩
  | .HLT_LEVEL => ⟨0x602, 0, 1, 1, 1, 0, 0, 8, .ro, .power, false, [0], []⟩
  | .HLT_POOL => ⟨0x602, 0, 1, 1, 2, 0, 0, 8, .ro, .power, false, [0], []⟩
  | .HLT_FATAL => ⟨0x602, 0, 1, 1, 3, 0, 0, 1, .ro, .power, false, [0], []⟩
  | .HLT_FAULT_LINE => ⟨0x602, 0, 1, 1, 3, 0, 1, 1, .ro, .power, false, [0], []⟩
  | .HLT_COMMISSIONED => ⟨0x602, 0, 1, 1, 3, 0, 2, 1, .ro, .power, false, [0], []⟩
  | .HLT_TIME_UNSET => ⟨0x602, 0, 1, 1, 3, 0, 3, 1, .ro, .power, false, [0], []⟩
  | .OOS_CODE => ⟨0x602, 0, 1, 1, 4, 0, 0, 16, .ro, .power, false, [0], []⟩
  | .PENDING_BYTES => ⟨0x602, 0, 1, 1, 8, 0, 0, 64, .ro, .power, false, [0], []⟩
  | .OLDEST_PENDING => ⟨0x602, 0, 1, 1, 16, 0, 0, 64, .ro, .power, false, [0], []⟩
  | .USER_CL_FREE => ⟨0x602, 0, 1, 1, 24, 0, 0, 32, .ro, .power, false, [0], []⟩
  | .SPARE_CL_FREE => ⟨0x602, 0, 1, 1, 28, 0, 0, 32, .ro, .power, false, [0], []⟩
  | .BBS_BANK0_FAULT => ⟨0x610, 0, 1, 1, 0, 0, 0, 1, .ro, .stored, false, [0], []⟩
  | .BBS_BANK1_FAULT => ⟨0x610, 0, 1, 1, 0, 0, 1, 1, .ro, .stored, false, [0], []⟩
  | .BBS_PINS_FULL => ⟨0x610, 0, 1, 1, 0, 0, 2, 1, .ro, .stored, false, [0], []⟩
  | .PINNED => ⟨0x610, 0, 1, 1, 1, 0, 0, 8, .ro, .stored, false, [0], []⟩
  | .BB_QUEUED => ⟨0x610, 0, 1, 1, 2, 0, 0, 16, .ro, .power, false, [0], []⟩
  | .BB_NEXT_SEQ => ⟨0x610, 0, 1, 1, 4, 0, 0, 32, .ro, .mram, false, [0], []⟩
  | .BB_OLDEST_SEQ => ⟨0x610, 0, 1, 1, 8, 0, 0, 32, .ro, .stored, false, [0], []⟩
  | .BB_DROPPED => ⟨0x610, 0, 1, 1, 12, 0, 0, 32, .ro, .stored, false, [0], []⟩
  | .BB_TORN_REPAIRED => ⟨0x610, 0, 1, 1, 16, 0, 0, 32, .ro, .stored, false, [0], []⟩
  | .BB_SUPPRESSED => ⟨0x610, 0, 1, 1, 20, 0, 0, 32, .ro, .stored, false, [0], []⟩
  | .LAST_ERASE_SEQ => ⟨0x610, 0, 1, 1, 24, 0, 0, 32, .ro, .stored, false, [0], []⟩
  | .LAST_ERASE_TIME => ⟨0x610, 0, 1, 1, 28, 0, 0, 64, .ro, .stored, false, [0], []⟩
  | .GP_FUNC => ⟨0x700, 0, 24, 24, 0, 4, 0, 8, .rwl, .stored, false, [0, 0, 1, 0, 0, 0, 3, 0, 2, 0, 0, 0, 0, 0, 0, 0, 0, 0, 0, 0, 0, 0, 0, 0], [(0, 8)]⟩
  | .GP_OUTPUT => ⟨0x700, 0, 24, 24, 1, 4, 0, 1, .rwl, .stored, false, [0], []⟩
  | .GP_OPEN_DRAIN => ⟨0x700, 0, 24, 24, 1, 4, 1, 1, .rwl, .stored, false, [0], []⟩
  | .GP_THRESH_LOW => ⟨0x700, 0, 24, 24, 1, 4, 2, 1, .rwl, .stored, false, [0], []⟩
  | .GP_HYST => ⟨0x700, 0, 24, 24, 1, 4, 3, 1, .rwl, .stored, false, [0], []⟩
  | .GP_PULL_UP => ⟨0x700, 0, 24, 24, 1, 4, 4, 1, .rwl, .stored, false, [0], []⟩
  | .GP_PULL_DOWN => ⟨0x700, 0, 24, 24, 1, 4, 5, 1, .rwl, .stored, false, [0], []⟩
  | .GPW_RISING => ⟨0x700, 0, 24, 24, 2, 4, 0, 1, .rwl, .stored, false, [0], []⟩
  | .GPW_FALLING => ⟨0x700, 0, 24, 24, 2, 4, 1, 1, .rwl, .stored, false, [0], []⟩
  | .GP_OWNER => ⟨0x700, 0, 24, 24, 3, 4, 0, 8, .ro, .dash, false, [0], []⟩
  | .GPIO_IN => ⟨0x701, 0, 1, 1, 0, 0, 0, 24, .ro, .power, false, [0], []⟩
  | .GPIO_OUT => ⟨0x701, 0, 1, 1, 4, 0, 0, 24, .rw, .power, false, [0], []⟩
  | .GPIO_UPD_MASK => ⟨0x701, 0, 1, 1, 8, 0, 0, 24, .wo, .power, false, [0], []⟩
  | .GPIO_UPD_VALUE => ⟨0x701, 0, 1, 1, 12, 0, 0, 24, .wo, .power, false, [0], []⟩
  | .GPIO_LOCK_KEY => ⟨0x701, 0, 1, 1, 16, 0, 0, 24, .wo, .power, false, [0], []⟩
  | .GPIO_LOCKED => ⟨0x701, 0, 1, 1, 20, 0, 0, 24, .ro, .power, false, [0], []⟩
  | .GP_WAKE_CAUSE => ⟨0x701, 0, 1, 1, 24, 0, 0, 8, .ro, .power, false, [0], []⟩
  | .LOCK_STEP => ⟨0x701, 0, 1, 1, 25, 0, 0, 8, .ro, .power, false, [0], []⟩
  | .GP_VIOLATIONS => ⟨0x701, 0, 1, 1, 28, 0, 0, 32, .ro, .power, false, [0], []⟩
  | .LOCK_ABORTS => ⟨0x701, 0, 1, 1, 32, 0, 0, 32, .ro, .power, false, [0], []⟩
  | .AUX_MV => ⟨0x701, 0, 6, 6, 36, 2, 0, 16, .ro, .power, false, [0], []⟩
  | .RUN_SLOT => ⟨0x800, 0, 1, 1, 0, 0, 0, 8, .ro, .dash, false, [0], []⟩
  | .NEXT_SLOT => ⟨0x800, 0, 1, 1, 1, 0, 0, 8, .ro, .stored, false, [0], []⟩
  | .A_COMPLETE => ⟨0x800, 0, 1, 1, 2, 0, 0, 1, .ro, .stored, false, [1], []⟩
  | .A_GOOD => ⟨0x800, 0, 1, 1, 2, 0, 1, 1, .ro, .stored, false, [1], []⟩
  | .B_COMPLETE => ⟨0x800, 0, 1, 1, 2, 0, 2, 1, .ro, .stored, false, [0], []⟩
  | .B_GOOD => ⟨0x800, 0, 1, 1, 2, 0, 3, 1, .ro, .stored, false, [0], []⟩
  | .GOOD_PENDING => ⟨0x800, 0, 1, 1, 2, 0, 4, 1, .ro, .stored, false, [0], []⟩
  | .FELL_BACK => ⟨0x800, 0, 1, 1, 2, 0, 5, 1, .ro, .stored, false, [0], []⟩
  | .ATTEMPTS => ⟨0x800, 0, 1, 1, 3, 0, 0, 8, .ro, .stored, false, [0], []⟩
  | .STAGED_A => ⟨0x800, 0, 1, 1, 4, 0, 0, 8, .ro, .stored, false, [2], []⟩
  | .STAGED_B => ⟨0x800, 0, 1, 1, 5, 0, 0, 8, .ro, .stored, false, [0], []⟩
  | .FW_VERSION_A => ⟨0x800, 0, 1, 1, 8, 0, 0, 32, .ro, .stored, false, [0], []⟩
  | .FW_VERSION_B => ⟨0x800, 0, 1, 1, 12, 0, 0, 32, .ro, .stored, false, [0], []⟩
  | .SET_VERSION => ⟨0x800, 0, 1, 1, 16, 0, 0, 16, .ro, .dash, false, [0], []⟩
  | .SET_SOURCE => ⟨0x800, 0, 1, 1, 18, 0, 0, 8, .ro, .dash, false, [0], []⟩
  | .SET_DEFAULTS => ⟨0x800, 0, 1, 1, 19, 0, 0, 1, .w1s, .power, false, [0], []⟩
  | .GOOD_DELAY_S => ⟨0x800, 0, 1, 1, 20, 0, 0, 16, .rw, .stored, false, [60], [(10, 3600)]⟩
  | .LAST_BOOT_MS => ⟨0x800, 0, 1, 1, 22, 0, 0, 16, .ro, .power, false, [0], []⟩
  | .BOOTS => ⟨0x800, 0, 1, 1, 24, 0, 0, 32, .ro, .stored, false, [0], []⟩
  | .FALLBACKS => ⟨0x800, 0, 1, 1, 28, 0, 0, 32, .ro, .stored, false, [0], []⟩
  | .RECOVERIES => ⟨0x800, 0, 1, 1, 32, 0, 0, 32, .ro, .stored, false, [0], []⟩
  | .RCV_SLOT => ⟨0x810, 0, 1, 1, 0, 0, 0, 8, .rw, .power, false, [0], [(0, 1)]⟩
  | .RCV_STATE => ⟨0x810, 0, 1, 1, 1, 0, 0, 8, .ro, .power, false, [0], []⟩
  | .RCV_LEN => ⟨0x810, 0, 1, 1, 2, 0, 0, 16, .rw, .power, false, [0], [(1, 240)]⟩
  | .RCV_OFFSET => ⟨0x810, 0, 1, 1, 4, 0, 0, 32, .rw, .power, false, [0], []⟩
  | .RCV_CLOSE => ⟨0x810, 0, 1, 1, 8, 0, 0, 1, .w1s, .power, false, [0], []⟩
  | .RCV_WRITTEN => ⟨0x810, 0, 1, 1, 12, 0, 0, 32, .ro, .power, false, [0], []⟩
  | .RCV_DATA => ⟨0x810, 0, 1, 1, 16, 0, 0, 1920, .rw, .power, false, [0], []⟩
  | .USTEP_T => ⟨0x111, 0, 256, 128, 0, 2, 0, 10, .rw, .stored, false, ustepDefault, []⟩
  | .CANVAL => ⟨0x338, 0, 64, 64, 0, 4, 0, 32, .ro, .power, true, [0], []⟩
  | .BEAD_VALUE => ⟨0x601, 0, 32, 32, 0, 8, 0, 48, .ro, .power, false, [0], []⟩
  | .BEAD_CARRY => ⟨0x601, 0, 32, 32, 6, 8, 0, 1, .ro, .power, false, [0], []⟩
  | .BQ_COEF => ⟨0x228, 0, 60, 20, 0, 4, 0, 24, .rw, .stored, true, [0], []⟩
  | .RMS_TRIPS => ⟨0x118, 0, 1, 1, 48, 0, 0, 32, .ro, .power, false, [0], []⟩
  | .USTEP_ACTIVE => ⟨0x20000, 0, 256, 256, 0, 64, 0, 10, .ro, .stored, false, ustepDefault, []⟩
  | .BQ_ACTIVE => ⟨0x20000, 0, 60, 60, 0, 64, 0, 24, .ro, .stored, true, [0], []⟩
  | .ACTIVE_SIZE_MIB => ⟨0x20000, 0, 10, 10, 0, 64, 0, 32, .ro, .stored, false, [0], []⟩
  | .TOFFSET_CEIL => ⟨0x20000, 0, 10, 10, 0, 64, 0, 64, .ro, .mram, false, [0], []⟩
  | .TSEQ_CEIL => ⟨0x20000, 0, 10, 10, 0, 64, 0, 32, .ro, .mram, false, [0], []⟩
  | .TOFFSET_SAVED => ⟨0x20000, 0, 10, 10, 0, 64, 0, 64, .ro, .mram, false, [0], []⟩
  | .TSEQ_SAVED => ⟨0x20000, 0, 10, 10, 0, 64, 0, 32, .ro, .mram, false, [0], []⟩
  | .TSAVED_VALID => ⟨0x20000, 0, 10, 10, 0, 64, 0, 1, .ro, .mram, false, [0], []⟩
  | .RC_SEQ_NEXT => ⟨0x20000, 0, 10, 10, 0, 64, 0, 32, .ro, .power, false, [0], []⟩
  | .GCM_COUNT => ⟨0x20000, 0, 10, 10, 0, 64, 0, 64, .ro, .mram, false, [0], []⟩
  | .WRAP_IV_COUNT => ⟨0x20000, 0, 1, 1, 0, 64, 0, 96, .ro, .mram, false, [0], []⟩
  | .HOLDUP_MRAM => ⟨0x20000, 0, 1, 1, 0, 64, 0, 32, .ro, .mram, false, [45], []⟩
  | .RETAIN_POS => ⟨0x20000, 0, 1, 1, 0, 64, 0, 32, .ro, .power, true, [0], []⟩
  | .RETAIN_VALID => ⟨0x20000, 0, 1, 1, 0, 64, 0, 1, .ro, .power, false, [0], []⟩
  | .GAIN_REF => ⟨0x20000, 0, 3, 3, 0, 64, 0, 16, .ro, .stored, false, [0], []⟩
  | .SLOPE_REF => ⟨0x20000, 0, 1, 1, 0, 64, 0, 16, .ro, .stored, false, [0], []⟩

/-- The names, part 0. -/
def RegName.part0 : List RegName :=
  [.PWR_STATE, .ENTRY_BUSY, .DISC_TURNING, .PFAIL_ACTIVE, .TIME_UNSET, .SLOW_RC, .DOZE_IDLE_MS, .NAP_IDLE_S, .HIB_IDLE_S, .DEEPEST_STATE, .HIB_ALLOW, .EXIT_DOZE_NS, .EXIT_NAP_NS, .EXIT_HIB_NS, .SPINUP_MS, .SPINDOWN_MS, .HOLDUP_MS, .HOLDUP_LOCK, .HOLDUP_UNLOCK, .RESERVE_MS, .PFAIL_COUNT, .PFAIL_OUTCOME, .PFAIL_FLUSHED, .WAKE_CAUSE, .WAKE_FROM, .WAKE_PENDING, .WAKE_ENABLE, .RTC_ALARM, .CLK_CORE, .CLK_SERVO, .CLK_CHANNEL, .CLK_MEMORY, .CLK_PCIE, .CLK_REF25, .CLK_XTAL32, .CORE_MHZ, .DS_MAGIC, .DS_IF_LEVEL, .DS_STEPPING, .READY]

/-- The names, part 1. -/
def RegName.part1 : List RegName :=
  [.FATAL, .DS_PFAIL, .BOOT_DEGRADED, .DS_PWR, .DS_HEARTBEAT, .NT_HEAD, .NT_TAIL, .NT_LOST, .DS_FATAL_CODE, .ID_MAGIC, .STEPPING, .IF_LEVEL, .ID_DEVICE, .FW_VERSION, .FW_SLOT, .BOOT_MODE, .DEVICE_SERIAL, .POOL_MIB, .NOR_MIB, .QP_MAX, .QP_DEPTH_MAX, .MSIX_VECTORS, .CTX_CACHE, .MBX_DATA_MAX, .SUBSYS_VID, .SUBSYS_ID, .LINK_SPEED, .LINK_WIDTH, .LINK_STATE, .MAX_SPEED, .FLR_COUNT, .LINK_RESETS, .BAD_ACCESS, .DB_STRAY, .AER_CORR, .AER_UNCORR, .DMA_TIMEOUTS, .H_BASE, .H_LIMIT, .H_READ]

/-- The names, part 2. -/
def RegName.part2 : List RegName :=
  [.H_WRITE, .H_APPEND, .H_VALID, .H_BOBBIN, .H_LEASE, .H_GEN, .RD_BASE, .RD_LIMIT, .RD_READ_MASK, .RD_WRITE_MASK, .RD_VALID, .POOL_MIB_MIRROR, .POOL_STATE, .POOL_CH0_TRAINED, .POOL_CH1_TRAINED, .POOL_FLUSH_MIB, .BOBBIN_AREA_MIB, .POISON_SET, .POISON_NOW, .HEDDLE_DENY, .TABLE_MISMATCHES, .LEASE_EXPIRED, .RESET_ROLLBACKS, .POOL_LOST_COUNT, .MARKS_HELD, .BB_STATE, .BOB_FULL, .BOB_MARKED_PENDING, .BOB_HOLDING, .BB_HOLDER, .BB_SIZE_MIB, .FLUSH_MARK_MIB, .FULL_POLICY, .LEASE_MS, .BB_BASE, .HEAD_OFFSET, .FLUSHED_OFFSET, .TAIL_OFFSET, .LEASE_SERIAL, .SEG_COUNT]

/-- The names, part 3. -/
def RegName.part3 : List RegName :=
  [.REC_DROPPED, .WRAP_LOST_KIB, .REVOKES, .STALE_GAPS, .CAM_STATE, .CAM_ENABLE, .CAM_ACCEPT_RTP, .CAM_GPTP_ENABLE, .UDP_PORT, .IP_ADDR, .MAC_ADDR, .VLAN_ID, .CAM_TIMEOUT_MS, .DGRAM_OK, .CAM_RX_DROPPED, .DROP_FILTER, .DROP_RANGE, .SEQ_GAPS, .CAM_STALE_COUNT, .ANNOUNCE_IGNORED, .CAM_LAST_RX_TIME, .GPTP_PDELAY_NS, .SER_STATE, .SER_ENABLE, .SER_TIME_FRAMES, .SER_TIMEOUT_MS, .BAUD, .SER_FRAMES_OK, .SER_RX_DROPPED, .DUPLICATES, .COLLISIONS, .SER_STALE_COUNT, .SER_LAST_RX_TIME, .CM_ID, .CM_IDE, .CM_MASK, .CM_START, .CM_BITS, .CM_BIG_ENDIAN, .CM_SIGNED]

/-- The names, part 4. -/
def RegName.part4 : List RegName :=
  [.CM_KIND, .CM_INDEX, .CM_MIN_GAP_MS, .CM_SCALE, .CM_OFFSET, .CM_RAW_MIN, .CM_RAW_MAX, .CAN_STATE, .CAN_ENABLE, .CAN_LISTEN_ONLY, .CAN_FD_ENABLE, .CAN_TIMEOUT_MS, .NOM_BITRATE, .DATA_BITRATE, .NOM_SAMPLE_PCT, .DATA_SAMPLE_PCT, .TEC, .REC, .CAN_FRAMES_OK, .FRAMES_UNMAPPED, .FRAMES_SUPPRESSED, .RANGE_REJECTS, .BUSOFF_COUNT, .CAN_STALE_COUNT, .CAN_LAST_RX_TIME, .CAN_RX_DROPPED, .TIME_STATE, .PPS_ENABLE, .PPS_FALLING, .NMEA_ENABLE, .UTC_OFFSET_S, .NMEA_BAUD, .PPS_COUNT, .PPS_REJECTED, .NMEA_REJECTED, .TIME_STEPS, .LAST_OFFSET_NS, .LAST_PPS_TIME, .TL_START, .TL_STOP]

/-- The names, part 5. -/
def RegName.part5 : List RegName :=
  [.TL_DEBOUNCE_MS, .TL_MAX_OPEN_S, .TL_INTERVALS, .TL_ORPHANS, .TL_STATE, .TALLY_NEXT_SEQ, .SP_STATE, .SP_SPEED_OK, .SP_CLV_ZONE, .SP_LOCKED, .SP_RPM, .SP_TARGET_RPM, .SP_DEMAND_MA, .SP_TOOTH_NS, .SLEW_US, .ADVANCE_DEG, .ILIM_MA, .ALIGN_MA, .ALIGN_MS, .RAMP_RPM_S, .BRAKE_MA, .PWM_KHZ, .TOOTH_WINDOW_PCT, .CATCH_ENABLE, .SPD_KP, .SPD_KI, .COLD_STARTS, .CATCHES, .TOOTH_REJECTS, .TOOTH_SYNTH, .DEFERRALS, .STALLS, .REVERSES, .START_FAILS, .RUN_SECONDS, .LAST_SPINUP_MS, .LAST_SPINDOWN_MS, .SPF_OVERCURRENT, .SPF_OPEN_PHASE, .SPF_VMOT_LOW]

/-- The names, part 6. -/
def RegName.part6 : List RegName :=
  [.SPF_STAGE_HOT, .SPF_NOISY_BEMF, .SL_STATE, .SL_POS_VALID, .SL_PROVISIONAL, .SL_HOME_SW, .SL_STALL_SENSE_ACTIVE, .SL_TABLE_PENDING, .STANDSTILL, .POS_MEMORY, .SLED_POS, .SL_RUN_MA, .HOLD_PCT, .FAST_16THS, .CHOP_KHZ, .TOFF_US, .HOLD_DELAY_MS, .SL_VMAX_MM_S, .SL_ACC_MM_S2, .HOME_MODE, .STALL_DEG, .SL_HOME_MM_S, .SL_MIN_USTEP, .SL_MAX_USTEP, .SL_ORIGIN_NM, .USTEP_APPLY, .USTEP_BAD_INDEX, .LOAD_ANGLE_DEG, .SL_STALLS, .HOMINGS, .HOME_FAILS, .POS_SLIPS, .SLF_OVERCURRENT, .SLF_OPEN_COIL, .SLF_STAGE_HOT, .SLF_HOME_FAIL, .CL_LIMIT_MA, .CL_RMS_MA, .CL_DEMAND, .CL_SENSE]

/-- The names, part 7. -/
def RegName.part7 : List RegName :=
  [.CL_CLIPS, .CL_OPEN, .CL_SHORT, .CL_RMS_TRIP, .LD_STATE, .IN_SW, .OUT_SW, .LD_MA, .LD_TIMEOUT_MS, .LOADS, .EJECTS, .JAMS, .CART_PULLS, .SV_STATE, .FOCUS_LOCK, .TRACK_LOCK, .GATE_PERMIT, .SHOCK_HOLD, .DEFECT_HOLD, .BQ_PENDING, .SV_LAYER, .SV_TRACK, .FE_NM, .TE_NM, .TILT_MDEG, .FA_SWEEP_MA, .FA_SWEEP_MS, .FA_SUM_MIN, .FL_SUM_MIN, .SEEK_COIL_MAX, .SETTLE_NM, .SETTLE_SAMPLES, .DEF_HOLD_US, .WG_TE_NM, .WG_FE_NM, .WG_ACC_MG, .WG_QUIET_MS, .SLED_FOLLOW_UM, .FOCUS_ACQS, .FOCUS_LOSSES]

/-- The names, part 8. -/
def RegName.part8 : List RegName :=
  [.FOCUS_FAILS, .TRACK_LOSSES, .SEEKS, .SEEK_RETRIES, .LAYER_JUMPS, .JUMP_FAILS, .WG_TRIPS_TE, .WG_TRIPS_FE, .WG_TRIPS_ACC, .WG_BROKEN, .DEFECT_HOLDS, .DEFECT_OVERRUNS, .SLED_CLAMPS, .SHOCK_EVENTS, .LINKS, .ACC_STATE, .ACC_ENABLE, .FF_ENABLE, .ACC_TRIP, .ACC_LSB_UG, .ACC_READ_CMD, .ACC_SPI_MHZ, .ACC_INIT_COUNT, .ACC_INIT, .FF_AXIS_F, .FF_INVERT_F, .FF_AXIS_T, .FF_INVERT_T, .FF_GAIN_F, .FF_GAIN_T, .FF_DELAY_F_US, .FF_DELAY_T_US, .ACC_X_MG, .ACC_Y_MG, .ACC_Z_MG, .ACC_SAMPLES, .ACC_ERRORS, .LOOP_GAIN, .BQ_APPLY, .BQ_BAD_SECTION]

/-- The names, part 9. -/
def RegName.part9 : List RegName :=
  [.LAS_STATE, .APC_LOCK, .HEADROOM_LOW, .MON_FAULT, .OVERPOWER, .VFY_FAULT, .LAS_I_MAX_MA, .LAS_I_BIAS, .LAS_I_COOL, .LAS_I_PEAK, .LAS_I_OD, .SLOPE_UW_MA, .ITH_DMA, .VFY_BAD_ROWS_MAX, .SLIP_MAX, .VFY_SYM_MAX, .CL_WRITTEN, .VFY_FAILS, .SLIPS, .SLIP_EXHAUSTED, .HEADROOM_EVENTS, .LASER_ON_S, .P_READ, .P_BIAS, .P_COOL, .P_PEAK, .P_OD, .OD_40THS, .DT_TOP, .DT_E, .T_COOL, .CH_STATE, .DEFECT, .SPARE_AVAILABLE, .LANES_WORKING, .SHADOWED_LANE, .SH_STATE, .ERASE_ENV_PCT, .ERASE_MIN_BITS, .FIR_MU_SHIFT]

/-- The names, part 10. -/
def RegName.part10 : List RegName :=
  [.RETRY_REVS, .REALLOC_STEP, .MARGIN_ROWS, .MARGIN_COL, .LADDER_MAX_STEP, .CL_READ, .CL_RECOVERED, .CL_UNCORRECTABLE, .REALLOCS, .REALLOC_SKIPPED, .SYS_LOW_MARGIN, .ERASED_ROWS, .SH_DISAGREE, .SH_RETIRED, .STEP_WINS, .ATTEMPTS_LOST, .SCRATCH_PARITY, .CAL_STATE, .TEMP_TRIGGER, .FF_FIT, .CAL_NOW, .CAL_DUE, .CAL_DT_DC, .CAL_SLEW_SAMPLES, .OPC_SYM_MAX, .OPC_MARGIN_PCT, .TEMP_NOW_DC, .CAL_RUNS, .OPC_RUNS, .OPC_FAILS, .FIT_REJECTS, .FF_FITS, .CAL_DEFERRED, .READ_VALID, .OPC_VALID, .OPC_EXHAUSTED, .SEEDS_DEFAULT, .LC_FOCUS_OFS_NM, .LC_TRACK_OFS_NM, .LC_TILT_MDEG]

/-- The names, part 11. -/
def RegName.part11 : List RegName :=
  [.LC_TE_K, .LC_OPC_PEAK, .LC_NEXT_TEST, .LC_CAL_TEMP_DC, .LC_OPC_TEMP_DC, .LC_CAL_TIME, .LC_OPC_TIME, .LC_SEED, .PAR_ERRORS, .PAR_ERR, .CHECKBIT_SUSPECT, .CRC_REJECTS, .CHECKER_FAIL, .L2_WAYS, .SCRATCH_BANKS, .INTEG_UNVERIFIABLE, .LAST_INTEG_REASON, .LAST_INTEG_BLOCK, .COMMISSIONED, .KEY_LOST, .SIGNING_HALTED, .ENTROPY_STATE, .ENC_MASK, .SEC_KEY_ID, .SIGNATURES, .SIG_SELF_FAILS, .SIGN_LATE, .RCT_FAILS, .APT_FAILS, .KEY_EPOCH, .RM_MACRO, .RM_KIND, .RM_INDEX, .RM_SPARE, .RM_SOURCE, .RM_SEQ, .RM_TIME, .WIN_SRAM_ENABLE, .WIN_POOL_ENABLE, .HEALTH_LEVEL]

/-- The names, part 12. -/
def RegName.part12 : List RegName :=
  [.WIN_SRAM_US, .WIN_POOL_US, .SPARE_ROWS_LEFT, .SPARE_COLS_LEFT, .MACROS_NO_ROW, .MAP_FULL, .SLOPE_PCT, .GAIN_PCT_F, .GAIN_PCT_T, .GAIN_PCT_TILT, .WINDOWS_RUN, .WIN_FAILS, .POOL_WIN_FAILS, .REPAIRS, .INJECTIONS, .ANALOGUE_FAILS, .MAP_USED, .CNT_EVENT, .CNT_MODE, .ROD_GATE, .CNT_CARRY, .LAST_SNAPSHOT_TIME, .DISC_SERVICE, .HLT_LEVEL, .HLT_POOL, .HLT_FATAL, .HLT_FAULT_LINE, .HLT_COMMISSIONED, .HLT_TIME_UNSET, .OOS_CODE, .PENDING_BYTES, .OLDEST_PENDING, .USER_CL_FREE, .SPARE_CL_FREE, .BBS_BANK0_FAULT, .BBS_BANK1_FAULT, .BBS_PINS_FULL, .PINNED, .BB_QUEUED, .BB_NEXT_SEQ]

/-- The names, part 13. -/
def RegName.part13 : List RegName :=
  [.BB_OLDEST_SEQ, .BB_DROPPED, .BB_TORN_REPAIRED, .BB_SUPPRESSED, .LAST_ERASE_SEQ, .LAST_ERASE_TIME, .GP_FUNC, .GP_OUTPUT, .GP_OPEN_DRAIN, .GP_THRESH_LOW, .GP_HYST, .GP_PULL_UP, .GP_PULL_DOWN, .GPW_RISING, .GPW_FALLING, .GP_OWNER, .GPIO_IN, .GPIO_OUT, .GPIO_UPD_MASK, .GPIO_UPD_VALUE, .GPIO_LOCK_KEY, .GPIO_LOCKED, .GP_WAKE_CAUSE, .LOCK_STEP, .GP_VIOLATIONS, .LOCK_ABORTS, .AUX_MV, .RUN_SLOT, .NEXT_SLOT, .A_COMPLETE, .A_GOOD, .B_COMPLETE, .B_GOOD, .GOOD_PENDING, .FELL_BACK, .ATTEMPTS, .STAGED_A, .STAGED_B, .FW_VERSION_A, .FW_VERSION_B]

/-- The names, part 14. -/
def RegName.part14 : List RegName :=
  [.SET_VERSION, .SET_SOURCE, .SET_DEFAULTS, .GOOD_DELAY_S, .LAST_BOOT_MS, .BOOTS, .FALLBACKS, .RECOVERIES, .RCV_SLOT, .RCV_STATE, .RCV_LEN, .RCV_OFFSET, .RCV_CLOSE, .RCV_WRITTEN, .RCV_DATA, .USTEP_T, .CANVAL, .BEAD_VALUE, .BEAD_CARRY, .BQ_COEF, .RMS_TRIPS, .USTEP_ACTIVE, .BQ_ACTIVE, .ACTIVE_SIZE_MIB, .TOFFSET_CEIL, .TSEQ_CEIL, .TOFFSET_SAVED, .TSEQ_SAVED, .TSAVED_VALID, .RC_SEQ_NEXT, .GCM_COUNT, .WRAP_IV_COUNT, .HOLDUP_MRAM, .RETAIN_POS, .RETAIN_VALID, .GAIN_REF, .SLOPE_REF]

/-- All names, in the order of the field maps. -/
def RegName.all : List RegName :=
  RegName.part0 ++ RegName.part1 ++ RegName.part2 ++ RegName.part3 ++ RegName.part4 ++ RegName.part5 ++ RegName.part6 ++ RegName.part7 ++ RegName.part8 ++ RegName.part9 ++ RegName.part10 ++ RegName.part11 ++ RegName.part12 ++ RegName.part13 ++ RegName.part14

/-- A register: a name and, for a repeated field, its index. -/
structure Reg where
  name : RegName
  idx : Nat
  deriving DecidableEq, Repr

/-- The value at power-on reset, by 00 R22 (`stored` and MRAM fields: the value at first boot). -/
def Reg.reset (r : Reg) : Nat :=
  match r.name.info.reset with
  | [v] => v
  | vs => vs.getD (r.idx - r.name.info.idx0) 0

end Sys2Proof.Machine
end

