-- ==== Sys2Proof/Machine/State.lean ====
section
/-! DEFINITION. The state of the K760 as plain data, the reasons a step can stop, and the state after a
power-on reset. Every register of a parameter page, of W0 and of the tables shown on pages lives in
`regs`, which lists only registers that differ from their reset value; the other fields hold what the
spec gives the machine beside its registers. -/

namespace Sys2Proof.Machine

/-- Why a step stops. -/
inductive Fault where
  /-- Raised by every meaning for an operand that names a unit the K760 does not have (a mailbox slot 4,
  a layer 7): such a command cannot exist. Safe: the machine stops. -/
  | noSuchUnit
  deriving DecidableEq, Repr

/-- Why the model has no meaning for a command. -/
inductive Refusal where
  /-- Raised by `exec` for a command whose meaning is not written. Safe: the machine stops. -/
  | notModelled (mnemonic : String)
  deriving DecidableEq, Repr

/-- Power conditions: the states of 03 Table 3.3, and the time between power-on and Run. -/
inductive PowerMode where
  | off | boot | run | doze | nap | hibernate
  deriving DecidableEq, Repr

/-- A state entry between its start and its commit point (03 R106, R857). `cmd` is the mailbox slot of
the POWER command that started it, `force` its FORCE option, `burst` whether R857 left Nap for a burst. -/
structure Entry where
  target : PowerMode
  cmd : Option Nat := none
  force : Bool := false
  burst : Bool := false
  answered : Option Nat := none
  deriving DecidableEq, Repr

/-- A power failure in progress (03 R116-R121). -/
structure PFail where
  since : Nat
  hadBlock : Bool := false
  abandoned : Bool := false
  shut : Bool := false
  flushed : Nat := 0
  spinupBy : Option Nat := none
  deriving DecidableEq, Repr

/-- Power, clocks and the warden (03, 20). -/
structure PowerS where
  mode : PowerMode := .boot
  /-- POWER TARGET 0 in force (R243). -/
  hold : Bool := false
  /-- When the idle timers last restarted, in model microseconds (R97, R108). -/
  idleFrom : Nat := 0
  entry : Option Entry := none
  /-- The state being left while an exit to Run is in progress (R107). -/
  waking : Option PowerMode := none
  /-- HIB_IDLE_S has expired since the idle timers last restarted and the entry ended in Nap (R103). -/
  hibTried : Bool := false
  pfail : Option PFail := none
  /-- The warden runs from its RC oscillator, and its measured error in ppm (R125). -/
  rcCorrection : Int := 0
  /-- When it was last measured, and how far the count has strayed, in 10^-6 us (R125). -/
  rcAt : Option Nat := none
  rcDrift : Int := 0
  /-- Consecutive good crystal seconds (R125), and whether the crystal is still to start for the first time
  since the part had power (Table 3.2). -/
  xtalGood : Nat := 0
  xtalStart : Bool := true
  /-- The device time when Run was last left: no reading falls below it (R113). -/
  fineAt : Nat := 0
  /-- Model time at which Run was last entered or left (03 R112). -/
  swapAt : Nat := 0
  /-- Failed starts of the 25 MHz reference, and whether it has failed for good (R126). -/
  refTries : Nat := 0
  refFailed : Bool := false
  /-- The RTC alarm has fired for its current value (R124). -/
  alarmFired : Bool := false
  /-- Rails and reset lines (20): warden reset released, PWR_MAIN_EN, MAIN_PGOOD, DDR_RESET_N. -/
  wardenUp : Bool := true
  pwrMainEn : Bool := false
  mainPgood : Bool := false
  ddrResetN : Bool := false
  /-- When the last rail event happened, in model microseconds (20 sequencing). -/
  railAt : Nat := 0
  /-- A wake source that fired while PFAIL_N held PWR_MAIN_EN low (20 R843). -/
  wakeLater : Option Nat := none
  /-- A rail fall that put the logic die into reset (20 R841). -/
  railFault : Bool := false
  /-- The drive die is powered (03 Table 3.3). -/
  driveDie : Bool := false
  /-- The die-to-die link is down: its retraining is still to come, or has failed (01 R42-R45). -/
  d2dDown : Bool := false
  d2dFailed : Bool := false
  deriving DecidableEq, Repr

/-- The copy of a mailbox command that the K760 acts on (04 R138), with the source that wrote GO. -/
structure MbCopy where
  opcode : Nat
  flags : Nat
  dlen : Nat
  seq : Nat
  args : List Byte
  data : List Byte
  byP8 : Bool
  order : Nat
  /-- The page a PARAM_GET asked for, as it stood when the command was accepted (06 R238). -/
  page : List Byte := []
  /-- The queue commands fetched before it was accepted (19 R788). -/
  fetched : Nat := 0
  deriving DecidableEq, Repr

/-- A mailbox response waiting for MB_COMPLETE (04 R139). -/
structure MbResp where
  status : Nat
  result : List Byte
  data : List Byte
  deriving DecidableEq, Repr

/-- A mailbox slot (04 Table 4.6): its flags, the bytes 0x040-0x3FF, the command in flight. -/
structure Slot where
  go : Bool := false
  busy : Bool := false
  done : Bool := false
  protoErr : Bool := false
  seq : Nat := 0
  mem : Mem := []
  copy : Option MbCopy := none
  resp : Option MbResp := none
  /-- A host reset discards the response (04 Table 4.10). -/
  discard : Bool := false
  /-- The order in which GO writes reached the endpoint (04 R143). -/
  goAt : Nat := 0
  deriving DecidableEq, Repr

/-- A notice (04 Table 4.8). -/
structure Notice where
  code : Nat
  sev : Nat
  seq : Nat
  time : Nat
  data : Nat
  deriving DecidableEq, Repr

/-- An MSI-X table entry (04 R154, R155). -/
structure MsixEntry where
  addr : Nat := 0
  data : Nat := 0
  masked : Bool := true
  deriving DecidableEq, Repr

/-- The host link, windows, mailboxes and notices (04). -/
structure HostS where
  slots : List Slot := [{}, {}, {}, {}]
  /-- MB_OWNER of MBX_3: 0 free, 1 host, 2 P8 (R146), and a release that waits for BUSY to clear (R147). -/
  claim : Nat := 0
  releaseDue : Bool := false
  /-- Model time of the last P8 chip-select activity (R147). -/
  p8At : Nat := 0
  /-- The bytes the last P8 read or status transaction shifted out (R148). -/
  p8Out : List Byte := []
  /-- P8 writes whose chip select woke the device from Hibernate: offset and bytes, served in Run (R150). -/
  p8Held : List (Nat × List Byte) := []
  /-- The count of GO writes accepted, which orders mailbox commands (R143). -/
  goCount : Nat := 0
  notices : Map Notice := []
  msixOn : Bool := false
  msixFnMask : Bool := false
  msix : Map MsixEntry := []
  /-- Vectors whose pending bit is set (R155). -/
  msixPending : List Nat := []
  d3hot : Bool := false
  /-- Subsystem Vendor ID and Subsystem ID of the configuration space (04 Tables 4.2, 4.13): taken over from SUBSYS_VID
  and SUBSYS_ID at a conventional reset. -/
  subsys : Nat × Nat := (Config.lueriVid % 65536, 0x0760)
  busMaster : Bool := true
  /-- A host-side reset in progress: commands discarded, commands carried on, one byte per slot (R167), 3 for a mailbox
  command whose outcome is not known yet. -/
  reset : Option (Nat × Nat × List Nat) := none
  /-- PERST# asserted; when the link left L0 without it (R164), and the speed and lanes of its last training. -/
  perst : Bool := false
  leftL0 : Option Nat := none
  trained : Nat × Nat := (0, 0)
  /-- Max_Payload_Size and Max_Read_Request_Size of the configuration space, and the base addresses of W0 and W2 (Table
  4.2, R132). -/
  maxPayload : Nat := 128
  maxRead : Nat := 512
  bars : Nat × Nat := (0, 0)
  /-- The LTR value reported; none while it is not sent (Table 4.9). -/
  ltrNs : Option Nat := some 20000
  /-- The link is in L3, which LINK_STATE shows as down (R161, Table 4.14). -/
  linkOff : Bool := false
  wakeN : Bool := false
  /-- Host memory as the device has written it. -/
  mem : Mem := []
  /-- What the host's last read of W0 or W2 returned (R133, R134, R136). -/
  readValue : Nat := 0
  /-- The service challenge not yet used (06 R252), the current unlock (R253), failed unlocks since
  power-on (Table 6.4). -/
  challenge : Option Nat := none
  unlocked : Bool := false
  failedUnlocks : Nat := 0
  /-- When the last P8 claim was released (19 R797). -/
  releasedAt : Nat := 0
  deriving DecidableEq, Repr

/-- A queue-pair context (05 Table 5.2, The context cache). -/
structure QPair where
  cls : Nat
  irq : Bool
  sqDepth : Nat
  cqDepth : Nat
  sqBase : Nat
  cqBase : Nat
  vector : Nat
  coalCount : Nat
  coalTime : Nat
  sqHead : Nat := 0
  sqTail : Nat := 0
  cqHead : Nat := 0
  cqWrite : Nat := 0
  phase : Bool := true
  /-- Entries written since the last interrupt, and when the first of them was written. -/
  coalPend : Nat := 0
  coalSince : Nat := 0
  lastTags : List Nat := []
  /-- The halt reason of Table 5.8, once halted. -/
  halted : Option Nat := none
  /-- The mailbox slot of the QP_DELETE in progress. -/
  deleting : Option Nat := none
  /-- The QP_HALTED entry has been written. -/
  haltWritten : Bool := false
  deriving DecidableEq, Repr

/-- An outstanding queue command (05 R184). -/
structure QCmd where
  qp : Nat
  tag : Nat
  opcode : Nat
  fence : Bool
  noWait : Bool
  /-- The host buffer as (address, length) ranges (R183). -/
  buf : List (Nat × Nat)
  args : List Byte
  /-- The bytes of a buffer the command reads from the host. -/
  input : List Byte
  order : Nat
  fetchedAt : Nat
  /-- Device time at the fetch (06 R261). -/
  fetchTime : Nat
  /-- The tails of the named bobbins at the fetch (06 R264): (bobbin, stream offset). -/
  tails : List (Nat × Nat) := []
  /-- It has had its start turn (R202, R205). -/
  granted : Bool := true
  started : Bool := false
  committed : Bool := false
  count : Nat := 0
  /-- The first poisoned granule a POOL_READ under way has met (06 R257). -/
  poison : Option Nat := none
  /-- The ABORTs that wait for this command's end (05 R216), as (pair, tag). -/
  abortBy : List (Nat × Nat) := []
  /-- The buffer was given as a descriptor list; a malformed one: the byte offset of the first bad descriptor, or
  0xFFFFFFFF (05 R183, R229). -/
  sgl : Bool := false
  badDesc : Option Nat := none
  /-- It has ended, with this status, result and COARSE, and its entry is still to be written (R184, R226). -/
  ended : Option (Nat × Nat × Bool) := none
  deriving DecidableEq, Repr

/-- A command whose completion entry is held while it cannot be written (05 R222, R226). -/
structure HeldCqe where
  qp : Nat
  tag : Nat
  deriving DecidableEq, Repr

/-- Queue pairs (05). -/
structure QueueS where
  pairs : Map QPair := []
  cmds : List QCmd := []
  /-- Cached contexts, most recently used first (R197, R198). -/
  cache : List Nat := []
  /-- The doorbell queue: uncached pairs rung while all cache entries are pinned (R199, R200), and the writes that flow
  control holds back while it is full, as offset and bytes. -/
  waiting : List Nat := []
  blocked : List (Nat × List Byte) := []
  orders : Nat := 0
  /-- Arbitration (R202, R203): turns used in this round per class, and the last pair served per class. -/
  turns : List Nat := [0, 0, 0, 0]
  last : List (Option Nat) := [none, none, none, none]
  held : List HeldCqe := []
  deriving DecidableEq, Repr

/-- A suppression window (17 R738). -/
structure Window where
  code : Nat
  source : Nat
  openAt : Nat
  seen : Nat
  deriving DecidableEq, Repr

/-- The black box (17): two banks of slots, the two copies of the next-sequence word in MRAM (none: its CRC-32C fails;
R741), the queue to the warden, fatal records whose agents stall, suppression windows, records accepted with both
banks failed, which only notices and the disc echo carry (R739), and the copies that a loss of the supply left
half-written (Table 17.5). -/
structure BlackBoxS where
  bank0 : Map BbRecord := []
  bank1 : Map BbRecord := []
  queue : List BbRecord := []
  stalled : List BbRecord := []
  windows : List Window := []
  word0 : Option Nat := some 0
  word1 : Option Nat := some 0
  loose : List BbRecord := []
  torn : List Nat := []
  deriving DecidableEq, Repr

/-- The bead levels as last sampled (17 R730): for each of the 32 beads, whether its level was true and
the length of the current true period. -/
structure BeadS where
  level : List Bool := List.replicate 32 false
  period : List Nat := List.replicate 32 0
  /-- When Nap was entered, and the beads whose gate was open then (R732, R734). -/
  napAt : Option Nat := none
  napOpen : List Bool := List.replicate 32 true
  deriving DecidableEq, Repr

/-- A record held in a bobbin, as the granule index and the record headers give it (07 R306, R313):
stream offset, padded length, RC_TIME, RC_SEQ, RC_FLAGS, RC_SOURCE. -/
structure Rec where
  off : Nat
  len : Nat
  time : Nat
  seq : Nat
  flags : Nat
  source : Nat
  deriving DecidableEq, Repr

/-- An event mark (06 R261, 07 R303). -/
structure Mark where
  id : Nat
  bobbins : List Nat
  start : Nat
  stop : Nat
  fetch : Nat
  reason : Nat
  deriving DecidableEq, Repr

/-- A record for bobbin 8 or 9 in the warden's always-on buffer (08 R388): RC_FLAGS, RC_SOURCE, RC_TIME. -/
structure BufRec where
  bobbin : Nat
  payload : List Byte
  flags : Nat
  source : Nat
  time : Nat
  deriving DecidableEq, Repr

/-- A port engine's health under 07 R323: in service, in reset with its loopback running, failed (with
the model time of the failure), or passed while a held SEG_CLOSE keeps the lease back. -/
inductive Engine where
  | ok | reset | failed (at' : Nat) | passed
  deriving DecidableEq, Repr

/-- The Loom (07). Lists of ten entries are indexed by bobbin. -/
structure LoomS where
  mem : Mem := []
  recs : List (List Rec) := List.replicate 10 []
  /-- Model time at which each lease expires, if one is in force. -/
  lease : List (Option Nat) := List.replicate 10 none
  /-- The reason of a SEG_CLOSE record waiting for room (R308). -/
  segHeld : List (Option Nat) := List.replicate 10 none
  engine : List Engine := List.replicate 10 .ok
  /-- Unflushed bytes freed by wrapping (R301). -/
  lost : List Nat := List.replicate 10 0
  marks : List Mark := []
  /-- The next MARK_ID, held in the always-on domain (06 R263). -/
  markNext : Nat := 0
  /-- Poisoned granules, rising, and whether every granule is (R325, R336). -/
  poison : List Nat := []
  ledger : List Nat := []
  allPoison : Bool := false
  /-- The last table mismatch: its granule and model time (R340). -/
  mismatch : Option (Nat × Nat) := none
  /-- When the pool was lost, while its one retraining is due (R337). -/
  lostAt : Option Nat := none
  /-- The pool has been given its bobbins since it was last empty (R296). -/
  formed : Bool := false
  /-- What the last crossbar read returned, and whether flagged as poison (R315, R326). -/
  readOut : List Byte := []
  /-- The parity bits that came across the crossbar with it (15 R646). -/
  readPar : List Bool := []
  readPoison : Bool := false
  /-- The warden's always-on buffer of 4 KiB for bobbins 8 and 9 (08 R388). -/
  warden : List BufRec := []
  deriving DecidableEq, Repr

/-- What a block under way is (02, 12): a data block of a bobbin, a system cluster (R72), a spare copy of a
reallocated cluster (R574). -/
inductive BlockKind where
  | data | directory | defects | echo | spare
  deriving DecidableEq, Repr

/-- A cluster as assembled (02 R64, R71; 15 R662): user bytes as recorded and the metadata. -/
structure Assembled where
  body : ClusterBody
  md : Metadata
  deriving DecidableEq, Repr

/-- A cluster encoded for its next address (15 R653-R656): its trailer, whether the signature of a
selvedge is still to come, how many signatures failed their check (R660). -/
structure Encoded where
  index : Nat
  aca : Nat
  trailer : Trailer
  ready : Bool
  sigFails : Nat := 0
  deriving DecidableEq, Repr

/-- A block being written. -/
structure Block where
  kind : BlockKind
  bobbin : Nat
  start : Nat
  stop : Nat
  id : Nat
  layer : Nat
  clusters : List Assembled
  /-- The trailers of the clusters already encoded for the first time, by CL_INDEX. -/
  trailers : List Trailer := []
  chainPrev : Nat
  selvSeq : Nat
  firstAca : Nat
  /-- The next address of the block, and the index of the cluster to be written there. -/
  nextAca : Nat
  index : Nat := 0
  /-- Attempts made at that cluster that failed verification, and whether its next copy carries
  SLIPPED. -/
  attempts : Nat := 0
  slipped : Bool := false
  hasSlips : Bool := false
  enc : Option Encoded := none
  /-- The address being written, and when its write began. -/
  writing : Option Nat := none
  writeAt : Nat := 0
  /-- Addresses burned by this block. -/
  burned : List Nat := []
  /-- An injected or scratch-parity failure makes this attempt fail (12 R584). -/
  mustFail : Bool := false
  deriving DecidableEq, Repr

/-- A session open on the cartridge (02 R72, R82). -/
structure Session where
  number : Nat
  start : Nat
  entries : List DirEntry := []
  defects : List DefectEntry := []
  closing : Bool := false
  /-- System clusters written so far in this close, per type: defect list, directory, echo. -/
  written : List Nat := [0, 0, 0]
  /-- The time of session close, once it has begun. -/
  stop : Nat := 0
  /-- Opened with the disc at rest: its start is set at the spin-up (Table 2.10). -/
  fresh : Bool := false
  /-- Found interrupted at a mount and not closed yet (R86). -/
  found : Bool := false
  deriving DecidableEq, Repr

/-- The cartridge and what the K760 knows of it (02). Lists of four are indexed by layer. -/
structure MediumS where
  /-- The cartridge in the drive, if any: the medium itself, written by the channel. -/
  cart : Option Disc := none
  mounted : Bool := false
  readOnly : Bool := false
  serial : Nat := 0
  /-- The identity body read at the mount (R72, R84). -/
  identity : Option Identity := none
  dir : List DirEntry := []
  defects : List DefectEntry := []
  session : Option Session := none
  sessionNext : Nat := 0
  nextPcn : List Nat := [0, 0, 0, 0]
  spareNext : List Nat := [327680, 327680, 327680, 327680]
  dirNext : List Nat := [1088, 1088, 1088, 1088]
  defNext : List Nat := [3136, 3136, 3136, 3136]
  echoNext : List Nat := [7232, 7232, 7232, 7232]
  /-- SYS_SEQ of the next directory, defect list and echo cluster, and the last address of each type. -/
  sysSeq : List Nat := [0, 0, 0]
  link : List Nat := [0xFFFFFFFF, 0xFFFFFFFF, 0xFFFFFFFF]
  /-- One above the last black-box sequence echoed (R82). -/
  echoed : Nat := 0
  selvNext : List Nat := [1, 1, 1, 1]
  blockNext : Nat := 1
  /-- Layers passed over (R80). -/
  closed : List Bool := [false, false, false, false]
  /-- The MRAM chain-head table (15 R657): per stream, the cartridge's serial and the chain value. -/
  heads : Map (Nat × Nat) := []
  /-- Streams whose chain head cannot be found on this cartridge (15 R658). -/
  headless : List Nat := []
  /-- A mount whose interrupted session is being closed (02 R86). -/
  mounting : Bool := false
  /-- A CARTRIDGE eject has begun (06 R271), or an unsupported medium is to be ejected (00 R1). -/
  ejecting : Bool := false
  /-- A reallocation in progress: the home address (12 R574), and whether its copy has passed. -/
  realloc : Option (Nat × Bool) := none
  deriving DecidableEq, Repr

/-- Burst control (01 R37-R41, R46). -/
structure BurstS where
  /-- A burst has blocks to write; its spin-down has not begun, whether or not it has (R39). -/
  active : Bool := false
  turning : Bool := false
  /-- Per bobbin, the stream offset up to which the burst takes it. -/
  limits : List Nat := List.replicate 10 0
  order : List Nat := []
  /-- Per bobbin, ranges past FLUSHED_OFFSET already in verified blocks or skipped. -/
  done : List (List (Nat × Nat)) := List.replicate 10 []
  block : Option Block := none
  /-- A block to be written again from CL_INDEX 0 (R80, R552). -/
  redo : Option Block := none
  exhausted : Nat := 0
  blocks : Nat := 0
  /-- The write gate. -/
  gate : Bool := false
  /-- The measured duration of the last cluster, in us (03 R117). -/
  tcl : Nat := 2750
  /-- Blocks abandoned for a signature, by model time (15 R661). -/
  sigAbandons : List Nat := []
  /-- Bobbins of triggers that came while a cartridge was being mounted (01 R39, 02 R86). -/
  kept : List Nat := []
  /-- The FLUSH commands whose triggers the burst under way has had, and whether it has had any other (05 R209). -/
  flushes : List (Nat × Nat) := []
  others : Bool := false
  /-- Consecutive clusters with no FS on V (12 R583). -/
  noFs : Nat := 0
  deriving DecidableEq, Repr

/-- The security core and its keys (15). -/
structure SecS where
  /-- The device private key, wrapped in MRAM (R667, R670). -/
  devKey : Option Nat := none
  /-- The public point of the device key, X then Y, once commissioned (R668). -/
  pub : Nat := 0
  /-- The stream key in force of each bobbin (R666). -/
  streamKeys : Map Nat := []
  /-- Keys of earlier epochs are not kept (R666); a bobbin's next block takes the key in force. -/
  coreDown : Bool := false
  /-- Model times of the entropy failures within 10 s (R676). -/
  entropyFails : List Nat := []
  deriving DecidableEq, Repr

/-- Why the spindle is in SHORT (09 Table 9.3): a stop, a start that brakes to rest first, a failed
attempt, a power failure. -/
inductive ShortWhy where
  | stop | start | retry | pfail
  deriving DecidableEq, Repr

/-- Tooth-scheduled events (09 Table 9.4). -/
inductive ToothEvent where
  | handover | brake | short | index
  deriving DecidableEq, Repr

/-- A tooth-scheduled event put off: teeth still to come, and how often it has been deferred. -/
structure Deferred where
  event : ToothEvent
  teeth : Nat
  times : Nat
  deriving DecidableEq, Repr

/-- The spindle (09). Times are in model microseconds, periods in ns. -/
structure SpindleS where
  at' : Nat := 0
  attempts : Nat := 0
  why : ShortWhy := .stop
  /-- The last accepted tooth periods, newest first, at most six (R417). -/
  periods : List Nat := []
  /-- Anomalies of the last eight teeth, newest first, and rejects since the last tooth (R420, R421). -/
  anomalies : List Nat := []
  rejects : Nat := 0
  tooth : Nat := 0
  good : Nat := 0
  rampGood : Nat := 0
  deferred : List Deferred := []
  prevReversed : Bool := false
  /-- When the last tooth was accepted, or the estimator locked (R424). -/
  acceptedAt : Nat := 0
  /-- A spin-up is under way: SPEED_OK has not been set since SENSE. -/
  starting : Bool := false
  stalls : List Nat := []
  overcurrentAt : Option Nat := none
  requestedAt : Nat := 0
  /-- Device time of the last spin-up (02 Table 2.10). -/
  upAt : Nat := 0
  brakeAt : Nat := 0
  restAt : Nat := 0
  /-- The integral of the speed error, and whether the demand brakes (R403). -/
  integral : Int := 0
  braking : Bool := false
  /-- The commutation step 0-5 and the time to the next commutation, in ns (R399, R400). -/
  step : Nat := 0
  commutateIn : Nat := 0
  /-- When the last commutation fell: its slew, and the comparator's blanking, run from then (R401, R402). -/
  commutatedAt : Option Nat := none
  /-- Time into the present PWM period, in ns, and the count of periods (R401). -/
  pwmNs : Nat := 0
  pwmCount : Nat := 0
  stopAsked : Bool := false
  /-- Settings latched at the last commutation: SLEW_US, ADVANCE_DEG, ILIM_MA, BRAKE_MA, SPD_KP, SPD_KI; and
  at the last cold start: ALIGN_MA, ALIGN_MS, RAMP_RPM_S (R404). -/
  latched : List Nat := [16, 0, 1600, 1200, 400, 200]
  coldLatched : List Nat := [800, 200, 2000]
  /-- Microseconds the stage has been driving or braking, short of a whole second. -/
  runUs : Nat := 0
  deriving DecidableEq, Repr

/-- Where a homing stands (10 R463-R465): releasing the switch, the outward move of a stall homing, the
inward move, the 10 ms wait, the move to SL_MIN_USTEP. -/
inductive Homing where
  | release | outward | inward | settle | toMin
  deriving DecidableEq, Repr

/-- The sled and the loader (10). Positions are microsteps, times model microseconds. -/
structure SledS where
  /-- The target of the move under way, and of the move to be made after homing or re-energising. -/
  target : Option Int := none
  after : Option Int := none
  homing : Option Homing := none
  tries : Nat := 0
  /-- The bridges are in the standstill mode (R451-R454), else driven. -/
  standing : Bool := true
  /-- The standstill mode of the last standstill entry: 0 HOLD, 1 FREEWHEEL, 2 SHORT (R452, R454). -/
  mode : Nat := 0
  /-- When a homing's settling or a re-energising began (R455, R465). -/
  phaseAt : Nat := 0
  /-- The position rule of POS_MEMORY in force, changed at a drive-die power-down (R458). -/
  memory : Nat := 0
  reenergise : Bool := false
  standAt : Nat := 0
  stalls : List Nat := []
  overcurrentAt : Option Nat := none
  rmsTrips : List Nat := []
  /-- A checked microstep table waits for a full-step boundary (R445). -/
  tableWaits : Bool := false
  /-- The speed along the screw in 10^-6 mm/s, outward positive, and the way past SLED_POS in 10^-6 nm (R449, R450). -/
  vel : Int := 0
  frac : Nat := 0
  /-- Where a part of a homing that has an end is to end (R463, R464, R466). -/
  homeTo : Int := 0
  /-- Both bridges are off, whatever STANDSTILL says (03 R119, 10 R460, R485). -/
  freed : Bool := false
  /-- The bridges have been in FREEWHEEL or SHORT since the rotor was last driven (R455). -/
  loose : Bool := false
  /-- Time into the present chopper period, in ns, the count of periods, and CHOP_KHZ, TOFF_US, FAST_16THS and SL_RUN_MA
  as they stood at its start (R446, R448). -/
  chopNs : Nat := 0
  chopCount : Nat := 0
  chop : List Nat := [30, 8, 6, 600]
  /-- The loader: on its second try, driving back after a timeout (R478). -/
  retry : Bool := false
  back : Bool := false
  /-- When the present travel of the loader began (R477). -/
  loaderAt : Nat := 0
  deriving DecidableEq, Repr

/-- A shock event in progress (11 R522). -/
structure Shock where
  since : Nat
  at' : Nat
  trips : Nat
  gateOpen : Bool := false
  broken : Bool := false
  focusLost : Bool := false
  trackLost : Bool := false
  aca : Nat := 0xFFFFFFFF
  peakX : Int := 0
  peakY : Int := 0
  peakZ : Int := 0
  peakTe : Nat := 0
  peakFe : Nat := 0
  deriving DecidableEq, Repr

/-- The servo sequencer (11). -/
structure ServoS where
  /-- The layer being acquired or jumped to, the track SETTLE expects, the seek that waits (R510). -/
  layer : Nat := 0
  goal : Option Nat := none
  waiting : Option (Nat × Nat) := none
  /-- The seek's own target while layer jumps run first. -/
  seek : Option (Nat × Nat) := none
  sweeps : Nat := 0
  attempts : Nat := 0
  /-- The layer that an acquisition's or a seek's layer jumps lead to, and when the present jump began (R501, R508, R509). -/
  jumpTo : Nat := 0
  jumpAt : Nat := 0
  /-- When FOLLOW was last reached (R519). -/
  followAt : Nat := 0
  shock : Option Shock := none
  /-- Model time of the last sample with a trip condition, and of clusters broken by the gate (R519). -/
  tripAt : Nat := 0
  broken : List Nat := []
  accErrors : Nat := 0
  accRun : Nat := 0
  accAt : Nat := 0
  /-- When the accelerometer was last initialised, or failed (R530). -/
  accInitAt : Nat := 0
  /-- The coils ramp to zero over 1 ms: when that begins, and the demands it begins from, in 0.1 mA (10 R473, 14 R622). -/
  coilRamp : Option (Nat × List Int) := none
  /-- Accelerometer settings latched at the servo PLL's power-up: ACC_READ_CMD, ACC_SPI_MHZ, the
  writes sent (R511, R526). -/
  accLatched : Nat × Nat × List Nat := (0xA8, 8, [])
  /-- Loops with a checked shadow waiting (R495-R497); delay lines by 16 × loop + 4 × section + (x1, x2,
  y1, y2). -/
  bqWaiting : List Nat := []
  lines : Map Int := []
  /-- Errors held over wedges and defects, and the tilt error held between wedges (R491, R492, R523). -/
  heldFe : Int := 0
  heldTe : Int := 0
  tilt : Int := 0
  /-- Tracking offset moved by the mirror fields, in 1/64 nm (R491). -/
  mirror : Int := 0
  /-- Layer, track and wedge of the last wedge passed, by its address or carried forward (02 R92). -/
  wedge : Option (Nat × Nat × Nat) := none
  defectAt : Option Nat := none
  /-- Values in force, ramping to their targets: focus, tracking and tilt offsets, balance k, feed-forward
  gains and delays of focus and tracking (13 R608), the three loop gains (16 R714); the loop samples the ramp still has to run; a ramp that
  waits for the gate to close (R609). -/
  inForce : List Int := [0, 0, 0, 0, 0, 0, 0, 0, 256, 256, 256]
  target : List Int := [0, 0, 0, 0, 0, 0, 0, 0, 256, 256, 256]
  rampLeft : Nat := 0
  rampDue : Bool := false
  /-- When the focus sweep began, and whether TE, FE and acceleration were over their trip levels at their
  last sample. -/
  sweepAt : Nat := 0
  overs : List Bool := [false, false, false]
  /-- Accelerometer history for the feed-forward delay, newest first: (x, y, z) in mg (R513). -/
  accHist : List (Int × Int × Int) := []
  deriving DecidableEq, Repr

/-- The write strategy of a layer as latched for a cluster (12 R541, R543): powers in 0.01 mW, the overdrive's length,
and DT_TOP, DT_E and T_COOL of the four classes, in 1/40 of a channel bit. -/
structure Strategy where
  pBias : Nat := 0
  pCool : Nat := 0
  pPeak : Nat := 0
  pOd : Nat := 0
  od : Nat := 0
  dtTop : List Int := [0, 0, 0, 0]
  dtE : List Int := [0, 0, 0, 0]
  tCool : List Nat := [0, 0, 0, 0]
  deriving DecidableEq, Repr

/-- What a write leaves in one segment (02 R51-R53): its track and wedge, the unit it starts at, and its channel bits,
none where unwritten. -/
structure SegmentWrite where
  track : Nat
  wedge : Nat
  unit : Nat
  cells : List (Option Bool)
  deriving DecidableEq, Repr

/-- The laser and the read channel's lanes (12). -/
structure LaserS where
  /-- The strategy the cluster in flight is written under (R543), and what its write leaves on the track. -/
  strategy : Strategy := {}
  written : List SegmentWrite := []
  /-- The currents of BIAS, COOL, PEAK and OVERDRIVE while the write gate is open, in 0.1 mA (R536, R538), and when the
  laser was last turned on (R581). -/
  levels : List Nat := [0, 0, 0, 0]
  onAt : Nat := 0
  /-- Frames given to the lanes so far, and per lane the frame it last took (R558). -/
  frames : Nat := 0
  took : List (Option Nat) := [none, none, none, none, none]
  apcTries : Nat := 0
  /-- Microseconds of laser current, short of a whole second. -/
  onUs : Nat := 0
  /-- Blocks of 2^20 frames since the start (R559), and whose output was used for the last frame with a
  disagreement: 0 neither, 1 the spare's, 2 the shadowed lane's (R560). -/
  rotations : Nat := 0
  used : Nat := 0
  /-- The lane under test, and per lane the frames at which it disagreed (R562). -/
  testing : Option Nat := none
  disagree : List (List Nat) := [[], [], [], [], []]
  deriving DecidableEq, Repr

/-- A spot's read channel (12 R554-R557, R564): the gain held since the last run-in, the loop's phase and frequency, the
15 equaliser taps, the defect detector's envelopes of the last 4,096 channel bits, newest first, how many of the last in
a row lay on the other side of its level, and its flag; the bytes that the last frame decoded to. -/
structure ChannelS where
  gain : Nat := 0
  phase : Int := 0
  freq : Int := 0
  taps : List Int := List.replicate 15 0
  envelopes : List Nat := []
  count : Nat := 0
  flag : Bool := false
  bytes : List Byte := []
  deriving DecidableEq, Repr

/-- One cluster a read needs: its BLOCK_ID, home address, address read, its CL_INDEX, and the bytes of it that the read
returns (first byte, count). -/
structure ReadPart where
  block : Nat
  home : Nat
  addr : Nat
  index : Nat
  from' : Nat
  len : Nat
  deriving DecidableEq, Repr

/-- The best copies of a cluster's rows (12 R567): rows decoded without a flag, rows decoded with one. -/
structure RowSet where
  good : List Nat := []
  flagged : List Nat := []
  deriving DecidableEq, Repr

/-- Where the read of a cluster stands: not read, failed its first read (with the retries of step 1 a parity
error has used, 12 R584), decoded, uncorrectable. -/
inductive PartState where
  | todo | failed (rows : RowSet) (used : Nat) | done | lost
  deriving DecidableEq, Repr

/-- An EXPORT or DISC_READ under way (06 R267-R270, 12 R566-R577). `step`, `tries` and `cuts` belong to the
cluster whose ladder is climbed. -/
structure ReadJob where
  qp : Nat
  tag : Nat
  entry : Option DirEntry := none
  parts : List ReadPart
  states : List PartState
  step : Nat := 1
  tries : Nat := 0
  cuts : Nat := 0
  recovered : Bool := false
  /-- Home addresses of clusters handed to reallocation. -/
  moved : List Nat := []
  begun : Bool := false
  /-- A read of a cluster is in progress, and a parity error has hit its data (R584). -/
  reading : Bool := false
  parity : Bool := false
  deriving DecidableEq, Repr

/-- Calibration (13). -/
structure CalS where
  /-- The layer and kind under way: false read calibration, true OPC. -/
  running : Option (Nat × Bool) := none
  /-- The centre P_C of the second OPC run that R604 makes due, in 0.01 mW. -/
  second : Option Nat := none
  /-- Microseconds of spindle RUN since a failed sensor last made calibration due (R614). -/
  staleUs : Nat := 0
  /-- Failed temperature sensors (R614). -/
  sensors : List Nat := []
  deferred : Bool := false
  /-- The currents of the four levels in each of the 16 steps of the last test cluster, in 0.1 mA (R601). -/
  driven : List (List Nat) := []
  deriving DecidableEq, Repr

/-- A window of a memory test that is open (16 R690-R692): the macro and region under test, or the pool granule; the save
buffer; what the march will find, and what else befalls it; when it opened; the writes that stall until it closes. -/
structure TestWindow where
  region : Option (Nat × Nat)
  granule : Nat := 0
  saved : List Byte := []
  cells : FailCells := []
  fail : Bool := false
  saveParity : Bool := false
  otherPoison : Bool := false
  openAt : Nat
  stalled : List (Nat × Nat × List Byte) := []
  deriving DecidableEq, Repr

/-- Injections armed and not yet used up (16 Table 16.4), and the self-tests under way. -/
structure SelfTestS where
  /-- When an injected die-to-die break, back-EMF blanking and defect flag end. -/
  d2dUntil : Option Nat := none
  blankUntil : Option Nat := none
  defectUntil : Option Nat := none
  /-- Ports whose lease renewal is stopped. -/
  leaseStop : List Nat := []
  spurious : Nat := 0
  laneError : List Nat := []
  laneLoopFail : List Nat := []
  /-- Parity flips not yet met: macro, byte offset, parity bit, data bit. -/
  flips : List (Nat × Nat × Bool × Nat) := []
  /-- Checker breaks for the next boot: row of Table 15.3 and byte lane. -/
  checkerBreaks : List (Nat × Nat) := []
  verifyFail : Nat := 0
  eraseFrames : Nat := 0
  trainFail : List Nat := []
  /-- Slots whose servo-affecting test waits, oldest first; the slot whose test has the drive (R704, R705). -/
  waiting : List Nat := []
  granted : Option Nat := none
  /-- Distinct pool granules that failed their window, and whether the notice was raised (R694). -/
  winFailed : List Nat := []
  poolDegraded : Bool := false
  /-- Windowed tests are off until the next boot (R721). -/
  windowsOff : Bool := false
  /-- The next structure of Table 16.2 and, per structure, its next 4 KiB region; the next pool granule (R690). -/
  nextStruct : Nat := 0
  regions : List Nat := [0, 0, 0, 0, 0, 0, 0]
  nextGranule : Nat := 0
  /-- When the last window turn of on-chip memory and of the pool was taken (R690). -/
  sramAt : Nat := 0
  poolAt : Nat := 0
  /-- The window that is open (R692). -/
  window : Option TestWindow := none
  /-- SLOPE_PCT thresholds already reported (R716). -/
  slopeWarned : List Nat := []
  deriving DecidableEq, Repr

/-- An L2 line (14 Table 14.3): its number (address / 64), its bytes, the parity bit of each (15 R646), its lock. -/
structure CacheLine where
  line : Nat
  data : List Byte
  par : List Bool
  locked : Bool := false
  deriving DecidableEq, Repr

/-- A merging-buffer entry (14 R625): its bytes by offset, their parity bits (15 R646), the last core that wrote it, whether it is closed to
merging, whether it holds bad parity (R643). -/
structure MergeEntry where
  id : Nat
  line : Nat
  bytes : Map Byte
  par : Map Bool
  core : Nat
  closed : Bool := false
  bad : Bool := false
  deriving DecidableEq, Repr

/-- A device-side read that waits for the drain of the entry it closed (14 R631). -/
structure DevRead where
  agent : Nat
  addr : Nat
  len : Nat
  id : Nat
  deriving DecidableEq, Repr

/-- A DRAIN barrier (14 R629): the core, the entries that were in use at its issue, when it was issued. -/
structure Drain where
  core : Nat
  ids : List Nat
  since : Nat
  deriving DecidableEq, Repr

/-- The range engine's operations (14 Table 14.6). -/
inductive RangeKind where
  | preload | invalidate | lock | unlock
  deriving DecidableEq, Repr

/-- The operation of the range engine under way (14 R634): the lines still to fill once their entries drain
(R630), with the lock each keeps. -/
structure RangeOp where
  kind : RangeKind
  line : Nat
  count : Nat
  skipped : Nat := 0
  fills : List (Nat × Bool) := []
  deriving DecidableEq, Repr

/-- The shared L2 and the merging buffer (14). -/
structure CacheS where
  /-- Valid ways, by 16 × set + way. -/
  l2 : Map CacheLine := []
  /-- The entries in use, oldest first. -/
  merge : List MergeEntry := []
  nextId : Nat := 0
  /-- Core writes that stall for an entry (R627): core, address, bytes. -/
  stalled : List (Nat × Nat × List Byte) := []
  reads : List DevRead := []
  drains : List Drain := []
  range : Option RangeOp := none
  /-- What the last range operation skipped (R635). -/
  skipped : Nat := 0
  /-- The ranges Tchimi keeps locked (R641): first line, count. -/
  locks : List (Nat × Nat) := []
  /-- Parity errors of the last 60 s by location (R642). -/
  hits : Map (List Nat) := []
  /-- Locations not allocated until repaired (R642). -/
  shut : List Nat := []
  /-- The core last told of a merging-buffer fault (R643). -/
  fault : Option Nat := none
  deriving DecidableEq, Repr

/-- Units out of use (15 Table 15.3, 16 R688). -/
structure UnitsS where
  ways : List Nat := []
  merge : List Nat := []
  contexts : List Nat := []
  scratch : List Nat := []
  cores : List Nat := []
  servo : Bool := false
  security : Bool := false
  pool : Bool := false
  agents : List Nat := []
  deriving DecidableEq, Repr

/-- What a port sends (08 R343, Tables 8.4 and 8.6). -/
inductive PortTx where
  | arpReply (target : Nat)
  | sync (seq : Nat)
  | followUp (seq origin : Nat)
  | announce (seq clockClass utcOffset : Nat)
  | pdelayReq (seq : Nat)
  | pdelayResp (seq t2 : Nat)
  | pdelayRespFollowUp (seq t3 : Nat)
  | serial (bytes : List Byte)
  deriving DecidableEq, Repr

/-- An answer on P5 or P6 that is due (08 R356): the sequence, the NAK reason or none for an ACK. -/
structure SerAnswer where
  /-- When the frame's last stop bit came, for a frame that did not wait in a FIFO (08 R357). -/
  from' : Option Nat := none
  seq : Nat
  nak : Option Nat
  deriving DecidableEq, Repr

/-- The last CAN frame recorded of an identifier (08 R370). -/
structure CanLast where
  data : List Byte
  time : Nat
  deriving DecidableEq, Repr

/-- What a port's receive FIFO holds (08 R357, 03 R99, R100): a datagram with its KRS sub-stream and sequence, an ARP
request, an 802.1AS message, a serial frame, a CAN frame. -/
inductive PortBody where
  | cam (payload : List Byte) (krs : Option (Nat × Nat))
  | arp (target : Nat)
  | gptp (m : GptpMsg)
  | serial (bytes : List Byte)
  | can (f : CanFrame)
  deriving DecidableEq, Repr

/-- An input held in a port's receive FIFO, with its size there and its arrival time. -/
structure PortIn where
  port : Nat
  size : Nat
  time : Nat
  coarse : Bool
  body : PortBody
  deriving DecidableEq, Repr

/-- The partner ports (08). Lists are indexed by port number, entry 0 unused. -/
structure PortS where
  /-- When the last input that counts for the timeout came, once one has (R391). -/
  lastIn : List (Option Nat) := List.replicate 8 none
  linkUp : List Bool := List.replicate 8 false
  /-- The last accepted KRS_SEQ by 16 × port + sub-stream (R347). -/
  krs : Map Nat := []
  /-- SF_SEQ and SF_CRC of the last committed DATA frame of a serial port (R359). -/
  serLast : Map (Nat × Nat) := []
  answers : Map SerAnswer := []
  /-- When each serial line last carried a frame (R360). -/
  lineAt : List Nat := List.replicate 8 0
  /-- Serial ports whose TIME frame is due (R360, R361). -/
  timeDue : List Nat := []
  /-- What each port last sent. -/
  sent : Map (List PortTx) := []
  /-- 802.1AS sequence numbers by 4 × port + kind (0 Sync, 1 Announce, 2 Pdelay_Req), and the peer-delay
  exchange under way: sequence, t1, then t2 and t4. -/
  seqs : Map Nat := []
  pdelay : Map (Nat × Nat) := []
  pdelayT : Map (Nat × Nat) := []
  canLast : Map CanLast := []
  /-- Inputs of a Nap that wait for the pool to leave self-refresh (03 R99). -/
  fifo : List PortIn := []
  /-- Ports whose next record carries STALE_GAP (07 R324). -/
  gap : List Nat := []
  /-- P7 is STALE as well as in its own state (R391, R396). -/
  canStale : Bool := false
  busOff : Bool := false
  deriving DecidableEq, Repr

/-- The time base (08 R374-R379). -/
structure TimeS where
  /-- The last accepted PPS edge: device time, model time, whether it has its label. -/
  edge : Option (Nat × Nat) := none
  labelled : Bool := false
  /-- The last label, and how many consecutive labelled edges rose by exactly 1 s (R376). -/
  label : Option Nat := none
  run : Nat := 0
  /-- Consecutive labelled edges rejected while locked (R379). -/
  bad : Nat := 0
  /-- The offset still to be slewed, in ns, and whether it is slewed at 500 ppm (R377). -/
  slew : Int := 0
  slewFull : Bool := false
  holdoverAt : Nat := 0
  deriving DecidableEq, Repr

/-- An open tally interval (08 R384, R385, R389): start time, whether COARSE, the odometer at the start. -/
structure TallyOpen where
  start : Nat
  coarse : Bool
  odo : Nat
  since : Nat
  deriving DecidableEq, Repr

/-- Pins (18). -/
structure GpioS where
  /-- The levels driven from outside, a bit per pin. -/
  ext : Nat := 0
  /-- The mask of the lock sequence under way, and when its last write came (R767). -/
  lockMask : Nat := 0
  lockAt : Nat := 0
  /-- GPIO_8 to GPIO_23 are off until Run (R761). -/
  banksOff : Bool := true
  deriving DecidableEq, Repr

/-- What a boot comes from (19 R781). -/
inductive BootFrom where
  | powerOn | master | hibernate
  deriving DecidableEq, Repr

/-- A copy of the boot control block (19 R777): its sequence, and by slot the verified chunk count, whether the image is
complete (R779), the GOOD mark and the attempt count; the next-boot slot. -/
structure ControlCopy where
  seq : Nat := 0
  staged : Nat × Nat := (0, 0)
  complete : Bool × Bool := (false, false)
  good : Bool × Bool := (false, false)
  attempts : Nat × Nat := (0, 0)
  next : Nat := 0
  deriving DecidableEq, Repr

/-- The boot control block of a part never used: slot A complete, GOOD and staged (DESIGN CHOICE, log entry 1). -/
def ControlCopy.factory : ControlCopy := { staged := (2, 0), complete := (true, false), good := (true, false) }

/-- Boot and the NOR (19): the boot control block's two copies, the slots' bytes, attempts per slot, the settings copies CURRENT and PREVIOUS
(version, values), SET_DEFAULTS pending, when READY came, a recovery image complete. -/
structure BootS where
  source : BootFrom := .powerOn
  control : ControlCopy × ControlCopy := (ControlCopy.factory, ControlCopy.factory)
  slots : List Mem := [[], []]
  attempts : List Nat := [0, 0]
  current : Option (Nat × Map Nat) := some (0, [])
  previous : Option (Nat × Map Nat) := none
  readyAt : Option Nat := none
  rcvDone : Bool := false
  /-- Granules whose write was in flight at the reset (07 R329, 14 R644) have been poisoned; the blocks of
  the drive die wait for its restart. -/
  inFlight : List Nat := []
  deriving DecidableEq, Repr

/-- The TAP (20 R830): the instruction in force, the bits last shifted out, the preloaded boundary bits. -/
structure TapS where
  instr : Nat := 1
  out : List Bool := []
  preload : List Bool := []
  bypassBit : Bool := false
  deriving DecidableEq, Repr

/-- The state of the K760. -/
structure State where
  pending : List Instr := []
  regs : Map Nat := []
  clock : Nat := 0
  time : Nat := 0
  free : Nat := 0
  pw : PowerS := {}
  host : HostS := {}
  q : QueueS := {}
  bb : BlackBoxS := {}
  bead : BeadS := {}
  lm : LoomS := {}
  md : MediumS := {}
  bu : BurstS := {}
  sec : SecS := {}
  sp : SpindleS := {}
  sl : SledS := {}
  sv : ServoS := {}
  las : LaserS := {}
  /-- The read channels of the main spot and of the verify spot. -/
  ch : ChannelS := {}
  chV : ChannelS := {}
  rd : List ReadJob := []
  cal : CalS := {}
  st : SelfTestS := {}
  ca : CacheS := {}
  un : UnitsS := {}
  pt : PortS := {}
  tb : TimeS := {}
  tally : Map TallyOpen := []
  gp : GpioS := {}
  bo : BootS := {}
  tap : TapS := {}
  deriving DecidableEq, Repr

/-- The registers that a power-on sets away from their Reset column: TIME_UNSET (03 R114) and SLOW_RC, since the
warden starts on its RC oscillator (20 Table 20.12 step 2). -/
def powerOnRegs : Map Nat :=
  Map.put (Map.put [] (RegName.TIME_UNSET.ctorIdx) 1) (RegName.SLOW_RC.ctorIdx) 1

/-- The machine right after a power-on reset: every register at the value of its Reset column (no entry
in `regs`) but for TIME_UNSET and SLOW_RC, the warden up, the main rails not yet enabled (20 R817), no command
waiting. -/
def State.reset : State := { regs := powerOnRegs }

end Sys2Proof.Machine
end

