-- ==== Sys2Proof/Machine/RegOps.lean ====
section
/-! DEFINITION. Reading and writing registers: the one home of every field of a page (00 R14-R25). -/

namespace Sys2Proof.Machine

/-- The key of entry `i` of a register in `State.regs`. -/
def regKey (n : RegName) (i : Nat) : Nat := i * 1024 + n.ctorIdx

/-- The value of entry `i` of a register in a register table: the one listed, or the reset value (00 R22). -/
def regGet (m : Map Nat) (n : RegName) (i : Nat) : Nat := (Map.get m (regKey n i)).getD (Reg.reset ⟨n, i⟩)

/-- A register table with entry `i` of a register set to `v`, cut to the register's width; a register at its reset
value is not listed. -/
def regPut (m : Map Nat) (n : RegName) (i v : Nat) : Map Nat :=
  let w := v % 2 ^ n.info.width
  if w = Reg.reset ⟨n, i⟩ then Map.erase m (regKey n i) else Map.put m (regKey n i) w

/-- The value of entry `i` of a register. -/
def State.get (s : State) (n : RegName) (i : Nat) : Nat := regGet s.regs n i

/-- The value of a register that is not repeated. -/
def State.reg (s : State) (n : RegName) : Nat := s.get n n.info.idx0

/-- Register `n`, entry `i`, set to `v`, cut to the register's width. -/
def State.put (s : State) (n : RegName) (i v : Nat) : State := { s with regs := regPut s.regs n i v }

/-- A register that is not repeated, set to `v`. -/
def State.set (s : State) (n : RegName) (v : Nat) : State := s.put n n.info.idx0 v

/-- A register that is not repeated, set to a signed value in two's complement. -/
def State.setInt (s : State) (n : RegName) (v : Int) : State := s.set n (toBits n.info.width v)

/-- The signed value of a register. -/
def State.getInt (s : State) (n : RegName) (i : Nat) : Int := ofBits n.info.width (s.get n i)

/-- Register `n`, entry `i`, raised by `k`; it holds at its largest value, as the counters of the pages
do (04 R170, 17 R748). -/
def State.add (s : State) (n : RegName) (i k : Nat) : State :=
  s.put n i (min (s.get n i + k) (2 ^ n.info.width - 1))

/-- A counter that is not repeated, raised by 1. -/
def State.bump (s : State) (n : RegName) : State := s.add n n.info.idx0 1

/-- Whether a one-bit register, or entry, is 1. -/
def State.on (s : State) (n : RegName) : Bool := s.reg n == 1

/-- Whether entry `i` of a one-bit register is 1. -/
def State.onAt (s : State) (n : RegName) (i : Nat) : Bool := s.get n i == 1

/-- The registers that differ from reset, with those whose name satisfies `p` returned to reset. -/
def State.resetRegs (s : State) (p : RegName → Bool) : State :=
  { s with regs := s.regs.filter fun e =>
      !((RegName.all.filter p).any fun n => n.ctorIdx == e.1 % 1024) }

end Sys2Proof.Machine
end

