-- ==== Sys2Proof/Machine/Flags.lean ====
section
/-! DEFINITION. What the K760 derives from its state: times and their resolution, the levels the beads
follow, the fault line. -/

namespace Sys2Proof.Machine

/-- Times in Doze and Nap, and of records the warden takes, resolve 1/32,768 s (03 R111, R112): the warden takes them
also in Hibernate and until a boot reaches Run, when the fine time base is loaded (R113). -/
def State.coarse (s : State) : Bool :=
  match s.pw.mode with
  | .doze | .nap | .hibernate | .boot => true
  | _ => false

/-- A time in microseconds cut to the warden's resolution of 1/32,768 s (03 R111). -/
def wardenTime (t : Nat) : Nat := t * 32768 / 1000000 * 1000000 / 32768

/-- The time an agent reads or stamps (03 R111): 1 us in Run, 1/32,768 s below, and never less than was read in Run
before (R113). -/
def State.now (s : State) : Nat := if s.coarse then max s.pw.fineAt (wardenTime s.time) else s.time

/-- PWR_STATE as coded in 03 Table 3.7, codes 3 and 4 included (17 R725). -/
def PowerMode.code : PowerMode → Nat
  | .run => 0
  | .doze => 1
  | .nap => 2
  | .hibernate => 3
  | .boot => 4
  | .off => 4

/-- The channel PLL runs (03 R94, Table 3.2): in Run, while the disc is read or written. -/
def State.channelOn (s : State) : Bool :=
  s.pw.mode == .run && s.on .CLK_SERVO && s.on .DISC_TURNING && s.reg .SP_STATE == 4 &&
    (s.bu.gate || (s.bu.block.any fun (k : Block) => k.writing.isSome) || (s.rd.any fun (j : ReadJob) => j.reading) ||
      s.cal.running.isSome || (!s.md.mounted && s.reg .SV_STATE == 3))

/-- The cores can serve a command: Run or Doze, with no exit to Run outstanding (03 R106, R107). -/
def State.serving (s : State) : Bool :=
  (s.pw.mode == .run || s.pw.mode == .doze) && s.pw.waking.isNone && s.on .READY
    && s.pw.pfail.isNone

/-- P0 is up: the link is trained and in L0 or L1 (03 R102). -/
def State.p0Up (s : State) : Bool := decide (1 ≤ s.reg .LINK_STATE) && decide (s.reg .LINK_STATE ≤ 4)

/-- The fault line (17 R724): asserted while any of its four conditions holds. -/
def State.faultLine (s : State) : Bool :=
  s.on .FATAL || s.reg .DISC_SERVICE == 3 || s.reg .HEALTH_LEVEL == 3 || s.pw.refFailed

/-- Bit `k` of WAKE_ENABLE (03 R109). -/
def State.wakeEnabled (s : State) (k : Nat) : Bool := bit (s.reg .WAKE_ENABLE) k

/-- Unread notices (04 R151). -/
def State.unread (s : State) : Nat := (s.reg .NT_HEAD + 64 - s.reg .NT_TAIL) % 64

/-- Severity of a code by its band (17 R722, 06 Table 6.8). -/
def severity (code : Nat) : Nat :=
  if code % 256 < 0x40 then 0 else if code % 256 < 0x80 then 1 else 2

/-- The identity that hands in a record of a code (17 R854, Table 17.2a). -/
def State.sourceOf (s : State) (code : Nat) : Nat :=
  match code / 256 with
  | 0x04 => if s.coarse then 14 else 10
  | 0x05 | 0x06 => 0x10
  | 0x07 => 13
  | 0x08 => 9
  | 0x0A => if code = Code.securityWatchdog then 10 else 14
  | 0x0B =>
    if [Code.commissioned, Code.chainHeadMissing, Code.signatureSelfFail, Code.entropyFailed,
        Code.keyLost].contains code then 12
    else if code = Code.coreDataParity then 14 else 10
  | 0x0C =>
    if [Code.repaired, Code.analogueFail, Code.repairMapLost, Code.windowsOff].contains code then 15
    else if [Code.injected, Code.healthChange].contains code then 11
    else if code = Code.ageing then 10 else 14
  | 0x0D => 14
  | 0x0F => 11
  | 0x10 => if code = Code.fwActivated then 11
            else if code = Code.bootGood ∨ code = Code.migrationFailed then 10 else 0x11
  | _ => 10

/-- CAL_STATE (13 Table 13.4): idle, read calibration, OPC, waiting under R591. -/
def State.calState (s : State) : Nat :=
  match s.cal.running with
  | some (_, false) => 1
  | some (_, true) => 2
  | none => if s.cal.deferred then 3 else 0

/-- Spare rows and columns of a macro that the repair map uses (16 R718). -/
def State.sparesUsed (s : State) (ramNo kind : Nat) : Nat :=
  ((List.range (s.reg .MAP_USED)).filter fun e =>
    s.get .RM_MACRO e == ramNo && s.get .RM_KIND e == kind).length

/-- MACROS_NO_ROW (16 R718). -/
def State.macrosNoRow (s : State) : Nat :=
  if s.reg .MAP_USED < 8 then 0 else ((List.range 96).filter fun m => 8 ≤ s.sparesUsed m 1).length

/-- A loop's gain stands more than `pct` percent from its reference (16 R715, Table 16.8). -/
def State.gainOff (s : State) (loop pct : Nat) : Bool :=
  let r := s.get .GAIN_REF loop
  let g := s.get .LOOP_GAIN loop
  r != 0 && (decide (100 * g > (100 + pct) * r) || decide (100 * g + pct * r < 100 * r))

/-- A loop's gain stands at its ±25 % bound (16 R715). -/
def State.gainBound (s : State) (loop : Nat) : Bool :=
  let r := s.get .GAIN_REF loop
  let g := s.get .LOOP_GAIN loop
  r != 0 && (decide (5 * r / 4 ≤ g) || decide (g ≤ (3 * r + 3) / 4))

/-- The health level that the state calls for (16 Table 16.8, R721; 17 R739). -/
def State.healthNow (s : State) : Nat :=
  if s.on .BOOT_DEGRADED || (s.reg .DISC_SERVICE == 3 &&
      [Code.analogueFail, Code.d2dFailed, Code.laneRetired].contains (s.reg .OOS_CODE)) then 3
  else if s.reg .LANES_WORKING ≤ 3 || s.on .MAP_FULL || decide (s.reg .SLOPE_PCT < 55) ||
      (List.range 3).any (fun l => s.gainBound l) || s.st.poolDegraded ||
      (s.on .BBS_BANK0_FAULT && s.on .BBS_BANK1_FAULT) then 2
  else if !s.on .SPARE_AVAILABLE || s.macrosNoRow != 0 || decide (192 < s.reg .MAP_USED) ||
      decide (s.reg .SLOPE_PCT < 70) || (List.range 3).any (fun l => s.gainOff l 15) || s.st.windowsOff then 1
  else 0

/-- Whether the agent that would hand in a record is powered down or held in reset (17 R854): the logic
die in Hibernate and while it is held in reset, the drive die also in Nap. -/
def State.agentDown (s : State) (source : Nat) : Bool :=
  match s.pw.mode with
  | .hibernate | .off | .boot => true
  | .nap => source == 0x10
  | _ => s.pw.railFault

end Sys2Proof.Machine
end

