-- ==== Sys2Proof/Machine/Beads.lean ====
section
/-! DEFINITION. Free draws, and the beads: what a pulse or a level of an event does to the counters (17
R730-R734). -/

namespace Sys2Proof.Machine

/-- The next free value and the state with the draw counted. -/
def State.draw (s : State) : Nat × State := (Config.freeValue s.free, { s with free := s.free + 1 })

/-- A bead raised by `k`, wrapping at 2^48 with its carry set (17 R731). -/
def State.beadAdd (s : State) (i k : Nat) : State :=
  let v := s.get .BEAD_VALUE i + k
  let s := if v ≥ 2 ^ 48 then s.put .BEAD_CARRY i 1 else s
  s.put .BEAD_VALUE i v

/-- A bead raised to `v` if that is larger; above 2^48 - 1 it holds there with its carry set (17 R731). -/
def State.beadMax (s : State) (i v : Nat) : State :=
  let s := if v ≥ 2 ^ 48 then s.put .BEAD_CARRY i 1 else s
  s.put .BEAD_VALUE i (min (2 ^ 48 - 1) (max v (s.get .BEAD_VALUE i)))

/-- Bead `i` may act: its rod's gate is 0 or the gate's level, as last sampled on the gate's beads or
held in `level`, is true (17 R732). -/
def State.gateOpen (s : State) (level : Nat → Bool) (i : Nat) : Bool :=
  s.get .ROD_GATE (i / 8) == 0 || level (s.get .ROD_GATE (i / 8))

/-- A read climbs the recovery ladder: some cluster of it has failed its first read (12 R566). -/
def State.recovering (s : State) : Bool :=
  s.rd.any fun (j : ReadJob) => j.states.any fun (p : PartState) => match p with
    | .failed _ _ => true
    | _ => false

/-- The level events of 17 Table 17.3 as the state shows them. -/
def State.level (s : State) (code : Nat) : Bool :=
  if code = Ev.dbQueueFull then s.q.waiting.length ≥ 512
  else if code = Ev.bobbinFull then (List.range 10).any fun n => s.onAt .BOB_FULL n
  else if code = Ev.stateRun then s.pw.mode == .run
  else if code = Ev.stateDoze then s.pw.mode == .doze
  else if code = Ev.stateNap then s.pw.mode == .nap
  else if code = Ev.pfailActive then s.pw.pfail.isSome
  else if code = Ev.markTableFull then decide (4096 ≤ s.lm.marks.length)
  else if code = Ev.portStale then
    (List.range 4).any (fun i => s.get .CAM_STATE (i + 1) == 3) || [5, 6].any (fun i => s.get .SER_STATE i == 3) ||
      s.reg .CAN_STATE == 4 || s.pt.canStale
  else if code = Ev.canBusOff then s.pt.busOff
  else if code = Ev.timeLocked then s.reg .TIME_STATE == 2
  else if code = Ev.spindlePowered then decide (2 ≤ s.reg .SP_STATE) && decide (s.reg .SP_STATE ≤ 6)
  else if code = Ev.speedOk then s.on .SP_SPEED_OK
  else if code = Ev.shockHold then s.on .SHOCK_HOLD
  else if code = Ev.writeGateOpen then s.bu.gate
  else if code = Ev.laserOn then s.reg .LAS_STATE == 1 || s.bu.gate
  else if code = Ev.laserWrite then s.bu.gate
  else if code = Ev.recovering then s.recovering
  else if code = Ev.mergeFullStall then !s.ca.stalled.isEmpty
  else if code = Ev.rangeEngineBusy then s.ca.range.isSome
  else if code = Ev.entropyWarmup then s.reg .ENTROPY_STATE == 0
  else if code = Ev.burstActive then s.bu.active || s.bu.turning
  else false

/-- A pulse of value `v` of an event acts on every bead set to it (17 R730, R733); none acts in Nap
(R734). -/
def State.pulse (s : State) (code : Nat) (v : Nat := 1) : State :=
  if s.pw.mode = .nap then s else
    (List.range 32).foldl (fun s i =>
      if s.get .CNT_EVENT i = code ∧ s.gateOpen s.level i = true then
        match s.get .CNT_MODE i with
        | 1 => s.beadAdd i v
        | 3 => s.beadMax i v
        | _ => s
      else s) s

end Sys2Proof.Machine
end

