-- ==== Sys2Proof/Machine/L2.lean ====
section
/-! DEFINITION. The L2 and the merging buffer in front of the pool (14 R624-R631), poison of a granule (07 R325), and the
DRAIN that goes before every completion, notice and mailbox response (R633). -/

namespace Sys2Proof.Machine

/-- Bytes in a mebibyte. -/
def mib : Nat := 1048576

/-- The size in force of bobbin `b`, in bytes (07 R296). -/
def State.bobSize (s : State) (b : Nat) : Nat := s.get .ACTIVE_SIZE_MIB b * mib

/-- A byte of a bobbin's ring that the bobbin does not hold: it lies beyond the tail (07 R307), and its place's byte of
the ring's previous pass has left. -/
def State.unheld (s : State) (a : Nat) : Bool :=
  (List.range 10).any fun b =>
    let base := s.get .BB_BASE b
    let size := s.bobSize b
    let tail := s.get .TAIL_OFFSET b
    decide (base ≤ a) && decide (a < base + size) &&
      decide (tail + (a - base + size - tail % size) % size < s.get .HEAD_OFFSET b + size)

/-- What a read from pool address `a` returns of the bytes there: never one beyond a tail (07 R307), in whose place it
returns 0 (DESIGN CHOICE, log entry 139). -/
def State.shown (s : State) (a : Nat) (bs : List Byte) : List Byte :=
  bs.zipIdx.map fun x => if s.unheld (a + x.2) then 0 else x.1

/-- The pool takes writes: trained and not lost (07 Table 7.9). -/
def State.poolUp (s : State) : Bool := s.reg .POOL_STATE == 1 || s.reg .POOL_STATE == 2

/-- A granule's poison bit (07 R325). -/
def State.poisoned (s : State) (g : Nat) : Bool := s.lm.allPoison || s.lm.poison.contains g

/-- A sorted list with `g` in it. -/
def insertSorted (g : Nat) (l : List Nat) : List Nat :=
  if l.contains g then l else l.takeWhile (· < g) ++ g :: l.dropWhile (· < g)

/-- A granule is poisoned; the ledger records it (07 R325). -/
def State.poisonGranule (s : State) (g : Nat) : State :=
  if s.poisoned g then s
  else
    ({ s with lm.poison := insertSorted g s.lm.poison, lm.ledger := insertSorted g s.lm.ledger }.bump
      .POISON_SET).pulse Ev.granulesPoisoned

/-- The parity bit of a byte (15 R646): odd, so that the byte and it together hold an odd number of ones. -/
def parityBit (b : Byte) : Bool := ((List.range 8).filter fun k => b.getLsbD k).length % 2 == 0

/-- The parity bits of bytes. -/
def parityBits (bs : List Byte) : List Bool := bs.map parityBit

/-- Bytes pass their parity check (15 R646, R647). -/
def parityGood (bs : List Byte) (ps : List Bool) : Bool := parityBits bs == ps

/-- What a read across the crossbar returns, each byte with its parity bit (07 R315, R326; 15 R646). -/
def State.readReturns (s : State) (bs : List Byte) (poison : Bool) : State :=
  { s with lm.readOut := bs, lm.readPar := parityBits bs, lm.readPoison := poison }

/-- The set of a line, by its number: address / 64 (14 R624, Table 14.3). -/
def l2Set (line : Nat) : Nat := ((line % 2048) ^^^ (line / 2048 % 2048)) ^^^ (line / 2 ^ 22 % 32)

/-- The L2 is on: at least 8 ways are in use (15 Table 15.3). -/
def State.l2On (s : State) : Bool := decide (s.un.ways.length ≤ 8)

/-- The macro, the row in it and the 4 KiB region of it that hold a place of the L2 (16 Table 16.2): way `w` lies in macros
2 w and 2 w + 1, set after set (DESIGN CHOICE, log entry 22). -/
def l2Cell (k : Nat) : Nat × Nat × Nat := (2 * (k % 16) + k / 16 / 1024, k / 16 % 1024 / 2, k / 16 % 1024 / 64)

/-- A pool granule is under test (16 R692). -/
def State.underTest (s : State) (g : Nat) : Bool := s.st.window.any fun w => w.region.isNone && w.granule == g

/-- A place of the L2 is under test (16 R692). -/
def State.placeTested (s : State) (k : Nat) : Bool :=
  s.st.window.any fun w => w.region == some ((l2Cell k).1, (l2Cell k).2.2)

/-- The place in the L2 that holds a line. -/
def State.l2Find (s : State) (line : Nat) : Option Nat :=
  ((List.range 16).map fun w => 16 * l2Set line + w).find? fun k =>
    match Map.get s.ca.l2 k with
    | none => false
    | some c => c.line == line

/-- A place of the L2 set to a line. -/
def State.l2Put (s : State) (k : Nat) (c : CacheLine) : State := { s with ca.l2 := Map.put s.ca.l2 k c }

/-- A place of the L2 made invalid. -/
def State.l2Drop (s : State) (k : Nat) : State := { s with ca.l2 := Map.erase s.ca.l2 k }

/-- The merging-buffer entries of a line, oldest first. -/
def State.entriesOf (s : State) (line : Nat) : List MergeEntry := s.ca.merge.filter fun e => e.line == line

/-- An L2 line with these bytes and good parity (15 R646). -/
def CacheLine.of (line : Nat) (data : List Byte) (locked : Bool) : CacheLine :=
  { line := line, data := data, par := parityBits data, locked := locked }

/-- A line as DRAM holds it; a poisoned granule gives zeros (07 R326). -/
def State.dramLine (s : State) (line : Nat) : List Byte :=
  if s.poisoned (line / 64) then List.replicate 64 0 else s.lm.mem.readN (64 * line) 64

/-- Bytes of a line overlaid on it. -/
def overlay (base : List Byte) (bs : Map Byte) : List Byte :=
  (List.range 64).map fun i => (Map.get bs i).getD (base.getD i 0)

/-- A line as a core reads it: that of the L2, or of DRAM, with the newest bytes of every entry (14 R628). -/
def State.coreLine (s : State) (line : Nat) : List Byte :=
  let base := match s.l2Find line with
    | none => s.dramLine line
    | some k => ((Map.get s.ca.l2 k).map (·.data)).getD []
  (s.entriesOf line).foldl (fun l e => overlay l e.bytes) base

/-- Places of a set that may be allocated: the ways in use, without locations awaiting repair (14 R642) or under test. -/
def State.l2Places (s : State) (line : Nat) : List Nat :=
  ((List.range 16).filter fun w => !s.un.ways.contains w).map (fun w => 16 * l2Set line + w) |>.filter fun k =>
    !s.ca.shut.contains k && !s.placeTested k

/-- A place holds an unlocked line. -/
def State.l2Open (s : State) (k : Nat) : Bool :=
  match Map.get s.ca.l2 k with
  | none => false
  | some c => !c.locked

/-- A line is filled from DRAM: into an invalid way, else in place of an unlocked one; which of those the pseudo-LRU
picks is a free value (14 Table 14.3; log entry 25). -/
def State.l2Fill (s : State) (line : Nat) (locked : Bool) : State :=
  if !s.l2On || (s.l2Find line).isSome then s
  else
    let c := CacheLine.of line (s.dramLine line) locked
    let ks := s.l2Places line
    match ks.find? fun k => !Map.has s.ca.l2 k with
    | some k => s.l2Put k c
    | none =>
      match ks.filter s.l2Open with
      | [] => s
      | k :: rest =>
        let (v, s) := s.draw
        (s.l2Put ((k :: rest).getD (v % (rest.length + 1)) k) c).pulse Ev.l2Evictions

/-- Entries of the merging buffer in use at most (14 R625, 15 Table 15.3). -/
def State.mergeRoom (s : State) : Nat := 32 - s.un.merge.length

/-- Bytes as a map by their offset in the line. -/
def bytesFrom (o : Nat) (m : Map Byte) : List Byte → Map Byte
  | [] => m
  | b :: bs => bytesFrom (o + 1) (Map.put m o b) bs

/-- The parity bits of written bytes, by offset (15 R646). -/
def parityFrom (m : Map Bool) (bs : Map Byte) : Map Bool := bs.foldl (fun m b => Map.put m b.1 (parityBit b.2)) m

/-- An L2 line with bytes written over it, each with its parity bit. -/
def CacheLine.written (c : CacheLine) (bs : Map Byte) : CacheLine :=
  { c with data := overlay c.data bs,
           par := (List.range 64).map fun i => ((Map.get bs i).map parityBit).getD (c.par.getD i false) }

/-- A core write reaches the merging buffer and, on a hit, the L2 (14 R625, R626, Table 14.3); none where no entry is
free and no open one has the line (R627), or where the line lies in a region under test (16 R692). -/
def State.mergeTake (s : State) (core addr : Nat) (bs : List Byte) : Option State :=
  let line := addr / 64
  let hit (s : State) : State :=
    match s.l2Find line with
    | none => s
    | some k => match Map.get s.ca.l2 k with
      | none => s
      | some c => s.l2Put k (c.written (bytesFrom (addr % 64) [] bs))
  let full (e : MergeEntry) : MergeEntry := { e with closed := e.closed || e.bytes.length == 64 }
  let new := bytesFrom (addr % 64) [] bs
  if (s.l2Find line).any s.placeTested then none
  else match s.ca.merge.find? fun e => e.line == line && !e.closed with
  | some e =>
    let e' := full { e with bytes := bytesFrom (addr % 64) e.bytes bs, par := parityFrom e.par new, core := core }
    some (hit { s with ca.merge := s.ca.merge.map fun (x : MergeEntry) => if x.id == e.id then e' else x })
  | none =>
    if s.ca.merge.length < s.mergeRoom then
      let e := full { id := s.ca.nextId, line := line, bytes := new, par := parityFrom [] new, core := core }
      some (hit { s with ca.merge := s.ca.merge ++ [e], ca.nextId := s.ca.nextId + 1 })
    else none

/-- Stalled writes go on, oldest first, until one must still wait. -/
def State.unstall (s : State) : List (Nat × Nat × List Byte) → State
  | [] => { s with ca.stalled := [] }
  | w :: ws =>
    match s.mergeTake w.1 w.2.1 w.2.2 with
    | some t => t.unstall ws
    | none => { s with ca.stalled := w :: ws }

/-- Reads that waited for an entry's drain return (14 R631). -/
def State.readsReturn (s : State) (id : Nat) : State :=
  let done := s.ca.reads.filter fun (r : DevRead) => r.id == id
  let s : State := { s with ca.reads := s.ca.reads.filter fun (r : DevRead) => r.id != id }
  done.foldl (fun s r =>
    s.readReturns (s.shown r.addr (bytesAt (s.dramLine (r.addr / 64)) (r.addr % 64) r.len))
      (s.poisoned (r.addr / 4096))) s

/-- DRAIN barriers lose the entry that has drained; those left with none are complete (14 R629). -/
def State.drainsPass (s : State) (id : Nat) : State :=
  { s with ca.drains := (s.ca.drains.map fun (d : Drain) => { d with ids := d.ids.erase id }).filter fun d =>
      !d.ids.isEmpty }

/-- A line is refilled from DRAM in place. -/
def State.l2Refill (s : State) (line : Nat) : State :=
  match s.l2Find line with
  | none => s
  | some k => match Map.get s.ca.l2 k with
    | none => s
    | some c => s.l2Put k (.of line (s.dramLine line) c.locked)

/-- Fills of the range engine whose entries have drained are made (14 R630, R634). -/
def State.rangeFills (s : State) : State :=
  match s.ca.range with
  | none => s
  | some r =>
    let ready := r.fills.filter fun (f : Nat × Bool) => (s.entriesOf f.1).isEmpty
    let left := r.fills.filter fun (f : Nat × Bool) => !(s.entriesOf f.1).isEmpty
    let s : State := { s with ca.range := some { r with fills := left } }
    ready.foldl (fun s f => if (s.l2Find f.1).isSome then s.l2Refill f.1 else s.l2Fill f.1 f.2) s

/-- The line is resident and locked. -/
def State.isLocked (s : State) (line : Nat) : Bool :=
  match (s.l2Find line).bind fun k => Map.get s.ca.l2 k with
  | none => false
  | some c => c.locked

/-- The oldest entry drains to DRAM (14 R626, R643); one with bad parity poisons its granule. Reads, barriers, stalled
writes and fills that waited for it go on. -/
def State.drainOldest (s : State) : State :=
  match s.ca.merge with
  | [] => s
  | e :: rest =>
    let s : State := { s with ca.merge := rest }
    let s : State := if s.poolUp then
        { s with lm.mem := e.bytes.foldl (fun (m : Mem) b => m.write (64 * e.line + b.1) b.2) s.lm.mem }
      else s
    let s := if e.bad && s.poolUp then s.poisonGranule (e.line / 64) else s
    let s := (s.readsReturn e.id).drainsPass e.id
    (s.unstall s.ca.stalled).rangeFills

/-- The `n` oldest entries drain, one at a time. -/
def State.drainOld (s : State) : Nat → State
  | 0 => s
  | n + 1 => s.drainOldest.drainOld n

/-- The DRAIN that goes before every completion, notice and mailbox response (14 R629, R633): every entry in use at its
issue drains. The model lets it complete within the step that writes what it goes before (DESIGN CHOICE, log entry 138). -/
def State.drainFirst (s : State) : State := (s.pulse Ev.drains).drainOld s.ca.merge.length

/-- A line is invalidated as a range operation does it (14 Table 14.6, R630): an unlocked one is dropped; a locked one is
refilled and stays locked. -/
def State.l2Invalidate (s : State) (line : Nat) : State :=
  if s.isLocked line then s.l2Refill line
  else match s.l2Find line with
    | none => s
    | some k => s.l2Drop k

/-- The lines of `n` bytes from a pool address are invalidated (14 R632, R633). -/
def State.invalidateBytes (s : State) (addr n : Nat) : State :=
  (List.range ((addr + n + 63) / 64 - addr / 64)).foldl (fun s i => s.l2Invalidate (addr / 64 + i)) s

end Sys2Proof.Machine
end

