-- ==== Sys2Proof/Machine/Ops.lean ====
section
/-! DEFINITION. The named operations every family shares: notices and MSI-X, black-box
reports, host memory, waking and idle timers, mailbox answers. -/

namespace Sys2Proof.Machine

/-- Host memory written from `a`: nothing goes out until the host enables bus mastering (04 Table 4.10). -/
def State.hostWrite (s : State) (a : Nat) (bs : List Byte) : State :=
  if s.host.busMaster then { s with host.mem := s.host.mem.writeN a bs } else s

/-- The MSI-X message of a vector (04 R155): sent when enabled and unmasked, else held as a pending bit;
none while MSI-X is disabled. In D3hot the function issues no request, so the message stays pending. -/
def State.msixSend (s : State) (v : Nat) : State :=
  if !s.host.msixOn then s
  else
    let e := (Map.get s.host.msix v).getD {}
    if s.host.msixFnMask || e.masked || s.host.d3hot || !s.host.busMaster then
      if s.host.msixPending.contains v then s
      else { s with host.msixPending := s.host.msixPending ++ [v] }
    else (s.hostWrite e.addr (leBytes 4 e.data)).pulse Ev.msixMessages

/-- Messages whose pending bit is set and that can go out now are sent; while MSI-X is disabled none is (04 R155). -/
def State.msixFlush (s : State) : State :=
  if !s.host.msixOn then s
  else
    let vs := s.host.msixPending
    vs.foldl (fun s v => s.msixSend v) { s with host.msixPending := [] }

/-- A notice is written at NT_HEAD, NT_HEAD advances and vector 0 is sent; a non-fatal notice needs
fewer than 56 unread entries, a fatal one fewer than 63, or it is dropped and counted (04 R151, R152).
With the link in L2 WAKE_N is asserted (R163). -/
def State.notice (s : State) (n : Notice) : State :=
  let limit := if n.sev = 2 then 63 else 56
  let s := if s.reg .LINK_STATE = 5 then { s with host.wakeN := true } else s
  if s.unread < limit then
    let h := s.reg .NT_HEAD
    (({ s with host.notices := Map.put s.host.notices h n }).set .NT_HEAD (h + 1)).msixSend 0
  else (s.bump .NT_LOST).pulse Ev.noticesLost

/-- A notice that Tchimi posts: its DRAIN goes before it (14 R633). -/
def State.noticeDrained (s : State) (n : Notice) : State := s.drainFirst.notice n

/-- NT_DATA and record data bytes 0-15 (17 R725). -/
def data16 (obj val second : Nat) : Nat :=
  obj % 2 ^ 32 + (val % 2 ^ 32) * 2 ^ 32 + (second % 2 ^ 64) * 2 ^ 64

/-- The 32 data bytes of a record: object, values, and each block's state as its page would read; a block that is powered
down gives its rest value, and the sled then the position RETAIN holds (17 R725). The spindle, the servo and the channel
are off below Run, the cores and the drive die below Doze (03 Table 3.3). -/
def State.recordData (s : State) (obj val second : Nat) : Nat :=
  let up := s.pw.mode == .run && !s.pw.railFault
  let core := up || (s.pw.mode == .doze && !s.pw.railFault)
  let b (n : RegName) (rest : Nat) := if up then s.reg n else rest
  let sled := if core then (if s.on .SL_POS_VALID then s.reg .SLED_POS else 0)
    else if s.on .RETAIN_VALID then s.reg .RETAIN_POS else 0
  leNat (leBytes 16 (data16 obj val second) ++ leBytes 1 s.pw.mode.code
    ++ leBytes 1 (b .SP_STATE 0) ++ leBytes 1 (b .SV_STATE 0) ++ leBytes 1 (s.reg .LD_STATE)
    ++ leBytes 1 (b .SV_LAYER 0xFF) ++ leBytes 1 (if core then s.calState else 0) ++ leBytes 2 (s.reg .TEMP_NOW_DC)
    ++ leBytes 4 sled)

/-- A record as an agent hands it to the warden (17 R736, R737): no sequence yet. -/
def State.record (s : State) (code source data : Nat) (injected : Bool) : BbRecord :=
  { seq := 0, time := s.now, code := code, source := source, sev := severity code,
    flags := b2n s.coarse + 2 * b2n (s.on .TIME_UNSET) + 8 * b2n injected,
    boot := s.reg .BOOTS, data := data }

/-- A record joins the queue to the warden (17 R738): the last 4 of its 32 entries are for fatal records;
a fatal record that finds none free stalls its agent; another is dropped and counted, its notice posted
with NT_SEQ 0 by the agent itself, which no command's core writes go before (14 R633; log entry 138). -/
def State.queueRecord (s : State) (r : BbRecord) : State :=
  if r.sev = 2 then
    if s.bb.queue.length < 32 then { s with bb.queue := s.bb.queue ++ [r] }
    else { s with bb.stalled := s.bb.stalled ++ [r] }
  else if s.bb.queue.length < 28 then { s with bb.queue := s.bb.queue ++ [r] }
  else
    let s := (s.bump .BB_DROPPED).pulse Ev.bbDropped
    if Code.noticed.contains r.code then
      s.notice { code := r.code, sev := r.sev, seq := 0, time := r.time, data := r.data % 2 ^ 128 }
    else s

/-- A code is reported (17 R723-R726, R854): a fatal one sets FATAL, and DS_FATAL_CODE if it is the first
(04 R173); one with B among its reporters queues a record, whose notice follows it (R737). -/
def State.reportFull (s : State) (code data source : Nat) (injected : Bool := false) : State :=
  let s := if severity code = 2 ∧ s.on .FATAL = false then
      (s.set .FATAL 1).set .DS_FATAL_CODE code else s
  if Code.recorded.contains code then
    s.queueRecord (s.record code (if source ≠ 0x11 ∧ s.agentDown source = true then 14 else source)
      data injected)
  else s

/-- A code is reported with its object, value and second value, by the agent of Table 17.2a. -/
def State.report (s : State) (code : Nat) (obj : Nat := 0xFFFFFFFF) (val : Nat := 0)
    (second : Nat := 0) : State :=
  s.reportFull code (s.recordData obj val second) (s.sourceOf code)

/-- A code is reported by the boot ROM (17 R854). -/
def State.reportBoot (s : State) (code : Nat) (obj : Nat := 0xFFFFFFFF) (val : Nat := 0) : State :=
  s.reportFull code (s.recordData obj val 0) 0x11

/-- Idle timers restart at zero (03 R97, R108). -/
def State.restartIdle (s : State) : State :=
  { s with pw.idleFrom := s.clock, pw.hibTried := false }

/-- The response to the command in a mailbox slot is ready (04 R139); MB_COMPLETE publishes it. -/
def State.answer (s : State) (slot : Nat) (r : MbResp) : State :=
  { s with host.slots := s.host.slots.modify slot fun m => { m with resp := some r } }

/-- 24 result bytes with `bs` from byte 8 (06 R235). -/
def result8 (bs : List Byte) : List Byte := bytesAt (List.replicate 8 0 ++ bs) 0 24

/-- A success with result bytes from byte 8 and data. -/
def okResp (bs : List Byte := []) (data : List Byte := []) : MbResp :=
  { status := St.success, result := result8 bs, data := data }

/-- A failure with its detail in bytes 4-7 (06 R235). -/
def failResp (status detail : Nat) : MbResp :=
  { status := status, result := bytesAt (leBytes 4 0 ++ leBytes 4 detail) 0 24, data := [] }

/-- A state entry ends before its commit point (03 R106, R857): the device stays in the state it has
reached, POWER completes with SUCCESS and that state in byte 8 (06 R244, R246), the idle timers restart
(R108). In Nap an exit to Run that was part of the entry ends too (R857). -/
def State.cancelEntry (s : State) : State :=
  match s.pw.entry with
  | none => s
  | some e =>
    let own := s.pw.mode == PowerMode.nap && e.burst
    let s := { s with pw.entry := none, pw.waking := if own then none else s.pw.waking }
    let s := (s.set .ENTRY_BUSY 0).restartIdle.pulse Ev.entriesCancelled
    match e.cmd, e.answered with
    | some slot, none => s.answer slot (okResp (leBytes 1 s.pw.mode.code))
    | _, _ => s

/-- The exit to Run begins: WAKE_CAUSE and WAKE_FROM are set (03 R107, Table 3.7). In Hibernate with PFAIL_N asserted
it waits for the release (20 R843). -/
def State.beginWake (s : State) (cause : Nat) : State :=
  match s.pw.mode with
  | .doze | .nap | .hibernate =>
    if s.pw.waking.isSome then s
    else if s.pw.mode == .hibernate && s.pw.pfail.isSome then
      { s with pw.wakeLater := s.pw.wakeLater.or (some cause) }
    else
      let s := { s with pw.waking := some s.pw.mode }
      ((s.set .WAKE_CAUSE cause).set .WAKE_FROM s.pw.mode.code).pulse Ev.wakes
  | _ => s

/-- A wake source fires (04 R163; 03 R109): enabled, it asserts WAKE_N while the link is in L2; disabled, it is recorded
in WAKE_PENDING below Run. -/
def State.sourceFires (s : State) (cause : Nat) : State :=
  if s.wakeEnabled cause then
    if s.reg .LINK_STATE = 5 then { s with host.wakeN := true } else s
  else match s.pw.mode with
    | .doze | .nap | .hibernate => s.set .WAKE_PENDING (s.reg .WAKE_PENDING ||| 2 ^ cause)
    | _ => s

/-- A wake source fires (03 R109, R110): below Run, enabled or a host write, it wakes. -/
def State.wakeOn (s : State) (cause : Nat) (hostWrite : Bool := false) : State :=
  let t := s.sourceFires cause
  if s.wakeEnabled cause || hostWrite then t.beginWake cause else t

/-- A command, trigger or wake arrives (03 R106, R107): it cancels a state entry in progress, unless it is a disabled
source of Table 3.5 that is neither a host write (R110) nor a trigger. Where the device then stands in Nap, or no entry
was in progress, it is a wake. In Doze a command is served as the device stands; a trigger, whose burst needs Run, wakes
(DEDUCED, log entry 128). -/
def State.arrive (s : State) (cause : Nat) (hostWrite : Bool := false) : State :=
  match s.pw.entry with
  | none => s.wakeOn cause hostWrite
  | some _ =>
    if !(s.wakeEnabled cause || hostWrite || cause == 7) then s.sourceFires cause
    else
      let s := s.cancelEntry
      if s.pw.mode = .nap ∨ cause = 7 then s.wakeOn cause hostWrite else s.sourceFires cause

/-- A port record or tally event restarts the idle timers and so cancels an entry (03 R97, R106): the device returns to
Doze, or in Nap it wakes (Table 3.5). In Doze a port's record is taken without leaving Doze (Table 3.5 "Always, as
records"); a tally event that cancelled no entry wakes. -/
def State.activity (s : State) (cause : Nat) : State :=
  let cancelled := s.pw.entry.isSome
  let s := s.cancelEntry.restartIdle
  if s.pw.mode = .nap ∨ (cause ≠ 4 ∧ cancelled = false) then s.wakeOn cause
  else if cause = 4 then s else s.sourceFires cause

/-- HEALTH_LEVEL follows the state; each change is reported (16 R717). -/
def State.updateHealth (s : State) : State :=
  let h := s.healthNow
  if h = s.reg .HEALTH_LEVEL then s else (s.set .HEALTH_LEVEL h).report Code.healthChange h

/-- The row of 15 Table 15.2 whose structure a macro belongs to (16 Table 16.2): core-local memory counts as its
data row. -/
def macroRow (m : Nat) : Nat :=
  if m < 32 then 0 else if m < 64 then 3 else if m < 80 then 5 else if m < 88 then 6 else if m < 92 then 7 else 2

/-- A parity error in the structure of a row of 15 Table 15.2 (R647): counted; where the refetched bytes equal those
that raised it, a check-bit suspect is recorded (R648). It uses up a flip an injection left there (16 Table 16.4). -/
def State.parityMet (s : State) (row : Nat) (same : Bool) : State :=
  let t : State := { s with st.flips := s.st.flips.eraseP fun (f : Nat × Nat × Bool × Nat) => macroRow f.1 == row }
  let t := (((t.bump .PAR_ERRORS).add .PAR_ERR row 1).pulse Ev.parityErrors).report Code.parityRecovered row
  if same then ((t.bump .CHECKBIT_SUSPECT).pulse Ev.checkbitSuspects).report Code.checkbitSuspect row else t

/-- The disc leaves service (01 R45, 17 R726): the cause's code first, then 0x1141 with it as object. -/
def State.reportDiscOut (s : State) (code : Nat) (obj : Nat := 0xFFFFFFFF) (val : Nat := 0) : State :=
  let s := s.report code obj val
  (((s.set .DISC_SERVICE 3).set .OOS_CODE code).report Code.discOutOfService code).updateHealth

end Sys2Proof.Machine
end

