-- ==== Sys2Proof/Machine/Operands.lean ====
section
/-! DEFINITION. The operand forms of PARAM_GET and PARAM_SET: the fields of a page, their ranges, the page
as bytes, and the checks of a write (06 R238-R242, R284, R285; 00 R14-R26). -/

namespace Sys2Proof.Machine

/-- A field as it lies on a page: register, entry, byte offset, low bit. -/
structure PageField where
  name : RegName
  idx : Nat
  off : Nat
  deriving DecidableEq, Repr

/-- The entries of register `n` that lie on page `p`. -/
def RegName.fieldsOn (n : RegName) (p : Nat) : List PageField :=
  let r := n.info
  if p < r.page ∨ p ≥ r.page + (r.count + r.per - 1) / r.per then []
  else
    let i0 := (p - r.page) * r.per
    (List.range (min r.per (r.count - i0))).map fun j =>
      { name := n, idx := r.idx0 + i0 + j, off := r.off + r.stride * j }

/-- The fields of page `p`. -/
def pageFields (p : Nat) : List PageField := RegName.all.flatMap fun n => n.fieldsOn p

/-- The first byte of a field, and the byte after its last. -/
def PageField.first (f : PageField) : Nat := f.off + f.name.info.lo / 8

/-- The byte after a field's last. -/
def PageField.past (f : PageField) : Nat := f.off + (f.name.info.lo + f.name.info.width + 7) / 8

/-- A page that the spec maps (00 R26). Pages 0x030A-0x030F and 0x031A-0x031F "read as reserved" (07 R334): mapped, and
every byte of them reserved, so a write is ignored (00 R21). -/
def pageMapped (p : Nat) : Bool :=
  p < 0x10000 && (!(pageFields p).isEmpty || (0x30A ≤ p && p ≤ 0x30F) || (0x31A ≤ p && p ≤ 0x31F))

/-- An edge of a range cuts a field (06 R239). -/
def cuts (fs : List PageField) (x : Nat) : Bool := fs.any fun f => f.first < x && x < f.past

/-- The status and detail of the first failed check of a range's arguments: PAGE at 0, OFFSET at 2, LENGTH at 4 of
MC_ARGS (06 R238, R285; 00 R26). -/
def rangeFault (page off len : Nat) (write : Bool) : Option (Nat × Nat) :=
  if write && !pageMapped page then some (St.unknownPage, page)
  else if off > 255 then some (St.outOfRange, 2)
  else if len = 0 ∨ len > 256 ∨ off + len > 256 then some (St.outOfRange, 4)
  else none

/-- The edge of a range that cuts a field first (06 R239). -/
def cutEdge (page off len : Nat) : Option Nat :=
  let fs := pageFields page
  if cuts fs off then some off else if cuts fs (off + len) then some (off + len) else none

/-- The value a range's data gives a field. -/
def PageField.value (f : PageField) (off : Nat) (data : List Byte) : Nat :=
  leNat data / 2 ^ (8 * (f.off - off) + f.name.info.lo) % 2 ^ f.name.info.width

/-- The first reading of an analogue test that fails its limit, with its unit: reading `i` is taken at target `i mod n` of
unit `i / n`, for `n` targets (16 Table 16.3). -/
def firstOut (targets : List Int) (ok : Int → Int → Bool) (rs : List Int) : Option (Nat × Int) :=
  (rs.zipIdx.find? fun x => !ok (targets.getD (x.2 % targets.length) 0) x.1).map fun x => (x.2 / targets.length, x.1)

/-- A reading lies within `pct` percent of `full` of its target. -/
def within (pct full : Nat) (target reading : Int) : Bool := decide (100 * (reading - target).natAbs ≤ pct * full)

/-- The first sensor that stands more than 5 °C from a later one of the list, and by how much, in tenths of a degree. -/
def sensorsApart (rs : List Int) : Option (Nat × Int) :=
  (List.range rs.length).findSome? fun i =>
    ((rs.drop (i + 1)).find? fun r => decide (50 < (rs.getD i 0 - r).natAbs)).map fun r => (i, rs.getD i 0 - r)

/-- The first failing unit of an analogue test and the value measured there, by its TEST_ID, from the readings in order of
unit and target (16 Table 16.3): codes of each level DAC (full scale 1,023, DEDUCED from its 10 bits, log entry 150), mA
of each coil, of spindle phases, sled coils and loader, tenths of a dB of each RF ADC, tenths of a degree of the drive-die
sensors and last the logic die's, frames in error. -/
def analogueFault (id : Nat) (rs : List Int) : Option (Nat × Int) :=
  match id with
  | 0x20 => firstOut [64, 512, 960] (within 2 1023) rs
  | 0x21 => firstOut [100, -100, 250, -250] (fun t r => within 3 t.natAbs t r) rs
  | 0x22 => firstOut [500, -500] (fun t r => within 3 t.natAbs t r) rs
  | 0x23 => firstOut [400] (fun t r => decide (t ≤ r)) rs
  | 0x25 => sensorsApart rs
  | _ => firstOut [0] (fun t r => t == r) rs

/-- The first of some analogue tests that fails, with its unit and value. -/
def analogueFirst (ids : List Nat) (readings : List (List Int)) : Option (Nat × Nat × Int) :=
  (ids.zip readings).findSome? fun x => (analogueFault x.1 x.2).map fun f => (x.1, f)

/-- A value lies in a register's stated range (00 R24). -/
def RegName.accepts (n : RegName) (v : Nat) : Bool :=
  match n.info.ranges with
  | [] => true
  | rs =>
    let x : Int := if n.info.signed then ofBits n.info.width v else v
    rs.any fun r => r.1 ≤ x && x ≤ r.2

end Sys2Proof.Machine
end

