-- ==== Sys2Proof/Machine/BlackBox.lean ====
section
/-! DEFINITION. The black box: the warden's acceptance of records, the two banks, pins, suppression,
the scan at a start of the warden, and reading (17 R735-R744). -/

namespace Sys2Proof.Machine

/-- The answer of a meaning whose operands must name units the K760 has. -/
def checked (ok : Bool) (s : State) : Host.Outcome State Fault Refusal :=
  if ok then .next s else .fault .noSuchUnit

/-- The first 60 bytes of a record (17 Table 17.4). -/
def recordBody (r : BbRecord) : List Byte :=
  leBytes 4 r.seq ++ leBytes 8 r.time ++ leBytes 2 r.code ++ leBytes 1 r.source ++ leBytes 1 r.sev
    ++ leBytes 2 r.flags ++ leBytes 2 0 ++ leBytes 4 r.boot ++ leBytes 32 r.data ++ leBytes 4 0

/-- A record's 64 bytes, its CRC-32C last (17 Table 17.4). -/
def recordBytes (r : BbRecord) : List Byte := recordBody r ++ leBytes 4 (crc32c (recordBody r))

/-- The ring slot of sequence `q` (17 R735). -/
def ringSlot (q : Nat) : Nat := 64 + q % 1472

/-- Some bank is in service (17 R739). -/
def State.bankUp (s : State) : Bool := !s.on .BBS_BANK0_FAULT || !s.on .BBS_BANK1_FAULT

/-- A slot is written in the banks in service and read back, as `ok` says for each: a bank that fails sets its fault bit
and raises BB_BANK_FAULT once (17 R739; once for each bank, DEDUCED, log entry 149). -/
def State.bbSlotWrite (s : State) (slot : Nat) (r : BbRecord) (ok : Bool × Bool) : State :=
  let s := if s.on .BBS_BANK0_FAULT then s
    else if ok.1 then { s with bb.bank0 := Map.put s.bb.bank0 slot r }
    else ({ s with bb.bank0 := Map.erase s.bb.bank0 slot }.set .BBS_BANK0_FAULT 1).report Code.bbBankFault 0
  if s.on .BBS_BANK1_FAULT then s
  else if ok.2 then { s with bb.bank1 := Map.put s.bb.bank1 slot r }
  else ({ s with bb.bank1 := Map.erase s.bb.bank1 slot }.set .BBS_BANK1_FAULT 1).report Code.bbBankFault 1

/-- The record the warden writes takes the next sequence: ring slot in both banks, then its pin slot, then the notice
with NT_SEQ (17 R737, R740). `ring` and `pinOk` say of each bank whether the slot passes its read-back. The next-sequence
word advances once a bank holds the record; with both banks failed only the notice and the disc echo carry it (R739,
R741). -/
def State.bbWrite (s : State) (r : BbRecord) (ring pinOk : Bool × Bool) : State × Option Notice :=
  let seq := s.reg .BB_NEXT_SEQ
  let pin := r.sev == 2 && decide (s.reg .PINNED < 64) && s.bankUp
  let r := { r with seq := seq, flags := r.flags + 4 * b2n pin }
  let s := s.bbSlotWrite (ringSlot seq) r ring
  let s := if pin then
      let p := s.reg .PINNED
      let s := (s.bbSlotWrite p r pinOk).set .PINNED (p + 1)
      if p + 1 = 64 then s.set .BBS_PINS_FULL 1 else s
    else s
  let s : State := if s.bankUp then { s with bb.word0 := some (seq + 1), bb.word1 := some (seq + 1) }
    else { s with bb.loose := s.bb.loose ++ [r] }
  let s := (s.set .BB_NEXT_SEQ (seq + 1)).set .BB_OLDEST_SEQ (max (s.reg .BB_OLDEST_SEQ) (seq + 1 - 1472))
  let s := (s.pulse Ev.bbRecords).updateHealth
  (s, if Code.noticed.contains r.code then
        some { code := r.code, sev := r.sev, seq := seq, time := r.time, data := r.data % 2 ^ 128 }
      else none)

/-- A suppression window closes; with records suppressed the warden writes one REPEATS_SUPPRESSED record
with the code as object and the count as value (17 R738). -/
def State.closeWindow (s : State) (w : Window) : State :=
  let s := { s with bb.windows := s.bb.windows.erase w }
  if w.seen > 16 then s.report Code.repeatsSuppressed w.code (w.seen - 16) else s

/-- The window of a code from a source. -/
def State.window (s : State) (code source : Nat) : Option Window :=
  s.bb.windows.find? fun w => w.code == code && w.source == source

/-- The warden takes a record at acceptance: the first 16 of a window are written, later ones counted;
fatal codes are never suppressed (17 R738). -/
def State.bbTake (s : State) (r : BbRecord) (ring pinOk : Bool × Bool) : State × Option Notice :=
  if r.sev = 2 then s.bbWrite r ring pinOk
  else
    let s := match s.window r.code r.source with
      | some w => if s.clock ≥ w.openAt + 1000000 then s.closeWindow w else s
      | none => s
    match s.window r.code r.source with
    | none =>
      let w : Window := { code := r.code, source := r.source, openAt := s.clock, seen := 1 }
      { s with bb.windows := s.bb.windows ++ [w] }.bbWrite r ring pinOk
    | some w =>
      let s := { s with bb.windows := s.bb.windows.map fun x =>
        if x == w then { x with seen := x.seen + 1 } else x }
      if w.seen < 16 then s.bbWrite r ring pinOk else (s.bump .BB_SUPPRESSED, none)

/-- The warden accepts the oldest queued record; a stalled fatal record takes the freed entry (R738). -/
def State.bbAccept (s : State) (ring pinOk : Bool × Bool) : State × Option Notice :=
  match s.bb.queue with
  | [] => (s, none)
  | r :: rest =>
    let s := match s.bb.stalled with
      | [] => { s with bb.queue := rest }
      | f :: fs => { s with bb.queue := rest ++ [f], bb.stalled := fs }
    s.bbTake r ring pinOk

/-- Every queued record is accepted, and the notices that follow are returned in order. -/
def State.bbDrain (s : State) : Nat → State × List Notice
  | 0 => (s, [])
  | n + 1 =>
    if s.bb.queue.isEmpty then (s, [])
    else
      let (s, m) := s.bbAccept (true, true) (true, true)
      let (s, ms) := s.bbDrain n
      (s, m.toList ++ ms)

/-- BB_RECORD_WRITE (17 R737, R739): the warden accepts and writes a record, then posts its notice. The operands say of
each bank which slots pass their read-back. -/
def execBbRecordWrite (bank0 bank1 : BankCheck) (s : State) : Host.Outcome State Fault Refusal :=
  match s.pw.wardenUp with
  | false => .next s
  | true =>
    let (s, m) := s.bbAccept (bank0.ring, bank1.ring) (bank0.pin, bank1.pin)
    .next (match m with
      | none => s
      | some n => s.noticeDrained n)

/-- BB_SUPPRESS_WINDOW_CLOSE (17 R738): the 1 s window of a code from a source closes once it is due. -/
def execBbSuppressWindowClose (code source : Nat) (s : State) : Host.Outcome State Fault Refusal :=
  match s.window code source with
  | none => .next s
  | some w => .next (if s.clock ≥ w.openAt + 1000000 then s.closeWindow w else s)

/-- A slot or a copy of the next-sequence word fails its CRC (17 R741): slots of bank 0 are 0-1535, those of bank 1 follow,
the word's two copies are 3072 and 3073. -/
def State.bbTorn (s : State) (k : Nat) : State :=
  if k < 1536 then { s with bb.bank0 := Map.erase s.bb.bank0 k }
  else if k < 3072 then { s with bb.bank1 := Map.erase s.bb.bank1 (k - 1536) }
  else if k = 3072 then { s with bb.word0 := none }
  else { s with bb.word1 := none }

/-- The warden writes the record at the head of its queue, and does not count it as a repeat (17 R738). -/
def State.bbWrites (s : State) (r : BbRecord) : Bool :=
  r.sev == 2 || (s.window r.code r.source).all fun w => decide (w.openAt + 1000000 ≤ s.clock ∨ w.seen < 16)

/-- The copies the warden writes for its next record, in order, numbered as `bbTorn` numbers them (17 R737, R739, R741):
the ring slot in both banks, a pin slot in both, the two copies of the next-sequence word. -/
def State.bbCopies (s : State) (pin : Bool) : List Nat :=
  let both (k : Nat) := (if s.on .BBS_BANK0_FAULT then [] else [k]) ++ (if s.on .BBS_BANK1_FAULT then [] else [1536 + k])
  if s.bankUp then
    both (ringSlot (s.reg .BB_NEXT_SEQ)) ++ (if pin then both (s.reg .PINNED) else []) ++ [3072, 3073]
  else []

/-- One of them is written. -/
def State.bbCopy (r : BbRecord) (s : State) (k : Nat) : State :=
  let t : State :=
    if k < 1536 then { s with bb.bank0 := Map.put s.bb.bank0 k r }
    else if k < 3072 then { s with bb.bank1 := Map.put s.bb.bank1 (k - 1536) r }
    else if k = 3072 then { s with bb.word0 := some (r.seq + 1) }
    else { s with bb.word1 := some (r.seq + 1) }
  if k < 3072 ∧ k % 1536 < 64 then
    (t.set .PINNED (k % 1536 + 1)).set .BBS_PINS_FULL (b2n (k % 1536 == 63))
  else t

/-- The supply goes while the warden has a record to write (17 R743, Table 17.5): how many of its copies are written, and
whether the next one is left half-written, is a free value (DESIGN CHOICE, log entry 156). -/
def State.bbCut (s : State) : State :=
  match s.bb.queue with
  | [] => s
  | r :: _ =>
    if s.pw.wardenUp && s.bbWrites r then
      let pin := r.sev == 2 && decide (s.reg .PINNED < 64) && s.bankUp
      let r := { r with seq := s.reg .BB_NEXT_SEQ, flags := r.flags + 4 * b2n pin }
      let copies := s.bbCopies pin
      let (v, s) := s.draw
      let n := v / 2 % (copies.length + 1)
      let s := (copies.take n).foldl (State.bbCopy r) s
      { s with bb.torn := if v % 2 = 1 then (copies.drop n).take 1 else [] }
    else s

/-- The scan at a start of the warden (17 R741): what was left half-written fails its CRC. A passing copy restores a failing one or
one with a lower sequence; each rewrite is counted. The next sequence is the greater of one above the highest that passes
and a copy of the word that passes; with nothing passing it is 0, and a BB_BANK_FAULT record, naming no bank (DEDUCED, log
entry 149), is the first. -/
def State.bbScan (s : State) : State :=
  let s := s.bb.torn.foldl State.bbTorn s
  let none' := s.bb.word0.isNone && s.bb.word1.isNone
  let slots := (s.bb.bank0.map (·.1)) ++ (s.bb.bank1.map (·.1)).filter fun k => !Map.has s.bb.bank0 k
  let s := slots.foldl (fun s k =>
    match Map.get s.bb.bank0 k, Map.get s.bb.bank1 k with
    | some a, some b =>
      if a.seq = b.seq then s
      else if a.seq > b.seq then { s with bb.bank1 := Map.put s.bb.bank1 k a }.bump .BB_TORN_REPAIRED
      else { s with bb.bank0 := Map.put s.bb.bank0 k b }.bump .BB_TORN_REPAIRED
    | some a, none => { s with bb.bank1 := Map.put s.bb.bank1 k a }.bump .BB_TORN_REPAIRED
    | none, some b => { s with bb.bank0 := Map.put s.bb.bank0 k b }.bump .BB_TORN_REPAIRED
    | none, none => s) s
  let word := max (s.bb.word0.getD 0) (s.bb.word1.getD 0)
  let next := s.bb.bank0.foldl (fun m e => max m (e.2.seq + 1)) word
  let s := (s.set .BB_NEXT_SEQ next).set .BB_OLDEST_SEQ (max (s.reg .BB_OLDEST_SEQ) (next - 1472))
  let s : State := { s with bb.word0 := some next, bb.word1 := some next, bb.torn := [] }
  if none' && slots.isEmpty then s.report Code.bbBankFault else s

/-- The record of a slot: the copy that passes its CRC, the higher sequence where a failed bank's copy is out of date. -/
def State.bbSlot (s : State) (k : Nat) : Option BbRecord :=
  match Map.get s.bb.bank0 k, Map.get s.bb.bank1 k with
  | some a, some b => if a.seq < b.seq then some b else some a
  | some a, none => some a
  | none, b => b

/-- The pinned records, in the order of their slots. -/
def State.bbPins (s : State) : List BbRecord := (List.range 64).filterMap s.bbSlot

/-- The record of sequence `q` as BB_READ returns it (17 R742, 06 R279): the ring copy, else the pinned copy. -/
def State.bbFind (s : State) (q : Nat) : Option BbRecord :=
  match (s.bbSlot (ringSlot q)).filter fun r => r.seq == q with
  | some r => some r
  | none => s.bbPins.find? fun r => r.seq == q

/-- The records held, in sequence order from `first` (06 R279): the pinned ones older than the ring, then
the ring. -/
def State.bbList (s : State) (first : Nat) : List BbRecord :=
  let old := s.reg .BB_OLDEST_SEQ
  (s.bbPins.filter fun r => r.seq < old && first ≤ r.seq) ++
    (List.range (s.reg .BB_NEXT_SEQ - max first old)).filterMap fun i => s.bbFind (max first old + i)

/-- The 32-bit word of a notice ring entry's 32 bytes (04 Table 4.8). -/
def noticeBytes (n : Notice) : List Byte :=
  leBytes 2 n.code ++ leBytes 1 n.sev ++ leBytes 1 0 ++ leBytes 4 n.seq ++ leBytes 8 n.time
    ++ leBytes 16 n.data

end Sys2Proof.Machine
end

