-- ==== Sys2Proof/Machine/Codes.lean ====
section
/-! DEFINITION. The recorded format of the KAC-80 (02): geometry, wedges, segments, K-RLL, the product code,
addresses, and the bytes of every recorded structure. -/

namespace Sys2Proof.Machine

/-- The radius at the start of track `t`, in nm (02 Table 2.2). -/
def trackRadius (t : Nat) : Nat := 22000000 + 320 * t

/-- Data stream units of every segment on track `t` (02 R51). -/
def segmentUnits (t : Nat) : Nat := trackRadius t * 569043 / 10000000000 - 3

/-- The track, wedge and unit within the segment of unit `u`, counted from unit 0 of track `t` (02, Segments
and splits). -/
def unitPlace (u t : Nat) : Nat → Nat × Nat × Nat
  | 0 => (t, 0, 0)
  | n + 1 =>
    let c := segmentUnits t
    if u < 120 * c then (t, u / c, u % c) else unitPlace (u - 120 * c) (t + 1) n

/-- Where a cluster's first unit lies (12 R544, 02 R63): the system zone counts from track 0, the data zone
from track 6,250. -/
def clusterStart (system : Bool) (n : Nat) : Nat × Nat × Nat :=
  unitPlace (80768 * n) (if system then 0 else 6250) 112500

/-- The reflected binary code of the wedge address's track number (02 R50). -/
def gray (n : Nat) : Nat := n ^^^ (n / 2)

/-- The CRC-5 of a wedge address, polynomial x^5 + x^2 + 1, over `n` bits of `v`, most significant first
(02 R50). -/
def crc5 (v : Nat) : Nat → Nat
  | 0 => 0
  | n + 1 =>
    let c := crc5 (v / 2) n
    let f := (c / 16 + v) % 2
    (c * 2 % 32) ^^^ (if f = 1 then 5 else 0)

/-- The 32 address bits of a wedge (02 R50). -/
def wedgeAddress (layer track wedge : Nat) : Nat :=
  let hi := layer * 2 ^ 25 + gray track * 2 ^ 7 + wedge
  hi * 32 + crc5 hi 27

/-- A wedge address is used only when its CRC-5 passes (02 R92). -/
def wedgeGood (a : Nat) : Bool := crc5 (a / 32) 27 == a % 32

/-- K-RLL of one data pair (02 Table 2.4). -/
def krllPair : Nat → List Bool
  | 0 => [true, false, true]
  | 1 => [true, false, false]
  | 2 => [false, false, true]
  | _ => [false, true, false]

/-- K-RLL of a run of pairs between splits: pairs coded 101 or 001 followed by 101 or 100 are coded
together (02 R54, R55). -/
def krll : List Nat → List Bool
  | a :: b :: rest =>
    if (a = 0 ∨ a = 2) ∧ (b = 0 ∨ b = 1) then
      (match a, b with
       | 0, 0 => [true, false, true, false, false, false]
       | 0, _ => [true, false, false, false, false, false]
       | _, 0 => [false, false, true, false, false, false]
       | _, _ => [false, true, false, false, false, false]) ++ krll rest
    else krllPair a ++ krll (b :: rest)
  | [a] => krllPair a
  | [] => []

/-- The four data pairs of a byte, most significant first (02, K-RLL and syncs). -/
def bytePairs (b : Byte) : List Nat :=
  [b.toNat / 64, b.toNat / 16 % 4, b.toNat / 4 % 4, b.toNat % 4]

/-- Multiplication by the field's generator in GF(2^8), polynomial x^8 + x^4 + x^3 + x^2 + 1 (02 R60). -/
def gfDouble (a : Nat) : Nat := if a < 128 then 2 * a else (2 * a) ^^^ 0x11D

/-- Multiplication in GF(2^8), on the low `n` bits of `b` (02 R60). -/
def gfMul (a b : Nat) : Nat → Nat
  | 0 => 0
  | n + 1 => (if b % 2 = 1 then a else 0) ^^^ gfMul (gfDouble a) (b / 2) n

/-- A power of the generator. -/
def gfPow : Nat → Nat
  | 0 => 1
  | n + 1 => gfDouble (gfPow n)

/-- The product of a polynomial, highest degree first, with (x + α^k). -/
def polyRoot (p : List Nat) (k : Nat) : List Nat :=
  List.zipWith (· ^^^ ·) (p ++ [0]) (0 :: p.map fun c => gfMul c (gfPow k) 8)

/-- The generator polynomial with roots α^0 to α^(n-1), highest degree first (02 R60). -/
def rsGenerator (n : Nat) : List Nat := (List.range n).foldl polyRoot [1]

/-- The parity of a message under a code with `n` parity symbols: the remainder of its shifted
polynomial (02 R60). -/
def rsParity (n : Nat) (msg : List Nat) : List Nat :=
  let g := (rsGenerator n).drop 1
  msg.foldl (fun r m =>
    let f := m ^^^ r.headD 0
    List.zipWith (· ^^^ ·) (r.drop 1 ++ [0]) (g.map fun c => gfMul c f 8)) (List.replicate n 0)

/-- The matrix row that frame `k` records (02 R61). -/
def frameRow (k : Nat) : Nat := 97 * k % 384

/-- A cluster address (02 R62). -/
def aca (system : Bool) (layer n : Nat) : Nat := b2n system * 2 ^ 31 + layer * 2 ^ 19 + n

/-- The address of user or spare cluster `pcn` on a layer. -/
def pcnAca (layer pcn : Nat) : Nat := aca false layer pcn

/-- The layer of an address, and its cluster number. -/
def acaLayer (a : Nat) : Nat := a / 2 ^ 19 % 4

/-- The cluster number of an address. -/
def acaNumber (a : Nat) : Nat := a % 2 ^ 19

/-- No address (02 R62). -/
def noAca : Nat := 0xFFFFFFFF

/-- User clusters of a layer, and where its spare area ends (02 Table 2.7). -/
def userClusters : Nat := 327680

/-- The first PCN past the spare area. -/
def spareEnd : Nat := 360448

/-- A cluster of a block has at most 65,536 user bytes, and a block at most 64 clusters (02 R58, R71). -/
def clusterBytes : Nat := 65536

/-- The 256 metadata bytes (02 Table 2.8). -/
def metadataBytes (m : Metadata) : List Byte :=
  leBytes 2 1 ++ leBytes 2 m.stream ++ leBytes 4 m.bytesUsed ++ leBytes 8 m.streamOffset
    ++ leBytes 4 m.firstRec ++ leBytes 4 m.recCount ++ leBytes 8 m.firstTime ++ leBytes 8 m.lastTime
    ++ leBytes 1 m.flags ++ leBytes 3 0 ++ beBytes 12 m.gcmIv ++ beBytes 16 m.gcmTag
    ++ leBytes 4 m.keyEpoch ++ leBytes 180 0

/-- Trailer bytes 0-187 (02 Table 2.9). -/
def trailerHead (t : Trailer) : List Byte :=
  leBytes 4 0x4C52544B ++ leBytes 2 1 ++ leBytes 2 t.flags ++ leBytes 8 t.blockId ++ leBytes 2 t.stream
    ++ leBytes 2 t.clIndex ++ leBytes 2 t.clCount ++ leBytes 2 0 ++ leBytes 4 t.homeAca
    ++ leBytes 4 t.selvSeq ++ leBytes 8 t.writeTime ++ leBytes 8 0 ++ beBytes 32 t.chainPrev
    ++ beBytes 32 t.clHash ++ beBytes 32 t.chainVal ++ leBytes 44 0

/-- The 1,728 trailer bytes (02 Table 2.9). -/
def trailerBytes (t : Trailer) : List Byte :=
  trailerHead t ++ leBytes 4 (crc32c (trailerHead t)) ++ beBytes 64 t.sig ++ beBytes 32 t.keyId
    ++ leBytes 1440 0

/-- TR_FLAGS and MD_FLAGS bits (02 Tables 2.8, 2.9). -/
def trSelvedge : Nat := 1
/-- SIGNED. -/
def trSigned : Nat := 2
/-- ENCRYPTED. -/
def trEncrypted : Nat := 4
/-- SLIPPED. -/
def trSlipped : Nat := 8
/-- REALLOCATED. -/
def trReallocated : Nat := 16
/-- FIRST. -/
def trFirst : Nat := 32
/-- SYSTEM. -/
def trSystem : Nat := 64

/-- A system cluster header (02 Table 2.10) with its entry count. -/
def sysHeaderBytes (h : SysHeader) (count : Nat) : List Byte :=
  let b := leBytes 4 h.magic ++ leBytes 2 1 ++ leBytes 2 count ++ leBytes 4 h.sysSeq
    ++ leBytes 4 h.session ++ leBytes 8 h.sessionStart ++ leBytes 8 h.sessionEnd
    ++ (List.range 4).flatMap (fun i => leBytes 4 (h.nextPcn.getD i 0))
    ++ (List.range 4).flatMap (fun i => leBytes 4 (h.spareNext.getD i 0))
    ++ leBytes 4 h.linkAca ++ leBytes 4 h.echoAca ++ leBytes 4 h.firstSeq ++ leBytes 4 h.lastSeq
    ++ leBytes 44 0
  b ++ leBytes 4 (crc32c b)

/-- A directory entry's 64 bytes (02 Table 2.11). -/
def dirEntryBytes (e : DirEntry) : List Byte :=
  leBytes 1 e.type ++ leBytes 1 e.flags ++ leBytes 2 e.stream ++ leBytes 4 e.firstAca
    ++ leBytes 4 e.lastAca ++ leBytes 2 e.clCount ++ leBytes 2 0 ++ leBytes 8 e.blockId
    ++ leBytes 8 e.streamOffset ++ leBytes 4 e.byteCount ++ leBytes 4 e.selvSeq
    ++ leBytes 8 e.firstTime ++ leBytes 8 e.lastTime ++ beBytes 8 e.chainHead

/-- A defect entry's 32 bytes (02 Table 2.12). -/
def defectBytes (d : DefectEntry) : List Byte :=
  leBytes 4 d.home ++ leBytes 4 d.repl ++ leBytes 1 d.reason ++ leBytes 3 0 ++ leBytes 8 d.time
    ++ leBytes 8 d.block ++ leBytes 4 0

/-- The identity body, bytes 128-179 of its cluster (02, System zones). -/
def identityBytes (i : Identity) : List Byte :=
  leBytes 16 i.serial ++ leBytes 1 i.layer ++ leBytes 1 i.layerCount ++ leBytes 2 0 ++ leBytes 4 i.depthNm
    ++ leBytes 4 i.trackPitchPm ++ leBytes 4 i.cbitPm ++ leBytes 4 i.userCl ++ leBytes 4 i.spareCl
    ++ leBytes 4 i.opcHint ++ leBytes 8 i.mfgTime

/-- The 65,536 user bytes of a cluster; those past the body read as 0 (02 R58, R64). -/
def bodyBytes : ClusterBody → List Byte
  | .user bs => bytesAt bs 0 clusterBytes
  | .identity h i => bytesAt (sysHeaderBytes h 0 ++ identityBytes i) 0 clusterBytes
  | .directory h es => bytesAt (sysHeaderBytes h es.length ++ es.flatMap dirEntryBytes) 0 clusterBytes
  | .defects h es => bytesAt (sysHeaderBytes h es.length ++ es.flatMap defectBytes) 0 clusterBytes
  | .echo h rs => bytesAt (sysHeaderBytes h rs.length ++ rs.flatMap recordBytes) 0 clusterBytes
  | .test => List.replicate clusterBytes 0

/-- The EDC of sector `i` of the cluster at an address (02 R59). -/
def sectorEdc (a i : Nat) (user : List Byte) : Nat :=
  crc32c (leBytes 4 a ++ leBytes 1 i ++ bytesAt user (4096 * i) 4096)

/-- The 67,584 matrix bytes of a test cluster (13 R600): byte `j` of row `r` is (192 r + j) mod 251. -/
def testMatrix : List Byte :=
  (List.range 352).flatMap fun r => (List.range 192).map fun j => BitVec.ofNat 8 ((192 * r + j) % 251)

/-- The 67,584 matrix bytes of a cluster (02 R58, Table 2.6). -/
def matrixBytes (a : Nat) (c : Cluster) : List Byte :=
  let u := bodyBytes c.body
  if c.body = .test then testMatrix
  else u ++ metadataBytes c.md ++ (List.range 16).flatMap (fun i => leBytes 4 (sectorEdc a i u))
    ++ trailerBytes c.trailer

/-- CL_HASH (02 R67). -/
def clHash (body : ClusterBody) (m : Metadata) : Nat :=
  sha256 (bodyBytes body ++ metadataBytes m)

/-- CHAIN_VAL (02 R68): over CHAIN_PREV, CL_HASH and trailer bytes 0-47 with TR_FLAGS [4:3] taken as 0. -/
def chainVal (t : Trailer) : Nat :=
  let t0 := { t with flags := t.flags % 8 + t.flags / 32 * 32 }
  sha256 (beBytes 32 t.chainPrev ++ beBytes 32 t.clHash ++ (trailerHead t0).take 48)

/-- The BLOCK_ID of a system cluster: bit 63, its type in [39:32], its SYS_SEQ (02 R858). -/
def sysBlockId (type seq : Nat) : Nat := 2 ^ 63 + type * 2 ^ 32 + seq

end Sys2Proof.Machine
end

