-- ==== Sys2Proof/Machine/View.lean ====
section
/-! DEFINITION. What a read of a parameter page shows: the fields the K760 derives from its state, and a page as
bytes (00 R15, R21, R26; 06 R238). -/

namespace Sys2Proof.Machine

/-- The records of a bobbin. -/
def State.recs (s : State) (b : Nat) : List Rec := s.lm.recs.getD b []

/-- A number that is no bobbin's, or that of a bobbin of size 0 (07 R294). -/
def State.bobbinAbsent (s : State) (b : Nat) : Bool := decide (9 < b) || s.get .ACTIVE_SIZE_MIB b == 0

/-- A record lies in a verified block: below FLUSHED_OFFSET, or in a range written ahead of older data (01 R36, 07
R297). -/
def State.verified (s : State) (b : Nat) (r : Rec) : Bool :=
  decide (r.off + r.len ≤ s.get .FLUSHED_OFFSET b) ||
    (s.bu.done.getD b []).any fun d => decide (d.1 ≤ r.off) && decide (r.off < d.2)

/-- Pending bytes of a bobbin (07 R298). -/
def State.pendingOf (s : State) (b : Nat) : Nat := s.get .TAIL_OFFSET b - s.get .FLUSHED_OFFSET b

/-- Pending bytes of all bobbins (17 Table 17.7). -/
def State.pendingBytes (s : State) : Nat := ((List.range 10).map s.pendingOf).sum

/-- Unwritten user clusters of a layer. -/
def State.userFree (s : State) (layer : Nat) : Nat := userClusters - s.md.nextPcn.getD layer 0

/-- The write gate may open (11 R516, 09 R408, 12). -/
def State.gateAllowed (s : State) : Bool :=
  s.on .FOCUS_LOCK && s.on .TRACK_LOCK && s.on .SP_SPEED_OK && !s.on .SHOCK_HOLD
    && !((List.range 3).any fun c => s.onAt .CL_RMS_TRIP c)
    && s.reg .DISC_SERVICE != 3 && s.pw.mode == .run && s.on .APC_LOCK
    && s.cal.running.isNone && s.sv.rampLeft == 0

/-- GP_OWNER of a function (18 Table 18.2, Table 18.5). -/
def funcOwner : Nat → Nat
  | 0 => 0
  | 2 => 1
  | 5 => 1
  | 6 => 3
  | 7 => 4
  | 8 => 2
  | _ => 5

/-- The owner of a pin. -/
def State.pinOwner (s : State) (p : Nat) : Nat := funcOwner (s.get .GP_FUNC p)

/-- A pin drives its ball (18 R752, R755): GPIO with OUTPUT, or an output function. -/
def State.pinDrives (s : State) (p : Nat) : Bool :=
  let f := s.get .GP_FUNC p
  (f == 0 && s.onAt .GP_OUTPUT p) || (3 ≤ f && f ≤ 7)

/-- A pin is open-drain (18 R755): FAULT_N always. -/
def State.pinOpenDrain (s : State) (p : Nat) : Bool :=
  s.get .GP_FUNC p == 3 || (s.get .GP_FUNC p == 0 && s.onAt .GP_OPEN_DRAIN p)

/-- The level of an output function (18 Table 18.2): FAULT_N, CLK32K_OUT, REC_ACTIVE, SHOCK_OUT, SEALED_OUT. -/
def State.funcLevel (s : State) (f : Nat) : Option Bool :=
  match f with
  | 3 => some (!s.faultLine)
  | 4 => some (s.pw.wardenUp && s.clock * 65536 / 1000000 % 2 == 1)
  | 5 => some (s.bu.active || s.bu.turning)
  | 6 => some (s.on .SHOCK_HOLD)
  | 7 => some (s.on .COMMISSIONED && !s.on .KEY_LOST)
  | _ => none

/-- A pin's GPIO_OUT bit (18 R754, R761): that of an output function is kept at the function's level by the pin's owner,
which the model lets do so at once (DESIGN CHOICE, log entry 140). -/
def State.outBit (s : State) (p : Nat) : Bool :=
  match s.funcLevel (s.get .GP_FUNC p) with
  | some l => l && !(s.gp.banksOff && decide (8 ≤ p))
  | none => bit (s.reg .GPIO_OUT) p

/-- GPIO_OUT. -/
def State.gpioOutNow (s : State) : Nat := ((List.range 24).map fun p => 2 ^ p * b2n (s.outBit p)).sum

/-- A pin's level as GPIO_IN reports it (18 R756, R761). -/
def State.pinIn (s : State) (p : Nat) : Bool :=
  if (s.gp.banksOff && decide (8 ≤ p)) || s.get .GP_FUNC p == 8 then false
  else if s.pinDrives p then
    s.outBit p && (!s.pinOpenDrain p || bit s.gp.ext p)
  else bit s.gp.ext p

/-- GPIO_IN. -/
def State.gpioIn (s : State) : Nat := ((List.range 24).map fun p => 2 ^ p * b2n (s.pinIn p)).sum

/-- Spare rows (kind 1) or columns (kind 2) in use over all macros (16 Table 16.9). -/
def State.mapUses (s : State) (kind : Nat) : Nat :=
  ((List.range (s.reg .MAP_USED)).filter fun e => decide (s.get .RM_MACRO e < 96) && s.get .RM_KIND e == kind).length

/-- A loop's gain in percent of its reference (16 Table 16.9): 100 until a reference is recorded. -/
def State.gainPct (s : State) (loop : Nat) : Nat :=
  if s.get .GAIN_REF loop = 0 then 100 else min 255 (100 * s.get .LOOP_GAIN loop / s.get .GAIN_REF loop)

/-- The time of the oldest unflushed record, or 0 (17 Table 17.7). -/
def State.oldestPending (s : State) : Nat :=
  let l := (List.range 10).flatMap fun b =>
    ((s.recs b).filter fun (r : Rec) => !s.verified b r).map fun (r : Rec) => r.time
  (l.min?).getD 0

/-- CH_STATE (12 Table 12.6): recovering, verifying what a write left, reading, idle. -/
def State.channelState (s : State) : Nat :=
  if s.recovering then 3
  else if s.bu.block.any fun (k : Block) => k.writing.isSome then 2
  else if s.rd.any fun (j : ReadJob) => j.reading then 1
  else 0

/-- A register as a read shows it: derived fields follow the state; the others read as they stand. -/
def State.view (s : State) (n : RegName) (i : Nat) : Nat :=
  match n with
  | .PWR_STATE => if s.pw.mode.code ≤ 2 then s.pw.mode.code else 0
  | .DS_PWR => if s.pw.mode.code ≤ 2 then s.pw.mode.code else 0
  | .CLK_CHANNEL => b2n s.channelOn
  | .DS_PFAIL => b2n s.pw.pfail.isSome
  | .POOL_MIB_MIRROR => s.reg .POOL_MIB
  | .BOBBIN_AREA_MIB => s.reg .POOL_MIB - 64
  | .POISON_NOW => if s.lm.allPoison then s.reg .POOL_MIB * 256 else s.lm.poison.length
  | .MARKS_HELD => s.lm.marks.length
  | .GATE_PERMIT => b2n s.gateAllowed
  | .LAS_STATE => if s.bu.gate then 2 else s.reg .LAS_STATE
  | .LAS_I_BIAS => if s.bu.gate then s.las.levels.getD 0 0 else s.reg .LAS_I_BIAS
  | .LAS_I_COOL => if s.bu.gate then s.las.levels.getD 1 0 else s.reg .LAS_I_COOL
  | .LAS_I_PEAK => if s.bu.gate then s.las.levels.getD 2 0 else s.reg .LAS_I_PEAK
  | .LAS_I_OD => if s.bu.gate then s.las.levels.getD 3 0 else s.reg .LAS_I_OD
  | .CH_STATE => s.channelState
  | .CAL_STATE => s.calState
  | .SPARE_ROWS_LEFT => 768 - s.mapUses 1
  | .SPARE_COLS_LEFT => 384 - s.mapUses 2
  | .MACROS_NO_ROW => s.macrosNoRow
  | .GAIN_PCT_F => s.gainPct 0
  | .GAIN_PCT_T => s.gainPct 1
  | .GAIN_PCT_TILT => s.gainPct 2
  | .CNT_CARRY => ((List.range 32).map fun k => 2 ^ k * s.get .BEAD_CARRY k).sum
  | .HLT_LEVEL => s.reg .HEALTH_LEVEL
  | .HLT_POOL => s.reg .POOL_STATE
  | .HLT_FATAL => s.reg .FATAL
  | .HLT_FAULT_LINE => b2n s.faultLine
  | .HLT_COMMISSIONED => s.reg .COMMISSIONED
  | .HLT_TIME_UNSET => s.reg .TIME_UNSET
  | .PENDING_BYTES => s.pendingBytes
  | .OLDEST_PENDING => s.oldestPending
  | .USER_CL_FREE => if s.md.mounted then ((List.range 4).map s.userFree).sum else 0
  | .SPARE_CL_FREE =>
    if s.md.mounted then ((List.range 4).map fun l => spareEnd - s.md.spareNext.getD l spareEnd).sum else 0
  | .BB_QUEUED => s.bb.queue.length
  | .GP_OWNER => s.pinOwner i
  | .GPIO_IN => s.gpioIn
  | .GPIO_OUT => s.gpioOutNow
  | .AUX_MV => if s.get .GP_FUNC (16 + i) = 8 then s.get .AUX_MV i else 0
  | n => s.get n i

/-- The 256 bytes of a page: reserved bytes and an unmapped page read as 0 (00 R21, R26). -/
def State.pageBytes (s : State) (p : Nat) : List Byte :=
  leBytes 256 ((pageFields p).map fun (f : PageField) =>
    s.view f.name f.idx % 2 ^ f.name.info.width * 2 ^ (8 * f.off + f.name.info.lo)).sum

end Sys2Proof.Machine
end

