-- ==== Sys2Proof/Machine/Host.lean ====
section
/-! DEFINITION. The windows, the mailbox handshake, slot 3 and the service port, notices' tail, MSI-X
masks (04). -/

namespace Sys2Proof.Machine

/-- A mailbox slot. -/
def State.slot (s : State) (n : Nat) : Slot := s.host.slots.getD n {}

/-- A mailbox slot changed. -/
def State.setSlot (s : State) (n : Nat) (f : Slot → Slot) : State :=
  { s with host.slots := s.host.slots.modify n f }

/-- Mailbox opcodes that are assigned (06 Table 6.2). -/
def mailboxOpcodes : List Nat :=
  [0x01, 0x02, 0x10, 0x11, 0x20, 0x30, 0x40, 0x50, 0x51, 0x52, 0x60, 0x61, 0x62]

/-- SELFTEST TEST_IDs that are assigned (16 Tables 16.3-16.5). -/
def selfTestIds : List Nat :=
  [0x10, 0x11, 0x20, 0x21, 0x22, 0x23, 0x24, 0x25, 0x26, 0x2F] ++ (List.range 15).map (· + 0x100)

/-- A source that may not issue a command (06 R250, R254). -/
def MbCopy.barred (c : MbCopy) (unlocked : Bool) : Bool :=
  [0x60, 0x61, 0x62].contains c.opcode && (!c.byP8 || (c.opcode == 0x62 && !unlocked))

/-- A command that no mailbox command row takes: an unknown opcode, a source that may not issue it, a length above 768,
or a selector value no row of 06 Table 6.2 gives, in the order of Table 6.5 (04 R142, R174; 06 R234, R250, R285). The
length of a PARAM_SET is judged by its row, after what that bars. `absent` tells the bobbins there are not (07 R294). -/
def MbCopy.reject (c : MbCopy) (unlocked : Bool) (absent : Nat → Bool) : Option MbResp :=
  if !mailboxOpcodes.contains c.opcode then some (failResp St.unknownCommand c.opcode)
  else if c.barred unlocked then some (failResp St.notPermitted 0)
  else if c.dlen > 768 ∧ c.opcode ≠ 2 then some (failResp St.badLength 0xFFFFFFFF)
  else if c.opcode = 0x20 ∧ fieldAt c.args 0 1 > 4 then some (failResp St.outOfRange 0)
  else if c.opcode = 0x30 ∧ selfTestIds.contains (fieldAt c.args 0 2) = false then
    some (failResp St.outOfRange 0)
  else if c.opcode = 0x52 ∧ fieldAt c.args 2 1 > 2 then
    some (if absent (fieldAt c.args 0 2) then failResp St.bobbinUnknown 0 else failResp St.outOfRange 2)
  else none

/-- In recovery every command but PARAM_GET and PARAM_SET is refused (19 R794), an unknown one as unknown (04 R174, 06
Table 6.5). -/
def MbCopy.recoveryReject (c : MbCopy) : Option MbResp :=
  if c.opcode = 1 ∨ c.opcode = 2 ∨ mailboxOpcodes.contains c.opcode = false then c.reject false fun _ => true
  else some (failResp St.notPermitted 0)

/-- The page ranges a mailbox command acts on, as page, first byte and the byte after the last: a PARAM command's own
range; NEXT_SLOT to ATTEMPTS of PP_BOOT for FW_ACTIVATE; what COMMISSION, STREAM_KEY and BB_ERASE change (04 R143). -/
def MbCopy.spans (c : MbCopy) : List (Nat × Nat × Nat) :=
  let field (n : RegName) (i : Nat) : Nat × Nat × Nat :=
    let f : PageField := { name := n, idx := i, off := n.info.off + n.info.stride * i }
    (n.info.page, f.first, f.past)
  match c.opcode with
  | 0x01 | 0x02 => [(fieldAt c.args 0 2, fieldAt c.args 2 2, fieldAt c.args 2 2 + fieldAt c.args 4 2)]
  | 0x40 => [field .NEXT_SLOT 0, field .ATTEMPTS 0]
  | 0x50 => [field .COMMISSIONED 0, field .SEC_KEY_ID 0, field .PFAIL_COUNT 0]
  | 0x52 => [field .ENC_MASK 0, field .KEY_EPOCH (fieldAt c.args 0 2)]
  | 0x62 => [field .LAST_ERASE_SEQ 0, field .LAST_ERASE_TIME 0]
  | _ => []

/-- Two mailbox commands act on the same field of a page, and not both by reading it. -/
def MbCopy.clash (c d : MbCopy) : Bool :=
  !(c.opcode == 1 && d.opcode == 1) && c.spans.any fun (x : Nat × Nat × Nat) => d.spans.any fun (y : Nat × Nat × Nat) =>
    x.1 == y.1 && decide (x.2.1 < y.2.2) && decide (y.2.1 < x.2.2)

/-- An earlier command on the same fields of a page has not been applied (04 R143). A PARAM_GET that took its page when it
was accepted neither waits nor is waited for. -/
def State.mailboxWaits (s : State) (c : MbCopy) : Bool :=
  c.page.isEmpty && s.host.slots.any fun (m : Slot) => m.resp.isNone && m.copy.any fun (d : MbCopy) =>
    decide (d.order < c.order) && d.page.isEmpty && c.clash d

/-- GO is accepted: the command fields and MC_DLEN bytes of MB_DATA are copied, BUSY set and GO cleared in one step (04
R138). A PARAM_GET takes its page as it then stands (06 R238), unless an earlier command on it is still to be applied
(log entry 62). -/
def State.acceptGo (s : State) (n : Nat) (byP8 : Bool) : State :=
  let m := s.slot n
  let dlen := leNat (m.mem.readN 0x44 4)
  let c : MbCopy :=
    { opcode := leNat (m.mem.readN 0x40 2), flags := leNat (m.mem.readN 0x42 2), dlen := dlen,
      seq := m.seq, args := m.mem.readN 0x48 56, data := m.mem.readN 0x100 (min dlen 768),
      byP8 := byP8, order := s.host.goCount }
  let c := { c with fetched := s.q.orders }
  let c := if c.opcode = 1 ∧ s.mailboxWaits c = false then { c with page := s.pageBytes (fieldAt c.args 0 2) } else c
  let r := if s.reg .BOOT_MODE = 2 then c.recoveryReject else c.reject s.host.unlocked s.bobbinAbsent
  let s := { s with host.goCount := s.host.goCount + 1 }
  (s.setSlot n fun m => { m with go := false, busy := true, copy := some c, resp := r }).pulse Ev.mbxCommands

/-- The K760 takes mailbox commands: READY is 1 and PFAIL_N is not asserted (04 Table 4.5, 03 R116). -/
def State.takesGo (s : State) : Bool :=
  (s.on .READY || s.reg .BOOT_MODE == 2) && s.pw.pfail.isNone

/-- Slots whose GO is set, in the order of their GO writes (04 R143). -/
def State.goOrder (s : State) : List Nat :=
  let l := (List.range 4).filter fun n => (s.slot n).go
  l.foldl (fun acc n =>
    acc.takeWhile (fun k => (s.slot k).goAt ≤ (s.slot n).goAt) ++ n ::
      acc.dropWhile (fun k => (s.slot k).goAt ≤ (s.slot n).goAt)) []

/-- Commands whose GO waited for READY are accepted in the order of their GO writes. -/
def State.acceptWaiting (s : State) : State :=
  if s.takesGo then s.goOrder.foldl (fun s n => s.acceptGo n (n == 3 && s.host.claim == 2)) s else s

/-- A side may write MBX_3 fields (04 R145, R146): slots 0-2 are the host's. -/
def State.holds (s : State) (n : Nat) (byP8 : Bool) : Bool :=
  n != 3 || s.host.claim == (if byP8 then 2 else 1)

/-- The other side holds MBX_3 (04 R146). -/
def State.otherHolds (s : State) (n : Nat) (byP8 : Bool) : Bool :=
  n == 3 && s.host.claim == (if byP8 then 1 else 2)

/-- A write discarded because the other side holds MBX_3; the host's is counted (04 R146). -/
def State.refuseWrite (s : State) (byP8 : Bool) : State := if byP8 then s else s.bump .BAD_ACCESS

/-- A write of the MB_CTRL word (04 Table 4.6, R138, R140, R145; 00 R16): MB_SEQ is stored, DONE and PROTO_ERR are
cleared by a 1, GO hands the command over or sets PROTO_ERR. From the side that does not hold MBX_3 only its GO tells,
as PROTO_ERR. A GO written while an earlier one still waits for READY, with BUSY and DONE both 0, is ignored with
PROTO_ERR as R140 has it for BUSY and DONE (DESIGN CHOICE, log entry 131). -/
def State.ctrlWrite (s : State) (n : Nat) (w : Nat) (byP8 : Bool) : State :=
  if s.otherHolds n byP8 then
    (if bit w 0 then s.setSlot n fun m => { m with protoErr := true } else s).refuseWrite byP8
  else
    let m := s.slot n
    let bad := bit w 0 && (m.busy || m.done || m.go || !s.holds n byP8)
    let s := s.setSlot n fun m =>
      { m with seq := w / 256 % 256, done := m.done && !bit w 2,
               protoErr := (m.protoErr && !bit w 3) || bad }
    if bit w 0 && !bad then
      let s := { s.setSlot n fun m => { m with go := true, goAt := s.host.goCount } with
        host.goCount := s.host.goCount + 1 }
      if s.takesGo then s.acceptGo n byP8 else s
    else s

/-- The host's writes reach W0 and W2: no host-side reset is in progress (04 R165, R168) and the
logic die runs. -/
def State.hostReaches (s : State) : Bool :=
  s.host.reset.isNone && !s.host.perst &&
    (s.pw.mode == .run || s.pw.mode == .doze || s.pw.mode == .nap || s.pw.mode == .boot)

/-- A P8 write waits for Run: the device is in Hibernate or on its way from there (04 R150). -/
def State.p8Waits (s : State) : Bool :=
  !s.pw.refFailed && (s.pw.mode == .hibernate ||
    (s.pw.mode == .boot && s.bo.source == .hibernate && s.reg .BOOT_MODE != 2))

/-- P8 is served: in every state but Off (04 R148), and by the warden alone once the reference has failed for good (03
R126). -/
def State.p8Reaches (s : State) : Bool := s.pw.refFailed || (s.pw.mode != .off && !s.p8Waits)

/-- A P8 chip select: its time is kept (04 R147) and it is wake source 5 (03 Table 3.5). -/
def State.p8Select (s : State) : State := { s with host.p8At := s.clock }.arrive 5

/-- A P8 write that wakes the device from Hibernate is kept for Run (04 R150); one that does not wake it is lost (DESIGN
CHOICE, log entry 132). -/
def State.p8Keep (s : State) (offset : Nat) (data : List Byte) : State :=
  if s.p8Waits && (s.pw.mode == .boot || s.pw.waking.isSome || s.pw.wakeLater.isSome) then
    { s with host.p8Held := s.host.p8Held ++ [(offset, data)] }
  else s

/-- A mailbox write by P8 (04 R148, R150): it is served, with what it does to the mailbox, or kept for Run. It restarts
the idle timers, which cancels a state entry (03 R97, R106). -/
def State.p8Access (s : State) (offset : Nat) (data : List Byte) (f : State → State) : State :=
  let t := s.p8Select
  if s.p8Reaches then f t.cancelEntry.restartIdle else t.p8Keep offset data

/-- A mailbox write by the host (03 R97, R106, Table 3.5): wake source 3, and a wake whatever WAKE_ENABLE says where it
is a write of an MB_CTRL word (R110, 04 R136). -/
def State.mailboxWrite (s : State) (ctrl : Bool) : State := ((s.arrive 3 ctrl).cancelEntry).restartIdle

/-- MB_GO (04 R138, R140, R145): a write of MB_CTRL with GO; it wakes and restarts the idle timers
(03 R97, R110). -/
def execMbGo (slot : Nat) (ctrl : BitVec 32) (byP8 : Bool) (s : State) :
    Host.Outcome State Fault Refusal :=
  checked (slot < 4 && (!byP8 || slot == 3))
    (let w := ctrl.toNat ||| 1
     if byP8 then s.p8Access 0 (leBytes 4 w) fun t => t.ctrlWrite slot w true
     else if s.hostReaches then (s.mailboxWrite true).ctrlWrite slot w false
     else s)

/-- MBX_3 is freed: any unread response is discarded (04 R147); an unlock and a challenge end with the
P8 claim (06 R252, R253). -/
def State.release (s : State) : State :=
  let wasP8 := s.host.claim == 2
  let s := { s with host.claim := 0, host.releaseDue := false }
  let s := s.setSlot 3 fun m => { m with done := false }
  if wasP8 then
    { s with host.challenge := none, host.unlocked := false, host.releasedAt := s.clock }
  else s

/-- A release asked for: at once, or when the busy command completes (04 R147). -/
def State.askRelease (s : State) : State :=
  if (s.slot 3).busy then { s with host.releaseDue := true } else s.release

/-- The byte of the reset report for a mailbox command (04 R167): 1 applied, 2 not, 3 while no outcome is known. -/
def reportByte : Option MbResp → Nat
  | none => 3
  | some r => if r.status = St.success then 1 else 2

/-- A mailbox command that a reset left in flight has its outcome noted for the report (04 R167). -/
def State.noteFlight (s : State) (slot : Nat) : State :=
  { s with host.reset := s.host.reset.map fun x =>
      (x.1, x.2.1, x.2.2.modify slot fun v => if v = 0 then 0 else reportByte (s.slot slot).resp) }

/-- MB_COMPLETE (04 R139): the response fields and result data are written, then BUSY cleared and DONE
set, then vector 0 sent; its DRAIN goes before it (14 R633); after a host reset the response is discarded and the slot cleared (Table 4.10); a release that
waited takes effect (R147). -/
def execMbComplete (slot : Nat) (s : State) : Host.Outcome State Fault Refusal :=
  checked (slot < 4)
    (match (s.slot slot).copy, (s.slot slot).resp with
     | some c, some r =>
       let s := if (s.slot slot).discard then
           (s.noteFlight slot).setSlot slot fun _ => {}
         else
           (s.drainFirst.setSlot slot fun m =>
             { m with
               mem := ((m.mem.writeN 0x80 (leBytes 2 r.status ++ leBytes 1 c.seq ++ leBytes 1 0 ++
                 leBytes 4 r.data.length ++ bytesAt r.result 0 24)).writeN 0x100 r.data)
               busy := false, done := true, copy := none, resp := none }).msixSend 0
       if slot = 3 ∧ s.host.releaseDue = true then s.release else s
     | _, _ => s)

/-- MB_DONE_CLEAR (04 R137): a write of 1 to DONE frees the slot. -/
def execMbDoneClear (slot : Nat) (byP8 : Bool) (s : State) : Host.Outcome State Fault Refusal :=
  checked (slot < 4 && (!byP8 || slot == 3))
    (let w := 4 + 256 * (s.slot slot).seq
     if byP8 then s.p8Access 0 (leBytes 4 w) fun t => t.ctrlWrite slot w true
     else if s.hostReaches then (s.mailboxWrite true).ctrlWrite slot w false
     else s)

/-- A write of 1 to MB_CLAIM (04 R146). -/
def State.claimWrite (s : State) (byP8 : Bool) : State :=
  if s.host.claim = 0 then { s with host.claim := if byP8 then 2 else 1 }
  else if s.otherHolds 3 byP8 then s.refuseWrite byP8 else s

/-- MB_CLAIM (04 R146): P8 wins a tie. -/
def execMbClaim (byHost byP8 : Bool) (s : State) : Host.Outcome State Fault Refusal :=
  .next
    (if byP8 then s.p8Access 4 (leBytes 4 1) fun t => t.claimWrite true
     else if byHost && s.hostReaches then (s.mailboxWrite false).claimWrite false
     else s)

/-- A write of 0 to MB_CLAIM (04 R147). -/
def State.releaseWrite (s : State) (byP8 : Bool) : State :=
  if s.host.claim = (if byP8 then 2 else 1) then s.askRelease
  else if s.otherHolds 3 byP8 then s.refuseWrite byP8 else s

/-- MB_RELEASE (04 R147). -/
def execMbRelease (byP8 : Bool) (s : State) : Host.Outcome State Fault Refusal :=
  .next
    (if byP8 then s.p8Access 4 (leBytes 4 0) fun t => t.releaseWrite true
     else if s.hostReaches then (s.mailboxWrite false).releaseWrite false
     else s)

/-- P8_CLAIM_TIMEOUT (04 R147): 5 s without P8 chip-select activity release a P8 claim. -/
def execP8ClaimTimeout (s : State) : Host.Outcome State Fault Refusal :=
  .next (if s.host.claim = 2 ∧ s.clock ≥ s.host.p8At + 5000000 then s.askRelease else s)

/-- Offsets of a slot that a write stores: the command fields and MB_DATA (04 Table 4.6). -/
def slotWritable (o : Nat) : Bool := (0x40 ≤ o && o < 0x80) || (0x100 ≤ o && o < 0x400)

/-- A byte stored in a slot's command fields or MB_DATA; with BUSY it is discarded and PROTO_ERR set
(04 R141). -/
def State.slotByteWrite (s : State) (n o : Nat) (b : Byte) : State :=
  if !slotWritable o then s
  else if (s.slot n).busy then s.setSlot n fun m => { m with protoErr := true }
  else s.setSlot n fun m => { m with mem := m.mem.write o b }

/-- The bytes of a P8 write in order (04 R149): `run` holds the bytes already written in this
transaction, latest first; MB_CTRL and MB_CLAIM act only once all four bytes of their word are written. -/
def State.p8Bytes (s : State) (o : Nat) (run : List Byte) : List Byte → State
  | [] => s
  | b :: bs =>
    let run' := b :: run
    let o := o % 1024
    let word := leNat (run'.take 4).reverse
    let s :=
      if o = 3 ∧ run'.length ≥ 4 then s.ctrlWrite 3 word true
      else if o = 7 ∧ run'.length ≥ 4 then
        match word % 4 with
        | 1 => s.claimWrite true
        | 0 => s.releaseWrite true
        | _ => s
      else if s.otherHolds 3 true then s
      else s.slotByteWrite 3 o b
    s.p8Bytes (o + 1) run' bs

/-- P8_WRITE (04 R148, R149). -/
def execP8Write (offset : Nat) (data : List Byte) (s : State) : Host.Outcome State Fault Refusal :=
  .next (s.p8Access offset data fun t => t.p8Bytes offset [] data)

/-- The P8 writes kept since a wake from Hibernate are served (04 R150). -/
def State.serveP8 (s : State) : State :=
  let l := s.host.p8Held
  l.foldl (fun s x => s.p8Bytes x.1 [] x.2) { s with host.p8Held := [] }

/-- The MB_CTRL word as read (04 Table 4.6). -/
def State.ctrlWord (s : State) (n : Nat) : Nat :=
  let m := s.slot n
  b2n m.go + 2 * b2n m.busy + 4 * b2n m.done + 8 * b2n m.protoErr + 256 * m.seq
    + 65536 * (if n = 3 then s.host.claim else 0)

/-- A byte of a slot as read. -/
def State.slotByte (s : State) (n o : Nat) : Byte :=
  if o < 4 then (leBytes 4 (s.ctrlWord n)).getD o 0 else (s.slot n).mem.read o

/-- P8_READ (04 R148): MBX_3 bytes from the offset; zeros until Run is reached (R150). -/
def execP8Read (offset len : Nat) (s : State) : Host.Outcome State Fault Refusal :=
  .next
    (let t := s.p8Select
     { t with host.p8Out := (List.range len).map fun i =>
         if s.p8Reaches then t.slotByte 3 ((offset + i) % 1024) else 0 })

/-- P8_STATUS (04 R148, R150). -/
def execP8Status (s : State) : Host.Outcome State Fault Refusal :=
  .next
    (let t := s.p8Select
     let m := t.slot 3
     { t with host.p8Out := leBytes 1 (if s.p8Reaches then
         b2n (t.on .READY) + 2 * b2n (t.host.claim == 2) + 4 * b2n m.busy + 8 * b2n m.done
           + 16 * b2n m.protoErr else 0) })

/-- NT_TAIL_WRITE (04 R153, R136): the tail moves, and the write wakes the device (03 R110). -/
def execNtTailWrite (v : Nat) (s : State) : Host.Outcome State Fault Refusal :=
  .next (if s.hostReaches then (s.arrive 3 true).set .NT_TAIL v else s)

/-- An access the host may make: naturally aligned, of 4 or 8 bytes (04 R133). -/
def accessOk (offset size : Nat) : Bool := (size == 4 || size == 8) && offset % size == 0

/-- The bytes of a write to a slot, from an offset: a write of the whole MB_CTRL word or of MB_CLAIM acts, the command
fields and MB_DATA are stored; reserved and RO bytes are discarded (04 R134, R137, R141, R146). -/
def State.fieldBytes (s : State) (slot offset : Nat) (data : List Byte) (byP8 : Bool) : State :=
  let word (o : Nat) : Nat := fieldAt data (o - offset) 4
  let s := if offset = 0 ∧ 4 ≤ data.length then s.ctrlWrite slot (word 0) byP8 else s
  let s := if slot = 3 ∧ offset ≤ 4 ∧ 8 ≤ offset + data.length then
      match word 4 % 4 with
      | 1 => s.claimWrite byP8
      | 0 => s.releaseWrite byP8
      | _ => s
    else s
  if !(decide (8 < offset + data.length)) then s
  else if s.otherHolds slot byP8 then s.refuseWrite byP8
  else (List.range data.length).foldl (fun s i => s.slotByteWrite slot (offset + i) (data.getD i 0)) s

/-- MB_FIELD_WRITE (04 R133, R134, R136, R137, R141, R146): a write to a slot, by the host an access of R133. It restarts
the idle timers (03 R97); one of the MB_CTRL word wakes whatever WAKE_ENABLE says. -/
def execMbFieldWrite (slot offset : Nat) (data : List Byte) (byP8 : Bool) (s : State) :
    Host.Outcome State Fault Refusal :=
  checked (slot < 4 && (!byP8 || slot == 3) && offset + data.length ≤ 1024)
    (if byP8 then s.p8Access offset data fun t => t.fieldBytes slot offset data true
     else if !s.hostReaches then s
     else if !accessOk offset data.length then s.bump .BAD_ACCESS
     else (s.mailboxWrite (offset == 0)).fieldBytes slot offset data false)

/-- The 32 bytes of a notice (04 Table 4.8). -/
def Notice.bytes (n : Notice) : List Byte :=
  leBytes 2 n.code ++ leBytes 1 n.sev ++ leBytes 1 0 ++ leBytes 4 n.seq ++ leBytes 8 n.time ++ leBytes 16 n.data

/-- The 16 bytes of an MSI-X table entry (04 R155). -/
def MsixEntry.bytes (e : MsixEntry) : List Byte :=
  leBytes 8 e.addr ++ leBytes 4 e.data ++ leBytes 4 (b2n e.masked)

/-- A byte of W0 as read (04 Table 4.4, R134): the status block, the slots, the notice ring, the MSI-X table and pending
bits; MB_CLAIM and what is reserved read as 0. -/
def State.w0Byte (s : State) (o : Nat) : Byte :=
  if o < 0x100 then (s.pageBytes 0x10000).getD o 0
  else if 0x1000 ≤ o ∧ o < 0x2000 then s.slotByte ((o - 0x1000) / 1024) (o % 1024)
  else if 0x2000 ≤ o ∧ o < 0x2800 then
    (((Map.get s.host.notices ((o - 0x2000) / 32)).map Notice.bytes).getD []).getD (o % 32) 0
  else if 0x4000 ≤ o ∧ o < 0x8000 then
    ((Map.get s.host.msix ((o - 0x4000) / 16)).getD {}).bytes.getD (o % 16) 0
  else if 0x8000 ≤ o ∧ o < 0x8080 then
    BitVec.ofNat 8 ((List.range 8).map fun i => 2 ^ i * b2n (s.host.msixPending.contains (8 * (o - 0x8000) + i))).sum
  else 0

/-- The sizes of W0 and W2 (04 R132). -/
def windowSize (window : Nat) : Nat := if window = 0 then 0x10000 else 0x80000

/-- W0_BAD_ACCESS (04 R132-R134, R136, R158): a host access of a window. One that is not naturally aligned and 4 or 8
bytes long is discarded, or returns 0, and is counted. Another read returns what stands there, in W2 always 0, in Nap
without a wake; another write by this row is to a reserved offset, and is discarded. -/
def execW0BadAccess (window offset size : Nat) (write : Bool) (s : State) :
    Host.Outcome State Fault Refusal :=
  checked ((window == 0 || window == 2) && offset + size ≤ windowSize window)
    (if accessOk offset size then
      (if write then s
       else { s with host.readValue := if window = 0 then
                leNat ((List.range size).map fun i => s.w0Byte (offset + i)) else 0 })
     else (if write then s else { s with host.readValue := 0 }).bump .BAD_ACCESS)

/-- The registers of the configuration space that identify the function, and No_Soft_Reset (04 R131, Table 4.3, R162):
Vendor ID, Device ID, Revision ID, Class code, Subsystem Vendor ID, Subsystem ID, No_Soft_Reset. -/
def State.pciIdentity (s : State) : List Nat :=
  [Config.lueriVid % 65536, 0x0760, 0xB1, 0x018000, s.host.subsys.1, s.host.subsys.2, 1]

/-- MSIX_MASK_WRITE (04 R155): the enable, the function mask or a table entry; a message whose pending
bit is set goes out when its vector is unmasked. Enabling MSI-X stands for the host's return of bus
mastering, for which the table has no row (DESIGN CHOICE, log entry 6). -/
def execMsixMaskWrite (w : MsixWrite) (s : State) : Host.Outcome State Fault Refusal :=
  let ok := match w with
    | .entry v _ _ _ => v < 1024
    | _ => true
  checked ok
    (if !s.hostReaches then s
     else match w with
      | .enable on => (if on then { s with host.msixOn := true, host.busMaster := true }.msixFlush
          else { s with host.msixOn := false })
      | .functionMask on => { s with host.msixFnMask := on }.msixFlush
      | .entry v addr data masked =>
        { s with host.msix := Map.put s.host.msix v { addr := addr, data := data, masked := masked } }.msixFlush)

end Sys2Proof.Machine
end

