-- ==== Sys2Proof/Machine/Queues.lean ====
section
/-! DEFINITION. Queue pairs: completion entries, halts, doorbells, fetching and arbitration, the context
cache, fences, abort (05), and host-side resets (04 R165-R168). -/

namespace Sys2Proof.Machine

/-- Commands are acted on: Run or Doze with no exit to Run outstanding (03 R106, R107), or the boot ROM's
recovery (19 R796). -/
def State.awake (s : State) : Bool :=
  ((s.pw.mode == .run || s.pw.mode == .doze) && s.pw.waking.isNone) ||
    (s.pw.mode == .boot && s.reg .BOOT_MODE == 2)

/-- A pair changed. -/
def State.setPair (s : State) (qp : Nat) (f : QPair → QPair) : State :=
  { s with q.pairs := Map.update s.q.pairs qp f }

/-- The pair's interrupt is sent and its coalescing restarts (05 Table 5.2). -/
def State.signal (s : State) (qp : Nat) : State :=
  match Map.get s.q.pairs qp with
  | none => s
  | some p =>
    let s := s.setPair qp fun p => { p with coalPend := 0 }
    if p.irq then s.msixSend p.vector else s

/-- Completion entries can be written: the function is in D0, and P0 is up (05 R222, R226). -/
def State.canPost (s : State) : Bool := !s.host.d3hot && s.p0Up

/-- A completion entry is written at the CQ's write position, which moves on and inverts the phase at a
wrap (05 R185, R186); the interrupt is sent at once, or coalesced by count and time (Table 5.2). -/
def State.writeCqe (s : State) (qp tag status result : Nat) (coarse atOnce : Bool) : State :=
  match Map.get s.q.pairs qp with
  | none => s
  | some p =>
    let bytes := leBytes 2 tag ++ leBytes 2 status ++ leBytes 2 p.sqHead
      ++ leBytes 2 (b2n p.phase + 2 * b2n coarse) ++ leBytes 8 result
    let addr := p.cqBase + 16 * p.cqWrite
    let wrap := p.cqWrite + 1 == p.cqDepth
    let s := s.setPair qp fun p =>
      { p with cqWrite := if wrap then 0 else p.cqWrite + 1, phase := p.phase != wrap,
               coalPend := p.coalPend + 1,
               coalSince := if p.coalPend = 0 then s.clock else p.coalSince }
    let s := (s.pulse Ev.completions).hostWrite addr bytes
    if atOnce || (p.coalCount == 0 && p.coalTime == 0) ||
        (p.coalCount != 0 && p.coalPend + 1 ≥ p.coalCount) then s.signal qp else s

/-- The commands outstanding on a pair. -/
def State.pairCmds (s : State) (qp : Nat) : List QCmd := s.q.cmds.filter fun c => c.qp == qp

/-- A pair is pinned in the context cache while it has a command outstanding (05 R198). -/
def State.pinned (s : State) (qp : Nat) : Bool := s.q.cmds.any fun c => c.qp == qp

/-- A context is brought into the cache: a hit, or a miss that replaces the least recently used unpinned
entry; with all 1,024 pinned the doorbell waits (05 R197-R200). -/
def State.cacheTouch (s : State) (qp : Nat) : State :=
  if s.q.cache.contains qp then
    { s with q.cache := qp :: s.q.cache.erase qp }.pulse Ev.ctxHits
  else
    let s := s.pulse Ev.ctxMisses
    if s.q.cache.length < s.reg .CTX_CACHE then
      { s with q.cache := qp :: s.q.cache, q.waiting := s.q.waiting.erase qp }
    else match s.q.cache.reverse.find? fun k => !s.pinned k with
      | some v => { s with q.cache := qp :: s.q.cache.erase v, q.waiting := s.q.waiting.erase qp }
      | none => if s.q.waiting.contains qp then s else { s with q.waiting := s.q.waiting ++ [qp] }

/-- A context can be brought into the cache: it is there, or there is an entry free or unpinned (05 R198, R199). -/
def State.cacheable (s : State) (qp : Nat) : Bool :=
  s.q.cache.contains qp || decide (s.q.cache.length < s.reg .CTX_CACHE) || s.q.cache.any fun k => !s.pinned k

/-- Once a halted pair has no command outstanding, the QP_HALTED entry is written with the reason and
signalled at once; a QP_DELETE then releases the context and completes (05 R210, R180). -/
def State.haltEntry (s : State) (qp : Nat) : State :=
  match Map.get s.q.pairs qp with
  | none => s
  | some p =>
    match p.halted with
    | none => s
    | some r =>
      if p.haltWritten || s.pinned qp || !s.canPost then s
      else
        let s := s.drainFirst.writeCqe qp 0xFFFF St.qpHalted (r + r * 2 ^ 32) false true
        let s := (s.setPair qp fun p => { p with haltWritten := true })
        match p.deleting with
        | none => s
        | some slot =>
          { s with q.pairs := Map.erase s.q.pairs qp, q.cache := s.q.cache.erase qp }.answer slot okResp

/-- A command leaves the outstanding list and its completion entry is written (05 R184, R214), after its DRAIN (14
R633); its tag joins the pair's last 32 completions. -/
def State.postOne (s : State) (c : QCmd) (status result : Nat) (coarse : Bool) : State :=
  let s := s.drainFirst
  let s := { s with q.cmds := s.q.cmds.filter fun d => !(d.qp == c.qp && d.tag == c.tag) }
  let s := s.setPair c.qp fun p => { p with lastTags := (c.tag :: p.lastTags).take 32 }
  let s := s.writeCqe c.qp c.tag status result coarse false
  s.pulse Ev.dbToCqe ((s.clock - c.fetchedAt) * 1000)

/-- A command changed in the outstanding list. -/
def State.setCmd (s : State) (c : QCmd) (f : QCmd → QCmd) : State :=
  { s with q.cmds := s.q.cmds.map fun d => if d.qp == c.qp && d.tag == c.tag then f d else d }

/-- A command ends: its entry is written, or held while none can be, and the command stays outstanding until then (05
R184, R222, R226). -/
def State.endOne (s : State) (c : QCmd) (status result : Nat) (coarse : Bool := false) : State :=
  if s.canPost then s.postOne c status result coarse
  else
    let s := s.setCmd c fun d => { d with ended := some (status, result, coarse) }
    { s with q.held := s.q.held ++ [{ qp := c.qp, tag := c.tag }] }

/-- The outstanding command with a tag. -/
def State.cmd (s : State) (qp tag : Nat) : Option QCmd :=
  s.q.cmds.find? fun c => c.qp == qp && c.tag == tag

/-- The outcome of an ABORT that waited for its target's end (05 R215, R217): past its commit point it completed
normally; one without a commit point had its completion claimed by its end; an ABORT is never known. -/
def QCmd.abortOutcome (c : QCmd) : Nat := if c.opcode = 0x102 then 4 else if c.committed then 3 else 2

/-- The ABORTs that waited for a command's end answer, after the command's own entry (05 R215, R216), and those that
waited for them in turn. -/
def State.endAborts (s : State) (outcome : Nat) (l : List (Nat × Nat)) : Nat → State
  | 0 => s
  | fuel + 1 =>
    l.foldl (fun s k =>
      match s.cmd k.1 k.2 with
      | none => s
      | some a =>
        if a.ended.isSome then s
        else
          let s := (s.endOne a St.success outcome).pulse Ev.abortsMissed
          (s.endAborts 4 a.abortBy fuel).haltEntry k.1) s

/-- A command completes: its entry, then the ABORTs that waited for it, then QP_HALTED if its pair is
halted and drained (05 R206, R210, R216). One that has already ended keeps its end (R214). -/
def State.finish (s : State) (c : QCmd) (status result : Nat) (coarse : Bool := false) : State :=
  if c.ended.isSome then s
  else ((s.endOne c status result coarse).endAborts c.abortOutcome c.abortBy s.q.cmds.length).haltEntry c.qp

/-- A completion with a count and a detail (06 R235). -/
def State.finishWith (s : State) (c : QCmd) (status count detail : Nat) : State :=
  s.finish c status (count % 2 ^ 32 + (detail % 2 ^ 32) * 2 ^ 32)

/-- Reads, which a halt or an abort can stop at any moment (05 Table 5.7). -/
def isRead (opcode : Nat) : Bool :=
  [0x110, 0x130, 0x131, 0x132, 0x141, 0x150, 0x161, 0x170].contains opcode

/-- The count a command reports when it does not succeed (06 R235): of a FW_STAGE the chunks verified in its slot. -/
def State.doneCount (s : State) (c : QCmd) : Nat :=
  if c.opcode = 0x180 then
    match fieldAt c.args 0 1 with
    | 0 => s.reg .STAGED_A
    | 1 => s.reg .STAGED_B
    | _ => 0
  else c.count

/-- A command of a halted pair (05 R210): one not started is flushed; a started read is stopped, and the status it then
ends with, which no rule gives, is a free value (log entry 133); what else has started runs on to its own end. -/
def State.haltCmd (s : State) (reason : Nat) (c : QCmd) : State :=
  if c.committed || c.ended.isSome then s
  else if !c.started then s.finishWith c St.haltFlushed (s.doneCount c) reason
  else if isRead c.opcode then
    let (v, s) := s.draw
    s.finishWith c (v % 65536) (s.doneCount c) (v / 65536)
  else s

/-- A pair halts (05 R210): fetching stops, its commands end as `haltCmd` says, and once nothing is outstanding
QP_HALTED follows. -/
def State.halt (s : State) (qp reason : Nat) : State :=
  match Map.get s.q.pairs qp with
  | none => s
  | some p =>
    if p.halted.isSome then s
    else
      let s := (s.setPair qp fun p => { p with halted := some reason }).pulse Ev.qpHalts
      ((s.pairCmds qp).foldl (fun s c => s.haltCmd reason c) s).haltEntry qp

/-- A doorbell write is applied (05 R190, R191, R194; 04 R158): the SQ tail before the CQ head. -/
def State.doorbell (s : State) (qp : Nat) (sqTail cqHead : Option Nat) : State :=
  match Map.get s.q.pairs qp with
  | none => s.bump .DB_STRAY
  | some p =>
    if p.halted.isSome then s.bump .DB_STRAY
    else
      let s := s.cacheTouch qp
      let s := match sqTail with
        | none => s
        | some t => if t < p.sqDepth then s.setPair qp fun p => { p with sqTail := t } else s.halt qp 1
      match cqHead with
      | none => s
      | some h =>
        if h < p.cqDepth ∧
            (h + p.cqDepth - p.cqHead) % p.cqDepth ≤ (p.cqWrite + p.cqDepth - p.cqHead) % p.cqDepth
        then s.setPair qp fun p => { p with cqHead := h }
        else s.halt qp 2

/-- The doorbell queue takes a write to a pair (05 R199, R200): it has room, or the pair's context is at hand. -/
def State.bellFits (s : State) (qp : Nat) : Bool :=
  s.cacheable qp || s.q.waiting.contains qp || decide (s.q.waiting.length < 512) || !Map.has s.q.pairs qp

/-- A write of W2 reaches the doorbell of pair offset / 8 (05 R189): SQ_TAIL at +0, CQ_HEAD at +4. -/
def State.bellWrite (s : State) (offset : Nat) (data : List Byte) : State :=
  let low := fieldAt data 0 4
  if data.length = 8 then s.doorbell (offset / 8) (some low) (some (fieldAt data 4 4))
  else if offset % 8 = 0 then s.doorbell (offset / 8) (some low) none
  else s.doorbell (offset / 8) none (some low)

/-- Writes that flow control held back are taken, in order, as far as the doorbell queue has room for them (05 R200). -/
def State.takeBlocked (s : State) : Nat → State
  | 0 => s
  | n + 1 =>
    match s.q.blocked with
    | [] => s
    | (o, d) :: rest =>
      if s.bellFits (o / 8) then ({ s with q.blocked := rest }.bellWrite o d).takeBlocked n else s

/-- Contexts whose doorbells waited are loaded once a cache entry unpins (05 R199), and the queue takes what flow control
held back (R200). -/
def State.cacheWaiting (s : State) : State :=
  let s := match s.q.waiting with
    | [] => s
    | qp :: rest => if s.cacheable qp then { s with q.waiting := rest }.cacheTouch qp else s
  s.takeBlocked s.q.blocked.length

/-- DOORBELL_WRITE (05 R189-R194, R200; 04 R133, R158; 03 R97, R110): a host write of `size` bytes of W2. With the doorbell queue full, flow
control holds it back, and those after it. -/
def execDoorbellWrite (offset size value : Nat) (s : State) : Host.Outcome State Fault Refusal :=
  checked (offset + size ≤ windowSize 2)
    (if !s.hostReaches then s
     else if !accessOk offset size then s.bump .BAD_ACCESS
     else
      let data := leBytes size value
      let s := (((s.arrive 3 true).restartIdle).pulse Ev.doorbells).cacheWaiting
      if s.q.blocked.isEmpty && s.bellFits (offset / 8) then s.bellWrite offset data
      else { s with q.blocked := s.q.blocked ++ [(offset, data)] })

/-- An entry of a pair may be fetched under the limits of 05 R192: under 64 outstanding on the pair,
under 4,096 on the device, and a CQ slot free beside the one kept for QP_HALTED. -/
def State.fetchable (s : State) (qp : Nat) : Bool :=
  match Map.get s.q.pairs qp with
  | none => false
  | some p =>
    let n := (s.pairCmds qp).length
    p.halted.isNone && p.sqHead != p.sqTail && n < 64 && s.q.cmds.length < 4096
      && (p.cqWrite + p.cqDepth - p.cqHead) % p.cqDepth + n + 2 ≤ p.cqDepth - 1
      && s.cacheable qp

/-- A command may start under the fences of its pair (05 R205). -/
def State.unfenced (s : State) (c : QCmd) : Bool :=
  let earlier := (s.pairCmds c.qp).filter fun d => d.order < c.order
  if c.fence then earlier.isEmpty else !(earlier.any fun d => d.fence)

/-- A fenced command of a pair waits for its start turn, and may have it (05 R202, R205). -/
def State.startable (s : State) (qp : Nat) : Bool :=
  (s.pairCmds qp).any fun c => c.fence && !c.granted && c.ended.isNone && s.unfenced c

/-- The pairs of a class that have an entry to fetch or a fenced command to start, by rising number (05 R202, R203). -/
def State.readyPairs (s : State) (cls : Nat) : List Nat :=
  (s.q.pairs.filter fun e => e.2.cls == cls && (s.fetchable e.1 || s.startable e.1)).map (·.1)

/-- Turns of a class in a round (05 R202). -/
def classTurns : Nat → Nat
  | 0 => 8
  | 1 => 4
  | 2 => 2
  | _ => 1

/-- The class whose turn it is: the first in order that has turns left in the round and a ready pair; a
class with none passes its turns on, and a finished round starts again (05 R202). -/
def State.turnOf (s : State) : Option (Nat × Bool) :=
  let rdy (k : Nat) := !(s.readyPairs k).isEmpty
  match (List.range 4).find? fun k => rdy k && decide (s.q.turns.getD k 0 < classTurns k) with
  | some k => some (k, false)
  | none => ((List.range 4).find? rdy).map fun k => (k, true)

/-- The pair whose turn it is: within the class, round robin from the pair last served (05 R203). -/
def State.granted (s : State) : Option (Nat × Nat × Bool) :=
  match s.turnOf with
  | none => none
  | some (k, fresh) =>
    let l := s.readyPairs k
    let pick := match s.q.last.getD k none with
      | none => l.head?
      | some q => (l.find? fun x => q < x).or l.head?
    pick.map fun q => (q, k, fresh)

/-- Opcodes a submission entry may carry (06 Table 6.3). -/
def queueOpcodes : List Nat :=
  [0x100, 0x101, 0x102, 0x110, 0x111, 0x112, 0x120, 0x130, 0x131, 0x132, 0x133, 0x140, 0x141, 0x150,
   0x160, 0x161, 0x170, 0x180]

/-- Opcodes whose row has no buffer (06 Table 6.3). -/
def unbuffered (opcode : Nat) : Bool :=
  [0x100, 0x101, 0x102, 0x112, 0x120, 0x133, 0x140, 0x141, 0x160].contains opcode

/-- The descriptors of a list of `n` (05 R183): an 8-byte address, a 4-byte length, 4 reserved bytes. -/
def descriptors (n : Nat) (bs : List Byte) : List (Nat × Nat) :=
  (List.range n).map fun i => (fieldAt bs (16 * i) 8, fieldAt bs (16 * i + 8) 4)

/-- The first fault of a descriptor list: a count of 0 or above 256, or a length of 0 or above 16 MiB
(05 R183, R229, 06 Table 6.4). -/
def descFault (count : Nat) (l : List (Nat × Nat)) : Option Nat :=
  if count = 0 ∨ count > 256 ∨ l.length ≠ count then some 0xFFFFFFFF
  else (l.findIdx? fun d => d.2 == 0 || d.2 > 0x1000000).map (16 * ·)

/-- The command a fetched entry makes (05 Table 5.3). -/
def State.makeCmd (s : State) (qp : Nat) (e : List Byte) (input list : List Byte) : QCmd :=
  let sgl := bit (fieldAt e 2 1) 2
  let desc := if fieldAt e 16 4 ≤ 256 then descriptors (fieldAt e 16 4) list else []
  let fence := bit (fieldAt e 2 1) 0 || fieldAt e 0 2 == 0x101
  let args := bytesAt e 24 40
  let opcode := fieldAt e 0 2
  let target := fieldAt args 0 2
  { qp := qp, tag := fieldAt e 4 2, opcode := opcode,
    fence := fence, granted := !fence, noWait := bit (fieldAt e 2 1) 1,
    buf := if sgl then desc else [(fieldAt e 8 8, fieldAt e 16 4)],
    args := args, input := input, order := s.q.orders, fetchedAt := s.clock, fetchTime := s.now,
    tails := if opcode = 0x102 then
        match Map.get s.q.pairs target with
        | none => []
        | some p => [(target, p.sqTail)]
      else (List.range 10).map fun n => (n, s.get .TAIL_OFFSET n),
    sgl := sgl,
    badDesc := if sgl then (descFault (fieldAt e 16 4) desc).or (if unbuffered opcode then some 0xFFFFFFFF else none)
      else none }

/-- The pair `qp` uses the turn of its class `k` (05 R202, R203). -/
def State.useTurn (s : State) (qp k : Nat) (fresh : Bool) : State :=
  let turns := if fresh then [0, 0, 0, 0] else s.q.turns
  { s with q.turns := turns.modify k (· + 1), q.last := s.q.last.set k (some qp) }

/-- SQ_FETCH (05 R183, R190-R206): the pair whose turn it is has its next entry fetched, with its descriptor list as it
stands in host memory; a bad tag halts it, an unknown opcode completes at once. Pairs that waited for a cache entry have
theirs first (R199). -/
def execSqFetch (qp : Nat) (entry buffer descriptors : List Byte) (s : State) :
    Host.Outcome State Fault Refusal :=
  checked (qp < 65536 && entry.length == 64)
    (let s := if s.host.reset.isSome then s else s.cacheWaiting
     if !s.serving || s.host.d3hot || s.host.reset.isSome then s
     else match s.granted with
      | none => s
      | some (q, k, fresh) =>
        if q ≠ qp ∨ s.fetchable qp = false then s
        else
          let c := s.makeCmd qp entry buffer descriptors
          let dup := (s.cmd qp c.tag).isSome
          let s : State := { s.useTurn qp k fresh with q.orders := s.q.orders + 1 }
          let s := (s.cacheTouch qp).setPair qp fun p =>
            { p with sqHead := if p.sqHead + 1 = p.sqDepth then 0 else p.sqHead + 1 }
          if c.tag = 0xFFFF ∨ dup = true then s.halt qp 3
          else
            let s := { s with q.cmds := s.q.cmds ++ [c] }
            if queueOpcodes.contains c.opcode then s
            else s.finishWith c St.unknownCommand 0 c.opcode)

/-- FENCED_START (05 R202, R205): a fenced entry starts once every earlier-fetched command of its pair has completed, when
its pair has the turn. -/
def execFencedStart (qp tag : Nat) (s : State) : Host.Outcome State Fault Refusal :=
  .next (match s.cmd qp tag, s.granted with
    | some c, some (q, k, fresh) =>
      if s.awake && q == qp && c.fence && !c.granted && c.ended.isNone && s.unfenced c then
        (s.useTurn qp k fresh).setCmd c fun d => { d with granted := true }
      else s
    | _, _ => s)

/-- A queue command's row acts: the command is outstanding with the row's opcode, the cores run, it has had its start
turn and no fence holds it back. A descriptor list given to a row without a buffer is malformed (05 R229). -/
def State.runCmd (s : State) (qp tag opcode : Nat) (f : QCmd → State → State) :
    Host.Outcome State Fault Refusal :=
  .next (match s.cmd qp tag with
    | none => s
    | some c =>
      if c.opcode == opcode && s.awake && c.granted && c.ended.isNone && s.unfenced c then
        match unbuffered opcode, c.badDesc with
        | true, some d => s.finishWith c St.badLength 0 d
        | _, _ => f c s
      else s)

/-- NOP (06 Table 6.3). -/
def execNop (qp tag : Nat) (s : State) : Host.Outcome State Fault Refusal :=
  s.runCmd qp tag 0x100 fun c s => s.finish c St.success 0

/-- FENCE (06 Table 6.3, 05 R205): a NOP entry with FENCE set. -/
def execFence (qp tag : Nat) (s : State) : Host.Outcome State Fault Refusal :=
  s.runCmd qp tag 0x101 fun c s => s.finish c St.success 0

/-- The target's queue holds entries that the ABORT must still see fetched: those up to the tail it held at
the ABORT's fetch, within the limits (05 R213). -/
def State.abortWaits (s : State) (c : QCmd) : Bool :=
  c.tails.any fun e =>
    match Map.get s.q.pairs e.1 with
    | none => false
    | some p =>
      s.fetchable e.1 && p.sqHead != e.2 &&
        (e.2 + p.sqDepth - p.sqHead) % p.sqDepth ≤ (p.sqTail + p.sqDepth - p.sqHead) % p.sqDepth

/-- A fence holds the target behind the ABORT itself, so it could never complete first (05 R205, R216). -/
def fencedBehind (a t : QCmd) : Bool := a.qp == t.qp && a.order < t.order && (a.fence || t.fence)

/-- The command an ABORT waits for (05 R216). -/
def State.abortTarget (s : State) (a : QCmd) : Option QCmd :=
  s.q.cmds.find? fun d => d.abortBy.contains (a.qp, a.tag)

/-- An ABORT waits, through others or not, for the end of `c`. -/
def State.waitsOn (s : State) (c a : QCmd) : Nat → Bool
  | 0 => false
  | fuel + 1 =>
    (a.qp == c.qp && a.tag == c.tag) || (s.abortTarget a).any fun d => s.waitsOn c d fuel

/-- ABORT resolved (05 R214-R219): an uncommitted target is caught, one whose completion is already claimed is
MISSED_DONE. One that cannot be caught (past its commit point; NOP, FENCE and ABORT, which have none) has its entry
written first, so the ABORT waits for its end. Where the target could not end before the ABORT (the ABORT itself, a
circle of ABORTs, a target that a fence holds behind it) the wait R216 asks cannot be had, and the ABORT answers at once
(DESIGN CHOICE, log entry 130). -/
def State.resolveAbort (c : QCmd) (s : State) : State :=
  let tq := fieldAt c.args 0 2
  let tt := fieldAt c.args 2 2
  let miss (s : State) (k : Nat) := (s.finish c St.success k).pulse Ev.abortsMissed
  if s.abortWaits c then s
  else match s.cmd tq tt with
    | some t =>
      if t.ended.isSome then miss s 2
      else if !t.committed && !([0x100, 0x101, 0x102] : List Nat).contains t.opcode then
        ((s.finishWith t St.aborted (s.doneCount t) c.tag).finish c St.success 1).pulse Ev.abortsCaught
      else if fencedBehind c t || s.waitsOn c t (s.q.cmds.length + 1) then miss s 4
      else (s.setCmd t fun d => { d with abortBy := d.abortBy ++ [(c.qp, c.tag)] }).setCmd c
        fun d => { d with started := true }
    | none =>
      match Map.get s.q.pairs tq with
      | none => miss s 4
      | some p => if p.lastTags.contains tt then miss s 2 else miss s 4

/-- COAL_TIMER_EXPIRY (05 Table 5.2): COAL_TIME_US after the first coalesced entry its interrupt is
sent. -/
def execCoalTimerExpiry (qp : Nat) (s : State) : Host.Outcome State Fault Refusal :=
  checked (qp < 65536)
    (match Map.get s.q.pairs qp with
     | none => s
     | some p =>
       if p.coalPend > 0 ∧ p.coalTime > 0 ∧ s.clock ≥ p.coalSince + p.coalTime then s.signal qp else s)

/-- HOST_READ_TIMEOUT (04 R171, 05 Table 5.8): a host read without completion within 50 ms fails its
command, or halts the pair whose entries it was fetching. A completion timeout is an uncorrectable AER
error (PRESUMED, log entry 155). -/
def execHostReadTimeout (qp : Nat) (tag : Option Nat) (s : State) : Host.Outcome State Fault Refusal :=
  checked (qp < 65536)
    (let s := ((s.bump .DMA_TIMEOUTS).bump .AER_UNCORR).pulse Ev.dmaTimeouts
     let s := s.report Code.hostDmaTimeout qp
     match tag with
     | none => s.halt qp 4
     | some t =>
       match s.cmd qp t with
       | none => s
       | some c => if c.committed then s else s.finishWith c St.hostTimeout (s.doneCount c) 0)

/-- POISONED_TLP (04 R172, 05 Table 5.8): the data is not used; its command fails, or the pair whose
entries it held halts. It counts as an uncorrectable AER error (PRESUMED, log entry 155). -/
def execPoisonedTlp (qp : Nat) (tag : Option Nat) (s : State) : Host.Outcome State Fault Refusal :=
  checked (qp < 65536)
    (let s := (s.bump .AER_UNCORR).report Code.hostPoisonedTlp qp
     match tag with
     | none => s.halt qp 5
     | some t =>
       match s.cmd qp t with
       | none => s
       | some c => if c.committed then s else s.finishWith c St.poisonedInput (s.doneCount c) 0)

/-- D3HOT_ENTRY (04 R162): fetching stops, contexts are kept. -/
def execD3hotEntry (s : State) : Host.Outcome State Fault Refusal :=
  .next (if s.hostReaches then { s with host.d3hot := true } else s)

/-- Commands that ended while no entry could be written have their entries written in the order of their ends, then the
QP_HALTED entries that waited for them (05 R210, R226). -/
def State.writeHeld (s : State) : State :=
  if !s.canPost then s
  else
    let l := s.q.held
    let s := l.foldl (fun s h =>
      match s.cmd h.qp h.tag with
      | some c =>
        match c.ended with
        | some (st, r, coarse) => s.postOne c st r coarse
        | none => s
      | none => s) { s with q.held := [] }
    (s.q.pairs.map (·.1)).foldl State.haltEntry s

/-- D0_RETURN (04 R162, 05 R226). -/
def execD0Return (s : State) : Host.Outcome State Fault Refusal :=
  .next (if s.host.d3hot ∧ s.hostReaches then ({ s with host.d3hot := false }.writeHeld).msixFlush else s)

end Sys2Proof.Machine
end

