-- ==== Sys2Proof/Machine/MbxCmds.lean ====
section
/-! DEFINITION. Mailbox commands that create and delete queue pairs, serve the service port and erase the
black box (05 R175-R181, 06 R250-R254). -/

namespace Sys2Proof.Machine

/-- A mailbox command's row acts: the slot holds a command of the row's kind without a response, and
the K760 acts on commands. -/
def State.runMbx (s : State) (slot opcode : Nat) (sel : MbCopy → Bool) (f : MbCopy → State → State) :
    Host.Outcome State Fault Refusal :=
  checked (slot < 4)
    (match (s.slot slot).copy, (s.slot slot).resp with
     | some c, none => if c.opcode == opcode && sel c && s.awake && !s.mailboxWaits c then f c s else s
     | _, _ => s)

/-- The first failing field of QP_CREATE's arguments (05 Table 5.2, R177), by its offset. -/
def qpCreateFault (a : List Byte) : Option Nat :=
  let bad : List (Nat × Bool) :=
    [(2, fieldAt a 2 1 > 3), (4, fieldAt a 4 2 < 2 || fieldAt a 4 2 > 4096),
     (6, fieldAt a 6 2 < 3 || fieldAt a 6 2 > 4096),
     (8, fieldAt a 8 8 % 4096 != 0 || fieldAt a 8 8 + 64 * fieldAt a 4 2 > 2 ^ 64),
     (16, fieldAt a 16 8 % 4096 != 0 || fieldAt a 16 8 + 16 * fieldAt a 6 2 > 2 ^ 64),
     (24, bit (fieldAt a 3 1) 0 && (fieldAt a 24 2 == 0 || fieldAt a 24 2 > 1023)),
     (28, fieldAt a 28 2 > 10000)]
  (bad.find? fun e => e.2).map (·.1)

/-- The pool cannot be used: POOL_STATE reads lost (07 R336). -/
def State.poolLost (s : State) : Bool := s.reg .POOL_STATE == 3

/-- The pair QP_CREATE's arguments describe (05 Table 5.2, R178). -/
def makePair (a : List Byte) : QPair :=
  { cls := fieldAt a 2 1, irq := bit (fieldAt a 3 1) 0, sqDepth := fieldAt a 4 2,
    cqDepth := fieldAt a 6 2, sqBase := fieldAt a 8 8, cqBase := fieldAt a 16 8,
    vector := fieldAt a 24 2, coalCount := fieldAt a 26 1, coalTime := fieldAt a 28 2 }

/-- QP_CREATE (05 R175-R179). A host that creates a pair has bus mastering enabled (log entry 6). -/
def execQpCreate (slot : Nat) (s : State) : Host.Outcome State Fault Refusal :=
  s.runMbx slot 0x10 (fun _ => true) fun c s =>
    let qp := fieldAt c.args 0 2
    if c.dlen ≠ 0 then s.answer slot (failResp St.badLength 0xFFFFFFFF)
    else match qpCreateFault c.args with
      | some o => s.answer slot (failResp St.outOfRange o)
      | none =>
        if s.poolLost then s.answer slot (failResp St.poolLost Code.poolLost)
        else if Map.has s.q.pairs qp then s.answer slot (failResp St.qpInUse 0)
        else { s with q.pairs := Map.put s.q.pairs qp (makePair c.args),
                      host.busMaster := true }.answer slot okResp

/-- QP_DELETE (05 R180): the pair halts with reason DELETED; the response follows the QP_HALTED entry. A
pair already halted is released once nothing is outstanding on it. -/
def execQpDelete (slot : Nat) (s : State) : Host.Outcome State Fault Refusal :=
  s.runMbx slot 0x11 (fun _ => true) fun c s =>
    let qp := fieldAt c.args 0 2
    match Map.get s.q.pairs qp with
    | none => s.answer slot (failResp St.qpUnknown 0)
    | some p =>
      if p.deleting.isSome then s
      else if p.haltWritten then
        { s with q.pairs := Map.erase s.q.pairs qp, q.cache := s.q.cache.erase qp }.answer slot okResp
      else
        let s := s.setPair qp fun p => { p with deleting := some slot }
        if p.halted.isSome then s.haltEntry qp else s.halt qp 6

/-- The entropy source delivers (15 R675). -/
def State.entropyOn (s : State) : Bool := s.reg .ENTROPY_STATE == 1

/-- A command that needs entropy: with a failed source it ends with INTERNAL (15 R677); in the warm-up it is refused
at once with NO_WAIT, else it waits (06 R233, R289). -/
def State.needEntropy (s : State) (slot : Nat) (c : MbCopy) (f : State → State) : State :=
  if s.entropyOn then f s
  else if s.reg .ENTROPY_STATE = 2 then s.answer slot (failResp St.internal Code.entropyFailed)
  else if bit c.flags 0 then s.answer slot (failResp St.entropyWarmup 0)
  else s

/-- SVC_CHALLENGE (06 R250, R252): only from P8 holding the claim; a fresh 16-byte challenge. -/
def execSvcChallenge (slot : Nat) (s : State) : Host.Outcome State Fault Refusal :=
  s.runMbx slot 0x60 (fun _ => true) fun c s =>
    if !c.byP8 then s.answer slot (failResp St.notPermitted 0)
    else s.needEntropy slot c fun s =>
      let (v, s) := s.draw
      let v := v % 2 ^ 128
      { s with host.challenge := some v }.answer slot (okResp [] (leBytes 16 v))

/-- SVC_UNLOCK (06 R250-R253): the signature over the challenge followed by DEVICE_SERIAL is checked; the
challenge is spent whatever the outcome. -/
def execSvcUnlock (slot : Nat) (s : State) : Host.Outcome State Fault Refusal :=
  s.runMbx slot 0x61 (fun _ => true) fun c s =>
    if !c.byP8 then s.answer slot (failResp St.notPermitted 0)
    else if c.dlen ≠ 64 then s.answer slot (failResp St.badLength 0xFFFFFFFF)
    else
      let ok := match s.host.challenge with
        | none => false
        | some v => ecdsaVerify Config.serviceKey
            (sha256 (leBytes 16 v ++ leBytes 16 (s.reg .DEVICE_SERIAL))) (beNat c.data)
      let s := { s with host.challenge := none }
      if ok then { s with host.unlocked := true }.answer slot okResp
      else
        let s := { s with host.failedUnlocks := s.host.failedUnlocks + 1 }
        s.answer slot (failResp St.tokenRejected s.host.failedUnlocks)

/-- BB_ERASE (06 R254, 17 R740): with a current unlock, both banks and the pins are erased and the erase
record is the first written, under the next sequence. -/
def execBbErase (slot : Nat) (s : State) : Host.Outcome State Fault Refusal :=
  s.runMbx slot 0x62 (fun _ => true) fun c s =>
    if !c.byP8 || !s.host.unlocked then s.answer slot (failResp St.notPermitted 0)
    else
      let seq := s.reg .BB_NEXT_SEQ
      let s := { s with bb.bank0 := [], bb.bank1 := [], bb.loose := [] }
      let s := (s.set .PINNED 0).set .BBS_PINS_FULL 0
      let r := s.record Code.bbErased 14 (s.recordData 0xFFFFFFFF 0 0) false
      let (s, _) := s.bbWrite r (true, true) (true, true)
      let s := ((s.set .BB_OLDEST_SEQ seq).set .LAST_ERASE_SEQ seq).set .LAST_ERASE_TIME s.now
      s.answer slot (okResp (leBytes 4 seq))

end Sys2Proof.Machine
end

