-- ==== Sys2Proof/Machine/Loom.lean ====
section
/-! DEFINITION. The Loom: pool layout, bobbins, records, the heddle and reed tables, leases, poison
(07). Appends that can set off a burst are in Append.lean. -/

namespace Sys2Proof.Machine

/-- The default sizes of bobbins 0-9 in MiB for a pool size (07 Table 7.3, R295). -/
def defaultSizes (poolMib : Nat) : List Nat :=
  let l := [1920, 1920, 1920, 1920, 64, 32, 64, 16, 16].map fun d => d * poolMib / 8192
  (poolMib - 64 - l.sum) :: l

/-- `a` rounded down, and up, to a granule. -/
def granFloor (a : Nat) : Nat := a / 4096 * 4096

/-- `a` rounded up to a granule. -/
def granCeil (a : Nat) : Nat := (a + 4095) / 4096 * 4096

/-- The pool address of stream offset `o` of bobbin `b` (07 R297). -/
def State.ringAddr (s : State) (b o : Nat) : Nat := s.get .BB_BASE b + o % s.bobSize b

/-- The granule that holds stream offset `o` of bobbin `b` (07 R292). -/
def State.granOf (s : State) (b o : Nat) : Nat := s.ringAddr b o / 4096

/-- A poisoned granule is filled with zeros and its bit cleared (07 R328, R330). -/
def State.cleanGranule (s : State) (g : Nat) : State :=
  if s.poisoned g then
    { s with lm.mem := s.lm.mem.zero (4096 * g) 4096, lm.poison := s.lm.poison.erase g,
             lm.ledger := s.lm.ledger.erase g }
  else s

/-- A mark covers a record of a bobbin (06 R261). -/
def Mark.covers (m : Mark) (b : Nat) (r : Rec) : Bool :=
  m.bobbins.contains b && m.start ≤ r.time && r.time ≤ m.stop

/-- Some held mark covers a record. -/
def State.marked (s : State) (b : Nat) (r : Rec) : Bool := s.lm.marks.any fun m => m.covers b r

/-- A bobbin's oldest granule holds a record covered by an unflushed mark (07 R302). -/
def State.oldestMarked (s : State) (b : Nat) : Bool :=
  let h := s.get .HEAD_OFFSET b
  (s.recs b).any fun r =>
    r.off < granFloor h + 4096 && h < r.off + r.len && !s.verified b r && s.marked b r

/-- A bobbin acts as HOLD: by its policy, or under 07 R302. -/
def State.actsHold (s : State) (b : Nat) : Bool := s.get .FULL_POLICY b == 0 || s.oldestMarked b

/-- The free space of a bobbin that holds (07 R300): up to the granule of its oldest unflushed byte. -/
def State.freeSpace (s : State) (b : Nat) : Nat :=
  granFloor (s.get .FLUSHED_OFFSET b) + s.bobSize b - s.get .TAIL_OFFSET b

/-- The status bits of a bobbin follow its contents: FULL (07 R300), MARKED_PENDING, HOLDING (R302). -/
def State.bobFlags (s : State) (b : Nat) : State :=
  let hold := s.actsHold b
  let full := hold && decide (0 < s.bobSize b) && decide (s.freeSpace b < 65536)
  let s := s.put .BOB_FULL b (b2n full)
  let s := s.put .BOB_HOLDING b (b2n (s.get .FULL_POLICY b == 1 && s.oldestMarked b))
  s.put .BOB_MARKED_PENDING b (b2n ((s.recs b).any fun r =>
    !s.verified b r && s.marked b r))

/-- The range `(a, b)` of a bobbin is done: in a verified block, or skipped. FLUSHED_OFFSET moves over done
ranges and over bytes in which no record starts (01 R36, 07 R297). -/
def flushedTo (recs : List Rec) (done : List (Nat × Nat)) (f : Nat) : Nat → Nat
  | 0 => f
  | n + 1 =>
    let nextRec := ((recs.filter fun r => f ≤ r.off).map (·.off)).head?
    match done.find? fun d => d.1 ≤ (nextRec.getD d.1) && f < d.2 with
    | none => f
    | some d => flushedTo recs done d.2 n

/-- Bytes from `f` to `h` that lie in none of the ranges (07 R301). -/
def bytesOutside (done : List (Nat × Nat)) (f h : Nat) : Nat :=
  (h - f) - (done.map fun d => min d.2 h - max d.1 f).sum

/-- HEAD_OFFSET rises to `h`: granules that leave are cleaned of poison (07 R328); records that began
before it are gone; bytes freed that no verified block holds are lost and counted (R301), and FLUSHED_OFFSET rises to
the first byte from `h` on that no verified block holds (R297). -/
def State.raiseHead (s : State) (b h : Nat) : State :=
  let h0 := s.get .HEAD_OFFSET b
  if h ≤ h0 then s
  else
    let n := granCeil h / 4096 - granFloor h0 / 4096
    let s := (List.range n).foldl (fun s i =>
      if granFloor h0 + 4096 * i + 4096 ≤ h then s.cleanGranule (s.granOf b (granFloor h0 + 4096 * i))
      else s) s
    let s := { s with lm.recs := s.lm.recs.modify b fun l => l.dropWhile fun r => r.off < h }
    let f := s.get .FLUSHED_OFFSET b
    let s := s.put .HEAD_OFFSET b h
    if h > f then
      let ds := s.bu.done.getD b []
      let f' := flushedTo (s.recs b) ds h (ds.length + 1)
      let s := { s with lm.lost := s.lm.lost.modify b (· + bytesOutside ds f h),
                        bu.done := s.bu.done.set b (ds.filter fun d => f' < d.2) }
      (s.put .FLUSHED_OFFSET b f').put .WRAP_LOST_KIB b (min (s.lm.lost.getD b 0 / 1024) 0xFFFFFFFF)
    else s

/-- The head a write ending at stream offset `e` needs: past every granule the write reaches in the
ring's previous pass (07 R312). -/
def State.headNeeded (s : State) (b e : Nat) : Nat := granCeil e - s.bobSize b

/-- A WRAP bobbin frees its oldest granules one by one as far as needed, until one is held back by an
unflushed mark (07 R301, R302). -/
def State.wrapFree (s : State) (b need : Nat) : Nat → State
  | 0 => s
  | n + 1 =>
    let h := s.get .HEAD_OFFSET b
    if h ≥ need ∨ s.oldestMarked b = true then s
    else (s.raiseHead b (granFloor h + 4096)).wrapFree b need n

/-- Room for a record of padded length `len` is made (07 R300-R302): `keep` bytes stay free in a bobbin
that holds. The answer says whether the record fits. -/
def State.makeRoom (s : State) (b len keep : Nat) : Bool × State :=
  let need := s.headNeeded b (s.get .TAIL_OFFSET b + len)
  if s.get .FULL_POLICY b = 1 then
    let s := s.wrapFree b need 40
    if need ≤ s.get .HEAD_OFFSET b then (true, s)
    else if len + keep ≤ s.freeSpace b then (true, s.raiseHead b need) else (false, s)
  else if len + keep ≤ s.freeSpace b then (true, s.raiseHead b need)
  else (false, s)

/-- A record's header bytes 0-27 (07 Table 7.4). -/
def recHeader (len flags source time seq : Nat) : List Byte :=
  leBytes 4 len ++ leBytes 2 flags ++ leBytes 2 source ++ leBytes 8 time ++ leBytes 4 seq ++ leBytes 8 0

/-- A record as it lies in a bobbin: header, CRC, payload, zeros to a multiple of 8 (07 R306). -/
def recBytes (payload : List Byte) (flags source time seq : Nat) : List Byte :=
  let h := recHeader payload.length flags source time seq
  h ++ leBytes 4 (crc32c (h ++ payload)) ++ payload
    ++ List.replicate ((8 - payload.length % 8) % 8) 0

/-- Bytes written to a bobbin's ring from stream offset `o`. -/
def State.ringWrite (s : State) (b o : Nat) (bs : List Byte) : State :=
  let first := s.bobSize b - o % s.bobSize b
  let m := s.lm.mem.writeN (s.ringAddr b o) (bs.take first)
  { s with lm.mem := m.writeN (s.get .BB_BASE b) (bs.drop first) }

/-- Bytes of a bobbin's ring from stream offset `o`; poisoned granules give zeros (07 R326). -/
def State.ringRead (s : State) (b o n : Nat) : List Byte :=
  (List.range n).map fun i =>
    if s.poisoned (s.granOf b (o + i)) then 0 else s.lm.mem.read (s.ringAddr b (o + i))

/-- The MRAM ceilings stay ahead of the tail and of the sequence, which counts modulo 2^32 (07 R856). -/
def State.raiseCeilings (s : State) (b : Nat) : State :=
  let s := if s.get .TAIL_OFFSET b + 32 * mib ≥ s.get .TOFFSET_CEIL b then
      s.put .TOFFSET_CEIL b (s.get .TOFFSET_CEIL b + 64 * mib) else s
  if (s.get .TSEQ_CEIL b + 2 ^ 32 - s.get .RC_SEQ_NEXT b) % 2 ^ 32 ≤ 32768 then
    s.put .TSEQ_CEIL b ((s.get .TSEQ_CEIL b + 65536) % 2 ^ 32) else s

/-- A camera port. -/
def isCam (p : Nat) : Bool := 1 ≤ p && p ≤ 4

/-- A serial port. -/
def isSer (p : Nat) : Bool := p == 5 || p == 6

/-- A port's drop counter rises (08 Tables 8.5, 8.8, 8.11). -/
def State.portDrop (s : State) (p : Nat) : State :=
  (if isCam p then s.add .CAM_RX_DROPPED p 1
   else if isSer p then s.add .SER_RX_DROPPED p 1 else s.bump .CAN_RX_DROPPED).pulse Ev.portDrops

/-- A record becomes visible: the tail passes it, the granule index notes it, its sequence is used
(07 R307, R313, R856). -/
def State.commitRec (s : State) (b : Nat) (r : Rec) : State :=
  let s := { s with lm.recs := s.lm.recs.modify b (· ++ [r]) }
  let s := (s.put .TAIL_OFFSET b (r.off + r.len)).put .RC_SEQ_NEXT b (r.seq + 1)
  let s := (s.raiseCeilings b).bobFlags b
  ((s.pulse Ev.records).pulse Ev.appendKib (r.len / 1024)).restartIdle

/-- A record written at the tail of a bobbin that has room for it. -/
def State.writeRec (s : State) (b : Nat) (payload : List Byte) (flags source time : Nat) : State :=
  let o := s.get .TAIL_OFFSET b
  let q := s.get .RC_SEQ_NEXT b
  let bs := recBytes payload flags source time q
  (s.ringWrite b o bs).commitRec b
    { off := o, len := bs.length, time := time, seq := q, flags := flags, source := source }

/-- A SEG_CLOSE record is appended under identity 10, into the 40 bytes kept for it; without room it is
held (07 R308). -/
def State.segClose (s : State) (b reason : Nat) : State :=
  if s.bobSize b = 0 then s
  else
    let (ok, s) := s.makeRoom b 40 0
    if ok && s.poolUp then (s.writeRec b (leBytes 4 reason) (8 + b2n s.coarse) 0xFF s.now).add .SEG_COUNT b 1
    else { s with lm.segHeld := s.lm.segHeld.set b (some reason) }

/-- The identity that holds a bobbin's lease in service (07 Table 7.3). -/
def State.holderOf (s : State) (b : Nat) : Nat :=
  if b < 8 then b else if s.pw.mode == .run then 10 else 14

/-- The heddle entry that carries APPEND for a bobbin under an identity: entry 0 of identities 0-7,
entries 4 and 5 of identities 10 and 14 (DESIGN CHOICE, log entry 12). -/
def appendEntry (holder b : Nat) : Nat := 64 * holder + (if b < 8 then 0 else b - 4)

/-- A heddle entry written; its generation rises (07 Table 7.6). -/
def State.heddle (s : State) (k base limit rights bobbin lease : Nat) : State :=
  let s := ((s.put .H_BASE k base).put .H_LIMIT k limit).put .H_READ k (rights % 2)
  let s := ((s.put .H_WRITE k (rights / 2 % 2)).put .H_APPEND k (rights / 4 % 2)).put .H_VALID k (rights / 8)
  ((s.put .H_BOBBIN k bobbin).put .H_LEASE k lease).put .H_GEN k (s.get .H_GEN k + 1)

/-- The first and last granule of a bobbin's ring. -/
def State.bobGranules (s : State) (b : Nat) : Nat × Nat :=
  (s.get .BB_BASE b / 4096, (s.get .BB_BASE b + s.bobSize b) / 4096 - 1)

/-- A lease is granted (07 R318): a new serial, APPEND in the holder's heddle entry. Not while a
SEG_CLOSE record is held (R308). -/
def State.grantLease (s : State) (b : Nat) : State :=
  if s.bobSize b = 0 ∨ s.lm.segHeld.getD b none ≠ none ∨ s.poolUp = false then s
  else
    let h := s.holderOf b
    let s := s.put .LEASE_SERIAL b ((s.get .LEASE_SERIAL b + 1) % 2 ^ 32)
    let (g0, g1) := s.bobGranules b
    let s := s.heddle (appendEntry h b) g0 g1 12 b (s.get .LEASE_SERIAL b)
    let s := (s.put .BB_HOLDER b h).put .BB_STATE b 1
    { s with lm.lease := s.lm.lease.set b (some (s.clock + s.get .LEASE_MS b * 1000)),
             lm.engine := s.lm.engine.set b .ok }

/-- A lease ends without a new one: APPEND is cleared (07 R323, first step). -/
def State.dropLease (s : State) (b : Nat) : State :=
  match s.lm.lease.getD b none with
  | none => s
  | some _ =>
    let h := s.get .BB_HOLDER b
    let s := if h = 0xFFFF then s else s.heddle (appendEntry h b) 0 0 0 0xFF 0
    { s.put .BB_HOLDER b 0xFFFF with lm.lease := s.lm.lease.set b none }

/-- A POOL_APPEND under way that meets the revocation of its bobbin's lease leaves what it has applied, and ends (07
R320); where the pool is lost it ends by that (05 R230). -/
def State.appendsMeet (s : State) (b : Nat) : State :=
  if s.poolUp then
    (s.q.cmds.filter fun (c : QCmd) => c.opcode == 0x111 && c.started && fieldAt c.args 0 2 == b).foldl
      (fun s c => s.finishWith c St.internal c.count Code.leaseRevoked) s
  else s

/-- A lease is revoked (07 R323): APPEND cleared, uncommitted bytes gone (they are beyond the tail, R307),
SEG_CLOSE appended, REVOKES counted, the engine reset with its loopback to run. An append that meets it ends (R320). -/
def State.revokeLease (s : State) (b reason : Nat) : State :=
  match s.lm.lease.getD b none with
  | none => s
  | some _ =>
    let s := ((s.dropLease b).put .BB_STATE b 3).appendsMeet b
    let s := (s.segClose b reason).add .REVOKES b 1
    let s := if reason = 2 then s.bump .LEASE_EXPIRED else s
    let s := { s with lm.engine := s.lm.engine.set b .reset }
    (s.pulse Ev.leaseRevokes).report Code.leaseRevoked b

/-- Every lease an agent holds is revoked for a fault (07 R322). -/
def State.revokeAgent (s : State) (agent : Nat) : State :=
  (List.range 10).foldl (fun s b => if s.get .BB_HOLDER b = agent then s.revokeLease b 3 else s) s

/-- The handover of bobbins 8 and 9 between identities 10 and 14 at a state change (07 R308): the lease
and its serial are kept, the APPEND entry moves. -/
def State.handover (s : State) : State :=
  [8, 9].foldl (fun s b =>
    let h := s.get .BB_HOLDER b
    let t := s.holderOf b
    if h = 0xFFFF ∨ h = t then s
    else
      let (g0, g1) := s.bobGranules b
      let s := s.heddle (appendEntry h b) 0 0 0 0xFF 0
      (s.heddle (appendEntry t b) g0 g1 12 b (s.get .LEASE_SERIAL b)).put .BB_HOLDER b t) s

/-- A reed entry written (07 Table 7.7). -/
def State.reed (s : State) (k base limit rmask wmask : Nat) : State :=
  ((((s.put .RD_BASE k base).put .RD_LIMIT k limit).put .RD_READ_MASK k rmask).put .RD_WRITE_MASK k
    wmask).put .RD_VALID k 1

/-- The bit mask of a set of identities. -/
def idMask (l : List Nat) : Nat := (l.map (2 ^ ·)).sum

/-- The reed table derived from the layout and the sizes in force (07 R310, R855, default grants). -/
def State.deriveReed (s : State) : State :=
  let c := [10, 11]
  let fixed : List (Nat × Nat × List Nat × List Nat) :=
    [(0x0, 0x5FF, c, c), (0x600, 0x63F, c, c), (0x640, 0x67F, c, c), (0x680, 0x77F, c, 13 :: c),
     (0x780, 0x78F, 5 :: c, c), (0x790, 0x79F, 6 :: c, c), (0x7A0, 0x7FF, c, c), (0x800, 0xFFF, c, c),
     (0x1000, 0x17FF, c, c), (0x1800, 0x1FFF, c, [9]), (0x2000, 0x3FFF, 0 :: 9 :: 12 :: c, 12 :: c)]
  let s := fixed.zipIdx.foldl (fun s e => s.reed e.2 e.1.1 e.1.2.1 (idMask e.1.2.2.1) (idMask e.1.2.2.2)) s
  (List.range 10).foldl (fun s b =>
    if s.bobSize b = 0 then s.put .RD_VALID (11 + b) 0
    else
      let (g0, g1) := s.bobGranules b
      s.reed (11 + b) g0 g1 (idMask [0, 9, 10, 11]) (idMask (if b < 8 then [b, 10] else [10, 14]))) s

/-- The heddle table derived by the firmware (07 R309, R855, default grants); APPEND entries follow the
leases in force. -/
def State.deriveHeddle (s : State) : State :=
  let top := s.reg .POOL_MIB * 256 - 1
  let fixed : List (Nat × Nat × Nat × Nat) :=
    [(1, 0x4000, top, 9), (2, 0x2000, 0x3FFF, 9), (64 * 5 + 1, 0x780, 0x78F, 9),
     (64 * 6 + 1, 0x790, 0x79F, 9), (64 * 9, 0x4000, top, 9), (64 * 9 + 1, 0x2000, 0x3FFF, 9),
     (64 * 9 + 2, 0x1800, 0x1FFF, 10), (64 * 10, 0, top, 9), (64 * 10 + 1, 0, 0x17FF, 10),
     (64 * 10 + 2, 0x2000, 0x3FFF, 10), (64 * 11, 0, top, 9), (64 * 11 + 1, 0, 0x17FF, 10),
     (64 * 11 + 2, 0x2000, 0x3FFF, 10), (64 * 12, 0x2000, 0x3FFF, 11), (64 * 13, 0x680, 0x77F, 10)]
  let s := fixed.foldl (fun s e => s.heddle e.1 e.2.1 e.2.2.1 e.2.2.2 0xFF 0) s
  (List.range 10).foldl (fun s b =>
    if s.lm.lease.getD b none = none then s
    else
      let (g0, g1) := s.bobGranules b
      s.heddle (appendEntry (s.get .BB_HOLDER b) b) g0 g1 12 b (s.get .LEASE_SERIAL b)) s

/-- Bobbins take their sizes when the pool is empty (07 R295, R296): the stored ones if they fit, else
the defaults, with a record. Sizes never written since they were shipped are the defaults. -/
def State.formBobbins (s : State) : State :=
  let area := s.reg .POOL_MIB - 64
  let stored := (List.range 10).map fun b => s.get .BB_SIZE_MIB b
  let asShipped := (List.range 10).all fun b => s.get .BB_SIZE_MIB b == Reg.reset ⟨.BB_SIZE_MIB, b⟩
  let fits := decide (stored.sum ≤ area)
  let sizes := if asShipped || !fits then defaultSizes (s.reg .POOL_MIB) else stored
  let s := if asShipped || fits then s else s.report Code.bobbinDefaults
  (List.range 10).foldl (fun s b =>
    let s := s.put .ACTIVE_SIZE_MIB b (sizes.getD b 0)
    s.put .BB_BASE b ((64 + (sizes.take b).sum) * mib)) s

/-- Each bobbin starts empty at its saved tail and sequence, or at its ceilings (07 R856). -/
def State.emptyBobbins (s : State) : State :=
  let s := { s with lm.mem := [], lm.recs := List.replicate 10 [], lm.poison := [], lm.ledger := [],
                    lm.allPoison := false, lm.marks := [], lm.lease := List.replicate 10 none,
                    lm.segHeld := List.replicate 10 none, lm.engine := List.replicate 10 .ok,
                    bu.done := List.replicate 10 [] }
  (List.range 10).foldl (fun s b =>
    let saved := s.onAt .TSAVED_VALID b
    let t := if saved then s.get .TOFFSET_SAVED b else s.get .TOFFSET_CEIL b
    let q := if saved then s.get .TSEQ_SAVED b else s.get .TSEQ_CEIL b
    let s := (((s.put .HEAD_OFFSET b t).put .FLUSHED_OFFSET b t).put .TAIL_OFFSET b t).put .RC_SEQ_NEXT b q
    let s := (s.put .TSAVED_VALID b 0).put .BB_STATE b (if s.bobSize b = 0 then 0 else 1)
    ((s.put .BOB_FULL b 0).put .BOB_HOLDING b 0).put .BOB_MARKED_PENDING b 0) s

/-- Tails and next sequences are saved in MRAM, at the Hibernate commit point and at a pool loss
(07 R856). -/
def State.saveTails (s : State) : State :=
  (List.range 10).foldl (fun s b =>
    ((s.put .TOFFSET_SAVED b (s.get .TAIL_OFFSET b)).put .TSEQ_SAVED b (s.get .RC_SEQ_NEXT b)).put
      .TSAVED_VALID b 1) s

/-- The lines of the L2 over `n` bytes of a bobbin's ring from stream offset `o` are invalidated (14 R632, R633). -/
def State.invalidateRing (s : State) (b o n : Nat) : State :=
  let first := min n (s.bobSize b - o % s.bobSize b)
  (s.invalidateBytes (s.ringAddr b o) first).invalidateBytes (s.get .BB_BASE b) (n - first)

/-- Every bobbin gets a lease. -/
def State.grantAll (s : State) : State := (List.range 10).foldl State.grantLease s

/-- The heddle entries of an identity that are VALID and cover a granule (07 R311). -/
def State.heddleEntries (s : State) (agent g : Nat) : List Nat :=
  ((List.range 64).map (64 * agent + ·)).filter fun k =>
    s.onAt .H_VALID k && s.get .H_BASE k ≤ g && g ≤ s.get .H_LIMIT k

/-- The append check (07 R312): the lease matches, the write lies from the tail to 65,536 bytes past it,
and no granule it touches holds a byte at or beyond the head of the previous pass. -/
def State.appendOk (s : State) (k addr len : Nat) : Bool :=
  let b := s.get .H_BOBBIN k
  let size := s.bobSize b
  let tail := s.get .TAIL_OFFSET b
  let rel := (addr + size - s.ringAddr b tail) % size
  b < 10 && size != 0 && (s.lm.lease.getD b none).isSome
    && s.get .H_LEASE k == s.get .LEASE_SERIAL b % 65536
    && rel + len ≤ 65536 && s.headNeeded b (tail + rel + len) ≤ s.get .HEAD_OFFSET b

/-- The heddle permits an access (07 R311); the self-test agent has rights over the granule under test alone (16 R691). -/
def State.heddleOk (s : State) (agent addr len : Nat) (write : Bool) : Bool :=
  let es := s.heddleEntries agent (addr / 4096)
  if agent = 15 then s.underTest (addr / 4096)
  else if write then
    es.any (fun k => s.onAt .H_WRITE k) || es.any (fun k => s.onAt .H_APPEND k && s.appendOk k addr len)
  else es.any fun k => s.onAt .H_READ k

/-- The reed table permits an access (07 R314, 16 R691). -/
def State.reedOk (s : State) (agent g : Nat) (write : Bool) : Bool :=
  if agent = 15 then s.underTest g
  else (List.range 256).any fun k =>
    s.onAt .RD_VALID k && s.get .RD_BASE k ≤ g && g ≤ s.get .RD_LIMIT k
      && bit (if write then s.get .RD_WRITE_MASK k else s.get .RD_READ_MASK k) agent

end Sys2Proof.Machine
end

