-- ==== Sys2Proof/Machine/Track.lean ====
section
/-! DEFINITION. What stands on a track of the KAC-80 cell by cell (02 R50-R57, R60, R61): wedges, syncs, the units of a
cluster, their K-RLL between splits, the product code, and the way back from channel bits to bytes. -/

namespace Sys2Proof.Machine

/-- `n` times a cell pattern. -/
def repeated (n : Nat) (p : List Bool) : List Bool := (List.replicate n p).flatten

/-- The 224 cells of a wedge, a pit as true (02 Table 2.3). -/
def wedgeCells (layer track wedge : Nat) : List Bool :=
  let pit := true
  let land := false
  let a := wedgeAddress layer track wedge
  repeated 6 [pit, pit, land, land]
    ++ (List.replicate 6 pit ++ List.replicate 2 land ++ List.replicate 2 pit ++ List.replicate 6 land)
    ++ (List.range 32).flatMap (fun i => if bit a (31 - i) then [pit, pit, land, land] else [land, land, pit, pit])
    ++ List.replicate 40 land ++ List.replicate 16 land

/-- The 32 address bits that the cells 40-167 of a wedge show; none where a bit's four cells are neither pattern (02
Table 2.3). -/
def wedgeRead (cells : List Bool) : Option Nat :=
  (List.range 32).foldl (fun acc i =>
    match acc, (cells.drop (40 + 4 * i)).take 4 with
    | some a, [true, true, false, false] => some (2 * a + 1)
    | some a, [false, false, true, true] => some (2 * a)
    | _, _ => none) (some 0)

/-- The binary number of an 18-bit Gray code (02 R50). -/
def ungray : Nat → Nat → Nat
  | 0, _ => 0
  | n + 1, g => g ^^^ ungray n (g / 2)

/-- Layer, track and wedge of an address whose CRC-5 passes; a wedge whose CRC-5 fails gives none (02 R50, R92). -/
def wedgeTaken (a : Nat) : Option (Nat × Nat × Nat) :=
  if wedgeGood a then some (a / 2 ^ 30 % 4, ungray 18 (a / 2 ^ 12 % 2 ^ 18), a / 2 ^ 5 % 128) else none

/-- The address after `n` wedges: the wedge number counts to 119, and the track rises at wedge 0 (02, Wobble and
wedges). An ignored wedge takes its address so from its neighbour (02 R92). -/
def wedgeCarried (p : Nat × Nat × Nat) (n : Nat) : Nat × Nat × Nat :=
  (p.1, p.2.1 + (p.2.2 + n) / 120, (p.2.2 + n) % 120)

/-- `1` after `n` zeros. -/
def oneAfter (n : Nat) : List Bool := List.replicate n false ++ [true]

/-- The segment sync (02 Table 2.5). -/
def syncSS : List Bool := oneAfter 1 ++ oneAfter 5 ++ oneAfter 11 ++ List.replicate 4 false

/-- The frame sync (02 Table 2.5). -/
def syncFS : List Bool := oneAfter 1 ++ oneAfter 11 ++ oneAfter 5 ++ List.replicate 4 false

/-- The cluster sync (02 Table 2.5). -/
def syncCS : List Bool :=
  oneAfter 1 ++ oneAfter 11 ++ oneAfter 11 ++ oneAfter 11 ++ oneAfter 5 ++ List.replicate 4 false

/-- A channel bit on the track: recorded, or unwritten. -/
abbrev Cell := Option Bool

/-- The run-in of a cluster, which ends with its CS (02 Table 2.5). -/
def runIn : List Cell := (repeated 276 [true, false, false, false] ++ syncCS).map some

/-- The run-out of a cluster, whose last 192 channel bits stay unwritten (02 Table 2.5, 12 R546). -/
def runOut : List Cell := (repeated 48 [false, true, false, false]).map some ++ List.replicate 192 none

/-- A unit of the data stream, 12 channel bits: of a fixed field, or one coded byte (02, Segments and splits). -/
inductive StreamUnit where
  | fixed (cells : List Cell)
  | coded (b : Byte)
  deriving DecidableEq, Repr

/-- Cells cut into units, `n` of them. -/
def unitsOf : Nat → List Cell → List StreamUnit
  | 0, _ => []
  | n + 1, l => .fixed (l.take 12) :: unitsOf n (l.drop 12)

/-- The outer parity of a matrix of 352 rows of 192 bytes: 32 further rows (02 R60). -/
def outerRows (rows : List (List Nat)) : List (List Nat) :=
  let cols := (List.range 192).map fun c => rsParity 32 (rows.map fun r => r.getD c 0)
  (List.range 32).map fun i => cols.map fun p => p.getD i 0

/-- The 384 rows of 208 bytes of the product code of a cluster's matrix bytes (02 R58, R60). -/
def productRows (m : List Byte) : List (List Nat) :=
  let rows := (List.range 352).map fun r => (bytesAt m (192 * r) 192).map (·.toNat)
  (rows ++ outerRows rows).map fun r => r ++ rsParity 16 r

/-- The units of a recorded frame: an FS, then the 208 bytes of its row (02 R57, R61). -/
def frameUnits (rows : List (List Nat)) (k : Nat) : List StreamUnit :=
  unitsOf 2 (syncFS.map some) ++ (rows.getD (frameRow k) []).map fun b => .coded (BitVec.ofNat 8 b)

/-- The 80,768 units of a cluster at an address (02 R57). -/
def clusterUnits (a : Nat) (c : Cluster) : List StreamUnit :=
  let rows := productRows (matrixBytes a c)
  unitsOf 96 runIn ++ (List.range 384).flatMap (frameUnits rows) ++ unitsOf 32 runOut

/-- The cells of the units between two splits: each run of coded bytes is coded without lookahead past its end (02
R54, R55). `acc` holds the pairs of the run so far. -/
def cellsOf (acc : List Nat) : List StreamUnit → List Cell
  | [] => (krll acc).map some
  | .coded b :: us => cellsOf (acc ++ bytePairs b) us
  | .fixed l :: us => (krll acc).map some ++ l ++ cellsOf [] us

/-- Units laid into segments from unit `u` of segment `(t, w)` on; a split falls at a segment's end and may fall at any
unit (02 R51-R53). The write that records a segment's first unit records its SS (02 R52). -/
def layUnits (t w u : Nat) (us : List StreamUnit) : Nat → List SegmentWrite
  | 0 => []
  | n + 1 =>
    if us.isEmpty then []
    else
      let room := segmentUnits t - u
      let cells := (if u = 0 then syncSS.map some else []) ++ cellsOf [] (us.take room)
      { track := t, wedge := w, unit := u, cells := cells }
        :: layUnits (if w = 119 then t + 1 else t) ((w + 1) % 120) 0 (us.drop room) n

/-- What the write of a cluster at its address leaves on the track, segment by segment (02 R51-R57, 12 R544). -/
def clusterWrites (a : Nat) (c : Cluster) : List SegmentWrite :=
  let (t, w, u) := clusterStart (a / 2 ^ 31 == 1) (acaNumber a)
  layUnits t w u (clusterUnits a c) 80768

/-- Channel bits of a segment of track `t`: the length between two wedges over 75.6 nm (02 R51). -/
def segmentBits (t : Nat) : Nat := 12 * (trackRadius t * 569043 / 10000000000)

/-- The unwritten channel bits before the next wedge (02 R52). -/
def tailBits (t : Nat) : Nat := segmentBits t - 24 - 12 * segmentUnits t

/-- The NRZI level after each channel bit: a 1 is a transition, and a written stretch begins unburned (02, K-RLL and
syncs). -/
def nrzi (level : Bool) : List Bool → List Bool
  | [] => []
  | b :: bs => (level ^^ b) :: nrzi (level ^^ b) bs

/-- The channel bits of a run of NRZI levels that follows `level`. -/
def unNrzi (level : Bool) : List Bool → List Bool
  | [] => []
  | l :: ls => (level ^^ l) :: unNrzi l ls

/-- The data pair of a 3-bit group; none for a group no pair is coded as (02 Table 2.4). -/
def krllGroup : Bool → Bool → Bool → Option Nat
  | true, false, true => some 0
  | true, false, false => some 1
  | false, false, true => some 2
  | false, true, false => some 3
  | _, _, _ => none

/-- The two pairs of a substitute, by its first half (02 Table 2.4). -/
def krllSubstitute : Bool → Bool → Bool → Option (Nat × Nat)
  | true, false, true => some (0, 0)
  | true, false, false => some (0, 1)
  | false, false, true => some (2, 0)
  | false, true, false => some (2, 1)
  | _, _, _ => none

/-- The pairs of a run of channel bits between two splits: a 3-bit group followed by 000 is the first half of a
substitute (02 R54, R55); none where a group is no code. -/
def krllDecode : List Bool → Option (List Nat)
  | a :: b :: c :: false :: false :: false :: rest =>
    match krllSubstitute a b c, krllDecode rest with
    | some (x, y), some l => some (x :: y :: l)
    | _, _ => none
  | a :: b :: c :: rest =>
    match krllGroup a b c, krllDecode rest with
    | some x, some l => some (x :: l)
    | _, _ => none
  | [] => some []
  | _ => none

/-- Four pairs make a byte, most significant first. -/
def pairBytes : List Nat → List Byte
  | a :: b :: c :: d :: rest => BitVec.ofNat 8 (64 * a + 16 * b + 4 * c + d) :: pairBytes rest
  | _ => []

/-- The bytes of a frame's data field, given as the runs of channel bits that its splits leave (02 R54). -/
def frameBytes (runs : List (List Bool)) : Option (List Byte) :=
  (runs.mapM krllDecode).map fun l => pairBytes l.flatten

/-- The value of a polynomial, highest degree first, at `x` in GF(2^8). -/
def polyEval (x : Nat) (p : List Nat) : Nat := p.foldl (fun acc c => gfMul acc x 8 ^^^ c) 0

/-- The syndromes of a word under a code with `n` parity symbols (02 R60). -/
def syndromes (n : Nat) (word : List Nat) : List Nat := (List.range n).map fun k => polyEval (gfPow k) word

/-- `a ^ e` in GF(2^8), on the low `n` bits of `e`. -/
def gfExp (a e : Nat) : Nat → Nat
  | 0 => 1
  | n + 1 =>
    let r := gfExp (gfMul a a 8) (e / 2) n
    if e % 2 = 1 then gfMul a r 8 else r

/-- The inverse in GF(2^8). -/
def gfInv (a : Nat) : Nat := gfExp a 254 8

/-- Polynomials lowest degree first: their sum. -/
def polyAdd : List Nat → List Nat → List Nat
  | [], q => q
  | p, [] => p
  | a :: p, b :: q => (a ^^^ b) :: polyAdd p q

/-- The product of polynomials, lowest degree first. -/
def polyMul : List Nat → List Nat → List Nat
  | [], _ => []
  | a :: p, q => polyAdd (q.map fun c => gfMul a c 8) (0 :: polyMul p q)

/-- The value of a polynomial, lowest degree first. -/
def polyVal (x : Nat) (p : List Nat) : Nat := polyEval x p.reverse

/-- The error locator of a syndrome sequence, started from the erasure locator: Berlekamp and Massey's steps `k` on;
`l` the length, `b` the last correction. -/
def locator (s : List Nat) (e : Nat) : Nat → Nat → List Nat → Nat → List Nat → List Nat
  | 0, _, c, _, _ => c
  | n + 1, k, c, l, b =>
    let d := (List.range (k + 1)).foldl (fun acc i => acc ^^^ gfMul (c.getD i 0) (s.getD (k - i) 0) 8) 0
    let b := 0 :: b
    if d = 0 then locator s e n (k + 1) c l b
    else
      let c' := polyAdd c (b.map fun x => gfMul d x 8)
      if 2 * l ≤ k + e then locator s e n (k + 1) c' (k + 1 + e - l) (c.map fun x => gfMul x (gfInv d) 8)
      else locator s e n (k + 1) c' l b

/-- A word of a code with `n` parity symbols decoded with erasures at the positions `er` (from the front): the
corrected word and how many symbols outside the erasures it corrects, within 2t + e ≤ n; none where no codeword lies
so near (02 R60, R61). -/
def rsDecode (n : Nat) (word : List Nat) (er : List Nat) : Option (List Nat × Nat) :=
  let s := syndromes n word
  if s.all (· == 0) then some (word, 0)
  else if n < er.length then none
  else
    let x (i : Nat) := gfPow (word.length - 1 - i)
    let gamma := er.foldl (fun p i => polyMul p [1, x i]) [1]
    let lam := locator s er.length (n - er.length) er.length gamma er.length gamma
    let omega := (polyMul s lam).take n
    let deriv := (lam.drop 1).mapIdx fun i c => if i % 2 = 0 then c else 0
    let fixed := word.mapIdx fun i v =>
      let xi := gfInv (x i)
      if polyVal xi lam = 0 then
        v ^^^ gfMul (gfMul (x i) (polyVal xi omega) 8) (gfInv (polyVal xi deriv)) 8
      else v
    let t := ((List.range word.length).filter fun i =>
      !er.contains i && word.getD i 0 != fixed.getD i 0).length
    if (syndromes n fixed).all (· == 0) ∧ 2 * t + er.length ≤ n then some (fixed, t) else none

/-- The inner decode of a frame's 208 bytes: the symbols corrected, or none where it fails (02 R60, R61). -/
def innerDecode (bs : List Byte) : Option Nat :=
  if bs.length = 208 then (rsDecode 16 (bs.map (·.toNat)) []).map (·.2) else none

end Sys2Proof.Machine
end

