-- ==== Sys2Proof/Machine/Channel.lean ====
section
/-! DEFINITION. The read channel (12 R548, R554-R557, R564, R565): RF to samples, timing recovery, equaliser, Viterbi
detector, defect detector, and what a frame comes to. Values the spec leaves open are constants of Config (log entry
118). -/

namespace Sys2Proof.Machine

/-- The RF of a sample: A + B + C + D of the main spot, or V (12 R554). -/
def rfSum (x : RfSample) : Int := x.sum

/-- The ADC's value of an RF level under a gain, in 8 bits (12 R554); 256 is a gain of one. -/
def adc (gain : Nat) (rf : Int) : Int := max (-128) (min 127 (rf * gain / 256))

/-- The gain is set over a run-in and then held (12 R554). -/
def ChannelS.setGain (c : ChannelS) (run : List RfSample) : ChannelS :=
  if run.isEmpty then c else { c with gain := Config.runInGain (run.map rfSum) }

/-- The levels of the PR(1,2,3,2,1) target for NRZI levels, newest first: five of them, burned as 1, unburned as -1 (12
R556). -/
def prTarget (levels : List Bool) : Int :=
  (List.zipWith (fun (h : Int) b => if b then h else -h) [1, 2, 3, 2, 1] levels).sum

/-- The target value nearest to an equalised sample, in target units (12 R555): they are the odd numbers from -9 to 9. -/
def nearestTarget (y : Int) : Int := max (-9) (min 9 (2 * (y / (2 * Config.targetScale.1)) + 1))

/-- The equaliser's output over the last 15 interpolated samples, newest first (12 R556). -/
def ChannelS.equalise (c : ChannelS) (zs : List Int) : Int :=
  (List.zipWith (· * ·) c.taps zs).sum / Config.targetScale.2

/-- The timing recovery over samples (12 R555): a second-order loop that a Mueller-Mueller detector drives on the
equalised samples; `zs` holds the interpolated samples so far, newest first, `ys` the equalised ones. The loop holds its
phase while the defect flag is asserted (11 R523). -/
def ChannelS.track (c : ChannelS) (zs ys : List Int) : List Int → ChannelS × List Int × List Int
  | x :: x' :: rest =>
    let z := Config.interpolate (c.phase % 65536) x x'
    let zs := z :: zs
    let y := c.equalise zs
    let was := ys.headD 0
    let e := y * nearestTarget was - was * nearestTarget y
    let c := if c.flag then c else
      { c with freq := c.freq + Config.loopGains.2 * e,
               phase := c.phase + c.freq + Config.loopGains.1 * e }
    c.track zs (y :: ys) (x' :: rest)
  | _ => (c, zs, ys)

/-- The 16 survivors of the detector: for each state, the last four NRZI levels as a number, the path metric and the
levels decided, newest first (12 R557). -/
abbrev Survivors := List (Int × List Bool)

/-- One step of the 16-state Viterbi detector over the PR(1,2,3,2,1) channel (12 R557). -/
def viterbiStep (w : Survivors) (y : Int) : Survivors :=
  (List.range 16).map fun st =>
    let new := st % 2 == 1
    let cand (old : Nat) : Int × List Bool :=
      let from' := st / 2 + 8 * old
      let (m, path) := w.getD from' (0, [])
      let levels := [new, bit from' 0, bit from' 1, bit from' 2, bit from' 3]
      let d := y - Config.targetScale.1 * prTarget levels
      (m + d * d, new :: path)
    if (cand 0).1 ≤ (cand 1).1 then cand 0 else cand 1

/-- The NRZI levels that the detector decides for a run of equalised samples, in order (12 R557). -/
def viterbi (ys : List Int) : List Bool :=
  let w := ys.foldl viterbiStep (List.replicate 16 (0, []))
  ((w.foldl (fun best x => match best with
    | none => some x
    | some b => if x.1 < b.1 then some x else some b) (none : Option (Int × List Bool))).map (·.2)).getD [] |>.reverse

/-- A coefficient held in 12 bits. -/
def clip12 (v : Int) : Int := max (-2048) (min 2047 v)

/-- LMS towards the target of the detector's decisions, with a step of 2^-mu (12 R556): equalised samples and the
windows of 15 interpolated samples they came from, with the decided levels, all in order. Adaptation is frozen while the
defect flag is asserted. -/
def ChannelS.adapt (c : ChannelS) (mu : Nat) (levels : List Bool) : List (Int × List Int) → ChannelS
  | [] => c
  | (y, zs) :: rest =>
    let e := Config.targetScale.1 * prTarget levels - y
    let c := if c.flag then c else
      { c with taps := List.zipWith (fun t z => clip12 (t + e * z / 2 ^ mu)) c.taps zs }
    c.adapt mu levels rest

/-- The peak less the bottom of the RF over the last 32 channel bits, newest first (12 R564). -/
def envelope (xs : List Int) : Nat :=
  let w := xs.take 32
  (w.foldl max (w.headD 0) - w.foldl min (w.headD 0)).toNat

/-- The defect detector takes one channel bit (12 R564): the envelope against a percentage of its running mean over
4,096 channel bits, which is frozen while the flag is asserted. -/
def ChannelS.detect (c : ChannelS) (pct bits env : Nat) : ChannelS :=
  let n := c.envelopes.length
  let low := decide (100 * n * env < pct * c.envelopes.sum)
  let high := decide (pct * c.envelopes.sum < 100 * n * env)
  let count := if (if c.flag then high else low) then c.count + 1 else 0
  let c := if c.flag then c else { c with envelopes := (env :: c.envelopes).take 4096 }
  if bits ≤ count then { c with flag := !c.flag, count := 0 } else { c with count := count }

/-- The defect detector over a run of RF, `seen` the RF before it, newest first; whether the flag was asserted at any
point (12 R564, R565). -/
def ChannelS.scan (c : ChannelS) (pct bits : Nat) (seen : List Int) : List Int → ChannelS × Bool
  | [] => (c, c.flag)
  | x :: xs =>
    let seen := (x :: seen).take 32
    let d := c.detect pct bits (envelope seen)
    let (e, f) := d.scan pct bits seen xs
    (e, c.flag || f)

/-- One stretch of RF taken through ADC, timing recovery, equaliser and detector, and the equaliser adapted on it (12
R554-R557): the channel bits decided, NRZI decoded. -/
def ChannelS.stretch (c : ChannelS) (mu : Nat) (xs : List RfSample) : ChannelS × List Bool :=
  let (c, zs, ys) := c.track [] [] (xs.map fun x => adc c.gain (rfSum x))
  let zs := zs.reverse
  let ys := ys.reverse
  let levels := viterbi ys
  let windows := ys.mapIdx fun i y => (y, ((zs.take (i + 1)).reverse ++ List.replicate 15 0).take 15)
  let c := (windows.mapIdx fun i w => (w, ((levels.take (i + 1)).reverse ++ List.replicate 5 false).take 5)).foldl
    (fun c x => c.adapt mu x.2 [x.1]) c
  (c, unNrzi false levels)

/-- Where an FS lies in channel bits, from 8 before `at'` to 8 after, nearest first (12 R548). -/
def findFs (bits : List Bool) (at' : Nat) : Option Int :=
  let offs : List Int := 0 :: (List.range 8).flatMap fun (k : Nat) => [(k : Int) + 1, -((k : Int) + 1)]
  offs.find? fun o => decide (0 ≤ (at' : Int) + o) && (bits.drop ((at' : Int) + o).toNat).take 24 == syncFS

/-- What a frame comes to: where its FS was found, whether it was flagged, the symbols its inner decode corrected. -/
structure FrameResult where
  fs : Option Int
  flag : Bool
  vt : Nat
  fixes : Option Nat
  deriving DecidableEq, Repr

/-- The inner decode of a frame's data field, given as the runs of channel bits between its splits (02 R54, R60). -/
def fieldFixes (runs : List (List Bool)) : Option Nat := (frameBytes runs).bind innerDecode

/-- A frame through the rest of the channel, from the stage at which the operand gives it (12 R554-R557). -/
def ChannelS.frame (c : ChannelS) (mu pct bits : Nat) (f : FrameSeen) : ChannelS × FrameResult :=
  let seen (c : ChannelS) (fixes : Option Nat) (bs : List Byte) : ChannelS × FrameResult :=
    ({ c with bytes := bs }, { fs := f.fs, flag := f.flag, vt := f.vt, fixes := fixes })
  match f.row with
  | .fixed n => seen c (some n) []
  | .lost => seen c none []
  | .bytes bs => seen c (innerDecode bs) bs
  | .bits runs => seen c (fieldFixes runs) ((frameBytes runs).getD [])
  | .rf lead runs trail =>
    let (c, hit) := c.scan pct bits [] ((lead ++ runs.flatten ++ trail).map rfSum)
    let first := lead ++ runs.headD []
    let (c, head) := c.stretch mu (if runs.length = 1 then first ++ trail else first)
    let (c, rest) := (runs.drop 1).foldl (fun (acc : ChannelS × List (List Bool)) r =>
      let (d, b) := acc.1.stretch mu r
      (d, acc.2 ++ [b])) (c, [])
    let fs := findFs head lead.length
    let data := head.drop (((lead.length : Int) + fs.getD 0).toNat + 24) :: rest
    let field := data.mapIdx fun i b => if i = 0 then b.take ((runs.headD []).length - 24) else b
    ({ c with bytes := (frameBytes field).getD [] },
     { fs := fs, flag := f.flag || hit, vt := f.vt, fixes := fieldFixes field })

/-- The frames of a cluster through a channel, in order, after its run-in (12 R554). -/
def ChannelS.frames (c : ChannelS) (mu pct bits : Nat) : List FrameSeen → ChannelS × List FrameResult
  | [] => (c, [])
  | f :: fs =>
    let (c, r) := c.frame mu pct bits f
    let (c, rs) := c.frames mu pct bits fs
    (c, r :: rs)

/-- The 384 frames of a cluster, each as seen, a frame not seen as one whose FS was not found. -/
def allFrames (rs : List FrameResult) : List FrameResult :=
  rs.take 384 ++ List.replicate (384 - rs.length) { fs := none, flag := false, vt := 0, fixes := none }

/-- The FS lies within ±8 channel bits of its expected position (12 R548). -/
def FrameResult.synced (r : FrameResult) : Bool := r.fs.any fun o => decide (o.natAbs ≤ 8)

/-- A row is bad in verification (12 R548). -/
def FrameResult.bad (r : FrameResult) : Bool :=
  !r.synced || r.fixes.isNone || r.flag || decide (40 < r.vt)

/-- No FS in 8 consecutive frames (12 R583); `n` are the frames without one so far. -/
def noSync (n : Nat) : List FrameResult → Bool
  | [] => false
  | r :: rs => if r.fs.isSome then noSync 0 rs else decide (8 ≤ n + 1) || noSync (n + 1) rs

/-- The matrix rows that decoded in a read, without an erasure's cause and with one (02 R61, 12 R565, R567): frame `k`
holds row 97 k mod 384. -/
def readRows (flagged : Bool) (rs : List FrameResult) : List Nat :=
  (rs.mapIdx fun k r => (k, r)).filterMap fun x =>
    if x.2.fixes.isSome && (x.2.flag || x.2.fs.isNone) == flagged then some (frameRow x.1) else none

/-- The lane a frame is given to (12 R558): the lowest-numbered working lane that took no frame in the last two frame
times. -/
def State.laneFor (s : State) : Option Nat :=
  (List.range 5).find? fun l => s.get .SH_STATE l == 0 &&
    !((s.las.took.getD l none).any fun t => decide (s.las.frames < t + 3))

/-- A frame is given to a lane; with no lane free it is read by none (12 R558). -/
def State.giveFrame (s : State) (f : FrameSeen) : State × FrameSeen :=
  let n := s.las.frames + 1
  match s.laneFor with
  | some l => ({ s with las.frames := n, las.took := s.las.took.set l (some s.las.frames) }, f)
  | none => ({ s with las.frames := n }, { f with row := .lost })

/-- Frames given to the lanes one by one (12 R558). -/
def State.giveFrames (s : State) : List FrameSeen → State × List FrameSeen
  | [] => (s, [])
  | f :: fs =>
    let (s, f) := s.giveFrame f
    let (s, fs) := s.giveFrames fs
    (s, f :: fs)

/-- The seeds of a layer for the equaliser (12 R556, 13 R596). -/
def State.seeds (s : State) (l : Nat) : List Int := (List.range 15).map fun m => s.getInt .LC_SEED (15 * l + m)

/-- The main spot's equaliser is seeded, at the start of a read and after a layer jump (12 R556). -/
def State.seedTaps (s : State) (l : Nat) : State := { s with ch.taps := s.seeds l, ch.phase := 0, ch.freq := 0 }

/-- The frames of one read of a cluster through the main spot's channel, with the step of the equaliser's adaptation
over the run-in 4 times larger where the ladder asks (12 R554-R558, Table 12.2). -/
def State.readFrames (s : State) (fast : Bool) (r : ReadOutcome) : State × List FrameResult :=
  let mu := s.reg .FIR_MU_SHIFT
  let (s, fs) := s.giveFrames (r.frames.take 384)
  let c := s.ch.setGain r.runIn
  let c := if r.runIn.isEmpty then c else (c.stretch (if fast then mu - 2 else mu) r.runIn).1
  let (c, rs) := c.frames mu (s.reg .ERASE_ENV_PCT) (s.reg .ERASE_MIN_BITS) fs
  ({ s with ch := c }, allFrames rs)

/-- The frames of a written cluster through the verify spot's channel (12 R547, R554). -/
def State.verifyFrames (s : State) (v : Verdict) : State × List FrameResult :=
  let mu := s.reg .FIR_MU_SHIFT
  let c := s.chV.setGain v.runIn
  let c := if v.runIn.isEmpty then c else (c.stretch mu v.runIn).1
  let (c, rs) := c.frames mu (s.reg .ERASE_ENV_PCT) (s.reg .ERASE_MIN_BITS) (v.frames.take 384)
  ({ s with chV := c }, allFrames rs)

end Sys2Proof.Machine
end

