-- ==== Sys2Proof/Machine/Write.lean ====
section
/-! DEFINITION. What the laser does while a cluster is written: its strategy, the waveform of its marks, the currents of
its four levels (12 R534, R536, R538-R543). -/

namespace Sys2Proof.Machine

/-- The address being written, or no address. -/
def State.writingAca (s : State) : Nat := ((s.bu.block.bind (·.writing)).getD noAca)

/-- The track under the pickup: the last valid wedge, else from the sled's position (09 R405, 10 R439). -/
def State.trackNow (s : State) : Nat :=
  if s.reg .SV_TRACK ≠ 0xFFFFFFFF then s.reg .SV_TRACK
  else
    let r : Int := (s.reg .SL_ORIGIN_NM : Int) + s.getInt .SLED_POS RegName.SLED_POS.info.idx0 * 9375 / 16
    min 112499 ((r - 22000000) / 320).toNat

/-- The CLV zone (09 Table 9.2). -/
def clvZone (t : Nat) : Bool := decide (56834 ≤ t)

/-- The current of a level driven at power `p`, in 0.01 mW (12 R538, R540): threshold plus power over slope,
in 0.1 mA, at most LAS_I_MAX_MA. With no slope estimated yet the current is a free value (log entry
16). -/
def State.levelCurrent (s : State) (level p : Nat) : Nat × State :=
  let slope := s.reg .SLOPE_UW_MA
  let top := 10 * s.reg .LAS_I_MAX_MA
  if slope = 0 then
    let (v, s) := s.draw
    (v % (top + 1), s)
  else
    let i := s.reg .ITH_DMA + 100 * p / slope
    if i ≤ top then (i, s)
    else (top, ((s.set .HEADROOM_LOW 1).bump .HEADROOM_EVENTS |>.pulse Ev.headroomEvents).report
      Code.laserHeadroom level)

/-- A power that applies at 40.4 m/s, on track `t` (12 R539): in the CAV zone times √(v / 40.4 m/s), cut to
whole units. -/
def scaledPower (p t : Nat) : Nat :=
  if clvZone t then p
  else Nat.sqrt (p * p * trackRadius t * 6283185307 * 1600 / (404 * 1000000000000000000))

/-- The write strategy of a layer as its page now gives it (12 R541, R543). -/
def State.strategyOf (s : State) (l : Nat) : Strategy :=
  let list (n : RegName) : List Int := (List.range 4).map fun c => s.getInt n (4 * l + c)
  { pBias := s.get .P_BIAS l, pCool := s.get .P_COOL l, pPeak := s.get .P_PEAK l, pOd := s.get .P_OD l,
    od := s.get .OD_40THS l, dtTop := list .DT_TOP, dtE := list .DT_E,
    tCool := (List.range 4).map fun c => s.get .T_COOL (4 * l + c) }

/-- The four current levels of the laser driver (12 R534). -/
inductive LaserLevel where
  | bias | cool | peak | od
  deriving DecidableEq, Repr

/-- The code of a current, in 0.1 mA, in the 10-bit DAC of a level, which spans 0-180 mA (12 R534). -/
def dacCode (i : Nat) : Nat := min 1023 (i * 1023 / 1800)

/-- The class of a mark of length `n`: 2T, 3T, 4T, or 5T and longer (12, Write strategy). -/
def markClass (n : Nat) : Nat := min 3 (n - 2)

/-- The edges of a mark of length `n` that begins at channel bit `b`, in 1/40 T, each with the level it switches to (12
R541); a cooling period ends where the next mark starts at the latest. -/
def markEdges (st : Strategy) (b n : Nat) (next : Option Nat) : List (Int × LaserLevel) :=
  let c := markClass n
  let top : Int := 40 * b + st.dtTop.getD c 0
  let coolAt : Int := 40 * (b + n) - st.dtE.getD c 0
  let cooled : Int := coolAt + st.tCool.getD c 0
  [(top, .od), (top + st.od, .peak), (coolAt, .cool),
   (match next with
    | none => cooled
    | some m => min cooled (40 * m), .bias)]

/-- The marks among NRZI levels, from channel bit `i` on: where each begins and its length. `run` counts the burned bits
that end before `i`. -/
def marksOf (i run : Nat) : List Bool → List (Nat × Nat)
  | [] => if run = 0 then [] else [(i - run, run)]
  | true :: ls => marksOf (i + 1) (run + 1) ls
  | false :: ls => if run = 0 then marksOf (i + 1) 0 ls else (i - run, run) :: marksOf (i + 1) 0 ls

/-- The waveform of a run of written channel bits under a strategy (12 R541): it begins at P_BIAS. -/
def waveform (st : Strategy) (bits : List Bool) : List (Int × LaserLevel) :=
  let ms := marksOf 0 0 (nrzi false bits)
  (0, .bias) :: ms.zipIdx.flatMap fun x => markEdges st x.1.1 x.1.2 ((ms[x.2 + 1]?).map (·.1))

/-- The waveform of the cluster in flight, segment by segment (12 R541, R546): what is unwritten is not burned. -/
def State.waveforms (s : State) : List (List (Int × LaserLevel)) :=
  s.las.written.map fun w => waveform s.las.strategy (w.cells.takeWhile Option.isSome |>.map fun c => c.getD false)

/-- The four write levels are set from the estimates, under the strategy of the cluster in flight (12 R536, R538-R540,
R543). -/
def State.writeLevels (s : State) : State :=
  let st := s.las.strategy
  let t := s.trackNow
  let s := s.set .HEADROOM_LOW 0
  let (b, s) := s.levelCurrent 0 st.pBias
  let (c, s) := s.levelCurrent 1 (scaledPower st.pCool t)
  let (p, s) := s.levelCurrent 2 (scaledPower st.pPeak t)
  let (o, s) := s.levelCurrent 3 (scaledPower st.pOd t)
  { s with las.levels := [b, c, p, o] }

end Sys2Proof.Machine
end

