-- ==== Sys2Proof/Machine/Burst.lean ====
section
/-! DEFINITION. Bursts and evidence blocks: the range a burst takes, assembly, encoding, the write gate,
verification, slips, broken clusters, abandonment, selvedges, sessions (01 R33-R48, 02 R62-R90,
12 R545-R553, 15 R653-R664). -/

namespace Sys2Proof.Machine

/-- A trailer and a metadata block of zeros, for an index past a block's end. -/
def noTrailer : Trailer :=
  { flags := 0, blockId := 0, stream := 0, clIndex := 0, clCount := 0, homeAca := 0, selvSeq := 0,
    writeTime := 0, chainPrev := 0, clHash := 0, chainVal := 0, sig := 0, keyId := 0 }

/-- A metadata block of zeros. -/
def noMetadata : Metadata :=
  { stream := 0, bytesUsed := 0, streamOffset := 0, firstRec := 0, recCount := 0, firstTime := 0,
    lastTime := 0, flags := 0, gcmIv := 0, gcmTag := 0, keyEpoch := 0 }

/-- System zones of the lead-in (02 Table 2.7): first and last SCN. -/
def zoneOf : BlockKind → Nat × Nat
  | .directory => (1088, 3135)
  | .defects => (3136, 7231)
  | _ => (7232, 11263)

/-- The next SCN of each layer in the zone of a system cluster kind. -/
def State.zoneNext (s : State) : BlockKind → List Nat
  | .directory => s.md.dirNext
  | .defects => s.md.defNext
  | _ => s.md.echoNext

/-- Unwritten clusters of a zone across the four layers (02 R73, R74). -/
def State.zoneFree (s : State) (k : BlockKind) : Nat :=
  ((s.zoneNext k).map fun n => (zoneOf k).2 + 1 - n).sum

/-- A session can open (02 R73, R74). -/
def State.canOpen (s : State) : Bool :=
  s.md.mounted && !s.md.readOnly && decide (0 < s.zoneFree .directory)
    && decide (16 ≤ s.zoneFree .defects) && decide (16 ≤ s.zoneFree .echo)

/-- A range becomes done and FLUSHED_OFFSET moves on. -/
def State.addDone (s : State) (b a z : Nat) : State :=
  let ds := (s.bu.done.getD b []) ++ [(a, z)]
  let f := flushedTo (s.recs b) ds (s.get .FLUSHED_OFFSET b) (ds.length + 1)
  let s := { s with bu.done := s.bu.done.set b (ds.filter fun d => f < d.2) }
  (s.put .FLUSHED_OFFSET b f).bobFlags b

/-- Records of a bobbin not yet in a verified block, up to a limit. -/
def State.undone (s : State) (b limit : Nat) : List Rec :=
  (s.recs b).filter fun r =>
    s.get .FLUSHED_OFFSET b ≤ r.off && r.off + r.len ≤ limit &&
      !s.verified b r

/-- A record touches a poisoned granule (07 R327). -/
def State.recPoisoned (s : State) (b : Nat) (r : Rec) : Bool :=
  (List.range ((r.off + r.len - 1) / 4096 - r.off / 4096 + 1)).any fun i =>
    s.poisoned (s.granOf b (r.off / 4096 * 4096 + 4096 * i))

/-- A record's RC_CRC passes (07 Table 7.4, 15 R649). -/
def State.recCrcOk (s : State) (b : Nat) (r : Rec) : Bool :=
  let bs := s.ringRead b r.off r.len
  let len := fieldAt bs 0 4
  len + 32 ≤ r.len && fieldAt bs 28 4 == crc32c (bytesAt bs 0 28 ++ bytesAt bs 32 len)

/-- A record may go into a block. -/
def State.recGood (s : State) (b : Nat) (r : Rec) : Bool := !s.recPoisoned b r && s.recCrcOk b r

/-- The leading run of records that lie back to back, satisfy `p` and hold at most `room` bytes (02 R65,
R71). -/
def takeRun (p : Rec → Bool) (at' : Nat) : Nat → List Rec → List Rec
  | _, [] => []
  | room, r :: rs =>
    if r.off = at' ∧ r.len ≤ room ∧ p r = true then r :: takeRun p (r.off + r.len) (room - r.len) rs
    else []

/-- A record a block cannot take is left out: its bytes are done, counted and reported (07 R327, 15
R649). -/
def State.skipRec (s : State) (b : Nat) (r : Rec) : State :=
  let s := if s.recPoisoned b r then s else (s.bump .CRC_REJECTS).pulse Ev.crcRejects
  (s.addDone b r.off (r.off + r.len)).report Code.granuleSkipped b r.len

/-- The metadata of the cluster of a block that holds stream bytes `o` to `o + n` (02 Table 2.8, 07 R305). -/
def State.metadataOf (s : State) (b o n : Nat) (recs : List Rec) (encrypted : Bool) : Metadata :=
  let starts := recs.filter fun r => o ≤ r.off && r.off < o + n
  let held := recs.filter fun r => r.off < o + n && o < r.off + r.len
  { stream := b, bytesUsed := n, streamOffset := o,
    firstRec := match starts.head? with
      | none => 0xFFFFFFFF
      | some r => r.off - o,
    recCount := starts.length,
    firstTime := match starts.head? with
      | none => 0
      | some r => r.time,
    lastTime := match starts.getLast? with
      | none => 0
      | some r => r.time,
    flags := b2n encrypted + 2 * b2n (held.any fun r => s.marked b r),
    gcmIv := 0, gcmTag := 0, keyEpoch := 0 }

/-- One cluster is assembled (15 R662-R664): encrypted under the stream key in force, the invocation count
advanced in MRAM before its value is used. -/
def State.assembleOne (s : State) (b o n : Nat) (recs : List Rec) : Assembled × State :=
  let plain := s.ringRead b o n
  match Map.get s.sec.streamKeys b, bit (s.reg .ENC_MASK) b with
  | some key, true =>
    let count := s.get .GCM_COUNT b + 1
    let epoch := s.get .KEY_EPOCH b
    let iv := epoch * 2 ^ 64 + count
    let m := { s.metadataOf b o n recs true with keyEpoch := epoch }
    let aad := (metadataBytes { m with keyEpoch := epoch }).take 44 ++ leBytes 28 0
      ++ (metadataBytes { m with keyEpoch := epoch }).drop 72
    ({ body := .user (gcmEncrypt key iv plain),
       md := { m with gcmIv := iv, gcmTag := gcmTag key iv aad plain } },
     (s.put .GCM_COUNT b count).pulse Ev.clustersEncrypted)
  | _, _ => ({ body := .user plain, md := s.metadataOf b o n recs false }, s)

/-- The clusters of a block that holds stream bytes `o` to `z` (02 R71). -/
def State.assemble (s : State) (b o z : Nat) (recs : List Rec) : Nat → List Assembled × State
  | 0 => ([], s)
  | n + 1 =>
    if o ≥ z then ([], s)
    else
      let (c, s) := s.assembleOne b o (min clusterBytes (z - o)) recs
      let (cs, s) := s.assemble b (o + clusterBytes) z recs n
      (c :: cs, s)

/-- The layer a block of `n` clusters starts on (02 R79): the first layer not passed over with the room;
lower ones are passed over. -/
def State.pickLayer (s : State) (n : Nat) : Option Nat :=
  (List.range 4).find? fun l => !(s.md.closed.getD l false) && decide (n + 16 ≤ s.userFree l)

/-- The CHAIN_PREV of a stream's next block (02 R69, 15 R657, R658). -/
def State.chainHead (s : State) (b : Nat) : Option Nat :=
  if s.md.headless.contains b then none
  else match Map.get s.md.heads b with
    | some (serial, v) => if serial = s.md.serial then some v else some 0
    | none => some 0

/-- A data block of consecutive records starts (02 R71, R79, R858). Its BLOCK_ID counts as written once a cluster of it
is burned. A lower layer that had no room for it takes no later block, not even a smaller one (DESIGN CHOICE, log entry
122: R79 states the room a block needs and says nothing of a smaller one that comes later). -/
def State.startBlock (s : State) (b : Nat) (recs : List Rec) (layer head : Nat) : State :=
  let o := (recs.head?.map (·.off)).getD 0
  let z := (recs.getLast?.map fun r => r.off + r.len).getD 0
  let (cs, s) := s.assemble b o z recs 64
  let first := pcnAca layer (s.md.nextPcn.getD layer 0)
  let blk : Block :=
    { kind := .data, bobbin := b, start := o, stop := z, id := s.md.blockNext, layer := layer,
      clusters := cs, chainPrev := head, selvSeq := s.md.selvNext.getD layer 1, firstAca := first,
      nextAca := first }
  { s with bu.block := some blk,
           md.closed := s.md.closed.mapIdx fun i c => c || decide (i < layer) }

/-- The leading records of `l` that no block can take are skipped. -/
def State.skipBad (s : State) (b : Nat) : List Rec → State × List Rec
  | [] => (s, [])
  | r :: rs => if s.recGood b r then (s, r :: rs) else (s.skipRec b r).skipBad b rs

/-- The next range the burst takes (01 R37, R38): event-marked records in the order they were marked, then
each bobbin in the burst's order. The answer names the bobbin, its records and which may join. Of one mark that names
several bobbins the lowest-numbered comes first (DESIGN CHOICE, log entry 120: R38 orders marks only). -/
def State.nextRange (s : State) : Option (Nat × List Rec × (Rec → Bool)) :=
  let marked := s.lm.marks.findSome? fun m =>
    (List.range 10).findSome? fun b =>
      let l := (s.undone b (s.get .TAIL_OFFSET b)).dropWhile fun r => !(m.covers b r)
      if l.isEmpty || s.md.headless.contains b then none else some (b, l, m.covers b)
  match marked with
  | some x => some x
  | none => s.bu.order.findSome? fun b =>
      let l := s.undone b (s.bu.limits.getD b 0)
      if l.isEmpty || s.md.headless.contains b then none else some (b, l, fun _ => true)

/-- The hold-up budget test (03 R117), in microseconds: elapsed + T_REM + n T_CL + RESERVE_MS at most
HOLDUP_MS. -/
def State.budgetOk (s : State) (tRem n : Nat) : Bool :=
  match s.pw.pfail with
  | none => true
  | some p => (s.clock - p.since) + tRem + n * s.bu.tcl + s.reg .RESERVE_MS * 1000
      ≤ s.reg .HOLDUP_MS * 1000

/-- A block may start (03 R116, R120): under PFAIL_N only where the board declares more than 45 ms, and not once a
block has been abandoned (DESIGN CHOICE, log entry 127: R120 does not say whether a further block is tried after it). -/
def State.pfailWrites (s : State) : Bool :=
  match s.pw.pfail with
  | none => true
  | some p => !p.abandoned && !p.shut && decide (45 < s.reg .HOLDUP_MS)

/-- No user space remains (06 Table 6.4, 17 0x1142): the cartridge is full, and a FLUSH ends so. -/
def State.userFull (s : State) : State :=
  let s := if s.reg .DISC_SERVICE = 4 then s else (s.set .DISC_SERVICE 4).report Code.cartridgeFull
  (s.q.cmds.filter fun c => c.opcode == 0x120 && c.started).foldl
    (fun s c => s.finishWith c St.cartridgeFull c.count 0) s

/-- FLUSH commands whose ranges are all in verified blocks, or skipped, complete (06 R264). -/
def State.checkFlushes (s : State) : State :=
  (s.q.cmds.filter fun c => c.opcode == 0x120 && c.started &&
      c.tails.all fun t => t.2 ≤ s.get .FLUSHED_OFFSET t.1).foldl
    (fun s c => s.finishWith c St.success c.count 0) s

/-- The burst's next block is assembled, if any range is left and a layer has room (02 R79). With no room
left on any layer the cartridge is full (06 Table 6.4, 17 0x1142). -/
def State.nextBlock (s : State) : Nat → State
  | 0 => s
  | fuel + 1 =>
    match s.nextRange with
    | none => s
    | some (b, l, p) =>
      let (s, good) := s.skipBad b l
      let s := s.checkFlushes
      match good with
      | [] => s.nextBlock fuel
      | r :: _ =>
        if !(p r) then s.nextBlock fuel
        else
          let run := takeRun (fun q => p q && s.recGood b q) r.off (64 * clusterBytes) good
          let bytes := (run.map (·.len)).sum
          let n := (bytes + clusterBytes - 1) / clusterBytes
          match s.pickLayer n, s.chainHead b with
          | some layer, some head =>
            if s.pfailWrites && s.budgetOk 0 n then s.startBlock b run layer head else s
          | none, _ => s.userFull
          | _, none => s

/-- The write of the block has begun: the gate has opened on a cluster of it. -/
def Block.begun (k : Block) : Bool := k.writing.isSome || !k.burned.isEmpty

/-- Clusters of the block not yet begun, a slip copy already decided among them (03 R117). -/
def Block.notBegun (k : Block) : Nat :=
  k.clusters.length - k.index - b2n k.writing.isSome

/-- Signing is possible: commissioned, the key held, signing not halted, the security core up (06 R237,
15 R652, R661, R671). -/
def State.canSign (s : State) : Bool :=
  s.on .COMMISSIONED && !s.on .KEY_LOST && !s.on .SIGNING_HALTED && s.sec.devKey.isSome && !s.un.security

/-- A cluster lands on the medium; a data block's BLOCK_ID counts as written (02 R858). -/
def State.burn (s : State) (a : Nat) (c : Cluster) : State :=
  match s.md.cart with
  | none => s
  | some d =>
    let id := c.trailer.blockId
    { s with md.cart := some { d with clusters := Map.put d.clusters a c },
             md.blockNext := if id < 2 ^ 63 then max s.md.blockNext (id + 1) else s.md.blockNext }

/-- The next free address after `a` in the area a block of a kind writes. -/
def State.advance (s : State) (k : Block) (a : Nat) : State :=
  let l := acaLayer a
  let n := acaNumber a + 1
  match k.kind with
  | .data => { s with md.nextPcn := s.md.nextPcn.set l n }
  | .spare => { s with md.spareNext := s.md.spareNext.set l n }
  | .directory => { s with md.dirNext := s.md.dirNext.set l n }
  | .defects => { s with md.defNext := s.md.defNext.set l n }
  | .echo => { s with md.echoNext := s.md.echoNext.set l n }

/-- A defect entry joins the session (02 R77, R82). -/
def State.addDefect (s : State) (d : DefectEntry) : State :=
  { s with md.defects := s.md.defects ++ [d],
           md.session := s.md.session.map fun e => { e with defects := e.defects ++ [d] } }

/-- A directory entry joins the session (02 R82). -/
def State.addEntry (s : State) (e : DirEntry) : State :=
  { s with md.dir := s.md.dir ++ [e],
           md.session := s.md.session.map fun x => { x with entries := x.entries ++ [e] } }

/-- A directory entry for burned clusters that hold no verified block (02 Table 2.11). Its STREAM_OFFSET, BYTE_COUNT,
SELV_SEQ, times and CHAIN_HEAD are 0 (DESIGN CHOICE, log entry 123: the table does not say what they hold in an entry
that is not a BLOCK). -/
def extentEntry (type stream first last count id : Nat) : DirEntry :=
  { type := type, flags := 0, stream := stream, firstAca := first, lastAca := last, clCount := count,
    blockId := id, streamOffset := 0, byteCount := 0, selvSeq := 0, firstTime := 0, lastTime := 0,
    chainHead := 0 }

/-- The block changed. -/
def State.setBlock (s : State) (f : Block → Block) : State := { s with bu.block := s.bu.block.map f }

/-- The content of the block's cluster with a trailer. -/
def Block.cluster (k : Block) (t : Trailer) (ok : Bool) : Cluster :=
  let c := k.clusters.getD k.index { body := .test, md := noMetadata }
  { decodes := ok, hdrCrcOk := ok, md := c.md, trailer := t, body := c.body }

/-- The trailer of the copy being written: the first attempt's, with SLIPPED for a rewrite (12 R551, 09
R428). -/
def Block.trailer (k : Block) : Trailer :=
  let t := k.trailers.getD k.index noTrailer
  if k.slipped then { t with flags := if bit t.flags 3 then t.flags else t.flags + trSlipped } else t

/-- The next address of a system zone (02 R73). -/
def State.zoneAddress (s : State) (k : BlockKind) : Option Nat :=
  (List.range 4).findSome? fun l =>
    let n := (s.zoneNext k).getD l 0
    if n ≤ (zoneOf k).2 then some (aca true l n) else none

/-- The address a block writes next, after `a` was burned (02 R77, R78, R90). -/
def State.nextAddress (s : State) (k : Block) (a : Nat) : Nat :=
  match k.kind with
  | .data => if acaNumber a + 1 < userClusters then a + 1 else noAca
  | .spare => if acaNumber a + 1 < spareEnd then a + 1
      else ((List.range 4).findSome? fun l =>
        let n := s.md.spareNext.getD l spareEnd
        if n < spareEnd then some (pcnAca l n) else none).getD noAca
  | kind => (s.zoneAddress kind).getD noAca

/-- The cluster in flight is cut short (02 R89, 12 R581, 11 R518, 09 R428): broken at its address, whatever it was
written for, recorded by a BROKEN directory entry and a BROKEN defect entry naming the next address, to be written there
again with SLIPPED, uncounted as a slip. Later clusters are encoded again (15 R655). -/
def State.breakCluster (s : State) : State :=
  match s.bu.block with
  | none => { s with bu.gate := false }
  | some k =>
    match k.writing with
    | none => { s with bu.gate := false }
    | some a =>
      let s := (s.burn a (k.cluster k.trailer false)).advance k a
      let next := s.nextAddress k a
      let s := (s.addEntry (extentEntry 3 k.bobbin a a 1 k.id)).addDefect
        { home := a, repl := next, reason := 3, time := s.now, block := k.id }
      let s := s.setBlock fun k =>
        { k with writing := none, slipped := true, hasSlips := true, nextAca := next, enc := none,
                 trailers := k.trailers.take (k.index + 1), burned := k.burned ++ [a] }
      ({ s with bu.gate := false }.pulse Ev.brokenClusters).report Code.brokenCluster a

/-- The block is given up (03 R118): its burned clusters form an orphan extent, its ranges stay pending. -/
def State.dropBlock (s : State) : State :=
  match s.bu.block with
  | none => s
  | some k =>
    let burned := k.burned ++ k.writing.toList
    let s := match k.writing with
      | none => s
      | some a => (s.burn a (k.cluster k.trailer false)).advance k a
    let s := match k.kind, burned.head?, burned.getLast? with
      | .data, some f, some l => s.addEntry (extentEntry 2 k.bobbin f l (l - f + 1) k.id)
      | _, _, _ => s
    { s with bu.block := none, bu.gate := false }

/-- The block is abandoned and reported (03 R118, 17 0x1103). -/
def State.abandonBlock (s : State) : State :=
  match s.bu.block with
  | none => s
  | some k =>
    let s := s.dropBlock
    let s : State := { s with pw.pfail := s.pw.pfail.map fun (p : PFail) =>
        { p with abandoned := p.abandoned || decide (k.kind = .data) } }
    if k.kind = .data then
      (s.pulse Ev.blocksAbandoned).report Code.blockAbandoned (k.id % 2 ^ 32) k.burned.length k.id
    else s

/-- The disc leaves service (01 R45): the block in flight is abandoned, its clusters an orphan extent; the
burst ends; FLUSH and disc reads complete with DISC_OUT_OF_SERVICE and the cause (06 R265). -/
def State.discOut (s : State) (code : Nat) (obj : Nat := 0xFFFFFFFF) (val : Nat := 0) : State :=
  let s := s.abandonBlock
  let s := { s with bu.active := false, bu.turning := false, bu.redo := none, bu.kept := [] }
  let s := s.reportDiscOut code obj val
  (s.q.cmds.filter fun c => [0x120, 0x131, 0x132].contains c.opcode && c.started).foldl
    (fun s c => s.finishWith c St.discOutOfService c.count code) s

/-- Calibration due on a layer: bits 0-3 of CAL_DUE are read calibration, bits 4-7 OPC (13 Table 13). -/
def State.calDue (s : State) (layer : Nat) (opc : Bool) : Bool :=
  bit (s.reg .CAL_DUE) (layer + if opc then 4 else 0)

/-- A block's first cluster waits for due calibration of its layer (13 R590); OPC runs before data blocks
only. -/
def State.calReady (s : State) (k : Block) : Bool :=
  if k.index = 0 ∧ k.burned = [] then
    let l := acaLayer k.nextAca
    !s.calDue l false && !(k.kind == .data && s.calDue l true)
  else true

/-- The content for the block's next address is ready: a copy of a cluster already encoded, or the
encoding for that address (15 R656). -/
def Block.ready (k : Block) : Bool :=
  if k.index < k.trailers.length then true
  else match k.enc with
    | some e => e.index == k.index && e.aca == k.nextAca && e.ready
    | none => false

/-- FLUSH commands pass their commit point when the gate opens on the first cluster of their first block
(05 Table 5.7). -/
def State.commitFlushes (s : State) (k : Block) : State :=
  { s with q.cmds := s.q.cmds.map fun c =>
      if c.opcode == 0x120 && c.started && c.tails.any fun t => t.1 == k.bobbin && k.start < t.2
      then { c with committed := true } else c }

/-- The block's next cluster begins at its next address, under the strategy of its layer as it stands, with the laser's
four levels set for it (12 R536, R543); its
write leaves the cluster's units in the segments they fall in (02 R52, R57, 12 R545, R546). -/
def State.beginCluster (s : State) (k : Block) : State :=
  let copy := if k.index < k.trailers.length then k else { k with trailers := k.trailers ++ (k.enc.map (·.trailer)).toList }
  let s := { s with las.strategy := s.strategyOf (acaLayer k.nextAca),
                    las.written := clusterWrites k.nextAca (copy.cluster copy.trailer true) }
  let s := s.setBlock fun k =>
    { k with writing := some k.nextAca, writeAt := s.clock,
             trailers := if k.index < k.trailers.length then k.trailers
               else k.trailers ++ (k.enc.map (·.trailer)).toList,
             enc := if k.index < k.trailers.length then k.enc else none }
  let s := if k.index + 1 = k.clusters.length ∧ k.kind = .data ∧ k.attempts = 0 ∧ k.slipped = false then
      { s with md.selvNext := s.md.selvNext.modify k.layer (· + 1) } else s
  let s := { s.writeLevels with bu.gate := true }
  if k.index = 0 ∧ k.kind = .data then s.commitFlushes k else s

/-- The gate opens on the block's next cluster once all that 11 R516, 13 R590 and 15 R656 ask holds;
opening inside a block is a link (11 R520). A layer that ends first ends the block (02 R80). -/
def State.tryOpenGate (s : State) : State :=
  match s.bu.block with
  | none => s
  | some k =>
    if s.sv.rampDue && !s.bu.gate then
      { s with sv.rampDue := false, sv.rampLeft := s.reg .CAL_SLEW_SAMPLES }
    else if k.writing.isSome || !s.gateAllowed || s.reg .SV_LAYER != acaLayer k.nextAca || !k.ready || !s.calReady k
        || k.nextAca == noAca || s.pw.pfail.isSome && !s.budgetOk 0 k.notBegun then s
    else
      let s := if k.burned.isEmpty then s else s.bump .LINKS
      s.beginCluster k

/-- KEY_ID as a big-endian number; the page shows its bytes in order (15 R668, R682). -/
def State.keyId (s : State) : Nat := beNat (leBytes 32 (s.reg .SEC_KEY_ID))

/-- CLUSTER_ENCODE (15 R653-R655, 02 R65-R71): the next cluster of the block is encoded for its planned
address. A selvedge's signature is still to come. -/
def State.encode (s : State) : State :=
  match s.bu.block with
  | none => s
  | some k =>
    let i := if k.writing.isSome then k.index + 1 else k.index
    if k.enc.isSome || decide (i ≥ k.clusters.length) || !s.canSign || s.sec.coreDown
        || decide (i < k.trailers.length) then s
    else
      let c := k.clusters.getD i { body := .test, md := noMetadata }
      let last := i + 1 == k.clusters.length
      let sys := k.kind != .data && k.kind != .spare
      let next := match k.writing with
        | none => k.nextAca
        | some a => s.nextAddress k a
      let prev := if i = 0 then k.chainPrev
        else (k.trailers.getD (i - 1) noTrailer).chainVal
      let t : Trailer :=
        { flags := b2n last * (trSelvedge + trSigned) + (if bit c.md.flags 0 then trEncrypted else 0)
            + (if i = 0 then trFirst else 0) + (if sys then trSystem else 0),
          blockId := k.id, stream := c.md.stream, clIndex := i,
          clCount := if last then k.clusters.length else 0, homeAca := next,
          selvSeq := if last && !sys then k.selvSeq else 0, writeTime := s.now, chainPrev := prev,
          clHash := clHash c.body c.md, chainVal := 0, sig := 0,
          keyId := if last then s.keyId else 0 }
      let t := { t with chainVal := chainVal t }
      s.setBlock fun k => { k with enc := some { index := i, aca := next, trailer := t, ready := !last } }

/-- Bobbins in descending order of fill fraction, the lower number first among equals (01 R38, 07 R298). -/
def State.fillOrder (s : State) : List Nat :=
  (List.range 10).foldl (fun acc b =>
    let ahead (c : Nat) := decide (s.pendingOf b * s.bobSize c ≤ s.pendingOf c * s.bobSize b)
    if s.bobSize b = 0 then acc
    else acc.takeWhile ahead ++ b :: acc.dropWhile ahead) []

/-- A session opens with the burst; its start is the time of the spin-up, the last one or, with the disc at rest, the
one to come (02 Table 2.10). -/
def State.openSession (s : State) : State :=
  match s.md.session with
  | some _ => s
  | none =>
    let rest := s.reg .SP_STATE == 0
    { s with md.session := some { number := s.md.sessionNext, start := if rest then s.now else s.sp.upAt,
                                  fresh := rest } }

/-- A burst can start (01 R46, 06 R237, 15 R661, R671, 03 R116, 02 R73, R74). -/
def State.burstAllowed (s : State) : Bool :=
  s.canSign && s.md.mounted && !s.md.readOnly && s.reg .DISC_SERVICE == 1
    && (s.md.session.isSome || s.canOpen) && s.pw.pfail.isNone && s.poolUp
    && !(s.md.session.any fun e => e.closing || e.found) && !s.md.ejecting && !s.md.mounting

/-- A burst trigger for bobbins (01 R37-R41, R46): added to a burst whose spin-down has not begun, or a burst begins
with each bobbin's range fixed at its tail. An event mark (`mark`) adds its own range only, which `nextRange` takes from
the marks. Below Run it is wake source 7 (03 Table 3.5). While a cartridge is being mounted, and while an interrupted
session is still to be closed, the trigger is kept (DEDUCED, log entry 18). The fill fractions are compared once, at the
burst's start; a trigger added later leaves the order (DESIGN CHOICE, log entry 121: R38 does not say when). -/
def State.trigger (s : State) (bobs : List Nat) (mark : Bool := false) (flush : Option (Nat × Nat) := none) : State :=
  if !s.burstAllowed then
    if s.reg .DISC_SERVICE ≠ 3 ∧ (s.md.mounting = true ∨ s.md.session.any (·.found) = true ∨
        (s.reg .LD_STATE = 2 ∧ s.md.mounted = false)) then
      { s with bu.kept := (s.bu.kept ++ bobs).eraseDups }
    else s
  else if s.bu.active || s.bu.turning then
    { s with bu.active := true, bu.flushes := s.bu.flushes ++ flush.toList,
             bu.others := s.bu.others || flush.isNone,
             bu.limits := s.bu.limits.mapIdx fun b l =>
               if bobs.contains b && !mark then s.get .TAIL_OFFSET b else l }
  else
    let s := s.arrive 7
    if s.pw.mode ≠ .run ∧ s.pw.waking = none then s
    else
      let s := s.openSession.restartIdle.pulse Ev.bursts
      { s with bu.active := true, bu.turning := true, bu.exhausted := 0, bu.blocks := 0,
               bu.flushes := flush.toList, bu.others := flush.isNone, bu.order := s.fillOrder,
               bu.limits := (List.range 10).map fun b => s.get .TAIL_OFFSET b }

/-- A burst that only FLUSH commands asked for, none of which stands any more, and of which no block has begun, ends
without a trace (05 R209, 04 Table 4.11). -/
def State.dropBurst (s : State) : State :=
  if s.bu.active && !s.bu.others && s.bu.flushes.isEmpty && s.bu.blocks == 0 && !s.bu.block.any Block.begun then
    { s.dropBlock with bu.active := false, bu.redo := none }
  else s

/-- A FLUSH before its commit point is given up (05 R209, R215). -/
def State.dropFlush (s : State) (qp tag : Nat) : State :=
  if s.bu.flushes.contains (qp, tag) then
    { s with bu.flushes := s.bu.flushes.filter (· != (qp, tag)) }.dropBurst
  else s

/-- A host-side reset gives up every FLUSH before its commit point (04 Table 4.11). -/
def State.endFlushes (s : State) : State :=
  let live (k : Nat × Nat) : Bool := (s.cmd k.1 k.2).any fun (c : QCmd) => c.committed
  { s with bu.flushes := s.bu.flushes.filter live }.dropBurst

/-- A FLUSH whose first block the burst has already begun is past its commit point (05 Table 5.7). -/
def State.commitNow (s : State) (c : QCmd) (tails : List (Nat × Nat)) : State :=
  if s.bu.block.any fun k => k.kind == .data && k.begun &&
      tails.any fun t => t.1 == k.bobbin && k.start < t.2 then
    s.setCmd c fun d => { d with committed := true }
  else s

/-- The EVENT flag of a block's entry, and whether it is encrypted. -/
def Block.entryFlags (k : Block) : Nat :=
  b2n (k.clusters.any fun c => bit c.md.flags 0) + 2 * b2n (k.clusters.any fun c => bit c.md.flags 1)
    + 8 * b2n k.hasSlips

/-- FLUSH commands whose bobbins a block of `b` from stream offset `o` touched count it (05 R221). -/
def State.countFlushes (s : State) (b o : Nat) : State :=
  let f (c : QCmd) : QCmd :=
    if c.opcode == 0x120 && c.started && c.tails.any fun t => t.1 == b && o < t.2
    then { c with count := c.count + 1 } else c
  { s with q.cmds := s.q.cmds.map f }

/-- The directory entry of a verified data block (02 Table 2.11). -/
def Block.entry (k : Block) (last : Nat) : DirEntry :=
  let t := k.trailers.getLastD noTrailer
  let times := k.clusters.filter fun c => c.md.recCount != 0
  { type := 1, flags := k.entryFlags, stream := k.bobbin, firstAca := k.firstAca, lastAca := last,
    clCount := k.clusters.length, blockId := k.id, streamOffset := k.start,
    byteCount := k.stop - k.start, selvSeq := t.selvSeq,
    firstTime := (times.head?.map (·.md.firstTime)).getD 0,
    lastTime := (times.getLast?.map (·.md.lastTime)).getD 0, chainHead := t.chainVal / 2 ^ 192 }

/-- The MRAM chain-head table takes the latest verified selvedge of a stream (15 R657). -/
def State.keepHead (s : State) (stream v : Nat) : State :=
  { s with md.heads := Map.put s.md.heads stream (s.md.serial, v) }

/-- A block verified under PFAIL_N, after the one in flight, is counted (03 Table 3.7). -/
def State.countPfail (s : State) : State :=
  { s with pw.pfail := s.pw.pfail.map fun p => { p with flushed := p.flushed + 1 } }

/-- A data block's selvedge has passed (01 R35, R36, 02 R81, 15 R657): its BLOCK entry joins the archive,
its range is done, the chain head is kept in MRAM, FLUSH counts rise. -/
def State.selvedgeVerified (s : State) (k : Block) (a : Nat) : State :=
  let s := (s.addEntry (k.entry a)).addDone k.bobbin k.start k.stop
  let s := s.keepHead k.bobbin (k.trailers.getLastD noTrailer).chainVal
  let s := { s with bu.blocks := s.bu.blocks + 1, bu.block := none }.countPfail
  ((s.countFlushes k.bobbin k.start).pulse Ev.blocksSelvedged).checkFlushes

end Sys2Proof.Machine
end

