-- ==== Sys2Proof/Machine/Session.lean ====
section
/-! DEFINITION. What follows a written cluster: verdicts, slips, exhaustion, the end of a layer,
abandonment for a signature; session close and its system clusters; mounting a cartridge and reading its
archive (02 R76-R91, 12 R549-R553, R583-R585, 15 R656-R661). -/

namespace Sys2Proof.Machine

/-- The directory entries of the addresses a block burned (02 Table 2.11): one ORPHAN extent from the
first to the last. -/
def State.orphan (s : State) (k : Block) : State :=
  match k.kind, k.burned.head?, k.burned.getLast? with
  | .data, some f, some l => s.addEntry (extentEntry 2 k.bobbin f l (l - f + 1) k.id)
  | _, _, _ => s

/-- The block as it is written again from CL_INDEX 0 (02 R80, 12 R552): the same BLOCK_ID, CHAIN_PREV and
contents. -/
def Block.again (k : Block) : Block :=
  { k with trailers := [], index := 0, attempts := 0, slipped := false, hasSlips := false, enc := none,
           writing := none, burned := [], mustFail := false }

/-- The layer ends before the block is finished (02 R80): an orphan extent, a LAYER_CLOSED entry, the block
to be written again on the next layer. LAYER_CLOSED names the layer's last user address (DESIGN CHOICE,
log entry 14). -/
def State.layerEnded (s : State) (k : Block) : State :=
  let l := k.layer
  let last := pcnAca l (userClusters - 1)
  let s := (s.orphan k).addEntry (extentEntry 4 0xFFFF last last 0 0)
  { s with bu.block := none, bu.gate := false, bu.redo := some k.again, md.closed := s.md.closed.set l true }

/-- A reallocation ends without a copy (12 R575). -/
def State.dropCopy (s : State) : State :=
  { s with bu.block := none, bu.gate := false, md.realloc := none }.bump .REALLOC_SKIPPED

/-- The block to be written again starts where a layer has room (02 R79, R80, 12 R552); its selvedge takes
the layer's next SELV_SEQ (02 R81). -/
def State.restartBlock (s : State) (k : Block) : State :=
  match s.pickLayer k.clusters.length with
  | none => { s with bu.redo := none }.userFull
  | some l =>
    if !s.pfailWrites || !s.budgetOk 0 k.clusters.length then s
    else
      let first := pcnAca l (s.md.nextPcn.getD l 0)
      let k := { k with layer := l, firstAca := first, nextAca := first, selvSeq := s.md.selvNext.getD l 1 }
      { s with bu.redo := none, bu.block := some k }

/-- Black-box records not yet echoed (02 R82, 17 R744), with those that both banks failed to keep (17 R739). -/
def State.echoRest (s : State) : List BbRecord :=
  s.bbList s.md.echoed ++ s.bb.loose.filter fun r => decide (s.md.echoed ≤ r.seq)

/-- A one-cluster block of stream 0xFFFF (02 System zones), at the zone's next address. The defect list cluster of a
reallocation, written while its session is open, carries SESSION_END 0 (DESIGN CHOICE, log entry 124: Table 2.10 gives
the time of session close, which is still to come). -/
def State.systemBlock (s : State) (kind : BlockKind) (e : Session) (a : Nat) : Block :=
  let i := match kind with
    | .directory => 0
    | .defects => 1
    | _ => 2
  let es := e.entries.take 1022
  let ds := e.defects.take 2044
  let rs := s.echoRest.take 1022
  let n := match kind with
    | .directory => 64 * es.length
    | .defects => 32 * ds.length
    | _ => 64 * rs.length
  let echo := if kind = .directory ∧ !s.echoRest.isEmpty then (s.zoneAddress .echo).getD noAca else noAca
  let h : SysHeader :=
    { magic := match kind with
        | .directory => 0x4344534B
        | .defects => 0x434C444B
        | _ => 0x4542424B,
      sysSeq := s.md.sysSeq.getD i 0, session := e.number, sessionStart := e.start, sessionEnd := e.stop,
      nextPcn := s.md.nextPcn, spareNext := s.md.spareNext, linkAca := s.md.link.getD i noAca,
      echoAca := echo,
      firstSeq := if kind = .echo then (rs.head?.map (·.seq)).getD 0 else 0,
      lastSeq := if kind = .echo then (rs.getLast?.map (·.seq)).getD 0 else 0 }
  let body := match kind with
    | .directory => ClusterBody.directory h es
    | .defects => ClusterBody.defects h ds
    | _ => ClusterBody.echo h rs
  let type := match kind with
    | .directory => 2
    | .defects => 3
    | _ => 4
  let head := match Map.get s.md.heads 0xFFFF with
    | some (serial, v) => if serial = s.md.serial then v else 0
    | none => 0
  let md := { noMetadata with stream := 0xFFFF, bytesUsed := 128 + n, firstRec := 0xFFFFFFFF }
  { kind := kind, bobbin := 0xFFFF, start := 0, stop := 0, id := sysBlockId type (s.md.sysSeq.getD i 0),
    layer := acaLayer a,
    clusters := [⟨body, md⟩],
    chainPrev := head, selvSeq := 0, firstAca := a, nextAca := a }

/-- The system cluster a closing session writes next (02 R73, R74, R82): defect list clusters, directory
clusters, echo clusters, then defects recorded meanwhile. Entries and records beyond a full zone are not
written. -/
def State.nextSystem (s : State) (e : Session) : Option BlockKind :=
  let dirs := e.written.getD 1 0
  let room k := decide (0 < s.zoneFree k)
  if !e.defects.isEmpty && dirs == 0 && room .defects then some .defects
  else if (dirs == 0 || !e.entries.isEmpty) && room .directory then some .directory
  else if !s.echoRest.isEmpty && room .echo then some .echo
  else if !e.defects.isEmpty && room .defects then some .defects
  else none

/-- A mount is complete (02 R84, R86): the disc's service and its report; a CARTRIDGE load that waits for it
completes (06 R272). -/
def State.finishMount (s : State) : State :=
  let s := { s with md.mounting := false }
  let full := !s.md.readOnly && (!s.canOpen || (s.pickLayer 1).isNone)
  let s := s.set .DISC_SERVICE (if s.md.readOnly then 2 else if full then 4 else 1)
  let s := s.updateHealth
  let s := if s.md.readOnly then s.report Code.mountedReadOnly
    else s.report Code.mounted s.md.sessionNext
  let s := if full then s.report Code.cartridgeFull else s
  let s := (s.q.cmds.filter fun c => c.opcode == 0x133 && c.started && fieldAt c.args 0 1 == 1).foldl
    (fun s c => s.finishWith c St.success 0 (if s.md.readOnly then 2 else 1)) s
  let kept := s.bu.kept
  if kept.isEmpty then s else { s with bu.kept := [] }.trigger kept

/-- The session is closed (02 R82). -/
def State.sessionDone (s : State) (e : Session) : State :=
  let s := { s with md.session := none, md.sessionNext := e.number + 1 }
  let s := s.report Code.sessionClosed e.number
  if s.md.mounting then s.finishMount
  else if e.found && !s.bu.kept.isEmpty then { s with bu.kept := [] }.trigger s.bu.kept
  else s

/-- Session close begins (02 R82). -/
def State.startClose (s : State) : State :=
  { s with md.session := s.md.session.map fun e => { e with closing := true, stop := s.now },
           bu.exhausted := 0 }

/-- The system cluster of a closing session, or the defect list cluster of a reallocation (02 R83). -/
def State.startSystem (s : State) (kind : BlockKind) (e : Session) : State :=
  match s.zoneAddress kind with
  | none => s
  | some a => { s with bu.block := some (s.systemBlock kind e a) }

/-- The work the channel takes up once no block is in hand: a block to be written again, a reallocation's
defect list cluster, the next system cluster of a closing session, the burst's next block; a burst with
nothing left ends (01 R37, R38). A block whose next address has run out ends as its kind says. No system cluster is
started under PFAIL_N (03 R118). -/
def State.nextWork (s : State) : State :=
  match s.bu.block, s.bu.redo, s.md.realloc, s.md.session with
  | some k, _, _, _ =>
    if k.nextAca ≠ noAca ∨ k.writing.isSome then s
    else match k.kind with
      | .data => s.layerEnded k
      | .spare => s.dropCopy
      | _ => { s with bu.block := none }
  | none, some k, _, _ => s.restartBlock k
  | none, none, some (_, true), some e => if s.pw.pfail.isSome then s else s.startSystem .defects e
  | none, none, _, some e =>
    if e.found && !e.closing && s.canSign && s.pw.pfail.isNone then s.startClose
    else if e.closing && s.pw.pfail.isSome then s
    else if e.closing then
      match s.nextSystem e with
      | some kind => s.startSystem kind e
      | none => s.sessionDone e
    else if s.bu.active then
      let s := s.nextBlock 64
      if s.bu.block.isSome then s else { s with bu.active := false }
    else s
  | none, none, _, none => s

/-- Work goes on after a block ended: twice, since a layer's end is followed by the block's restart. -/
def State.resume (s : State) : State := s.nextWork.nextWork.tryOpenGate

/-- The write in flight is cut off (02 R89, 11 R518): its cluster is broken, and the block goes on at its
next address, or as `nextWork` says. -/
def State.cutWrite (s : State) : State := s.breakCluster.nextWork

/-- A block with a cluster just burned at `a`. -/
def Block.after (k : Block) (a : Nat) : Block := { k with writing := none, burned := k.burned ++ [a] }

/-- A system cluster has passed (02 R72, R82, R83): its type's sequence and link move on; its entries are
recorded. -/
def State.systemVerified (s : State) (k : Block) (a : Nat) : State :=
  let i := match k.kind with
    | .directory => 0
    | .defects => 1
    | _ => 2
  let w := match k.kind with
    | .defects => 0
    | .directory => 1
    | _ => 2
  let s := { s with bu.block := none, bu.gate := false, md.sysSeq := s.md.sysSeq.modify i (· + 1),
                    md.link := s.md.link.set i a }
  let s := s.keepHead 0xFFFF (k.trailers.getLastD noTrailer).chainVal
  let body : ClusterBody := match k.clusters with
    | c :: _ => c.body
    | [] => .test
  let took (e : Session) : Session :=
    match body with
    | .directory _ es => { e with entries := e.entries.drop es.length }
    | .defects _ ds => { e with defects := e.defects.drop ds.length }
    | _ => e
  let s := { s with md.session := s.md.session.map fun e =>
      { took e with written := e.written.modify w (· + 1) } }
  match body, s.md.realloc with
  | .echo h _, _ => { s with md.echoed := h.lastSeq + 1 }
  | .defects _ _, some (_, true) =>
    ({ s with md.realloc := none }.bump .REALLOCS).pulse Ev.reallocs
  | _, _ => s

/-- A spare copy has passed (02 R78, R83, 12 R574): its REALLOC entry is recorded. -/
def State.copyVerified (s : State) (k : Block) (a : Nat) : State :=
  match s.md.realloc with
  | none => { s with bu.block := none }
  | some (home, _) =>
    let s := { s with bu.block := none, bu.gate := false, md.realloc := some (home, true) }
    (s.addDefect { home := home, repl := a, reason := 2, time := s.now, block := k.id }).report
      Code.reallocated home

/-- The next cluster of a block that goes on: written at once if its encoding is ready and the gate may
stay open, else linked later (12 R550, 15 R656). -/
def State.goOn (s : State) : State :=
  match s.bu.block with
  | none => s
  | some k =>
    if k.nextAca = noAca then s.resume
    else if !k.ready then (({ s with bu.gate := false }).bump .SIGN_LATE).pulse Ev.signLate
    else if s.gateAllowed && s.reg .SV_LAYER == acaLayer k.nextAca then s.beginCluster k
    else { s with bu.gate := false }

/-- A cluster has passed verification (12 R549, R550). -/
def State.clusterPassed (s : State) (k : Block) (a : Nat) : State :=
  let s := (s.burn a (k.cluster k.trailer true)).advance k a
  let s := (s.bump .CL_WRITTEN).pulse Ev.clWritten
  let done := k.after a
  if k.index + 1 = k.clusters.length then
    match k.kind with
    | .data => ({ s with bu.gate := false }.selvedgeVerified k a).resume
    | .spare => (s.copyVerified done a).resume
    | _ => (s.systemVerified done a).resume
  else
    let k := { done with index := k.index + 1, attempts := 0, slipped := false, mustFail := false,
                         nextAca := s.nextAddress k a }
    let s := { s with bu.block := some k }
    if s.pw.pfail.isSome && !s.budgetOk 0 k.notBegun then s.abandonBlock else s.goOn

/-- The last permitted attempt has failed (12 R552): the block is abandoned, OPC falls due on its layer and
the block is to be written again; a second exhaustion in the burst takes the disc out of service. A
system cluster starts again at its zone's next address; a spare copy is given up. -/
def State.exhausted (s : State) (k : Block) (a : Nat) : State :=
  let s := (s.bump .SLIP_EXHAUSTED)
  let s := { s with bu.exhausted := s.bu.exhausted + 1, bu.block := some k, bu.gate := false }
  if s.bu.exhausted ≥ 2 then s.discOut Code.slipExhausted a
  else
    let s := s.report Code.slipExhausted a
    let l := acaLayer a
    let s := s.set .CAL_DUE (s.reg .CAL_DUE ||| 2 ^ (l + 4))
    match k.kind with
    | .data => { s.abandonBlock with bu.redo := some k.again }.resume
    | .spare => s.dropCopy.resume
    | kind =>
      let next := (s.zoneAddress kind).getD noAca
      { s with bu.block := some { k.again with firstAca := next, nextAca := next } }.resume

/-- A system cluster that failed verification is recorded as SYSTEM_SKIP, naming the next SCN of its zone if one is
left (02 R90). -/
def State.systemSkip (s : State) (k : Block) (a : Nat) : State :=
  if k.kind = .data ∨ k.kind = .spare then s
  else s.addDefect { home := a, repl := s.nextAddress k a, reason := 4, time := s.now, block := k.id }

/-- A cluster has failed verification (12 R549-R553, R585, 02 R77, R90). A system cluster's copy at the next SCN carries
SLIPPED like any other, and is not counted in SLIPS (DESIGN CHOICE, log entry 126: R90 does not say). -/
def State.clusterFailed (s : State) (k : Block) (a : Nat) : State :=
  let s := (s.burn a (k.cluster k.trailer false)).advance k a
  let s := (s.bump .VFY_FAILS).pulse Ev.vfyFails
  let done := { k.after a with attempts := k.attempts + 1, slipped := true, hasSlips := true, enc := none,
                               trailers := k.trailers.take (k.index + 1), mustFail := false }
  let next := s.nextAddress k a
  let sys := k.kind != .data && k.kind != .spare
  let s := s.systemSkip k a
  if done.attempts > s.reg .SLIP_MAX then s.exhausted done a
  else
    let k := { done with nextAca := next }
    let s := { s with bu.block := some k }
    if s.pw.pfail.isSome && !s.budgetOk 0 k.notBegun then s.abandonBlock
    else if next = noAca then s.resume
    else
      let s := if sys then s else
        ((s.addDefect { home := a, repl := next, reason := 1, time := s.now, block := k.id }).bump .SLIPS).pulse
          Ev.slips
      s.goOn

/-- Rows of a verified cluster that are bad (12 R548), and the inner symbols corrected across its rows (R549). -/
def badRows (rs : List FrameResult) : Nat := (rs.filter FrameResult.bad).length

/-- The inner symbols corrected across all rows (12 R549). -/
def symbolsFixed (rs : List FrameResult) : Nat := (rs.map fun r => r.fixes.getD 0).sum

/-- The verify stream passes a cluster (12 R549, R583, R584): `rs` are its 384 frames. -/
def State.verdictPasses (s : State) (k : Block) (cs : Bool) (rs : List FrameResult) : Bool :=
  cs && !noSync 0 rs && decide (badRows rs ≤ s.reg .VFY_BAD_ROWS_MAX)
    && decide (symbolsFixed rs ≤ s.reg .VFY_SYM_MAX) && !k.mustFail && s.st.verifyFail == 0

/-- The verdict on the cluster being written (12 R549, R550, R583); two consecutive clusters with no FS on V take
the disc out of service. -/
def State.verdict (s : State) (v : Verdict) : State :=
  match s.bu.block with
  | none => s
  | some k =>
    match k.writing with
    | none => s
    | some a =>
      let (s, rs) := s.verifyFrames v
      let pass := s.verdictPasses k v.cs rs
      let noFs := if noSync 0 rs then s.bu.noFs + 1 else 0
      let s := { s with bu.tcl := v.tcl, bu.noFs := noFs, st.verifyFail := s.st.verifyFail - 1 }
      if pass then s.clusterPassed k a
      else if noFs ≥ 2 then
        let s := ((s.burn a (k.cluster k.trailer false)).advance k a).systemSkip k a
        let s := ((s.bump .VFY_FAILS).pulse Ev.vfyFails).set .VFY_FAULT 1
        { s with bu.block := some (k.after a) }.discOut Code.verifyLost a
      else s.clusterFailed k a

/-- CLUSTER_ENCODE (15 R653-R656, 01 R38): with the disc followed and no block in hand the next one is assembled; the next
cluster is encoded; a block that waited for it links. -/
def execClusterEncode (s : State) : Host.Outcome State Fault Refusal :=
  .next ((if s.reg .SV_STATE = 3 then s.nextWork else s).encode.tryOpenGate)

/-- The security core is reset (14 R623): the entropy source warms up again. -/
def State.securityReset (s : State) : State :=
  if s.reg .ENTROPY_STATE = 2 then s else s.set .ENTROPY_STATE 0

/-- A second failed check of a signature (15 R661): the block is abandoned, the security core reset; the
third such abandonment within 1 h halts signing until the next reset. -/
def State.signatureAbandon (s : State) : State :=
  let times := s.clock :: s.bu.sigAbandons.filter fun t => s.clock < t + 3600000000
  let s := { s.abandonBlock.securityReset with bu.sigAbandons := times }
  (if times.length ≥ 3 then { s.set .SIGNING_HALTED 1 with bu.active := false, bu.redo := none } else s).resume

/-- SIGNATURE_DONE (15 R659-R661): a selvedge's signature is released once its check passes; after one
failed check it is computed and checked again. -/
def execSignatureDone (ok : Bool) (s : State) : Host.Outcome State Fault Refusal :=
  .next (match s.bu.block, s.sec.devKey with
    | some k, some d =>
      match k.enc with
      | none => s
      | some e =>
        if e.ready then s
        else if ok then
          let t := { e.trailer with sig := ecdsaSign d (sha256 (beBytes 32 e.trailer.chainVal)) }
          let s := s.setBlock fun k => { k with enc := some { e with trailer := t, ready := true } }
          ((s.bump .SIGNATURES).pulse Ev.signatures).tryOpenGate
        else
          let s := (s.bump .SIG_SELF_FAILS).report Code.signatureSelfFail
          if e.sigFails = 0 then s.setBlock fun k => { k with enc := some { e with sigFails := 1 } }
          else s.signatureAbandon
    | _, _ => s)

end Sys2Proof.Machine
end

