-- ==== Sys2Proof/Machine/Archive.lean ====
section
/-! DEFINITION. Reading the archive: the addresses of a block, the integrity checks of a block, the scan
at mount and the mount (02 R49, R75, R84-R87, R91, 15 R657, R658, R679, R680). -/

namespace Sys2Proof.Machine

/-- The defect entry that governs a home address: the last written (02 R75). -/
def State.governing (s : State) (a : Nat) : Option DefectEntry :=
  (s.md.defects.filter fun d => d.home == a).getLast?

/-- The recorded cluster at an address. -/
def State.clusterAt (s : State) (a : Nat) : Option Cluster :=
  match s.md.cart with
  | none => none
  | some d => Map.get d.clusters a

/-- An address is skipped on the way from FIRST_ACA to LAST_ACA (02 R87). -/
def State.skipped (s : State) (a : Nat) : Bool :=
  (s.md.dir.any fun e => (e.type == 2 || e.type == 3) && e.firstAca ≤ a && a ≤ e.lastAca) ||
    (match s.governing a with
      | some d => d.reason == 1 || d.reason == 3
      | none => false)

/-- The address read in place of `a`: the governing REALLOC copy (02 R87). -/
def State.copyOf (s : State) (a : Nat) : Nat :=
  match s.governing a with
  | some d => if d.reason = 2 ∧ d.repl ≠ noAca then d.repl else a
  | none => a

/-- A block's clusters in CL_INDEX order, as home address and address read (02 R87). -/
def State.blockAddresses (s : State) (e : DirEntry) : List (Nat × Nat) :=
  (((List.range (e.lastAca + 1 - e.firstAca)).map (e.firstAca + ·)).filter fun a => !s.skipped a).map
    fun a => (a, s.copyOf a)

/-- BLOCK_ID and CL_INDEX run without a gap from `i` (02 R87); the index of the first that does not. -/
def gapAt (id : Nat) : Nat → List Cluster → Option Nat
  | _, [] => none
  | i, c :: cs =>
    if c.trailer.blockId = id ∧ c.trailer.clIndex = i ∧ c.trailer.stream = c.md.stream
    then gapAt id (i + 1) cs else some i

/-- Each CHAIN_PREV is its predecessor's CHAIN_VAL (15 Table 15.6). -/
def linkBreak : Nat → Nat → List Cluster → Option Nat
  | _, _, [] => none
  | i, v, c :: cs => if c.trailer.chainPrev = v then linkBreak (i + 1) c.trailer.chainVal cs else some i

/-- The first index of a list whose element satisfies `p`. -/
def firstIndex (cs : List Cluster) (p : Cluster → Bool) : Option Nat := cs.findIdx? p

/-- The checks of 15 Table 15.6 on a block's clusters, `prev` the CHAIN_HEAD of the stream's previous
BLOCK entry: the reason and CL_INDEX of the first that fails. -/
def State.integrity (s : State) (id : Nat) (prev : Option Nat) (cs : List Cluster) :
    Option (Nat × Nat) :=
  let first := match cs.head?, prev with
    | some c, some h => decide (c.trailer.chainPrev / 2 ^ 192 = h)
    | some c, none => c.trailer.chainPrev == 0
    | none, _ => true
  let selv := cs.getLast?.map (·.trailer)
  let last := cs.length - 1
  let sigOk := match selv with
    | some t => ecdsaVerify s.sec.pub (sha256 (beBytes 32 t.chainVal)) t.sig
    | none => false
  let checks : List (Option (Nat × Nat)) :=
    [(firstIndex cs fun c => !c.hdrCrcOk).map (1, ·),
     match gapAt id 0 cs with
      | some i => some (2, i)
      | none => if bit ((selv.map (·.flags)).getD 0) 0 && (selv.map (·.clCount)) == some cs.length then none
                else some (2, last),
     (firstIndex cs fun c => c.trailer.clHash != clHash c.body c.md).map (3, ·),
     if first then
      match cs with
      | [] => none
      | c :: rest => (linkBreak 1 c.trailer.chainVal rest).map (4, ·)
     else some (4, 0),
     (firstIndex cs fun c => c.trailer.chainVal != chainVal c.trailer).map (5, ·),
     if s.reg .COMMISSIONED = 1 ∧ selv.map (·.keyId) = some s.keyId then none else some (6, last),
     if sigOk then none else some (7, last)]
  checks.findSome? fun x => x

/-- A failed integrity check is recorded (15 R679, R680). -/
def State.unverifiable (s : State) (reason id : Nat) : State :=
  let s := (s.set .LAST_INTEG_REASON reason).set .LAST_INTEG_BLOCK id
  ((s.bump .INTEG_UNVERIFIABLE).pulse Ev.integUnverifiable).report Code.integrityUnverifiable reason 0 id

/-- CHAIN_HEAD of the stream's BLOCK entry before the entries `after` (15 Table 15.6). -/
def headBefore (dir : List DirEntry) (stream : Nat) : Option Nat :=
  ((dir.filter fun e => e.type == 1 && e.stream == stream).getLast?).map (·.chainHead)

/-- Burned addresses from `a` up to the first unwritten one (02 R84). -/
def scanFrom (d : Disc) (a : Nat) : Nat → List (Nat × Cluster)
  | 0 => []
  | n + 1 =>
    match Map.get d.clusters a with
    | none => []
    | some c => (a, c) :: scanFrom d (a + 1) n

/-- The first unwritten number of a zone on a layer, from its lowest. -/
def firstFree (d : Disc) (system : Bool) (layer lo : Nat) : Nat :=
  lo + (scanFrom d (aca system layer lo) d.clusters.length).length

/-- The address of a layer's next test cluster (13 R599): the boundary of the inner test zone, then of the
outer one; none once both are full. -/
def nextTest (d : Disc) (l : Nat) : Nat :=
  let n := firstFree d true l 0
  let m := firstFree d false l 360448
  if n ≤ 1023 then aca true l n else if m ≤ 361471 then aca false l m else noAca

/-- The block each scanned cluster belongs to, from the right: its own, or that of the slip copy that
follows it. -/
def ownersRight : List (Nat × Cluster) → List (Nat × Cluster × Option Trailer)
  | [] => []
  | (a, c) :: l =>
    let rest := ownersRight l
    let next := rest.findSome? fun x => if x.2.1.decodes then some x.2.1.trailer else none
    let t := if c.decodes then some c.trailer
      else match next with
        | some t => if t.homeAca ≤ a then some t else none
        | none => none
    (a, c, t) :: rest

/-- A run of scanned clusters of one block: BLOCK_ID, stream, clusters. -/
structure Extent where
  id : Nat
  stream : Nat
  cells : List (Nat × Cluster)
  deriving DecidableEq, Repr

/-- An extent holds the selvedge of its block. -/
def Extent.sealed (e : Extent) : Bool := e.cells.any fun x => x.2.decodes && bit x.2.trailer.flags 0

/-- Scanned clusters grouped into extents; a cluster no trailer names joins the extent before it while that block's
selvedge has not been met, or one of stream 0xFFFF (02 R85). -/
def extents : List Extent → List (Nat × Cluster × Option Trailer) → List Extent
  | acc, [] => acc
  | acc, (a, c, t) :: l =>
    let fresh (id st : Nat) := acc ++ [{ id := id, stream := st, cells := [(a, c)] }]
    let join := acc.dropLast ++ (acc.getLast?.map fun e => { e with cells := e.cells ++ [(a, c)] }).toList
    extents (match t, acc.getLast? with
      | some t, some e =>
        if t.blockId = e.id ∧ ¬ (c.decodes = true ∧ t.clIndex = 0 ∧ t.homeAca = a) then join
        else fresh t.blockId t.stream
      | some t, none => fresh t.blockId t.stream
      | none, some e => if e.sealed && e.id ≠ 0 then fresh 0 0xFFFF else join
      | none, none => fresh 0 0xFFFF) l

/-- Where the copy that governs a first attempt's address was written: along SLIP and BROKEN entries (02 R75, R77, R89),
`n` at most. -/
def State.slipEnd (s : State) (a : Nat) : Nat → Nat
  | 0 => a
  | n + 1 =>
    match s.governing a with
    | some d => if (d.reason = 1 ∨ d.reason = 3) ∧ d.repl ≠ noAca then s.slipEnd d.repl n else a
    | none => a

/-- A SLIP or REALLOC entry for each scanned copy with no defect entry covering it (02 R85); a REALLOC entry names the
address the copy replaces. D_TIME is the time of the mount (DESIGN CHOICE, log entry 125: the time of the event is not
known). -/
def State.reconstruct (s : State) (a : Nat) (c : Cluster) : State :=
  if !c.decodes then s
  else if bit c.trailer.flags 4 then
    if s.md.defects.any fun d => d.repl == a then s
    else s.addDefect { home := s.slipEnd c.trailer.homeAca s.md.defects.length, repl := a, reason := 2,
                       time := s.now, block := c.trailer.blockId }
  else if bit c.trailer.flags 3 then
    ((List.range (a - c.trailer.homeAca)).map (c.trailer.homeAca + ·)).foldl (fun s x =>
      if s.md.defects.any fun d => d.home == x then s
      else s.addDefect { home := x, repl := x + 1, reason := 1, time := s.now,
                         block := c.trailer.blockId }) s
  else s

/-- A scanned extent is adopted as a block, or becomes an orphan extent (02 R85, 15 R680). -/
def State.adopt (s : State) (e : Extent) : State :=
  let good := e.cells.filter fun x => x.2.decodes
  let cs := good.map (·.2)
  let first := (e.cells.head?.map (·.1)).getD 0
  let last := (e.cells.getLast?.map (·.1)).getD 0
  let selv := (cs.getLast?.map (·.trailer)).getD noTrailer
  let orphan := extentEntry 2 e.stream first last e.cells.length e.id
  if !bit selv.flags 0 then s.addEntry orphan
  else match s.integrity e.id (headBefore s.md.dir e.stream) cs with
    | some (reason, _) => (s.unverifiable reason e.id).addEntry orphan
    | none =>
      let times := cs.filter fun c => c.md.recCount != 0
      s.addEntry
        { type := 1,
          flags := b2n (cs.any fun c => bit c.md.flags 0) + 2 * b2n (cs.any fun c => bit c.md.flags 1) + 4
            + 8 * b2n (cs.any fun c => bit c.trailer.flags 3),
          stream := e.stream, firstAca := first, lastAca := last, clCount := cs.length, blockId := e.id,
          streamOffset := (cs.head?.map (·.md.streamOffset)).getD 0,
          byteCount := (cs.map (·.md.bytesUsed)).sum, selvSeq := selv.selvSeq,
          firstTime := (times.head?.map (·.md.firstTime)).getD 0,
          lastTime := (times.getLast?.map (·.md.lastTime)).getD 0, chainHead := selv.chainVal / 2 ^ 192 }

/-- The system clusters of a type that decode, in SYS_SEQ order. -/
def systemClusters (d : Disc) (lo hi : Nat) : List (Nat × SysHeader × ClusterBody) :=
  let l := d.clusters.filterMap fun (a, c) =>
    if a / 2 ^ 31 = 1 ∧ lo ≤ acaNumber a ∧ acaNumber a ≤ hi ∧ c.decodes = true ∧ c.hdrCrcOk = true then
      match c.body with
      | .directory h es => some (a, h, ClusterBody.directory h es)
      | .defects h ds => some (a, h, ClusterBody.defects h ds)
      | .echo h rs => some (a, h, ClusterBody.echo h rs)
      | _ => none
    else none
  l.mergeSort fun x y => x.2.1.sysSeq ≤ y.2.1.sysSeq

/-- The largest number of a list plus one, or `z` for an empty list. -/
def oneAbove (z : Nat) (l : List Nat) : Nat := l.foldl (fun m n => max m (n + 1)) z

/-- A stream's chain head on the cartridge just mounted (15 R657, R658): the MRAM table's when its serial
matches, else read from the selvedge of the stream's last BLOCK entry. -/
def State.findHead (s : State) (stream : Nat) : State :=
  match (s.md.dir.filter fun e => e.type == 1 && e.stream == stream).getLast? with
  | none => s
  | some e =>
    let known := match Map.get s.md.heads stream with
      | some (serial, _) => serial == s.md.serial
      | none => false
    if known then s
    else match s.clusterAt (s.copyOf e.lastAca) with
      | some c =>
        if c.decodes && c.hdrCrcOk then s.keepHead stream c.trailer.chainVal
        else { s with md.headless := s.md.headless ++ [stream] }.report Code.chainHeadMissing stream
      | none => { s with md.headless := s.md.headless ++ [stream] }.report Code.chainHeadMissing stream

/-- The chain head of the system clusters (02 R69): the most recent block of stream 0xFFFF, the one that no other names
as its CHAIN_PREV; of several, as the factory may leave its identity clusters, the one last in address order. -/
def State.findSystemHead (s : State) (d : Disc) : State :=
  let l := d.clusters.filter fun (a, c) => a / 2 ^ 31 = 1 && c.decodes && c.hdrCrcOk && bit c.trailer.flags 6
    && bit c.trailer.flags 0
  let heads := l.filter fun x => !(l.any fun y => y.1 != x.1 && y.2.trailer.chainPrev == x.2.trailer.chainVal)
  match Map.get s.md.heads 0xFFFF, heads.getLast? with
  | some (serial, _), some (_, c) =>
    if serial = s.md.serial then s else s.keepHead 0xFFFF c.trailer.chainVal
  | none, some (_, c) => s.keepHead 0xFFFF c.trailer.chainVal
  | _, none => s

/-- The disc identity (02 R49, R84): of the copies at SCN 1,024-1,027 of L0 the first that decodes and whose HDR_CRC
passes. -/
def discIdentity (d : Disc) : Option (SysHeader × Identity) :=
  (List.range 4).findSome? fun k =>
    match Map.get d.clusters (aca true 0 (1024 + k)) with
    | some c =>
      if c.decodes && c.hdrCrcOk then
        match c.body with
        | .identity h i => some (h, i)
        | _ => none
      else none
    | none => none

/-- The disc is a KAC-80 (02 R49). -/
def Disc.isKac80 (d : Disc) : Bool :=
  (discIdentity d).any fun x => x.1.magic == 0x5A49444B && x.2.layerCount == 4

/-- What the directory and defect lists of a disc tell (02 R84). -/
def State.readSystem (s : State) (d : Disc) : State :=
  let dirs := systemClusters d 1088 3135
  let defs := systemClusters d 3136 7231
  let echoes := systemClusters d 7232 11263
  let head := (dirs.getLast?.map (·.2.1))
  let burnedDir := d.clusters.any fun (a, _) =>
    a / 2 ^ 31 = 1 && decide (1088 ≤ acaNumber a) && decide (acaNumber a ≤ 3135)
  { s with
    md.serial := ((discIdentity d).map (·.2.serial)).getD 0
    md.identity := (discIdentity d).map (·.2)
    md.mounted := true
    md.readOnly := dirs.isEmpty && burnedDir
    md.dir := dirs.flatMap fun x => match x.2.2 with
      | .directory _ es => es
      | _ => []
    md.defects := defs.flatMap fun x => match x.2.2 with
      | .defects _ ds => ds
      | _ => []
    md.session := none
    md.sessionNext := match head with
      | some h => h.session + 1
      | none => 0
    md.nextPcn := match head with
      | some h => h.nextPcn
      | none => [0, 0, 0, 0]
    md.spareNext := match head with
      | some h => h.spareNext
      | none => List.replicate 4 userClusters
    md.dirNext := (List.range 4).map fun l => firstFree d true l 1088
    md.defNext := (List.range 4).map fun l => firstFree d true l 3136
    md.echoNext := (List.range 4).map fun l => firstFree d true l 7232
    md.sysSeq := [oneAbove 0 (dirs.map (·.2.1.sysSeq)), oneAbove 0 (defs.map (·.2.1.sysSeq)),
                  oneAbove 0 (echoes.map (·.2.1.sysSeq))]
    md.link := [(dirs.getLast?.map (·.1)).getD noAca, (defs.getLast?.map (·.1)).getD noAca,
                (echoes.getLast?.map (·.1)).getD noAca]
    md.echoed := oneAbove 0 (echoes.map (·.2.1.lastSeq))
    md.headless := []
    md.realloc := none }

/-- The clusters the scan of a mount finds (02 R84): the user area of each layer, and its spare area, each up to its
end (02 Table 2.7). -/
def State.scanned (s : State) (d : Disc) : List (List (Nat × Cluster)) × List (Nat × Cluster) :=
  let from' (l lo hi : Nat) := scanFrom d (pcnAca l lo) (min d.clusters.length (hi - lo))
  ((List.range 4).map fun l => from' l (s.md.nextPcn.getD l 0) userClusters,
   (List.range 4).flatMap fun l => from' l (s.md.spareNext.getD l 0) spareEnd)

/-- A slip left out of the defect lists for lack of room is rebuilt from its SLIPPED flag (02 R74, R85), wherever its
copy lies in the user areas a directory covers. -/
def State.rebuildSlips (s : State) (d : Disc) : State :=
  (d.clusters.filter fun x => x.1 < 2 ^ 31 && decide (acaNumber x.1 < s.md.nextPcn.getD (acaLayer x.1) 0)).foldl
    (fun s x => s.reconstruct x.1 x.2) s

/-- The numbers that go on from what was found: next addresses (02 R84), BLOCK_ID (02 R858), SELV_SEQ (02
R81), layers passed over (02 R79). -/
def State.numbersFound (s : State) (user : List (List (Nat × Cluster))) (spare : List (Nat × Cluster)) :
    State :=
  let found := (user.flatten ++ spare).filter fun x => x.2.decodes
  let ids := s.md.dir.map (·.blockId) ++ s.md.defects.map (·.block) ++ found.map (·.2.trailer.blockId)
  let next := (List.range 4).map fun l => s.md.nextPcn.getD l 0 + (user.getD l []).length
  { s with
    md.nextPcn := next
    md.spareNext := (List.range 4).map fun l =>
      s.md.spareNext.getD l 0 + (spare.filter fun x => acaLayer x.1 == l).length
    md.blockNext := oneAbove 1 (ids.filter fun i => i < 2 ^ 63)
    md.selvNext := (List.range 4).map fun l => oneAbove 1
      ((s.md.dir.filter fun e => e.type == 1 && acaLayer e.lastAca == l).map (·.selvSeq)
        ++ (found.filter fun x => acaLayer x.1 == l && !bit x.2.trailer.flags 6).map (·.2.trailer.selvSeq))
    md.closed := (List.range 4).map fun l =>
      (s.md.dir.any fun e => e.type == 4 && acaLayer e.firstAca == l) ||
        (List.range 4).any fun h => decide (l < h) && decide (0 < next.getD h 0) }

/-- The mount of the cartridge in the drive (02 R84-R86, R91, 15 R657): its system zones are read, its
user and spare areas scanned, and what an interrupted session left is recorded and closed under that
session's number. SESSION_START of that session is not known: a free value (log entry 15). -/
def State.mountKac80 (s : State) (d : Disc) : State :=
  let s := s.readSystem d
  let s := if s.md.readOnly then s
    else
      let s := s.rebuildSlips d
      let (user, spare) := s.scanned d
      let s := if user.flatten.isEmpty && spare.isEmpty then s
        else
          let (v, s) := s.draw
          let s := { s with md.session := some { number := s.md.sessionNext, start := v % 2 ^ 64,
                                                  found := true } }
          let s := (user.flatten ++ spare).foldl (fun s x => s.reconstruct x.1 x.2) s
          (user.flatMap fun l => extents [] (ownersRight l)).foldl State.adopt s
      s.numbersFound user spare
  let s := ((List.range 10).foldl State.findHead s).findSystemHead d
  let s := (List.range 4).foldl (fun s l => (s.put .LC_NEXT_TEST l (nextTest d l)).put .OPC_EXHAUSTED l 0) s
  let s := { s with md.mounting := true }
  match s.md.session with
  | none => s.finishMount
  | some _ => if s.canSign then s.startClose.resume else s.finishMount

end Sys2Proof.Machine
end

