-- ==== Sys2Proof/Machine/Spindle.lean ====
section
/-! DEFINITION. The spindle: what wants the disc turning, the servo and laser it carries, starts, teeth, the
speed loop, tooth-scheduled events, stalls, stops (09). Also the servo operations the spindle calls:
opening the loops, starting a focus acquisition (11 R493, R499). -/

namespace Sys2Proof.Machine

/-- A read command waits for the disc: EXPORT or DISC_READ past its start (06 R270). -/
def State.readsWaiting (s : State) : Bool :=
  s.q.cmds.any fun c => (c.opcode == 0x131 || c.opcode == 0x132) && c.started

/-- Work in hand needs the disc turning: a burst, a block, a closing session, a reallocation, a mount, a
read. -/
def State.discWanted (s : State) : Bool :=
  s.reg .LD_STATE == 2 && s.reg .DISC_SERVICE != 3 && !s.pw.pfail.any (·.shut) &&
    (s.bu.active || s.bu.block.isSome || s.bu.redo.isSome || s.md.realloc.isSome ||
      s.md.session.any (fun e => e.closing && s.canSign) || (!s.md.mounted && !s.md.ejecting) ||
      (s.readsWaiting && !s.md.ejecting))

/-- The layer the work in hand asks for. -/
def State.wantLayer (s : State) : Nat :=
  match s.bu.block with
  | some k => if k.nextAca = noAca then 0 else acaLayer k.nextAca
  | none => 0

/-- The laser in read mode on a layer (12 R536, R537): BIAS carries P_READ under the power loop, the other
levels are off. -/
def State.laserRead (s : State) (layer : Nat) : State :=
  let s : State := if s.reg .LAS_STATE = 1 then s else { s with las.onAt := s.clock }
  let (i, s) := s.levelCurrent 0 (s.get .P_READ layer)
  ((((s.set .LAS_STATE 1).set .LAS_I_BIAS i).set .LAS_I_COOL 0).set .LAS_I_PEAK 0).set .LAS_I_OD 0

/-- Laser current zero (12 R535). -/
def State.laserOff (s : State) : State :=
  let s := if s.reg .LAS_STATE = 3 then s else s.set .LAS_STATE 0
  ((((s.set .APC_LOCK 0).set .LAS_I_BIAS 0).set .LAS_I_COOL 0).set .LAS_I_PEAK 0).set .LAS_I_OD 0

/-- The coils at zero demand (10 R475). -/
def State.coilsOff (s : State) : State :=
  { (List.range 3).foldl (fun s c => s.put .CL_DEMAND c 0) s with sv.coilRamp := none }

/-- Every loop open, coil demands 0 (11 R493, R498): OFF, or FAULT where it stood. The gate is closed. -/
def State.servoOff (s : State) : State :=
  let s := if s.reg .SV_STATE = 7 then s else s.set .SV_STATE 0
  let s := ((s.set .FOCUS_LOCK 0).set .TRACK_LOCK 0).set .SV_LAYER 0xFF
  { s.coilsOff with sv.waiting := none, sv.seek := none, sv.goal := none, bu.gate := false }

/-- A focus acquisition on a layer begins (11 R499): laser at read power, the focus demand ramping. -/
def State.startAcquire (s : State) (layer : Nat) : State :=
  let s := s.laserRead layer
  let s := (((s.set .SV_STATE 1).set .FOCUS_LOCK 0).set .TRACK_LOCK 0).set .SV_LAYER 0xFF
  { s with sv.layer := layer, sv.jumpTo := layer, sv.goal := none, sv.seek := none, sv.sweepAt := s.clock }

/-- OFF, or FAULT at a new request after the disc returned to service, leaves for ACQUIRE once SPEED_OK is
set and a read or write asks for the disc (11 Table 11.3). -/
def State.wakeServo (s : State) : State :=
  if s.on .SP_SPEED_OK && s.discWanted && (s.reg .SV_STATE == 0 || s.reg .SV_STATE == 7) then
    { s.startAcquire s.wantLayer with sv.sweeps := 0, sv.attempts := 0 }
  else s

/-- The target tooth period on a track, in ns (09 R398, R405): 36 teeth a turn at 9,600 rpm, or at
40.4 m/s. -/
def targetPeriod (t : Nat) : Nat :=
  if clvZone t then trackRadius t * 62831853070 / 14544000000000 else 173611

/-- The target speed in rpm, to the nearest (09 Table 9.2). -/
def targetRpm (t : Nat) : Nat :=
  if clvZone t then (2 * 385791582500 / trackRadius t + 1) / 2 else 9600

/-- Speed and target as PP_SPINDLE shows them follow the track and the teeth. -/
def State.showSpeed (s : State) : State :=
  let t := s.trackNow
  let n := s.sp.periods.length
  let p := if n = 0 then 0 else s.sp.periods.sum / n
  let s := ((s.set .SP_TARGET_RPM (targetRpm t)).set .SP_CLV_ZONE (b2n (clvZone t))).set .SP_TOOTH_NS p
  s.set .SP_RPM (if p = 0 then 0 else 60000000000 / (36 * p))

/-- A change of spindle state (09 R407): SPEED_OK clears; leaving RUN opens the loops and takes the laser to
zero (11 R498, 12 R535). -/
def State.spState (s : State) (st : Nat) : State :=
  let was := s.reg .SP_STATE
  let s := ((s.set .SP_STATE st).set .SP_SPEED_OK 0)
  let s := { s with sp.at' := s.clock, sp.good := 0 }
  let s := if st = 0 ∨ st = 5 then { s with bu.turning := false } else s
  if was = 4 ∧ st ≠ 4 then s.servoOff.laserOff else s

/-- SENSE begins: the stage floats and listens (09 R410). -/
def State.spSense (s : State) : State :=
  let s := (s.spState 1).set .SP_LOCKED 0
  let s := s.set .SP_DEMAND_MA 0
  { s with sp.periods := [], sp.anomalies := [], sp.rejects := 0, sp.deferred := [], sp.starting := true,
           sp.stopAsked := false, sp.prevReversed := false, sp.rampGood := 0, sp.commutateIn := 0 }

/-- SHORT begins, for a reason (09 Table 9.3). -/
def State.spShort (s : State) (why : ShortWhy) : State :=
  let from' := if s.reg .SP_STATE = 5 then s.sp.brakeAt else s.clock
  let s := ((s.spState 6).set .SP_LOCKED 0).set .SP_DEMAND_MA 0
  { s with sp.why := why, sp.deferred := [], sp.stopAsked := false, sp.periods := [], sp.commutateIn := 0,
           sp.brakeAt := from',
           bu.turning := s.bu.turning && (why == .start || why == .retry) }

/-- The stage floats and the disc coasts (09 R434, R436, 01 R42). -/
def State.spFloat (s : State) : State :=
  let s := ((s.spState 0).set .SP_LOCKED 0).set .SP_DEMAND_MA 0
  { s with sp.deferred := [], sp.stopAsked := false, sp.periods := [], sp.starting := false,
           sp.commutateIn := 0 }

/-- A cold start begins with ALIGN (09 R412); its settings take effect now (R404). -/
def State.spAlign (s : State) : State :=
  let s := ((s.spState 2).bump .COLD_STARTS).pulse Ev.coldStarts
  let s := s.set .SP_DEMAND_MA (s.reg .ALIGN_MA)
  { s with sp.coldLatched := [s.reg .ALIGN_MA, s.reg .ALIGN_MS, s.reg .RAMP_RPM_S], sp.starting := true,
           sp.periods := [], sp.rampGood := 0 }

/-- The estimator locks and drive goes on in RUN (09 R410, R412). -/
def State.spRun (s : State) : State :=
  let s := (s.spState 4).set .SP_LOCKED 1
  { s with sp.tooth := 0, sp.anomalies := [], sp.rejects := 0, sp.integral := 0, sp.acceptedAt := s.clock }.showSpeed

/-- A failed attempt at a spin-up (09 R412, R413): SHORT for 500 ms and again from SENSE; the third in a
row takes the disc out of service. -/
def State.spFailed (s : State) : State :=
  let s := { s with sp.attempts := s.sp.attempts + 1 }
  if s.sp.attempts ≥ 3 then
    { (s.bump .START_FAILS).spShort .stop with sp.attempts := 0, sp.starting := false }.discOut
      Code.spinupFailed
  else s.spShort .retry

/-- The read in progress ends; it is made again once the disc allows it (09 R429). -/
def State.endReads (s : State) : State :=
  { s with rd := s.rd.map fun (j : ReadJob) => { j with reading := false } }

/-- A stall, a reverse or an overcurrent is counted; the third stall or reverse within 60 s takes the disc
out of service (09 R426, R429, R430). -/
def State.countStall (s : State) (code : Nat) : State :=
  let l := s.clock :: s.sp.stalls.filter fun t => s.clock < t + 60000000
  let aca := s.writingAca
  let s := { s.cutWrite.endReads with sp.stalls := l, sp.deferred := [] }
  if l.length ≥ 3 then { s with sp.stalls := [] }.discOut code aca else s.report code aca

/-- The mean of the last six accepted periods (09 R417). -/
def State.expected (s : State) : Nat :=
  if s.sp.periods.isEmpty then 0 else s.sp.periods.sum / s.sp.periods.length

/-- The spindle settings in force: SLEW_US, ADVANCE_DEG, ILIM_MA, BRAKE_MA, SPD_KP, SPD_KI (09 R404). -/
def State.spLatched (s : State) (i : Nat) : Nat := s.sp.latched.getD i 0

/-- The PI speed loop, once per tooth of measured period `p` (09 R403): error in 1/10,000 %, the demand
clamped to ILIM_MA, braking to BRAKE_MA; both gains 0 hold ILIM_MA. -/
def State.speedLoop (s : State) (p : Nat) : State :=
  let kp : Int := s.spLatched 4
  let ki : Int := s.spLatched 5
  let ilim : Int := s.spLatched 2
  let target : Int := targetPeriod s.trackNow
  let e : Int := ((p : Int) - target) * 1000000 / target
  let integ := s.sp.integral + ki * e * p
  let d := if kp = 0 ∧ ki = 0 then ilim else kp * e / 10000 + integ / 10000000000000
  let brake := decide (d < 0)
  let m := if brake then min (-d) (s.spLatched 3) else min d ilim
  { (s.set .SP_DEMAND_MA m.toNat) with sp.integral := integ, sp.braking := brake }

/-- The next commutation falls half the expected period after the tooth, less the advance (09 R400). -/
def State.schedule (s : State) : State :=
  let e := s.expected
  { s with sp.commutateIn := e / 2 - e * s.spLatched 1 / 60 }

/-- Anomalies among the eight most recent teeth (09 R421). -/
def State.noisy (s : State) : Bool := decide (2 ≤ (s.sp.anomalies.take 8).sum)

/-- A tooth-scheduled event is carried out (09 Table 9.4). -/
def State.toothEvent (s : State) : ToothEvent → State
  | .handover => if s.reg .SP_STATE = 3 then s.spRun else s
  | .brake =>
    -- work that came before the spin-down began belongs to the burst (01 R39)
    if s.reg .SP_STATE = 4 ∧ s.discWanted = true then { s with sp.stopAsked := false }
    else if s.reg .SP_STATE = 4 then
      let s := { s.spState 5 with sp.brakeAt := s.clock, sp.stopAsked := false }
      s.set .SP_DEMAND_MA (s.spLatched 3)
    else s
  | .short => if s.reg .SP_STATE = 5 then s.spShort .stop else s
  | .index => s

/-- An event falls due at a tooth (09 R421, R422): deferred a revolution while the teeth are doubtful, carried
out at its fifth angle whatever they are, which raises the noisy back-EMF fault. -/
def State.eventDue (s : State) (e : ToothEvent) (times : Nat) : State :=
  if 4 ≤ times then ((s.toothEvent e).set .SPF_NOISY_BEMF 1).report Code.noisyBemf
  else if s.noisy then
    let d : Deferred := { event := e, teeth := 36, times := times + 1 }
    ({ s with sp.deferred := s.sp.deferred ++ [d] }.bump .DEFERRALS).pulse Ev.deferrals
  else s.toothEvent e

/-- An event of a kind is already deferred. -/
def State.isDeferred (s : State) (e : ToothEvent) : Bool := s.sp.deferred.any fun d => d.event == e

/-- An event falls due anew, unless one of its kind is already deferred. -/
def State.newEvent (s : State) (e : ToothEvent) : State := if s.isDeferred e then s else s.eventDue e 0

/-- The events that fall due at this tooth: those deferred to it, then the handover of a ramp, the start of
a stop at tooth 0, the change to SHORT at 600 rpm, the index at tooth 0 (09 Table 9.4). -/
def State.toothEvents (s : State) : State :=
  let ds : List Deferred := s.sp.deferred.map fun d => { d with teeth := d.teeth - 1 }
  let s := { s with sp.deferred := ds.filter fun d => d.teeth ≠ 0 }
  let s : State := (ds.filter fun d => d.teeth == 0).foldl (fun s d => s.eventDue d.event d.times) s
  let s := if s.reg .SP_STATE == 3 && decide (6 ≤ s.sp.rampGood) then s.newEvent .handover else s
  let s := if s.reg .SP_STATE == 4 && s.sp.stopAsked && s.sp.tooth == 0 then s.newEvent .brake else s
  let s := if s.reg .SP_STATE == 5 && decide (2777778 ≤ s.expected) then s.newEvent .short else s
  if s.sp.tooth = 0 then s.newEvent .index else s

/-- A tooth, accepted or synthesised, of measured period `p` with `k` anomalies since the last. -/
def State.tooth (s : State) (p k : Nat) : State :=
  let s := { s with sp.anomalies := (k :: s.sp.anomalies).take 8, sp.rejects := 0,
                    sp.tooth := (s.sp.tooth + 1) % 36 }
  let s := if s.reg .SP_STATE = 4 then s.speedLoop p else s
  s.schedule.toothEvents.showSpeed

/-- SPEED_OK follows an accepted tooth in RUN (09 R407): set after 36 in a row within 1 % of the target,
cleared by one outside 2 %. Once set, a spin-up is over. -/
def State.speedTooth (s : State) (p : Nat) : State :=
  if s.reg .SP_STATE ≠ 4 then s
  else
    let t := targetPeriod s.trackNow
    let off := if p < t then t - p else p - t
    let s := { s with sp.good := if 100 * off ≤ t then s.sp.good + 1 else 0 }
    if t < 50 * off then s.set .SP_SPEED_OK 0
    else if 36 ≤ s.sp.good ∧ s.on .SP_SPEED_OK = false then
      let s := if s.sp.starting then
          s.set .LAST_SPINUP_MS (min 65535 ((s.clock - s.sp.requestedAt) / 1000)) else s
      { s.set .SP_SPEED_OK 1 with sp.starting := false, sp.attempts := 0 }.wakeServo.tryOpenGate
    else s

/-- An accepted tooth (09 R417-R421). -/
def State.acceptTooth (s : State) (p : Nat) : State :=
  let k := s.sp.rejects
  let s := { s with sp.periods := (p :: s.sp.periods).take 6, sp.prevReversed := false, sp.acceptedAt := s.clock,
                    sp.rampGood := if p ≤ 2777778 then s.sp.rampGood + 1 else 0 }
  (s.tooth p k).speedTooth p

/-- A reverse (09 R423, R425-R427, R429): the write is cut, the disc brakes to rest and cold-starts; during a
spin-up the attempt fails. A stop that was asked for is placed again after the next lock. -/
def State.reverse (s : State) : State :=
  let starting := s.sp.starting
  let stop := s.sp.stopAsked
  let s := ((s.bump .REVERSES).pulse Ev.reverses).countStall Code.spindleReverse
  if s.reg .DISC_SERVICE = 3 then s.spShort .stop
  else if starting then s.spFailed else { s.spShort .start with sp.stopAsked := stop }

/-- The comparator ignores the floating phase during the slew of a commutation and for 2 µs after it, and while an
injection blanks it (09 R402, 16 Table 16.4). -/
def State.bemfBlanked (s : State) : Bool :=
  s.sp.commutatedAt.any (fun t => decide (s.clock < t + s.spLatched 0 + 2)) || s.st.blankUntil.any (s.clock < ·)

/-- BEMF_CROSSING (09 R402, R418, R425): a forward crossing within 25 % of the expected period is a tooth; any
other is rejected as noise; two in a row in reversed order are a reverse. -/
def execBemfCrossing (periodNs : Nat) (forward : Bool) (s : State) : Host.Outcome State Fault Refusal :=
  .next (
    if !([3, 4, 5].contains (s.reg .SP_STATE)) || s.bemfBlanked then s
    else
      let e := s.expected
      let inWindow := e == 0 || (decide (3 * e ≤ 4 * periodNs) && decide (4 * periodNs ≤ 5 * e))
      if forward && inWindow && s.st.spurious == 0 then s.acceptTooth periodNs
      else
        let spur := s.st.spurious != 0
        let s := { s with sp.rejects := s.sp.rejects + 1, st.spurious := s.st.spurious - 1 }
        let s := (s.bump .TOOTH_REJECTS).pulse Ev.toothRejects
        if forward || spur then { s with sp.prevReversed := false }
        else if s.sp.prevReversed then { s with sp.prevReversed := false }.reverse
        else { s with sp.prevReversed := true })

/-- TOOTH_SYNTH (09 R419): the window closed empty; a tooth is synthesised at the expected time. -/
def execToothSynth (s : State) : Host.Outcome State Fault Refusal :=
  .next (
    if !([3, 4, 5].contains (s.reg .SP_STATE)) || s.sp.periods.isEmpty then s
    else
      let s := (s.bump .TOOTH_SYNTH).pulse Ev.toothSynth
      { s with sp.rampGood := 0 }.tooth s.expected (s.sp.rejects + 1))

/-- COMMUTATION (09 R399-R401, R404): the next of the six steps; new settings take effect. -/
def execCommutation (s : State) : Host.Outcome State Fault Refusal :=
  .next (
    if !([3, 4, 5] : List Nat).contains (s.reg .SP_STATE) then s
    else
      { s with sp.step := (s.sp.step + 1) % 6, sp.commutateIn := 0, sp.commutatedAt := some s.clock,
               sp.latched := [s.reg .SLEW_US, s.reg .ADVANCE_DEG, s.reg .ILIM_MA, s.reg .BRAKE_MA,
                              s.reg .SPD_KP, s.reg .SPD_KI] })

/-! ## What the stage drives -/

/-- The phase that drives high and the one that drives low in a commutation step, 0 SP_U, 1 SP_V, 2 SP_W (09 R399); the
spec does not number the steps (log entry 119). -/
def stepPhases (k : Nat) : Nat × Nat := [(0, 1), (0, 2), (1, 2), (1, 0), (2, 0), (2, 1)].getD (k % 6) (0, 1)

/-- The part a phase takes in a step: 1 high, -1 low, 0 floating. -/
def phasePart (k phase : Nat) : Int :=
  if (stepPhases k).1 = phase then 1 else if (stepPhases k).2 = phase then -1 else 0

/-- How far the slew of the last commutation has come, as a part of SLEW_US (09 R401). -/
def State.slewDone (s : State) : Nat × Nat :=
  let n := s.spLatched 0
  (match s.sp.commutatedAt with
    | some t => min n (s.clock - t)
    | none => n, n)

/-- The current of a phase in µA, into the motor positive (09 R399, R401, R412, R414): the fixed vector of ALIGN; under
commutation the outgoing phase ramps down and the incoming one up, each as a linear ramp, while the current control holds
the demand; a braking demand reverses the torque. -/
def State.phaseCurrent (s : State) (phase : Nat) : Int :=
  let ma : Int := 1000 * s.reg .SP_DEMAND_MA
  match s.reg .SP_STATE with
  | 2 => ma * phasePart 0 phase
  | 3 | 4 | 5 =>
    let i := if s.reg .SP_STATE == 5 || (s.reg .SP_STATE == 4 && s.sp.braking) then -ma else ma
    let (d, n) := s.slewDone
    if n = 0 then i * phasePart s.sp.step phase
    else i * (phasePart (s.sp.step + 5) phase * ((n : Int) - d) + phasePart s.sp.step phase * d) / n
  | _ => 0

/-- The PWM period, in ns (09 R401, Table 9.6). -/
def State.pwmPeriod (s : State) : Nat := 1000000 / max 1 (s.reg .PWM_KHZ)

/-- The stage is on in this part of the PWM period (09 R401): where its current control turns it off the spec does not
say (log entry 119). -/
def State.stageOn (s : State) : Bool :=
  ([2, 3, 4, 5] : List Nat).contains (s.reg .SP_STATE) && decide (s.sp.pwmNs < Config.pwmOn s.sp.pwmCount)

/-- SHORT stands in a floating window (09 R415, R437): 50 ms after every 100 ms with the low sides on; none under
PFAIL_N. -/
def State.shortFloats (s : State) : Bool :=
  s.reg .SP_STATE == 6 && s.sp.why != .pfail && s.sp.why != .retry &&
    decide (100000 ≤ (s.clock - s.sp.at') % 150000)

/-- One microsecond of the stage's PWM. -/
def State.pwmTick (s : State) : State :=
  if ([2, 3, 4, 5] : List Nat).contains (s.reg .SP_STATE) then
    let t := s.sp.pwmNs + 1000
    if s.pwmPeriod ≤ t then { s with sp.pwmNs := t - s.pwmPeriod, sp.pwmCount := s.sp.pwmCount + 1 }
    else { s with sp.pwmNs := t }
  else s

/-- A lane that fails is retired (12 R562): the repair map and SH_RETIRED take it; a working lane is replaced
by the spare if there is one. -/
def State.laneStates (s : State) : State :=
  let n := ((List.range 5).filter fun k => s.get .SH_STATE k == 0).length
  let spare := (List.range 5).any fun k => s.get .SH_STATE k == 1
  let s := (s.set .LANES_WORKING n).set .SPARE_AVAILABLE (b2n spare)
  if spare then
    if s.reg .SHADOWED_LANE = 0xFF then
      s.set .SHADOWED_LANE (((List.range 5).find? fun k => s.get .SH_STATE k == 0).getD 0xFF)
    else s
  else s.set .SHADOWED_LANE 0xFF

/-- The lanes as they stand are reported in the health level (16 R717). -/
def State.laneHealth (s : State) : State := s.laneStates.updateHealth

/-- An entry joins the repair map (16 R712, R713): REPAIRS, MAP_USED and MAP_FULL follow, and a black-box
record names the macro. A full map takes none. -/
def State.mapEntry (s : State) (ramNo kind index spare source : Nat) : State :=
  let n := s.reg .MAP_USED
  if 256 ≤ n then s
  else
    let s := ((((s.put .RM_MACRO n ramNo).put .RM_KIND n kind).put .RM_INDEX n index).put .RM_SPARE n
      spare).put .RM_SOURCE n source
    let s := ((s.put .RM_SEQ n n).put .RM_TIME n s.now).set .MAP_USED (n + 1)
    let s := s.set .MAP_FULL (b2n (n + 1 == 256))
    (((s.bump .REPAIRS).pulse Ev.repairs).report Code.repaired ramNo).updateHealth

/-- A lane is retired (12 R562, R563): replaced by the spare where it worked; below three working lanes the
disc leaves service. -/
def State.retireLane (s : State) (k : Nat) : State :=
  let was := s.get .SH_STATE k
  if was = 3 then s
  else
    let s := (s.put .SH_STATE k 3).bump .SH_RETIRED
    let spare := (List.range 5).findIdx fun j => s.get .SH_STATE j == 1
    let s := if was = 0 ∧ spare < 5 then s.put .SH_STATE spare 0 else s
    let s := (if s.reg .SHADOWED_LANE = k then s.set .SHADOWED_LANE 0xFF else s).laneHealth
    let s := s.mapEntry (0xF0 + k) 3 k 0 4
    if s.reg .LANES_WORKING < 3 then s.discOut Code.laneRetired k else s.report Code.laneRetired k

/-- The accelerometer is initialised at a power-up of the servo PLL, and again every second after a failure
(11 R511, R526, R530): its settings are those now written. -/
def State.accInit (s : State) : State :=
  { s with sv.accLatched := (s.reg .ACC_READ_CMD, s.reg .ACC_SPI_MHZ,
             (List.range (s.reg .ACC_INIT_COUNT)).map fun k => s.get .ACC_INIT k),
           sv.accErrors := 0, sv.accRun := 0, sv.accAt := s.clock, sv.accInitAt := s.clock }

/-- No spin-up starts (09 R434, R435). -/
def State.spindleBarred (s : State) : Bool :=
  s.on .SPF_VMOT_LOW || s.on .SPF_STAGE_HOT || s.st.granted.isSome

/-- A session opened with the disc at rest starts with the spin-up (02 Table 2.10). -/
def Session.spunUp (now : Nat) (e : Session) : Session :=
  if e.fresh then { e with start := now, fresh := false } else e

/-- A spin-up begins (09 R410, 10 R479, 12 R561, 16 R699): the servo's clock starts, the analogue tests,
whose readings are given in their order, and the lane loopbacks run first. -/
def State.spinUp (s : State) (readings : List (List Int)) (laneFails : List Nat) : State :=
  let s := if s.on .CLK_SERVO then s else (s.set .CLK_SERVO 1).accInit
  let s : State := { s with sp.requestedAt := s.clock, sp.attempts := 0, sp.upAt := s.now,
                            md.session := s.md.session.map (Session.spunUp s.now) }
  let fault := analogueFirst [0x20, 0x21, 0x22, 0x23] readings
  let s := s.pulse Ev.analogueTests (match fault with
    | some (t, _) => t - 0x1F
    | none => 4)
  match fault with
  | some (t, _) => (s.bump .ANALOGUE_FAILS).discOut Code.analogueFail t
  | none =>
    let fails := (laneFails ++ s.st.laneLoopFail).eraseDups
    let s := fails.foldl State.retireLane { s with st.laneLoopFail := [] }
    if s.reg .DISC_SERVICE = 3 then s else (s.set .DISC_TURNING 1).spSense

/-- SPINUP_REQUEST (09 R410, R416, 10 R479, 16 R699, R705): acts while the work in hand wants the disc, with a
cartridge loaded, from rest, from BRAKE or from the SHORT of a stop. -/
def execSpinupRequest (readings : List (List Int)) (laneFails : List Nat) (s : State) :
    Host.Outcome State Fault Refusal :=
  checked (laneFails.all (· < 5)) (
    let ok := s.reg .SP_STATE == 0 || s.reg .SP_STATE == 5 || (s.reg .SP_STATE == 6 && s.sp.why == .stop)
    if ok && s.discWanted && !s.spindleBarred && s.pw.mode == .run && s.pw.waking.isNone &&
        s.st.d2dUntil.isNone && !s.pw.d2dDown then
      s.spinUp readings laneFails
    else s)

/-- The last six crossings of SENSE let the estimator lock (09 R410). -/
def catchable (l : List (Nat × Bool)) : Bool :=
  let l := l.drop (l.length - 6)
  l.length == 6 && l.all (·.2) && decide ((l.getLast?.map (·.1)).getD 0 ≤ 2780000) &&
    ((l.zip l.tail).all fun x => x.1.1 == 0 ||
      (decide (3 * x.1.1 ≤ 4 * x.2.1) && decide (4 * x.2.1 ≤ 5 * x.1.1)))

/-- Microseconds since the spindle state, or the present cycle of SHORT, began. -/
def State.spFor (s : State) : Nat := s.clock - s.sp.at'

/-- SENSE_END (09 R410, R411): after 20 ms, catch, brake to rest, or cold-start. Any reverse crossing bars the catch
(log entry 143). -/
def execSenseEnd (crossings : List (Nat × Bool)) (s : State) : Host.Outcome State Fault Refusal :=
  .next (
    if s.reg .SP_STATE ≠ 1 ∨ s.spFor < 20000 then s
    else if crossings.any fun c => !c.2 then
      (((s.bump .REVERSES).pulse Ev.reverses).report Code.spindleReverse noAca).spShort .start
    else if catchable crossings && s.on .CATCH_ENABLE then
      let l := ((crossings.reverse.take 6).map (·.1)).filter (· ≠ 0)
      (({ s.spRun with sp.periods := l }.bump .CATCHES).pulse Ev.catches).schedule.showSpeed
    else if crossings.isEmpty then s.spAlign
    else s.spShort .start)

/-- The settings the cold start in hand began with: ALIGN_MA, ALIGN_MS, RAMP_RPM_S (09 R404). -/
def State.coldLatch (s : State) (i : Nat) : Nat := s.sp.coldLatched.getD i 0

/-- ALIGN_END (09 R412): after ALIGN_MS. -/
def execAlignEnd (s : State) : Host.Outcome State Fault Refusal :=
  .next (if s.reg .SP_STATE = 2 ∧ 1000 * s.coldLatch 1 ≤ s.spFor then s.spState 3 else s)

/-- RAMP_TIMEOUT (09 R412, R413): twice the planned duration of the ramp, the time to 600 rpm at RAMP_RPM_S (log entry
143). -/
def execRampTimeout (s : State) : Host.Outcome State Fault Refusal :=
  .next (if s.reg .SP_STATE = 3 ∧ 1200000000 ≤ s.coldLatch 2 * s.spFor then s.spFailed else s)

/-- SHORT_RETRY_END (09 R412): after 500 ms. -/
def execShortRetryEnd (s : State) : Host.Outcome State Fault Refusal :=
  .next (if s.reg .SP_STATE = 6 ∧ s.sp.why = .retry ∧ 500000 ≤ s.spFor then s.spSense else s)

/-- A stall stands (09 R424): the teeth are watched, and no crossing was accepted for twice the expected period. -/
def State.stalled (s : State) : Bool :=
  ([3, 4, 5] : List Nat).contains (s.reg .SP_STATE) && !s.sp.periods.isEmpty &&
    decide (2 * s.expected ≤ 1000 * (s.clock - s.sp.acceptedAt))

/-- SPINDLE_STALL (09 R423, R424, R426, R427, R429, R430): the write is cut and the K760 restarts from SENSE; during
a spin-up the attempt fails. A stop that was asked for is placed again after the next lock. -/
def execSpindleStall (s : State) : Host.Outcome State Fault Refusal :=
  .next (
    if !s.stalled then s
    else
      let starting := s.sp.starting
      let stop := s.sp.stopAsked
      let s := ((s.bump .STALLS).pulse Ev.stalls).countStall Code.spindleStall
      if s.reg .DISC_SERVICE = 3 then s.spFloat
      else if starting then s.spFailed else { s.spSense with sp.requestedAt := s.clock, sp.stopAsked := stop })

/-- STOP_REQUEST (09 R414): the work that wanted the disc is done; BRAKE begins at the next tooth 0. -/
def execStopRequest (s : State) : Host.Outcome State Fault Refusal :=
  .next (if s.reg .SP_STATE = 4 ∧ s.discWanted = false then { s with sp.stopAsked := true } else s)

/-- The loader starts a load or an eject, only with the spindle STOPPED and the laser dark (10 R477). -/
def State.loaderStart (s : State) (inward : Bool) : State :=
  let s := ((s.set .LD_STATE (if inward then 1 else 3)).set .IN_SW 0).set .OUT_SW 0
  { s with sl.retry := false, sl.back := false, sl.loaderAt := s.clock }

/-- The spindle is STOPPED with the disc at rest and the laser current zero (10 R477). -/
def State.loaderFree (s : State) : Bool :=
  s.reg .SP_STATE == 0 && !s.on .DISC_TURNING && s.reg .LAS_STATE != 1

/-- An eject that was asked for starts once the session is closed, or cannot be closed, and the loader is
free (06 R271, 10 R477). -/
def State.pollEject (s : State) : State :=
  if s.md.ejecting && s.loaderFree && s.reg .LD_STATE == 2 && (s.md.session.isNone || !s.discWanted) then
    s.loaderStart false
  else s

/-- The disc is at rest (09 R415): after a stop the servo's clock stops and DOZE_IDLE_MS starts
(03 R94, R97); during a start the cold start follows. A coasting disc comes to rest in the same way. -/
def State.atRest (s : State) : State :=
  if s.reg .SP_STATE = 6 ∧ s.sp.why = .start then s.spAlign
  else
    let s := if s.reg .SP_STATE = 6 then
        s.set .LAST_SPINDOWN_MS (min 65535 ((s.clock - s.sp.brakeAt) / 1000)) else s
    let s := (((s.spState 0).set .DISC_TURNING 0).set .CLK_SERVO 0).set .ACC_STATE 0
    { s with sp.restAt := s.clock, sp.starting := false }.showSpeed.pollEject

/-- SHORT_CYCLE (09 R415, R437): a cycle of 100 ms shorted and 50 ms floating ends; with no crossing in its window the disc
is at rest, else the next cycle begins. Under PFAIL_N there are no float windows; a retry waits its 500 ms. -/
def execShortCycle (crossing : Bool) (s : State) : Host.Outcome State Fault Refusal :=
  .next (
    let short := s.reg .SP_STATE == 6 && (s.sp.why == .stop || s.sp.why == .start)
    let coasting := s.reg .SP_STATE == 0 && s.on .DISC_TURNING
    if short && decide (s.spFor < 150000) then s
    else if (short || coasting) && !crossing then s.atRest
    else if short then { s with sp.at' := s.clock }
    else s)

/-- SPINDLE_OVERCURRENT (09 R432): the stage floats in FAULT, handled as a stall; a second within 10 s takes
the disc out of service. -/
def execSpindleOvercurrent (phase : Nat) (s : State) : Host.Outcome State Fault Refusal :=
  checked (phase < 3) (
    if !([2, 3, 4, 5, 6] : List Nat).contains (s.reg .SP_STATE) then s
    else
      let again := s.sp.overcurrentAt.any fun t => s.clock < t + 10000000
      let s := ((s.bump .STALLS).pulse Ev.stalls)
      let l := s.clock :: s.sp.stalls.filter fun t => s.clock < t + 60000000
      let s := { s.cutWrite.endReads with sp.stalls := l, sp.deferred := [], sp.overcurrentAt := some s.clock }
      let s := (s.spFloat.spState 7).set .SPF_OVERCURRENT 1
      if again || decide (3 ≤ l.length) then { s with sp.stalls := [] }.discOut Code.spindleOvercurrent phase
      else s.report Code.spindleOvercurrent phase)

/-- SPINDLE_FAULT_RETRY (09 R432): 100 ms after an overcurrent the K760 retries from SENSE; out of service it
goes to STOPPED (Table 9.3). -/
def execSpindleFaultRetry (s : State) : Host.Outcome State Fault Refusal :=
  .next (
    if s.reg .SP_STATE ≠ 7 ∨ s.spFor < 100000 then s
    else
      let s := s.set .SPF_OVERCURRENT 0
      if s.reg .DISC_SERVICE = 3 then s.spState 0 else s.spSense)

/-- SPINDLE_OPEN_PHASE (09 R433): known 5 ms into ALIGN. -/
def execSpindleOpenPhase (phase : Nat) (s : State) : Host.Outcome State Fault Refusal :=
  checked (phase < 3) (
    if s.reg .SP_STATE ≠ 2 ∨ s.spFor < 5000 then s
    else (s.spFloat.set .SPF_OPEN_PHASE 1).discOut Code.spindleOpenPhase phase)

/-- VMOT or the stage temperature bars the stage (09 R434, R435): in RUN, and while starting, it floats with
any write ended as in R426. -/
def State.barSpindle (s : State) : State :=
  if [1, 2, 3, 4].contains (s.reg .SP_STATE) then s.cutWrite.spFloat else s

/-- The bar is lifted: the K760 restarts by catch (09 R434). -/
def State.unbarSpindle (s : State) : State :=
  if s.reg .SP_STATE = 0 ∧ s.spindleBarred = false ∧ s.discWanted = true ∧ s.pw.mode = .run then
    { s.spSense with sp.requestedAt := s.clock }.set .DISC_TURNING 1
  else s

/-- VMOT_LOW (09 R434). -/
def execVmotLow (s : State) : Host.Outcome State Fault Refusal :=
  .next (if s.on .SPF_VMOT_LOW then s else ((s.set .SPF_VMOT_LOW 1).report Code.vmotLow).barSpindle)

/-- VMOT_RECOVER (09 R434). -/
def execVmotRecover (s : State) : Host.Outcome State Fault Refusal :=
  .next (if s.on .SPF_VMOT_LOW then (s.set .SPF_VMOT_LOW 0).unbarSpindle else s)

/-- SPINDLE_STAGE_HOT (09 R435). -/
def execSpindleStageHot (s : State) : Host.Outcome State Fault Refusal :=
  .next (if s.on .SPF_STAGE_HOT then s else ((s.set .SPF_STAGE_HOT 1).report Code.spindleHot).barSpindle)

/-- SPINDLE_STAGE_COOL (09 R435). -/
def execSpindleStageCool (s : State) : Host.Outcome State Fault Refusal :=
  .next (if s.on .SPF_STAGE_HOT then (s.set .SPF_STAGE_HOT 0).unbarSpindle else s)

end Sys2Proof.Machine
end

