-- ==== Sys2Proof/Machine/Sled.lean ====
section
/-! DEFINITION. The sled stepper and the loader (10 R438-R470, R476-R480, R485-R488). SLED_POS follows the profile
microsecond by microsecond (`sledTick`); a stop inside a move leaves the sled where it stands (log entry 17). -/

namespace Sys2Proof.Machine

/-- SLED_POS (10 R439). -/
def State.sledPos (s : State) : Int := s.getInt .SLED_POS RegName.SLED_POS.info.idx0

/-- A microstep position inside SL_MIN_USTEP to SL_MAX_USTEP (10 R440). -/
def State.sledClamp (s : State) (u : Int) : Int :=
  max (s.reg .SL_MIN_USTEP) (min (s.reg .SL_MAX_USTEP) u)

/-- The microstep whose radius is `nm` (10 R439). -/
def State.ustepOf (s : State) (nm : Int) : Int :=
  ((nm - s.reg .SL_ORIGIN_NM) * 32 + 9375) / 18750

/-- Track-following, a spindle in RUN (10 R453) or a die-to-die fault (01 R42) keeps the sled in HOLD. -/
def State.keepsHold (s : State) : Bool := s.reg .SP_STATE == 4 || s.reg .SV_STATE == 3 || s.pw.d2dDown

/-- The standstill mode in force: 0 HOLD, 1 FREEWHEEL, 2 SHORT (10 R452-R454), that of the last standstill entry; a power
failure and an overcurrent free the bridges whatever STANDSTILL says (03 R119, 10 R485). -/
def State.standMode (s : State) : Nat := if s.sl.freed then 1 else if s.keepsHold then 0 else s.sl.mode

/-- The bridges enter a standstill mode (10 R451, R454, R470, R487, R488). -/
def State.standIn (s : State) (mode : Nat) : State := { s with sl.standing := true, sl.mode := mode }

/-- A change of STANDSTILL takes effect at once in standstill, unless the K760 uses HOLD (10 R453, R454). -/
def State.standNow (s : State) : State :=
  if s.sl.standing && !s.keepsHold then { s with sl.mode := s.reg .STANDSTILL } else s

/-- The RETAIN register takes the position where POS_MEMORY is RETAIN (10 R456). -/
def State.retainPos (s : State) : State :=
  if s.sl.memory = 0 then
    (s.set .RETAIN_POS (s.reg .SLED_POS)).set .RETAIN_VALID (s.reg .SL_POS_VALID)
  else s

/-- POS_VALID is lost (10 R460); each cause but the loss of the register counts. -/
def State.posLost (s : State) (count : Bool) : State :=
  let s := s.set .SL_POS_VALID 0
  let s := if s.reg .SL_STATE = 0 then s.set .SL_STATE 3 else s
  if count then s.bump .POS_SLIPS else s

/-- A stop inside a move, by a fault: the sled stands at its present microstep (DESIGN CHOICE, log entry 17). -/
def State.sledStopped (s : State) : State :=
  { s.set .SL_STALL_SENSE_ACTIVE 0 with sl.target := none, sl.standAt := s.clock, sl.vel := 0, sl.frac := 0 }

/-- The latest load-angle estimate, of at least `low` (10 R467): what the bridges measured is a free value. -/
def State.loadAngle (s : State) (low : Nat) : State :=
  let (v, s) := s.draw
  s.set .LOAD_ANGLE_DEG (max low (v % 65536))

/-- The sled begins a move, or replans the one under way, to `u` (10 R449, R450); `sledTick` moves it. -/
def State.sledMove (s : State) (u : Int) : State :=
  if u = s.sledPos ∧ s.sl.target = none then s
  else
    let s := if s.sl.target.isNone then s.pulse Ev.sledMoves else s
    let s := s.set .SL_STATE (if s.sl.homing.isSome then 2 else 1)
    { s with sl.target := some u, sl.standing := false, sl.freed := false }

/-- Homing begins (10 R462-R464): by switch, outward first if it is asserted; by stall, 14 full steps outward first. An
inward travel ends after 280 full steps (R466). -/
def State.startHoming (s : State) : State :=
  let phase : Homing := if s.reg .HOME_MODE = 1 then .outward
    else if s.on .SL_HOME_SW then .release else .inward
  { s.set .SL_STATE 2 with
      sl.homing := some phase, sl.target := none, sl.standing := false, sl.freed := false,
      sl.homeTo := if phase = .outward then s.sledPos + 3584 else s.sledPos - 71680 }

/-- A position demand inside the limits (10 R450, R455, R462, R487): it waits for a homing, for a hot stage
to cool and for re-energising; a sled with no valid position is homed first, as is a provisional one
with no disc loaded. -/
def State.sledTo (s : State) (u : Int) : State :=
  let wait := { s with sl.after := some u }
  if s.reg .DISC_SERVICE = 3 ∧ s.reg .SL_STATE = 4 then s
  else if s.on .SLF_STAGE_HOT || s.sl.homing.isSome || s.sl.reenergise then wait
  else if s.sl.standing && (s.standMode != 0 || s.sl.loose) then
    { wait with sl.reenergise := true, sl.standing := false, sl.freed := false, sl.loose := false, sl.phaseAt := s.clock }
  else if s.on .SL_POS_VALID = false then wait.startHoming
  else if s.on .SL_PROVISIONAL && s.reg .LD_STATE != 2 then wait.startHoming
  else { s with sl.after := none }.sledMove u

/-- A seek demand on the sled (10 R440): clamped to the limits, and counted if it lay outside them. -/
def State.sledDemand (s : State) (u : Int) : State :=
  let c := s.sledClamp u
  let s := if c = u then s else (s.bump .SLED_CLAMPS).report Code.sledClamp
  s.sledTo c

/-- The move kept back is made now. -/
def State.sledResume (s : State) : State :=
  match s.sl.after with
  | none => s
  | some u => { s with sl.after := none }.sledTo u

/-- The shadow becomes active (10 R445). -/
def State.applyTable (s : State) : State :=
  let s := (List.range 256).foldl (fun s i => s.put .USTEP_ACTIVE i (s.get .USTEP_T i)) s
  ({ s with sl.tableWaits := false }.set .SL_TABLE_PENDING 0).set .USTEP_APPLY 0

/-! ## The profile, the coils and the chopper -/

/-- Where the sled is being moved to, in microsteps, and the cruise speed in mm/s (10 R449, R463-R465): the outward
travel that releases the switch has no end of its own. -/
def State.sledGoal (s : State) : Option (Int × Nat) :=
  match s.sl.homing with
  | some .release => some (s.sledPos + 1048576, s.reg .SL_HOME_MM_S)
  | some .outward | some .inward => some (s.sl.homeTo, s.reg .SL_HOME_MM_S)
  | some .settle => none
  | some .toMin | none => s.sl.target.map fun u => (u, s.reg .SL_VMAX_MM_S)

/-- The speed a microsecond later (10 R449, R450), in 10^-6 nm/us: towards a goal `d` 10^-6 nm away at speed `v`, with
acceleration `a` per us and cruise `c`. A sled going the wrong way decelerates through zero. -/
def sledSpeed (d v a c : Int) : Int :=
  if d = 0 ∧ v.natAbs ≤ a then 0
  else
    let sg : Int := if 0 < d then 1 else -1
    let w := v * sg
    let brake := decide (w < 0) || decide (2 * a * (d * sg) ≤ w * w)
    if w < 0 then (min 0 (w + a)) * sg
    else if brake then (max (min w a) (w - a)) * sg
    else if c ≤ w then (max c (w - a)) * sg
    else (min c (w + a)) * sg

/-- The sled's microsecond (10 R439, R449, R450, R445, R467, R469): SLED_POS follows the speed and stands at the goal
once it is within a step; a checked table becomes active at a full-step boundary. -/
def State.sledTick (s : State) : State :=
  match s.sledGoal with
  | none => s
  | some (u, c) =>
    let p := s.sledPos * 585937500 + s.sl.frac
    let d := u * 585937500 - p
    let a : Int := s.reg .SL_ACC_MM_S2
    let v := sledSpeed d s.sl.vel a (c * 1000000)
    let there := decide (v.natAbs ≤ 4 * a) && decide (d.natAbs ≤ v.natAbs)
    let p' := if there then u * 585937500 else p + v
    let v' := if there then 0 else v
    let m := p' / 585937500
    let t : State := { s with sl.vel := v', sl.frac := (p' % 585937500).toNat }
    let t := if m = s.sledPos then t else t.setInt .SLED_POS m
    let fast := b2n (20000000 ≤ v'.natAbs)
    let t := if t.reg .SL_STALL_SENSE_ACTIVE = fast then t else t.set .SL_STALL_SENSE_ACTIVE fast
    if s.sl.tableWaits ∧ m / 256 ≠ s.sledPos / 256 then t.applyTable else t

/-- How a coil's bridge stands (10 R446, R452): driving towards the demand, in fast or slow decay, off, or with both low
sides on. -/
inductive Bridge where
  | drive | fast | slow | off | lowSides
  deriving DecidableEq, Repr

/-- The demand of coil 0 or 1 in SL_RUN_MA / 1,023 at microstep position `u` (10 R441), from the active table: in each
full step one coil rises and the other falls, which changes sign as it becomes the rising one. Coil 0 rises, both
positive, where SLED_POS is a multiple of 1,024 (DESIGN CHOICE, log entry 119). -/
def State.coilTable (s : State) (u : Int) (coil : Nat) : Int :=
  let i := (u % 256).toNat
  let up : Int := s.get .USTEP_ACTIVE i
  let down : Int := s.get .USTEP_ACTIVE (255 - i)
  match ((u / 256) % 4).toNat, coil with
  | 0, 0 => up
  | 0, _ => down
  | 1, 0 => down
  | 1, _ => -up
  | 2, 0 => -up
  | 2, _ => -down
  | _, 0 => -down
  | _, _ => up

/-- A coil's current demand in mA / 102,300 (10 R441, R452, R455): the whole of SL_RUN_MA while the sled moves, homes or
is re-energised, HOLD_PCT % of it in HOLD, nothing in FREEWHEEL and SHORT. -/
def State.sledCoilDemand (s : State) (coil : Nat) : Int :=
  let full := s.coilTable s.sledPos coil * s.sl.chop.getD 3 600
  if s.sl.standing || s.sl.freed then if s.standMode = 0 then full * s.reg .HOLD_PCT else 0
  else full * 100

/-- The chopper's period in ns (10 R446). -/
def State.chopPeriod (s : State) : Nat := 1000000 / s.sl.chop.getD 0 30

/-- How long fast decay lasts in the present chopper period, in ns (10 R446, R468): FAST_16THS / 16 of TOFF_US; in every
fourth period of stall sensing at least 2 us. -/
def State.fastDecay (s : State) : Nat :=
  let f := s.sl.chop.getD 2 6 * s.sl.chop.getD 1 8 * 1000 / 16
  if s.on .SL_STALL_SENSE_ACTIVE && s.sl.chopCount % 4 == 3 then max 2000 f else f

/-- The present chopper period carries a load-angle measurement (10 R468). -/
def State.measures (s : State) : Bool := s.on .SL_STALL_SENSE_ACTIVE && decide (2000 ≤ s.fastDecay)

/-- When driving ends in the present chopper period, in ns from its start (10 R446): when the sensed current reaches the
demand, the first 1 us ignored, or with TOFF_US left. -/
def State.driveEnds (s : State) (coil : Nat) : Nat :=
  min (s.chopPeriod - s.sl.chop.getD 1 8 * 1000) (max 1000 (Config.senseReach coil s.sl.chopCount))

/-- A coil's bridge (10 R446, R452). -/
def State.bridge (s : State) (coil : Nat) : Bridge :=
  if (s.sl.standing || s.sl.freed) && s.standMode == 1 then .off
  else if s.sl.standing && s.standMode == 2 then .lowSides
  else if s.sl.chopNs < s.driveEnds coil then .drive
  else if s.sl.chopNs < s.driveEnds coil + s.fastDecay then .fast
  else .slow

/-- The chopper's microsecond (10 R446, R448, R467): the settings in force are taken at the start of a period; one that
carries a measurement gives an estimate of the load angle, which is a free value. -/
def State.chopTick (s : State) : State :=
  let n := s.sl.chopNs + 1000
  if n < s.chopPeriod then { s with sl.chopNs := n }
  else
    let s := if s.measures then s.loadAngle 0 else s
    { s with sl.chopNs := n - s.chopPeriod, sl.chopCount := s.sl.chopCount + 1,
             sl.chop := [s.reg .CHOP_KHZ, s.reg .TOFF_US, s.reg .FAST_16THS, s.reg .SL_RUN_MA] }

/-- A microsecond of the sled and its bridges, while the drive die has power. -/
def State.sledRuns (s : State) : State :=
  if s.pw.driveDie then
    let s := s.sledTick.chopTick
    if s.sl.standing && s.standMode != 0 && !s.sl.loose then { s with sl.loose := true } else s
  else s

/-- USTEP_TABLE_ACTIVATE (10 R445): the sled passes a full-step boundary with a checked shadow waiting. -/
def execUstepTableActivate (s : State) : Host.Outcome State Fault Refusal :=
  .next (if s.sl.tableWaits then s.applyTable else s)

/-- SLED_SEEK_DEMAND (10 R440, R449, R450). -/
def execSledSeekDemand (ustep : Int) (s : State) : Host.Outcome State Fault Refusal :=
  .next (s.sledDemand ustep)

/-- The sled stands after a move, and the RETAIN register takes the position (10 R451, R456). -/
def State.sledStand (s : State) : State :=
  let s := (s.set .SL_STATE 0).set .SL_STALL_SENSE_ACTIVE 0
  { s with sl.target := none, sl.standAt := s.clock, sl.vel := 0, sl.frac := 0 }.retainPos

/-- SLED_MOVE_END (10 R451, R463-R465): a move ends at its target; the outward part of a homing turns
inward; the move to SL_MIN_USTEP ends the homing, and the move kept back follows. -/
def execSledMoveEnd (s : State) : Host.Outcome State Fault Refusal :=
  .next (
    match s.sl.homing, s.sl.target with
    | some .outward, _ =>
      { s with sl.homing := some .inward, sl.vel := 0, sl.frac := 0, sl.homeTo := s.sledPos - 71680 }
    | some .toMin, some u =>
      let s := ((s.setInt .SLED_POS u).set .SL_POS_VALID 1).sledStand
      let s := (s.set .SL_PROVISIONAL 0).bump .HOMINGS
      ({ s with sl.homing := none, sl.tries := 0 }.pulse Ev.homings).sledResume
    | none, some u => (s.setInt .SLED_POS u).sledStand.tryOpenGate
    | _, _ => s)

/-- HOLD_DELAY_EXPIRY (10 R451, R454, R456): HOLD_DELAY_MS after a move the bridges enter the standstill mode, and the
RETAIN register takes the position. -/
def execHoldDelayExpiry (s : State) : Host.Outcome State Fault Refusal :=
  .next (
    if (s.reg .SL_STATE = 0 ∨ s.reg .SL_STATE = 3) ∧ s.sl.standing = false ∧ s.sl.reenergise = false ∧
        s.sl.standAt + 1000 * s.reg .HOLD_DELAY_MS ≤ s.clock then
      let s := s.standIn (s.reg .STANDSTILL)
      { s with sl.loose := s.standMode != 0 }.retainPos
    else s)

/-- SLED_REENERGISE_END (10 R455): after 20 ms. -/
def execSledReenergiseEnd (s : State) : Host.Outcome State Fault Refusal :=
  .next (
    if s.sl.reenergise && decide (s.sl.phaseAt + 20000 ≤ s.clock) then ({ s with sl.reenergise := false }.set .SL_PROVISIONAL 1).sledResume else s)

/-- A homing has found its reference (10 R463-R465): SLED_POS is 0 there, at a stall at the nearest full-step boundary to
the commanded position, where the microstep index is 0 too; the sled stops, and waits 10 ms. -/
def State.sledReferenced (s : State) : State :=
  { (s.set .SLED_POS 0).set .SL_STALL_SENSE_ACTIVE 0 with
      sl.homing := some .settle, sl.vel := 0, sl.frac := 0, sl.phaseAt := s.clock }

/-- HOME_SWITCH_EDGE (10 R460, R463): the switch steers a homing by switch; outside homing an edge more than
4 full steps from 0 loses the position. -/
def execHomeSwitchEdge (asserted : Bool) (s : State) : Host.Outcome State Fault Refusal :=
  .next (
    let s := s.set .SL_HOME_SW (b2n asserted)
    match s.sl.homing, asserted with
    | some .release, false => { s with sl.homing := some .outward, sl.homeTo := s.sledPos + 1024 }
    | some .inward, true =>
      if s.reg .HOME_MODE = 0 then s.sledReferenced else s
    | some _, _ => s
    | none, _ =>
      if s.on .SL_POS_VALID && decide (1024 < s.sledPos.natAbs) then
        (s.posLost true).report Code.sledPosSlip
      else s)

/-- SLED_STALL (10 R464, R469, R470): declared only while stalls are sensed. It references a homing by stall; outside homing it stops the sled in HOLD,
loses the position and homes before the move is made again; three within 60 s take the disc out of
service. -/
def execSledStall (s : State) : Host.Outcome State Fault Refusal :=
  .next (
    match s.sl.homing, s.sl.target with
    | some .inward, _ =>
      if s.reg .HOME_MODE = 1 && s.on .SL_STALL_SENSE_ACTIVE then (s.loadAngle (s.reg .STALL_DEG + 1)).sledReferenced
      else s
    | none, some u =>
      if !s.on .SL_STALL_SENSE_ACTIVE then s
      else
        let s := s.loadAngle (s.reg .STALL_DEG + 1)
        let l := s.clock :: s.sl.stalls.filter fun t => s.clock < t + 60000000
        let s := (((((s.sledStopped.set .SL_STATE 0).standIn 0).posLost true).retainPos).bump .SL_STALLS).pulse Ev.sledStalls
        let s := { s with sl.stalls := l, sl.after := some u }
        if l.length ≥ 3 then { s with sl.stalls := [], sl.after := none }.discOut Code.sledStall
        else (s.report Code.sledStall).startHoming
    | _, _ => s)

/-- HOMING_SETTLE (10 R465): 10 ms after the reference the sled moves to SL_MIN_USTEP. -/
def execHomingSettle (s : State) : Host.Outcome State Fault Refusal :=
  .next (
    if s.sl.homing = some .settle ∧ s.sl.phaseAt + 10000 ≤ s.clock then
      { s with sl.homing := some .toMin, sl.target := some (s.reg .SL_MIN_USTEP) }
    else s)

/-- HOMING_FAIL (10 R466): the homing is tried once more; a second failure takes the disc out of service. -/
def execHomingFail (s : State) : Host.Outcome State Fault Refusal :=
  .next (
    if s.sl.homing ≠ some .inward then s
    else
      let s : State := ((s.set .SLF_HOME_FAIL 1).bump .HOME_FAILS).sledStopped
      let s : State := { s with sl.homing := none, sl.tries := s.sl.tries + 1 }
      if s.sl.tries ≥ 2 then
        { s.set .SL_STATE 4 with sl.tries := 0, sl.after := none }.discOut Code.homeFail
      else (s.report Code.homeFail).startHoming)

/-- SLED_OVERCURRENT (10 R460, R485): both bridges float and the position is lost; a second within 10 s takes
the disc out of service. -/
def execSledOvercurrent (coil : Nat) (s : State) : Host.Outcome State Fault Refusal :=
  checked (coil < 2) (
    let again := s.sl.overcurrentAt.any fun t => s.clock < t + 10000000
    let moving := s.sl.target.isSome || s.sl.homing.isSome
    let after := if s.sl.homing.isSome then s.sl.after else s.sl.target.or s.sl.after
    let s := if moving then s.sledStopped else s
    let s := ((s.set .SLF_OVERCURRENT 1).posLost true).set .SL_STATE 4
    let s := { s with sl.overcurrentAt := some s.clock, sl.homing := none, sl.after := after,
                      sl.reenergise := false, sl.standing := false, sl.freed := true }.retainPos
    if again then { s with sl.after := none }.discOut Code.sledOvercurrent coil
    else s.report Code.sledOvercurrent coil)

/-- SLED_REHOME_TIMER (10 R485): 100 ms after an overcurrent the K760 homes again. -/
def execSledRehomeTimer (s : State) : Host.Outcome State Fault Refusal :=
  .next (
    if s.reg .SL_STATE = 4 ∧ s.on .SLF_OVERCURRENT = true ∧ s.reg .DISC_SERVICE ≠ 3 ∧
        s.sl.overcurrentAt.all (· + 100000 ≤ s.clock) then
      (s.set .SLF_OVERCURRENT 0).startHoming
    else s)

/-- SLED_OPEN_COIL (10 R486): while energising. -/
def execSledOpenCoil (coil : Nat) (s : State) : Host.Outcome State Fault Refusal :=
  checked (coil < 2) (
    if s.sl.target.isSome || s.sl.homing.isSome || s.sl.reenergise then
      let s := { (s.set .SLF_OPEN_COIL 1).set .SL_STATE 4 with
                   sl.target := none, sl.homing := none, sl.after := none, sl.reenergise := false, sl.vel := 0 }
      s.discOut Code.sledOpenCoil coil
    else s)

/-- SLED_STAGE_HOT (10 R487): the sled stops in HOLD; what it was doing is taken up when it cools. -/
def execSledStageHot (s : State) : Host.Outcome State Fault Refusal :=
  .next (
    if s.on .SLF_STAGE_HOT then s
    else
      let after := if s.sl.homing.isSome then s.sl.after else s.sl.target.or s.sl.after
      let moving := s.sl.target.isSome || s.sl.homing.isSome
      let s := (s.set .SLF_STAGE_HOT 1).report Code.sledStageHot
      let s := if moving then ({ s.sledStopped with sl.homing := none }.set .SL_STATE 0).standIn 0 else s
      { s with sl.after := after })

/-- SLED_STAGE_COOL (10 R487). -/
def execSledStageCool (s : State) : Host.Outcome State Fault Refusal :=
  .next (if s.on .SLF_STAGE_HOT then (s.set .SLF_STAGE_HOT 0).sledResume else s)

/-- The sled in HOLD at a die-to-die fault (10 R488, 01 R42): a moving one stops, and its bridges hold its microstep index. -/
def State.sledHold (s : State) : State :=
  let s := if s.sl.target.isSome || s.sl.homing.isSome then
      { s.sledStopped with sl.homing := none }.set .SL_STATE 0
    else s
  let loose := s.sl.loose || (s.sl.standing && s.standMode != 0)
  { s.standIn 0 with sl.after := none, sl.reenergise := false, sl.loose := loose }

/-- A PFAIL_N shutdown (03 R119, 10 R460): FREEWHEEL at once; a moving sled loses its position. -/
def State.sledShutdown (s : State) : State :=
  let moving := s.sl.target.isSome || s.sl.homing.isSome
  let s := if moving then ({ s.sledStopped with sl.homing := none }.set .SL_STATE 0).posLost true else s
  { s with sl.after := none, sl.reenergise := false, sl.standing := true, sl.freed := true, sl.loose := true }.retainPos

/-- The drive die is powered down (10 R456, R457, R459): the position is kept by RETAIN or forgotten;
POS_MEMORY takes effect (R458). -/
def State.sledPowerDown (s : State) : State :=
  let s := s.retainPos
  let s := if s.sl.memory = 1 then (s.set .SL_POS_VALID 0).set .RETAIN_VALID 0 else s
  { s.standIn (s.reg .STANDSTILL) with
      sl.memory := s.reg .POS_MEMORY, sl.target := none, sl.homing := none, sl.after := none, sl.reenergise := false,
      sl.freed := false, sl.vel := 0, sl.frac := 0, sl.chopNs := 0 }

/-- The drive die is powered up (10 R456): SLED_POS is loaded from the register and marked PROVISIONAL. -/
def State.sledPowerUp (s : State) : State :=
  let s := (s.set .SL_STATE 0).standIn (s.reg .STANDSTILL)
  if s.on .RETAIN_VALID then
    ((s.set .SLED_POS (s.reg .RETAIN_POS)).set .SL_POS_VALID 1).set .SL_PROVISIONAL 1
  else (s.set .SL_POS_VALID 0).set .SL_STATE 3

/-- What the K760 knows of a cartridge goes with it; the MRAM chain heads stay (15 R657). -/
def State.unmount (s : State) : State :=
  let s := { s with bu.active := false, bu.turning := false, bu.block := none, bu.redo := none, bu.gate := false,
                    bu.kept := [] }
  { s with md := { ({} : MediumS) with heads := s.md.heads } }

/-- Both calibrations fall due on every layer (13 R587). -/
def State.calAllDue (s : State) : State :=
  (List.range 4).foldl (fun s l => (s.put .READ_VALID l 0).put .OPC_VALID l 0) (s.set .CAL_DUE 0xFF)

/-- CARTRIDGE commands of an action that wait for the loader complete. -/
def State.endCartridge (s : State) (action status detail : Nat) : State :=
  (s.q.cmds.filter fun c => c.opcode == 0x133 && c.started && fieldAt c.args 0 1 == action).foldl
    (fun s c => s.finishWith c status 0 detail) s

/-- What the loader motor is driven at, in mA, inward positive (10 R476-R478): LD_MA towards the end of the load or eject, or
back. -/
def State.loaderDrive (s : State) : Int :=
  let i : Int := if s.sl.back then -(s.reg .LD_MA) else s.reg .LD_MA
  match s.reg .LD_STATE with
  | 1 => i
  | 3 => -i
  | _ => 0

/-- LOADER_END_SWITCH (10 R477, R478): LD_IN_N or LD_OUT_N asserts. A load ends with the cartridge seated,
an eject with it out; a loader driving back turns round for its second try. -/
def execLoaderEndSwitch (inner : Bool) (disc : Option Disc) (s : State) :
    Host.Outcome State Fault Refusal :=
  .next (
    let s := (s.set .IN_SW (b2n inner)).set .OUT_SW (b2n (!inner))
    let st := s.reg .LD_STATE
    if s.sl.back then
      if (st = 1 ∧ inner = false) ∨ (st = 3 ∧ inner = true) then
        { s with sl.back := false, sl.loaderAt := s.clock } else s
    else if st = 1 ∧ inner = true then
      let s := (((s.set .LD_STATE 2).bump .LOADS).pulse Ev.loaderOps).calAllDue
      { s with md.cart := disc }
    else if st = 3 ∧ inner = false then
      let s := (((s.set .LD_STATE 0).bump .EJECTS).pulse Ev.loaderOps).unmount.set .DISC_SERVICE 0
      s.endCartridge 0 St.success 0
    else s)

/-- LOADER_TIMEOUT (10 R477, R478): after LD_TIMEOUT_MS the loader drives back and tries once more; a second timeout jams it. -/
def execLoaderTimeout (s : State) : Host.Outcome State Fault Refusal :=
  .next (
    let st := s.reg .LD_STATE
    if (st ≠ 1 ∧ st ≠ 3) ∨ s.clock < s.sl.loaderAt + 1000 * s.reg .LD_TIMEOUT_MS then s
    else if !s.sl.retry then { s with sl.retry := true, sl.back := true, sl.loaderAt := s.clock }
    else
      let s := { (s.set .LD_STATE 4).bump .JAMS with sl.retry := false, sl.back := false, md.ejecting := false }
      ((s.report Code.loaderJam).endCartridge 0 St.internal Code.loaderJam).endCartridge 1 St.internal
        Code.loaderJam)

/-- CARTRIDGE_PULL (10 R480): the gate closes, laser and coils go to zero and the stage floats; the block in
flight is abandoned and the session left unclosed for the next mount. Commands that act on the cartridge end without a
medium (log entry 144). -/
def execCartridgePull (s : State) : Host.Outcome State Fault Refusal :=
  .next (
    if s.reg .LD_STATE ≠ 2 then s
    else
      let turning := s.on .DISC_TURNING
      let s := s.abandonBlock.servoOff.laserOff
      let s := if turning then s.spFloat else s
      let s := ((s.bump .CART_PULLS).pulse Ev.cartPulls).report Code.cartridgePull
      let s := (((s.set .LD_STATE 0).set .IN_SW 0).unmount).set .DISC_SERVICE 0
      (s.q.cmds.filter fun c => ([0x131, 0x132, 0x133] : List Nat).contains c.opcode && c.started).foldl
        (fun s c => s.finishWith c St.noMedium c.count 0) s)

end Sys2Proof.Machine
end

