-- ==== Sys2Proof/Machine/Append.lean ====
section
/-! DEFINITION. Appending records with the burst triggers they set off, and the commands of the Loom:
leases and engines, crossbar accesses and commits, held SEG_CLOSE records, marks, the loss of the pool and
its retraining (07). -/

namespace Sys2Proof.Machine

/-- Bytes of the always-on buffer a record takes: header, payload and padding, as in a bobbin. -/
def BufRec.size (r : BufRec) : Nat := 32 + (r.payload.length + 7) / 8 * 8

/-- A record for bobbin 8 or 9 joins the warden's 4 KiB buffer, or is dropped (08 R388). -/
def State.buffer (s : State) (r : BufRec) : State :=
  if (s.lm.warden.map (·.size)).sum + r.size ≤ 4096 then { s with lm.warden := s.lm.warden ++ [r] }
  else s.add .REC_DROPPED r.bobbin 1

/-- The burst triggers of 07 R299 after an append to bobbin `b`, whose pending bytes, and those of all, were
`p` and `all`, and whose FULL was `full`: marks are crossed upwards, FULL newly set. -/
def State.flushTriggers (s : State) (b p all : Nat) (full : Bool) : State :=
  let mark := s.get .FLUSH_MARK_MIB b * mib
  let pool := s.reg .POOL_FLUSH_MIB * mib
  let s := if mark ≠ 0 ∧ p < mark ∧ mark ≤ s.pendingOf b then s.trigger [b] else s
  let s := if pool ≠ 0 ∧ all < pool ∧ pool ≤ s.pendingBytes then s.trigger (List.range 10) else s
  if full = false ∧ s.onAt .BOB_FULL b = true then s.trigger [b] else s

/-- A record is appended to bobbin `b` under its lease and the answer says whether it was (07 R300-R302,
R306, R307): a bobbin without a lease, or without room beside the 40 bytes kept for a SEG_CLOSE record,
drops it. -/
def State.tryAppend (s : State) (b : Nat) (payload : List Byte) (flags source time : Nat) : Bool × State :=
  if s.bobSize b = 0 ∨ s.lm.lease.getD b none = none ∨ s.poolUp = false then
    (false, s.add .REC_DROPPED b 1)
  else
    let p := s.pendingOf b
    let all := s.pendingBytes
    let full := s.onAt .BOB_FULL b
    let (ok, s) := s.makeRoom b (32 + (payload.length + 7) / 8 * 8) 40
    if ok then (true, (s.writeRec b payload flags source time).flushTriggers b p all full)
    else (false, (s.add .REC_DROPPED b 1).bobFlags b)

/-- A record for bobbin 8 or 9 (08 R388): buffered while the pool is lost or not yet trained. -/
def State.appendLog (s : State) (b : Nat) (payload : List Byte) (flags source time : Nat) : State :=
  if s.poolUp then (s.tryAppend b payload flags source time).2
  else s.buffer { bobbin := b, payload := payload, flags := flags, source := source, time := time }

/-- The buffered records follow once the pool is up (07 R337, 08 R388). -/
def State.unbuffer (s : State) : State :=
  let l := s.lm.warden
  l.foldl (fun s r => (s.tryAppend r.bobbin r.payload r.flags r.source r.time).2)
    { s with lm.warden := [] }

/-- LEASE_RENEW (07 R319-R321): a healthy holder renews; a renewal at or after expiry is refused and the
lease revoked. An injection may have stopped a port's renewals (16 Table 16.4). -/
def execLeaseRenew (bobbin : Nat) (s : State) : Host.Outcome State Fault Refusal :=
  checked (bobbin < 10) (
    match s.lm.lease.getD bobbin none with
    | none => s
    | some t =>
      if t ≤ s.clock then s.revokeLease bobbin 2
      else if s.st.leaseStop.contains bobbin then s
      else { s with lm.lease := s.lm.lease.set bobbin (some (s.clock + s.get .LEASE_MS bobbin * 1000)) })

/-- LEASE_EXPIRY (07 R322, R323). The renewals an injection stopped stay stopped until the revocation
(16 Table 16.4). -/
def execLeaseExpiry (bobbin : Nat) (s : State) : Host.Outcome State Fault Refusal :=
  checked (bobbin < 10) (
    match s.lm.lease.getD bobbin none with
    | none => s
    | some t =>
      if t ≤ s.clock then
        let s := s.revokeLease bobbin 2
        { s with st.leaseStop := s.st.leaseStop.erase bobbin }
      else s)

/-- An engine that passed its loopback gets a new lease, unless a SEG_CLOSE record is held (07 R308, R323). -/
def State.enginePassed (s : State) (b : Nat) : State :=
  if s.lm.segHeld.getD b none ≠ none then { s with lm.engine := s.lm.engine.set b .passed }
  else s.grantLease b

/-- ENGINE_LOOPBACK_DONE (07 R323, 08 R393): a reset engine passes and gets a new lease, or fails, to be
checked again in 1 s; a failure is reported. -/
def execEngineLoopbackDone (bobbin : Nat) (pass : Bool) (s : State) : Host.Outcome State Fault Refusal :=
  checked (bobbin < 10) (
    if s.lm.engine.getD bobbin .ok ≠ .reset then s
    else if pass then s.enginePassed bobbin
    else { s with lm.engine := s.lm.engine.set bobbin (.failed s.clock) }.report Code.portLoopback bobbin)

/-- ENGINE_LOOPBACK_RETRY (07 R323): 1 s after its failure the engine is reset and its loopback runs again. -/
def execEngineLoopbackRetry (bobbin : Nat) (s : State) : Host.Outcome State Fault Refusal :=
  checked (bobbin < 10) (
    match s.lm.engine.getD bobbin .ok with
    | .failed t => if t + 1000000 ≤ s.clock then { s with lm.engine := s.lm.engine.set bobbin .reset } else s
    | _ => s)

/-- A pool loss (07 R336, Table 7.11, R856; 05 R230): every granule poisoned, every lease revoked, the tails
saved, cached pairs halted and the others discarded, a FLUSH under way ended, the block in flight abandoned and its session closed
from channel scratch. `mask` names the channels at fault. -/
def State.losePool (s : State) (mask : Nat) : State :=
  if s.poolLost then s
  else
    let s := s.saveTails
    let s := (List.range 10).foldl (fun s b => s.revokeLease b 3) (s.set .POOL_STATE 3)
    let s := { s with lm.allPoison := true, lm.lostAt := some s.clock }
    let s := ((s.bump .POOL_LOST_COUNT).add .POISON_SET 0 (s.reg .POOL_MIB * 256)).report Code.poolLost mask
    let s := (List.range 10).foldl (fun s b =>
      if s.bobSize b = 0 then s else s.put .BB_STATE b 4) s
    let cached := s.q.cache
    let s := cached.foldl (fun s q => s.halt q 7) s
    let drop (q : Nat) : Bool := !cached.contains q
    let s := { s with q.pairs := s.q.pairs.filter fun e => !drop e.1,
                      q.cmds := s.q.cmds.filter fun c => !drop c.qp, q.waiting := [] }
    let s := (s.q.cmds.filter fun c => c.opcode == 0x120 && c.started).foldl
      (fun s c => s.finishWith c St.poolLost c.count Code.poolLost) s
    let s := { s.abandonBlock with bu.active := false, bu.turning := false, bu.redo := none, bu.kept := [],
                                   bu.flushes := [], bu.others := false }
    s.startClose.resume

/-- A table mismatch (07 R316, R340): counted and reported; both tables are derived anew; a second on the
same granule within 1 s loses the pool. -/
def State.mismatch (s : State) (g : Nat) : State :=
  let again := match s.lm.mismatch with
    | some (g', t) => g' == g && decide (s.clock < t + 1000000)
    | none => false
  let s := ((s.bump .TABLE_MISMATCHES).pulse Ev.tableMismatch).report Code.tableMismatch g
  let s := { s with lm.mismatch := some (g, s.clock) }.deriveReed.deriveHeddle
  if again then s.losePool 0 else s

/-- A WRAP bobbin frees granules ahead of its writer (07 R301): the ring position of a write at pool address
`addr` under an APPEND entry of the agent. -/
def State.wrapAhead (s : State) (agent addr n : Nat) : State :=
  match (s.heddleEntries agent (addr / 4096)).find? fun k => s.onAt .H_APPEND k with
  | none => s
  | some k =>
    let b := s.get .H_BOBBIN k
    let size := s.bobSize b
    if 10 ≤ b ∨ size = 0 then s
    else
      let rel := (addr + size - s.ringAddr b (s.get .TAIL_OFFSET b)) % size
      if rel + n ≤ 65536 then (s.makeRoom b (rel + n) 0).2 else s

/-- The commit rule (07 R313): from the lease holder, by 40 to 65,536 bytes in a multiple of 8, equal to the
padded length of the header at the old tail. -/
def State.commitOk (s : State) (agent b newTail : Nat) : Bool :=
  let t := s.get .TAIL_OFFSET b
  let d := newTail - t
  (s.lm.lease.getD b none).isSome && s.get .BB_HOLDER b == agent && decide (t + 40 ≤ newTail)
    && decide (d ≤ 65536) && d % 8 == 0
    && d == 32 + (fieldAt (s.ringRead b t 4) 0 4 + 7) / 8 * 8

/-- TAIL_COMMIT (07 R307, R313, R322): the record becomes visible, or the holder loses its lease. -/
def execTailCommit (agent bobbin newTail : Nat) (s : State) : Host.Outcome State Fault Refusal :=
  checked (agent < 16 && bobbin < 10) (
    if !s.poolUp || s.bobSize bobbin == 0 then s
    else if s.commitOk agent bobbin newTail then
      let t := s.get .TAIL_OFFSET bobbin
      let h := s.ringRead bobbin t 32
      let p := s.pendingOf bobbin
      let all := s.pendingBytes
      let full := s.onAt .BOB_FULL bobbin
      (s.commitRec bobbin
        { off := t, len := newTail - t, flags := fieldAt h 4 2, source := fieldAt h 6 2,
          time := fieldAt h 8 8, seq := fieldAt h 16 4 }).flushTriggers bobbin p all full
    else if s.get .BB_HOLDER bobbin = agent then s.revokeLease bobbin 3
    else s)

/-- The engine of a bobbin passed its loopback while a held SEG_CLOSE record kept its lease back. -/
def Engine.isPassed : Engine → Bool
  | .passed => true
  | _ => false

/-- A held SEG_CLOSE record is appended, and an engine that had passed gets its lease (07 R308). -/
def State.segHeldAppend (s : State) (b : Nat) : State :=
  match s.lm.segHeld.getD b none with
  | none => s
  | some reason =>
    let t : State := { s with lm.segHeld := s.lm.segHeld.set b none }
    let t := t.segClose b reason
    if (t.lm.segHeld.getD b none).isNone && (t.lm.engine.getD b .ok).isPassed then t.grantLease b else t

/-- SEG_CLOSE_HELD_APPEND (07 R308). -/
def execSegCloseHeldAppend (bobbin : Nat) (s : State) : Host.Outcome State Fault Refusal :=
  checked (bobbin < 10) (s.segHeldAppend bobbin)

/-- Every record a mark covers lies in a verified block or has left the pool (07 R303). -/
def State.markDone (s : State) (m : Mark) : Bool :=
  m.bobbins.all fun b => (s.recs b).all fun r =>
    !(m.covers b r) || s.verified b r

/-- MARK_RETIRE (07 R303): a mark leaves the table. -/
def execMarkRetire (markId : Nat) (s : State) : Host.Outcome State Fault Refusal :=
  .next (
    match s.lm.marks.find? fun m => m.id == markId with
    | none => s
    | some m =>
      if max m.stop m.fetch + 1000000 ≤ s.time ∧ s.markDone m = true then
        let s := { s with lm.marks := s.lm.marks.filter fun x => x.id != markId }
        (List.range 10).foldl State.bobFlags s
      else s)

/-- POOL_LOSS (07 R336): a refresh failure, or the loss of a channel. -/
def execPoolLoss (channels : Nat) (s : State) : Host.Outcome State Fault Refusal :=
  checked (channels < 4) (
    let s := if bit channels 0 then s.set .POOL_CH0_TRAINED 0 else s
    let s := if bit channels 1 then s.set .POOL_CH1_TRAINED 0 else s
    if s.poolUp then s.losePool channels else s)

/-- Every bobbin in service receives a SEG_CLOSE record, then a lease. -/
def State.reopen (s : State) (reason : Nat) : State :=
  ((List.range 10).foldl (fun s b => s.segClose b reason) s).grantAll

/-- POOL_RETRAIN (07 R337, R856): the one attempt, 10 ms after the loss. `failed` masks the channels that
fail, and an injection may fail one (16 Table 16.4). -/
def execPoolRetrain (failed : Nat) (s : State) : Host.Outcome State Fault Refusal :=
  checked (failed < 4) (
    if (s.lm.lostAt.all fun t => decide (s.clock < t + 10000)) || !s.poolLost then s
    else
      let bad (k : Nat) := bit failed k || s.st.trainFail.contains k
      let s : State := { s with lm.lostAt := none, st.trainFail := [] }
      let s := (s.set .POOL_CH0_TRAINED (b2n !bad 0)).set .POOL_CH1_TRAINED (b2n !bad 1)
      if bad 0 || bad 1 then s
      else
        let s := (s.emptyBobbins.set .POOL_STATE 1).report Code.poolRestored
        (s.deriveReed.deriveHeddle.reopen 5).unbuffer)

/-- MR4_POLL (07 R338): every 16 ms while POOL_STATE is 2; a failed poll or a reading beyond the limit is a
refresh failure, which names no channel. -/
def execMr4Poll (ok inLimit : Bool) (s : State) : Host.Outcome State Fault Refusal :=
  .next (if s.reg .POOL_STATE = 2 ∧ (ok && inLimit) = false then s.losePool 0 else s)

end Sys2Proof.Machine
end

