-- ==== Sys2Proof/Machine/HostReset.lean ====
section
/-! DEFINITION. Host-side resets (04 R164-R168). -/

namespace Sys2Proof.Machine

/-- A host-side reset begins (04 Tables 4.10, 4.11): fetched commands not past their commit point are
discarded, the others carried on; pairs, contexts and doorbells go; responses to mailbox commands in
flight will be discarded and idle slots are cleared; W0 RW fields and MSI-X return to reset; nothing is
written to host memory; a POWER hold ends (06 R243). An MBX_3 that P8 holds is left as it is (DESIGN CHOICE, log entry
134: Table 4.10 does not say whether its row covers it). -/
def State.hostReset (s : State) : State :=
  let gone := (s.q.cmds.filter fun c => !c.committed).length
  let kept := (s.q.cmds.filter fun c => c.committed).length
  let p8 := s.host.claim == 2
  let s := s.endFlushes
  let flight (n : Nat) : Nat :=
    if (s.slot n).busy ∧ ¬(n = 3 ∧ p8 = true) then reportByte (s.slot n).resp else 0
  let slots := (List.range 4).map flight
  let clear (n : Nat) (m : Slot) : Slot :=
    if n = 3 ∧ p8 = true then m else if m.busy then { m with discard := true } else {}
  { s with
    q := {}
    pw.hold := false
    host.slots := s.host.slots.mapIdx clear
    host.claim := if p8 then 2 else if (s.slot 3).busy then s.host.claim else 0
    host.releaseDue := (!p8 && (s.slot 3).busy && s.host.claim == 1) || (p8 && s.host.releaseDue)
    host.msixOn := false
    host.msixFnMask := false
    host.msix := []
    host.msixPending := []
    host.d3hot := false
    host.busMaster := false
    host.reset := some (gone, kept, slots) }.set .READY 0 |>.set .NT_TAIL 0

/-- FUNCTION_LEVEL_RESET (04 R165). -/
def execFunctionLevelReset (s : State) : Host.Outcome State Fault Refusal :=
  .next (if s.host.perst then s else (s.hostReset.bump .FLR_COUNT).pulse Ev.flrs)

/-- HOT_RESET (04 R165, Table 4.14). -/
def execHotReset (s : State) : Host.Outcome State Fault Refusal :=
  .next (if s.host.perst then s else (s.hostReset.bump .LINK_RESETS).pulse Ev.linkResets)

/-- PERST_ASSERT (04 R165, Table 4.14): also takes the link down; SUBSYS_VID and SUBSYS_ID take effect at
this conventional reset (Table 4.13). -/
def execPerstAssert (s : State) : Host.Outcome State Fault Refusal :=
  .next (if s.host.perst then s
    else
      let s := (s.hostReset.bump .LINK_RESETS).pulse Ev.linkResets
      { (((s.set .LINK_STATE 0).set .LINK_SPEED 0).set .LINK_WIDTH 0) with
          host.perst := true, host.leftL0 := none, host.subsys := (s.reg .SUBSYS_VID, s.reg .SUBSYS_ID) })

/-- LINK_RETRAIN_TIMEOUT (04 R164): a link that left L0 without PERST# and is not back in 1 ms. -/
def execLinkRetrainTimeout (s : State) : Host.Outcome State Fault Refusal :=
  .next (if s.host.perst || s.host.linkOff || !(s.host.leftL0.any fun t => decide (t + 1000 ≤ s.clock)) then s
    else ({ s.hostReset with host.leftL0 := none }.bump .LINK_RESETS).pulse Ev.linkResets)

/-- HOST_RESET_COMPLETE (04 R167, R168): a command still without an outcome is reported as applied (DESIGN CHOICE, log
entry 135), since it is carried to its end; records waiting are written, the ring is emptied, the report is
entry 0 with its record's sequence, notices that came during the reset follow it, and READY returns to 1
unless PFAIL_N keeps mailbox commands from being taken (03 R116). -/
def execHostResetComplete (s : State) : Host.Outcome State Fault Refusal :=
  .next (match s.host.reset with
    | none => s
    | some (gone, kept, slots) =>
      let known (n : Nat) : Nat :=
        if slots.getD n 0 = 0 then 0 else if slots.getD n 0 ≠ 3 then slots.getD n 0
        else if reportByte (s.slot n).resp = 2 then 2 else 1
      let slots := (List.range 4).map known
      if s.host.perst || s.pw.mode == .boot || s.pw.mode == .off || s.pw.mode == .hibernate then s
      else
        let data := gone + kept * 2 ^ 32 + leNat (slots.map (BitVec.ofNat 8)) * 2 ^ 64
        let (s, ms) := s.bbDrain (s.bb.queue.length + s.bb.stalled.length)
        let s := s.reportFull Code.hostReset (s.recordData 0 0 0 / 2 ^ 128 * 2 ^ 128 + data)
          (s.sourceOf Code.hostReset)
        let (s, m) := s.bbAccept (true, true) (true, true)
        let s := ({ s with host.notices := [], host.reset := none }.set .NT_HEAD 0).set .NT_TAIL 0
        let s := (m.toList ++ ms).foldl State.noticeDrained s
        let s := if s.pw.pfail.isNone ∧ s.pw.mode ≠ .boot then s.set .READY 1 else s
        s.acceptWaiting)

end Sys2Proof.Machine
end

