-- ==== Sys2Proof/Machine/ReadJob.lean ====
section
/-! DEFINITION. The read under way: which cluster it reads next, when its next read starts, the offsets the recovery
ladder sets for it (12 R566-R571), and the ramp of offsets in force (13 R608-R610). -/

namespace Sys2Proof.Machine

/-- New target values ramp in CAL_SLEW_SAMPLES steps, from the values reached (13 R608-R610); while the gate is
open the ramp waits. -/
def State.rampTo (s : State) (t : List Int) : State :=
  if t = s.sv.target then s
  else
    let s : State := { s with sv.target := t }
    if s.bu.gate then { s with sv.rampDue := true }
    else { s with sv.rampDue := false, sv.rampLeft := s.reg .CAL_SLEW_SAMPLES }

/-- A layer's calibrated offsets and balance become the targets (11 R490, 13 R608). -/
def State.useLayer (s : State) (l : Nat) : State :=
  s.rampTo ([s.getInt .LC_FOCUS_OFS_NM l, s.getInt .LC_TRACK_OFS_NM l, s.getInt .LC_TILT_MDEG l,
    (s.get .LC_TE_K l : Int)] ++ s.sv.target.drop 4)

/-- The job of the read under way: the first whose command is still outstanding. -/
def State.job (s : State) : Option ReadJob :=
  s.rd.find? fun j => (s.cmd j.qp j.tag).any fun c => c.started && (c.opcode == 0x131 || c.opcode == 0x132)

/-- The job changed; jobs whose command has ended are forgotten. -/
def State.setJob (s : State) (j : ReadJob) : State :=
  { s with rd := (s.rd.map fun x => if x.qp = j.qp ∧ x.tag = j.tag then j else x).filter fun x =>
      (s.cmd x.qp x.tag).isSome }

/-- The part read next (12 R570): the first not read yet, else the first that failed. -/
def ReadJob.cursor (j : ReadJob) : Option Nat :=
  let todo (p : PartState) : Bool := match p with
    | .todo => true
    | _ => false
  let bad (p : PartState) : Bool := match p with
    | .failed _ _ => true
    | _ => false
  (j.states.findIdx? todo).or (j.states.findIdx? bad)

/-- The servo, the channel and calibration let a read of an address start (12 R571, 13 R590-R592). -/
def State.canRead (s : State) (j : ReadJob) (addr : Nat) : Bool :=
  s.reg .SV_STATE == 3 && s.reg .SV_LAYER == acaLayer addr && !s.on .SHOCK_HOLD && s.cal.running.isNone &&
    s.reg .DISC_SERVICE != 3 && s.md.mounted && s.pw.pfail.isNone && s.bu.block.isNone && !s.bu.active &&
    s.md.realloc.isNone && (j.begun || !s.calDue (acaLayer addr) false)

/-- The focus and tracking offset of a read of the ladder, in nm, about the calibrated values (12 Table 12.2). -/
def ladderOffset (step tries : Nat) : Int × Int :=
  let sign : Int := if tries % 2 = 0 then 1 else -1
  let far : Int := if tries < 2 then 1 else 2
  match step with
  | 3 => (0, 20 * sign * far)
  | 4 => (30 * sign * far, 0)
  | _ => (0, 0)

/-- Focus and tracking go to a layer's calibrated offsets and an offset of the ladder (12 R568, 13 R608). -/
def State.aimAt (s : State) (l : Nat) (ofs : Int × Int) : State :=
  s.rampTo ([s.getInt .LC_FOCUS_OFS_NM l + ofs.1, s.getInt .LC_TRACK_OFS_NM l + ofs.2] ++ s.sv.target.drop 2)

/-- The job's next read is in progress if it can start now (12 R556, R566-R568): the equaliser is seeded as the read
starts, and at each read of step 2; an offset of the ladder is in place before its read, and no read of steps 3 to 6
starts while one is being slewed. -/
def State.startRead (s : State) (j : ReadJob) : State × ReadJob :=
  match j.cursor.bind fun i => (j.parts[i]?).map fun p => (p, j.states.getD i .todo) with
  | none => (s, { j with reading := false })
  | some (p, st) =>
    let l := acaLayer p.addr
    let step := match st with
      | .failed _ _ => j.step
      | _ => 0
    if !s.canRead j p.addr then (s, { j with reading := false })
    else
      let s := if step < 3 ∨ s.sv.rampLeft ≠ 0 then s else s.aimAt l (ladderOffset step j.tries)
      if 3 ≤ step ∧ s.sv.rampLeft ≠ 0 then (s, { j with reading := false })
      else (if j.begun = false ∨ step = 2 then s.seedTaps l else s, { j with reading := true, begun := true })

/-- The read under way starts where it waits for an offset. -/
def State.aimRead (s : State) : State :=
  match s.job with
  | some j =>
    if j.reading then s
    else
      let (s, j) := s.startRead j
      s.setJob j
  | none => s

end Sys2Proof.Machine
end

