-- ==== Sys2Proof/Machine/Servo.lean ====
section
/-! DEFINITION. Focus, tracking, seeks and layer jumps, the write gate's trips, shock holds, the
accelerometer, defect holds, biquads and the loop sample, the coils' protections (10 R471-R475, 11, 13
R608-R610, 14 R622). -/

namespace Sys2Proof.Machine

/-- The loops a servo state closes (11 Table 11.3): 0 focus, 1 tracking, 2 tilt. -/
def State.loopClosed (s : State) (loop : Nat) : Bool :=
  let st := s.reg .SV_STATE
  match loop with
  | 0 => ([2, 3, 4, 6] : List Nat).contains st
  | 1 => ([3, 6] : List Nat).contains st
  | _ => ([2, 3, 4, 5, 6] : List Nat).contains st

/-- One step of the ramp: the rest of the way is shared equally among the samples left (13 R608). -/
def State.rampStep (s : State) : State :=
  if s.sv.rampLeft = 0 then s
  else
    let n : Int := s.sv.rampLeft
    let step (a : Int × Int) : Int := a.1 + (a.2 - a.1) / n
    { s with sv.inForce := (s.sv.inForce.zip s.sv.target).map step, sv.rampLeft := s.sv.rampLeft - 1 }

/-- A write cut off by the gate (11 R518): broken, counted, its time kept for the longer quiet period. -/
def State.breakByGate (s : State) : State :=
  if (s.bu.block.bind (·.writing)).isNone then { s with bu.gate := false }
  else
    let l := s.clock :: s.sv.broken.filter fun t => s.clock < t + 10000000
    { s.cutWrite with sv.broken := l }.bump .WG_BROKEN

/-- A shock event takes note of a trip (11 R522). -/
def State.noteShock (s : State) (trips peakTe peakFe : Nat) (open' broken : Bool) (aca : Nat) : State :=
  let x := s.getInt .ACC_X_MG 0
  let y := s.getInt .ACC_Y_MG 0
  let z := s.getInt .ACC_Z_MG 0
  let e : Shock := s.sv.shock.getD
    { since := s.now, at' := s.clock, trips := 0, peakX := x, peakY := y, peakZ := z }
  let far (a b : Int) : Int := if a.natAbs < b.natAbs then b else a
  { s with sv.shock := some { e with
      trips := e.trips ||| trips, gateOpen := e.gateOpen || open', broken := e.broken || broken,
      aca := if broken ∧ e.aca = noAca then aca else e.aca, peakX := far e.peakX x, peakY := far e.peakY y,
      peakZ := far e.peakZ z, peakTe := max e.peakTe peakTe, peakFe := max e.peakFe peakFe } }

/-- A trip of the write gate (11 R517, R518, R521, R522, R532): the gate closes, SHOCK_HOLD is set, each counter
concerned rises; under PFAIL_N the block in flight is abandoned. -/
def State.gateTrip (s : State) (te fe acc : Bool) (peakTe peakFe : Nat) : State :=
  if !(te || fe || acc) then s
  else
    let s := if te then s.bump .WG_TRIPS_TE else s
    let s := if fe then s.bump .WG_TRIPS_FE else s
    let s := if acc then s.bump .WG_TRIPS_ACC else s
    let s := (s.set .SHOCK_HOLD 1).pulse Ev.gateTrips
    let aca := s.writingAca
    let broken := aca != noAca
    let s := s.noteShock (b2n te + 2 * b2n fe + 4 * b2n acc) peakTe peakFe s.bu.gate broken aca
    let s := { s with sv.tripAt := s.clock }
    if s.pw.pfail.isSome ∧ s.bu.block.isSome = true then s.abandonBlock else s.breakByGate

/-- WRITE_GATE_TRIP (11 R517-R522, R531, R532). -/
def execWriteGateTrip (te fe acc : Bool) (peakTe peakFe : Nat) (s : State) :
    Host.Outcome State Fault Refusal :=
  .next (s.gateTrip te fe (acc && s.on .ACC_TRIP && s.reg .ACC_STATE == 1) peakTe peakFe)

/-- The position check at a focus acquisition (10 R461): `ofs` is the tracking coil's offset in nm. -/
def State.positionCheck (s : State) (track : Nat) (ofs : Int) : State :=
  let radius : Int := (s.reg .SL_ORIGIN_NM : Int) + s.sledPos * 9375 / 16 + ofs
  let d : Int := (trackRadius track : Int) - radius
  let s := s.set .SL_PROVISIONAL 0
  if d.natAbs ≤ 300000 then s.set .SL_ORIGIN_NM ((s.reg .SL_ORIGIN_NM : Int) + d).toNat
  else
    ((s.setInt .SLED_POS (s.ustepOf ((trackRadius track : Int) - ofs))).bump .POS_SLIPS).report
      Code.sledPosSlip

/-- A single layer jump toward `l` begins (11 R508): tracking and focus open. -/
def State.jumpToward (s : State) (l from' : Nat) : State :=
  let next := if from' < l then from' + 1 else from' - 1
  let s := (((s.set .SV_STATE 5).set .TRACK_LOCK 0).set .FOCUS_LOCK 0).set .SV_LAYER 0xFF
  { s with sv.layer := next, sv.jumpTo := l, sv.jumpAt := s.clock }.bump .LAYER_JUMPS |>.pulse Ev.layerJumps

/-- A seek to a track on the layer in focus begins (11 R506): a long one moves the sled first. -/
def State.trackSeek (s : State) (track : Nat) : State :=
  let here := s.trackNow
  let far := if here < track then track - here else here - track
  let s : State := { (s.set .SV_STATE 4).set .TRACK_LOCK 0 with sv.goal := some track, sv.seek := none }
  if s.reg .SEEK_COIL_MAX < far then s.sledDemand (s.ustepOf (trackRadius track)) else s

/-- A seek begins from FOLLOW (11 R506, R508). -/
def State.startSeek (s : State) (layer track : Nat) : State :=
  let s := (s.bump .SEEKS).pulse Ev.seeks
  let s : State := { s with sv.waiting := none, sv.attempts := 1 }
  let here := s.reg .SV_LAYER
  if here = layer then s.trackSeek track
  else { s with sv.seek := some (layer, track) }.jumpToward layer here

/-- A seek has to wait (11 R510, 13 R592). -/
def State.seekWaits (s : State) : Bool :=
  s.reg .SV_STATE != 3 || s.on .SHOCK_HOLD || s.cal.running.isSome || s.bu.gate || s.st.granted.isSome

/-- SEEK_REQUEST (11 R506, R510, 13 R592): it starts in FOLLOW, replaces the target of a seek under way (one to another
layer begins its jumps from the FOLLOW that the seek under way ends in), waits otherwise; with the loops open there is nothing to seek with. -/
def execSeekRequest (layer track : Nat) (s : State) : Host.Outcome State Fault Refusal :=
  checked (layer < 4 && track < 112500) (
    let st := s.reg .SV_STATE
    if st = 0 ∨ st = 7 then s
    else if st = 4 ∧ s.on .SHOCK_HOLD = false then
      if s.reg .SV_LAYER = layer then s.trackSeek track
      else { s with sv.goal := none, sv.seek := none, sv.waiting := some (layer, track) }
    else if s.seekWaits then { s with sv.waiting := some (layer, track) }
    else s.startSeek layer track)

/-- SEEK_DONE (11 R507, 09 R405, R406): the crossing count is reached; SETTLE. -/
def execSeekDone (track : Nat) (s : State) : Host.Outcome State Fault Refusal :=
  .next (if s.reg .SV_STATE = 4 then ((s.set .SV_STATE 6).set .SV_TRACK track).showSpeed else s)

/-- The cartridge under the pickup is mounted, or found to be no KAC-80 and to be ejected (02 R84, 00 R1, 06
R272). -/
def State.mountNow (s : State) : State :=
  match s.md.cart with
  | none => s
  | some d =>
    if Disc.isKac80 d then s.mountKac80 d
    else
      let s := { s with md.ejecting := true }.report Code.mediumUnsupported
      s.endCartridge 1 St.mediumUnsupported 0

/-- FOLLOW has been reached (11 R510, 02 R84): a waiting seek starts; a new cartridge is mounted once read
calibration of L0 is done; work goes on. -/
def State.onFollow (s : State) : State :=
  if s.on .SHOCK_HOLD then s
  else match s.sv.waiting with
    | some (l, t) => if s.seekWaits then s else s.startSeek l t
    | none =>
      if !s.md.mounted && !s.md.ejecting && s.reg .LD_STATE == 2 && s.reg .SV_LAYER == 0 &&
          !s.calDue 0 false then s.mountNow.resume
      else s.resume

/-- FOLLOW is declared (11 R503). -/
def State.follow (s : State) : State :=
  { (s.set .SV_STATE 3).set .TRACK_LOCK 1 with sv.goal := none, sv.followAt := s.clock }

/-- SETTLE_COMPLETE (11 R503, R507): the wedge address confirms the expected track and FOLLOW is declared, or a
seek corrects it; after four attempts the seek has failed. -/
def execSettleComplete (track : Nat) (s : State) : Host.Outcome State Fault Refusal :=
  .next (
    if s.reg .SV_STATE ≠ 6 then s
    else
      let s := (s.set .SV_TRACK track).showSpeed
      let wrong := match s.sv.goal with
        | none => false
        | some g => g != track
      if wrong then
        if 4 ≤ s.sv.attempts then { s with sv.attempts := 0 }.discOut Code.seekFail track
        else
          let t : State := { s.bump .SEEK_RETRIES with sv.attempts := s.sv.attempts + 1 }
          t.trackSeek (t.sv.goal.getD track)
      else match s.sv.seek with
        | some (l, t) =>
          if l = s.reg .SV_LAYER ∧ t ≠ track then s.trackSeek t
          else { s.follow with sv.seek := none }.onFollow
        | none => { s.follow with sv.attempts := 0 }.onFollow)

/-- Focus closed on a layer (10 R473, 12 R581): the lock is set, RMS_TRIP clears, the layer's offsets come into
force, the power loop has locked at read power. -/
def State.focusClosed (s : State) (layer track : Nat) : State :=
  let s := ((s.set .FOCUS_LOCK 1).set .SV_LAYER layer).set .SV_TRACK track
  let s := (List.range 3).foldl (fun s c => s.put .CL_RMS_TRIP c 0) (s.set .APC_LOCK 1)
  { s with sv.sweeps := 0, las.apcTries := 0 }.useLayer layer

/-- The next thing after focus closed on a layer: a jump further, or SETTLE. -/
def State.afterFocus (s : State) (layer target : Nat) : State :=
  if layer = target then s.set .SV_STATE 6 else s.jumpToward target layer

/-- FOCUS_CLOSE (11 R500, R501, R508, R509, 10 R461): in a sweep the crossing counted for the target layer, L3
first; in a jump the next qualifying crossing. `coilOfsNm` is the tracking coil's offset. -/
def execFocusClose (crossings wedgeLayer : Nat) (coilOfsNm : Int) (wedgeTrack : Nat) (s : State) :
    Host.Outcome State Fault Refusal :=
  checked (wedgeLayer < 4 && wedgeTrack < 112500) (
    let st := s.reg .SV_STATE
    if st = 1 then
      if crossings + s.sv.layer ≠ 4 then s
      else
        let target := s.sv.layer
        let s := ((s.focusClosed wedgeLayer wedgeTrack).bump .FOCUS_ACQS).pulse Ev.focusAcqs
        (s.positionCheck wedgeTrack coilOfsNm).showSpeed.afterFocus wedgeLayer target
    else if st = 5 then
      let final := s.sv.jumpTo
      if wedgeLayer = s.sv.layer then
        ((s.focusClosed wedgeLayer wedgeTrack).seedTaps wedgeLayer).afterFocus wedgeLayer final
      else
        let s := (s.bump .JUMP_FAILS).report Code.jumpFail s.sv.layer
        let w := s.sv.seek.or s.sv.waiting
        { s.startAcquire s.sv.layer with sv.waiting := w }
    else s)

/-- FOCUS_SWEEP_END (11 R499, R502): after FA_SWEEP_MS; the third failed sweep in a row takes the disc out of service. -/
def execFocusSweepEnd (s : State) : Host.Outcome State Fault Refusal :=
  .next (
    if s.reg .SV_STATE ≠ 1 ∨ s.clock < s.sv.sweepAt + 1000 * s.reg .FA_SWEEP_MS then s
    else if s.sv.sweeps < 2 then { s with sv.sweeps := s.sv.sweeps + 1, sv.sweepAt := s.clock }
    else
      let s := (s.bump .FOCUS_FAILS).coilsOff.set .SV_STATE 7
      { s with sv.sweeps := 0 }.discOut Code.focusFail s.sv.layer)

/-- LAYER_JUMP_TIMEOUT (11 R509): after 2 ms the target layer is acquired by sweep. -/
def execLayerJumpTimeout (s : State) : Host.Outcome State Fault Refusal :=
  .next (
    if s.reg .SV_STATE ≠ 5 ∨ s.clock < s.sv.jumpAt + 2000 then s
    else
      let s := (s.bump .JUMP_FAILS).report Code.jumpFail s.sv.layer
      let w := s.sv.seek.or s.sv.waiting
      { s.startAcquire s.sv.layer with sv.waiting := w })

/-- TRACK_LOSS (11 R505). -/
def execTrackLoss (s : State) : Host.Outcome State Fault Refusal :=
  .next (
    if s.reg .SV_STATE ≠ 3 then s
    else
      let s := ((s.bump .TRACK_LOSSES).pulse Ev.trackLosses).breakByGate
      let shock := s.sv.shock.map fun e => { e with trackLost := true }
      { (s.set .TRACK_LOCK 0).set .SV_STATE 6 with sv.goal := none, sv.shock := shock })

/-- Focus is lost: the gate closes, and a sweep starts on the same layer (11 R528). -/
def State.loseFocus (s : State) : State :=
  let l := s.reg .SV_LAYER
  let w := s.sv.seek.or s.sv.waiting
  let s := s.breakByGate
  { s.startAcquire (if l < 4 then l else s.sv.layer) with sv.waiting := w }

/-- Focus is lost and reacquired on the same layer (11 R528, 10 R473). -/
def State.focusLost (s : State) : State :=
  let s := ((s.bump .FOCUS_LOSSES).pulse Ev.focusLosses).set .SHOCK_HOLD 1
  let shock := s.sv.shock.map fun e => { e with focusLost := true }
  let s : State := { s with sv.tripAt := s.clock, sv.shock := shock }
  s.loseFocus

/-- FOCUS_LOSS (11 R528). -/
def execFocusLoss (s : State) : Host.Outcome State Fault Refusal :=
  .next (if s.on .FOCUS_LOCK then s.focusLost else s)

/-- The 24-byte shock record (11 Table 11.6). -/
def Shock.bytes (e : Shock) (now : Nat) : List Byte :=
  leBytes 1 e.trips ++ leBytes 1 (b2n e.gateOpen + 2 * b2n e.broken + 4 * b2n e.focusLost + 8 * b2n e.trackLost)
    ++ leBytes 2 (min 65535 ((now - e.at') / 1000)) ++ leBytes 4 e.aca ++ leBytes 2 (toBits 16 e.peakX)
    ++ leBytes 2 (toBits 16 e.peakY) ++ leBytes 2 (toBits 16 e.peakZ) ++ leBytes 2 e.peakTe
    ++ leBytes 2 e.peakFe ++ leBytes 6 0

/-- The quiet period, in µs (11 R519): 2 s once the gate has broken four clusters within 10 s. -/
def State.quiet (s : State) : Nat :=
  if 4 ≤ (s.sv.broken.filter fun t => s.clock < t + 10000000).length then 2000000 else 1000 * s.reg .WG_QUIET_MS

/-- SHOCK_HOLD_CLEAR (11 R519, R520, R522): the quiet period has passed in FOLLOW with no condition present; the
shock record is appended, and the channel may link. -/
def execShockHoldClear (s : State) : Host.Outcome State Fault Refusal :=
  .next (
    if s.on .SHOCK_HOLD = false ∨ s.reg .SV_STATE ≠ 3 ∨ s.sv.overs.any (· == true) = true ∨
        s.clock < max s.sv.tripAt s.sv.followAt + s.quiet then s
    else
      let s := s.set .SHOCK_HOLD 0
      let s := match s.sv.shock with
        | none => s
        | some e =>
          let s := { s with sv.shock := none }.bump .SHOCK_EVENTS
          let s := s.report Code.shockEvent e.aca
          s.appendLog 9 (e.bytes s.clock) (b2n s.coarse) 0x02FF e.since
      s.onFollow)

/-- The accelerometer has failed (11 R515, R530). -/
def State.accFail (s : State) : State :=
  if s.reg .ACC_STATE = 2 then s
  else { (s.set .ACC_STATE 2).report Code.accFail with sv.accRun := 0, sv.accInitAt := s.clock, sv.overs := s.sv.overs.set 2 false }

/-- A raw axis in mg, held to 16 bits. -/
def axisMg (raw : Nat) (lsb : Nat) : Int :=
  max (-32768) (min 32767 (ofBits 16 raw * (lsb : Int) / 1000))

/-- A raw axis at full scale counts as over the trip level (11 Table 11.5). -/
def fullScale (raw : Nat) : Bool := raw == 0x7FFF || raw == 0x8001 || raw == 0x8000

/-- A good accelerometer sample (11 R512, R515, R530). -/
def State.accGood (s : State) (bytes : List Byte) : State :=
  let raw (i : Nat) : Nat := fieldAt bytes (2 * i) 2
  let lsb := s.reg .ACC_LSB_UG
  let v := (axisMg (raw 0) lsb, axisMg (raw 1) lsb, axisMg (raw 2) lsb)
  let high := fullScale (raw 0) || fullScale (raw 1) || fullScale (raw 2) ||
    decide (s.reg .WG_ACC_MG < max v.1.natAbs (max v.2.1.natAbs v.2.2.natAbs))
  let s := ((s.setInt .ACC_X_MG v.1).setInt .ACC_Y_MG v.2.1).setInt .ACC_Z_MG v.2.2
  let s : State := { s.bump .ACC_SAMPLES with
    sv.accErrors := 0, sv.accAt := s.clock, sv.accRun := s.sv.accRun + 1,
    sv.accHist := (v :: s.sv.accHist).take 8 }
  let s := if s.reg .ACC_STATE = 0 ∨ (s.reg .ACC_STATE = 2 ∧ 64 ≤ s.sv.accRun) then s.set .ACC_STATE 1 else s
  let armed := s.on .ACC_TRIP && s.reg .ACC_STATE == 1
  let was := s.sv.overs.getD 2 false
  let s : State := { s with sv.overs := s.sv.overs.set 2 (armed && high) }
  if armed && high then
    let s : State := { s with sv.tripAt := s.clock }
    if was then (if s.sv.shock.isSome then s.noteShock 0 0 0 false false noAca else s)
    else s.gateTrip false false true 0 0
  else s

/-- ACC_SAMPLE (11 R512, R515, R517): a read of six bytes; all 0x00 or all 0xFF, or a failed transfer, counts as
a failed read; 8 in a row fail the accelerometer. -/
def execAccSample (bytes : List Byte) (ok : Bool) (s : State) : Host.Outcome State Fault Refusal :=
  checked (bytes.length == 6) (
    if !s.on .ACC_ENABLE || !s.on .CLK_SERVO then s
    else if !ok || bytes.all (· == 0) || bytes.all (· == 255) then
      let s := { s.bump .ACC_ERRORS with sv.accErrors := s.sv.accErrors + 1, sv.accRun := 0 }
      if 8 ≤ s.sv.accErrors then s.accFail else s
    else s.accGood bytes)

/-- ACC_TIMEOUT (11 R515): 1 ms without a good sample. -/
def execAccTimeout (s : State) : Host.Outcome State Fault Refusal :=
  .next (if s.on .ACC_ENABLE && s.on .CLK_SERVO && decide (s.sv.accAt + 1000 ≤ s.clock) then s.accFail else s)

/-- ACC_REINIT (11 R511, R530): every 1 s. -/
def execAccReinit (s : State) : Host.Outcome State Fault Refusal :=
  .next (
    if s.reg .ACC_STATE = 2 ∧ s.on .CLK_SERVO = true ∧ s.sv.accInitAt + 1000000 ≤ s.clock then s.accInit else s)

/-- The defect flag is asserted (11 R523, 12 R564). -/
def State.defectOn (s : State) : State :=
  if s.on .DEFECT then s
  else
    let s := (((s.set .DEFECT 1).set .DEFECT_HOLD 1).bump .DEFECT_HOLDS).pulse Ev.defectHolds
    { s with sv.defectAt := some s.clock }

/-- DEFECT_FLAG_ASSERT (11 R523, 12 R564). -/
def execDefectFlagAssert (s : State) : Host.Outcome State Fault Refusal := .next s.defectOn

/-- DEFECT_FLAG_RELEASE (11 R523, 12 R564); an injected flag lasts its time (16 Table 16.4). -/
def execDefectFlagRelease (s : State) : Host.Outcome State Fault Refusal :=
  .next (
    if s.st.defectUntil.any fun t => decide (s.clock < t) then s
    else { (s.set .DEFECT 0).set .DEFECT_HOLD 0 with sv.defectAt := none, st.defectUntil := none })

/-- DEFECT_HOLD_OVERRUN (11 R524): the flag has lasted longer than DEF_HOLD_US. -/
def execDefectHoldOverrun (s : State) : Host.Outcome State Fault Refusal :=
  .next (
    if s.on .DEFECT && s.on .DEFECT_HOLD &&
        s.sv.defectAt.all fun t => decide (t + s.reg .DEF_HOLD_US < s.clock) then
      ((s.set .DEFECT_HOLD 0).bump .DEFECT_OVERRUNS).report Code.defectOverrun
    else s)

/-- The three coils ramp to zero over 1 ms, from `after` µs on (10 R473, 14 R622); an acquisition sweeps after that. -/
def State.coilsRamp (s : State) (after : Nat) : State :=
  let at' := s.clock + after
  { s with sv.coilRamp := some (at', (List.range 3).map fun c => s.getInt .CL_DEMAND c), sv.sweepAt := at' + 1000 }

/-- The demand of each coil while they ramp to zero. -/
def State.coilTick (s : State) : State :=
  match s.sv.coilRamp with
  | none => s
  | some (at', ds) =>
    let n := min 1000 (s.clock - at')
    let t := (List.range 3).foldl (fun (s : State) c =>
      let v := toBits 16 (ds.getD c 0 * ((1000 - n : Nat) : Int) / 1000)
      (s.put .CL_DEMAND c v).put .CL_SENSE c v) s
    if n < 1000 then t else { t with sv.coilRamp := none }

/-- A missed loop sample (14 R622): the write gate shuts, the coils hold for one sample and ramp to zero, the
laser to read mode, and the sequencer, reset by Core A, acquires focus afresh. -/
def State.missSample (s : State) : State :=
  let s := s.cutWrite.report Code.sampleMissed
  let l := s.reg .SV_LAYER
  if s.reg .SP_STATE = 4 ∧ s.reg .SV_STATE ≠ 0 ∧ s.reg .SV_STATE ≠ 7 then
    ({ s with sv.lines := [] }.startAcquire (if l < 4 then l else s.sv.layer)).coilsRamp 3
  else s.servoOff

/-- SAMPLE_MISSED (14 R622). -/
def execSampleMissed (s : State) : Host.Outcome State Fault Refusal :=
  .next (if s.on .CLK_SERVO then s.missSample else s)

/-- BQ_ACTIVATE (11 R497): a checked shadow becomes active, all sections at once, with the loop open or with the
gate closed and no seek or jump under way. -/
def execBqActivate (loop : Nat) (s : State) : Host.Outcome State Fault Refusal :=
  checked (loop < 3) (
    let st := s.reg .SV_STATE
    if s.sv.bqWaiting.contains loop && (!s.loopClosed loop || (!s.bu.gate && st != 4 && st != 5)) then
      let s := (List.range 20).foldl (fun s i =>
        s.put .BQ_ACTIVE (20 * loop + i) (s.get .BQ_COEF (20 * loop + i))) s
      let s := { s with sv.bqWaiting := s.sv.bqWaiting.erase loop }.put .BQ_APPLY loop 0
      s.set .BQ_PENDING (b2n (!s.sv.bqWaiting.isEmpty))
    else s)

/-- One biquad section (11 R494): Q2.22 coefficients, a 40-bit accumulator. A sum outside 40 bits is a free
value. -/
def State.biquad (s : State) (loop k : Nat) (x : Int) : Int × State :=
  let c (i : Nat) : Int := s.getInt .BQ_ACTIVE (20 * loop + 5 * k + i)
  let z (i : Nat) : Int := (Map.get s.sv.lines (16 * loop + 4 * k + i)).getD 0
  let acc := c 0 * x + c 1 * z 0 + c 2 * z 1 - c 3 * z 2 - c 4 * z 3
  let (acc, s) := if acc < -549755813888 ∨ 549755813888 ≤ acc then
      let (v, s) := s.draw
      (ofBits 40 (v % 2 ^ 40), s)
    else (acc, s)
  let y := acc / 4194304
  let n := 16 * loop + 4 * k
  let m := Map.put (Map.put (Map.put (Map.put s.sv.lines n x) (n + 1) (z 0)) (n + 2) y) (n + 3) (z 2)
  (y, { s with sv.lines := m })

/-- The four sections in cascade, then LOOP_GAIN in Q8.8 (11 R489, R494). -/
def State.loopFilter (s : State) (loop : Nat) (x : Int) : Int × State :=
  let (y, s) := (List.range 4).foldl (fun (p : Int × State) k => p.2.biquad loop k p.1) (x, s)
  (y * s.sv.inForce.getD (8 + loop) 256 / 256, s)

/-- The acceleration that a loop, 0 focus or 1 tracking, takes of a sample's axes: one axis, inverted where its register
says so (11 R513, Table 11.9). -/
def State.ffPick (s : State) (loop : Nat) (v : Int × Int × Int) : Int :=
  let a := match if loop = 0 then s.reg .FF_AXIS_F else s.reg .FF_AXIS_T with
    | 0 => v.1
    | 1 => v.2.1
    | _ => v.2.2
  if (if loop = 0 then s.on .FF_INVERT_F else s.on .FF_INVERT_T) then -a else a

/-- A loop's acceleration `d` us ago, in mg, interpolated to first order between samples 125 us apart; after the newest
sample it is held (11 R513). -/
def State.accelAt (s : State) (loop d : Nat) : Int :=
  let h (k : Nat) : Int := (s.sv.accHist[k]?.map (s.ffPick loop)).getD 0
  let x := d - (s.clock - s.sv.accAt)
  let k := x / 125
  let r : Int := x % 125
  (h k * (125 - r) + h (k + 1) * r) / 125

/-- The feed-forward term of the focus (0) or tracking (1) loop in demand LSBs of 300/2,047 mA (11 R513, R514). -/
def State.feedForward (s : State) (loop : Nat) : Int :=
  if loop < 2 && s.on .FF_ENABLE && s.reg .ACC_STATE == 1 && s.loopClosed loop then
    let a := s.accelAt loop (s.sv.inForce.getD (6 + loop) 0).toNat
    s.sv.inForce.getD (4 + loop) 0 * a / 1000 * 2047 / 300000
  else 0

/-- A coil demand in LSBs is clipped to CL_LIMIT_MA, counted, and written; the page shows 0.1 mA (10 R471,
R472). -/
def State.coilDemand (s : State) (coil : Nat) (d : Int) : State :=
  let lim : Int := (s.get .CL_LIMIT_MA coil : Int) * 2047 / 300
  let c := max (-lim) (min lim d)
  let s := if c = d then s else (s.add .CL_CLIPS coil 1).pulse Ev.coilClips
  let v := toBits 16 (c * 3000 / 2047)
  (s.put .CL_DEMAND coil v).put .CL_SENSE coil v

/-- The demand of a loop that is open: the sweep of an acquisition (11 R499); in a jump the focus kick and
brake, and in a seek the tracking coil's drive, whose sizes the spec does not state (free values, log entry
19); else 0. -/
def State.openDemand (s : State) (loop : Nat) : Int × State :=
  let st := s.reg .SV_STATE
  if st = 1 ∧ loop = 0 then
    let a : Int := s.reg .FA_SWEEP_MA
    let t : Int := min (s.clock - s.sv.sweepAt) (1000 * s.reg .FA_SWEEP_MS)
    ((-a + 2 * a * t / (1000 * (s.reg .FA_SWEEP_MS : Int))) * 2047 / 300, s)
  else if (st = 5 ∧ loop = 0) ∨ (st = 4 ∧ loop = 1) then
    let (v, s) := s.draw
    (ofBits 12 (v % 4096), s)
  else (0, s)

/-- One loop of the sample: its error through the filter, or the open loop's demand. Coils that ramp to zero take none. -/
def State.runLoop (s : State) (loop : Nat) (e : Int) : State :=
  if s.sv.coilRamp.isSome then s
  else if s.loopClosed loop then
    let (y, s) := s.loopFilter loop e
    s.coilDemand loop (y + s.feedForward loop)
  else
    let (d, s) := s.openDemand loop
    s.coilDemand loop d

/-- An error as its page shows it, held to 16 bits. -/
def clip16 (e : Int) : Int := max (-32768) (min 32767 e)

/-- The sled follows the lens (11 R504): the lens displacement is the filtered tracking demand times a
sensitivity the spec does not state, so it is a free value (log entry 19). -/
def State.sledFollow (s : State) : State :=
  if !s.loopClosed 1 || s.sl.target.isSome || s.sl.homing.isSome then s
  else
    let (v, s) := s.draw
    let d : Int := ofBits 32 (v % 2 ^ 32)
    if d.natAbs ≤ 1000 * s.reg .SLED_FOLLOW_UM then s
    else
      let u := s.sledClamp (s.sledPos + if 0 < d then 1 else -1)
      if u = s.sledPos then s else s.sledTo u

/-- The trip conditions of a loop sample (11 R517): a trip as a condition first appears. -/
def State.sampleTrips (s : State) (fe te : Int) : State :=
  let overTe := s.on .TRACK_LOCK && decide (s.reg .WG_TE_NM < te.natAbs)
  let overFe := s.on .FOCUS_LOCK && decide (s.reg .WG_FE_NM < fe.natAbs)
  let newTe := overTe && !(s.sv.overs.getD 0 false)
  let newFe := overFe && !(s.sv.overs.getD 1 false)
  let s : State := { s with sv.overs := [overTe, overFe, s.sv.overs.getD 2 false] }
  let s : State := if overTe || overFe then { s with sv.tripAt := s.clock } else s
  if newTe || newFe then s.gateTrip newTe newFe false te.natAbs fe.natAbs
  else if (overTe || overFe) && s.sv.shock.isSome then s.noteShock 0 te.natAbs fe.natAbs false false noAca
  else s

/-- The loop errors (11 R490-R492, R523): offsets and balance in force, holds over wedges and defects. -/
def State.loopErrors (s : State) (fe te ef tilt : Int) (wedge : Bool) : Int × Int × Int × State :=
  let f (i : Nat) : Int := s.sv.inForce.getD i 0
  let feIn := fe - f 0
  let teRaw := te - f 3 * ef / 4096 - f 1 - s.sv.mirror / 64
  let s : State := if wedge then { s with sv.mirror := s.sv.mirror + teRaw, sv.tilt := tilt - f 2 } else s
  let teIn := if wedge then s.sv.heldTe else teRaw
  if s.on .DEFECT_HOLD then (0, 0, s.sv.tilt, s)
  else (feIn, teIn, s.sv.tilt, { s with sv.heldTe := teIn, sv.heldFe := feIn })

/-- SUM of the main spot's signals (11 Table 11.2): 1,024 at the calibrated sum of the layer. -/
def State.spotSum (s : State) (a b c d : Int) : Int := (a + b + c + d) * 1024 / max 1 (Config.calSum (s.reg .SV_LAYER))

/-- FE before its offset (11 Table 11.2), the signals in units of which the calibrated sum makes nm (log entry 146): with no
light a free value. -/
def State.spotFe (s : State) (a b c d : Int) : Int × State :=
  let sum := s.spotSum a b c d
  if sum = 0 then
    let (v, s) := s.draw
    (ofBits 16 (v % 65536), s)
  else (((a + c) - (b + d)) * 1024 / sum, s)

/-- The pickup passes a wedge (02 R50, R92): one whose CRC-5 fails is ignored, and the address is carried forward. Under
track-following it gives the track. -/
def State.passWedge (s : State) (wedge : Option Nat) : State :=
  match wedge with
  | none => s
  | some a =>
    let at' := (wedgeTaken a).or (s.sv.wedge.map fun p => wedgeCarried p 1)
    let s : State := { s with sv.wedge := at' }
    match at' with
    | some (_, t, _) => if s.reg .SV_STATE = 3 then s.set .SV_TRACK t else s
    | none => s

/-- SERVO_LOOP_SAMPLE (11 R489-R494, R499, R504, R513, R517, 10 R472, R475, 13 R608, R609): the signals A to F of the
photodetector, those of the quadrants in pairs A, C and B, D; `wedge` the address bits of a wedge that the sample falls on. -/
def execServoLoopSample (ac bd : Int × Int) (e f : Int) (wedge : Option Nat) (s : State) :
    Host.Outcome State Fault Refusal :=
  .next (
    if s.reg .SP_STATE ≠ 4 ∨ s.on .CLK_SERVO = false then s.coilsOff
    else
      let ramping := s.sv.rampLeft != 0
      let (fe, s) := s.rampStep.spotFe ac.1 bd.1 ac.2 bd.2
      let te := (ac.1 + bd.2) - (bd.1 + ac.2)
      let (e0, e1, e2, s) :=
        (s.passWedge wedge).loopErrors fe te (e - f) (Config.tiltErr (e - f) (e + f)) wedge.isSome
      let s := ((s.setInt .FE_NM (clip16 e0)).setInt .TE_NM (clip16 e1)).setInt .TILT_MDEG (clip16 e2)
      let s := ((s.runLoop 0 e0).runLoop 1 e1).runLoop 2 e2
      let s := (s.sledFollow.sampleTrips e0 e1).showSpeed
      if ramping ∧ s.sv.rampLeft = 0 then s.tryOpenGate.aimRead else s)

/-- COIL_RMS_TRIP (10 R473): the gate closes, the coils ramp to zero over 1 ms, focus is lost and reacquired; the third
within 60 s takes the disc out of service. -/
def execCoilRmsTrip (coil : Nat) (s : State) : Host.Outcome State Fault Refusal :=
  checked (coil < 3) (
    let l := s.clock :: s.sl.rmsTrips.filter fun t => s.clock < t + 60000000
    let s := ((s.put .CL_RMS_TRIP coil 1).bump .RMS_TRIPS).pulse Ev.rmsTrips
    let s := { s with sl.rmsTrips := l }
    let s := (if s.on .FOCUS_LOCK then s.focusLost else s.breakByGate).coilsRamp 0
    if 3 ≤ l.length then { s with sl.rmsTrips := [] }.discOut Code.coilRmsTrip coil
    else s.report Code.coilRmsTrip coil)

/-- COIL_OPEN_SHORT (10 R474). -/
def execCoilOpenShort (coil : Nat) (below : Bool) (s : State) : Host.Outcome State Fault Refusal :=
  checked (coil < 3) (
    (if below then s.put .CL_OPEN coil 1 else s.put .CL_SHORT coil 1).discOut Code.coilOpenShort coil)

end Sys2Proof.Machine
end

