-- ==== Sys2Proof/Machine/Laser.lean ====
section
/-! DEFINITION. The power loop and the laser's faults, the shuttle lanes (12 R536-R540, R558-R563, R581,
R582). -/

namespace Sys2Proof.Machine

/-- SLOPE_PCT follows the slope (16 R716): a percentage of its value at the first calibration; falls below 70 %
and below 55 % are reported once each. -/
def State.slopeShow (s : State) : State :=
  let r := s.reg .SLOPE_REF
  if r = 0 then s
  else
    let s := s.set .SLOPE_PCT (min 255 (s.reg .SLOPE_UW_MA * 100 / r))
    let s := [70, 55].foldl (fun (s : State) p =>
      if s.reg .SLOPE_PCT < p ∧ s.st.slopeWarned.contains p = false then
        let t : State := { s with st.slopeWarned := s.st.slopeWarned ++ [p] }
        t.report Code.ageing 3 (s.reg .SLOPE_PCT)
      else s) s
    s.updateHealth

/-- The slope of the first calibration is kept (16 R716); where no slope has been measured by then, the first
one measured (DEDUCED, log entry 21). -/
def State.slopeRef (s : State) : State :=
  if s.reg .SLOPE_REF = 0 ∧ s.reg .CAL_RUNS ≠ 0 then s.set .SLOPE_REF (s.reg .SLOPE_UW_MA) else s

/-- APC_UPDATE (12 R537, R538, 16 R716): in write mode, after 64 monitor samples of each kind. -/
def execApcUpdate (slopeUwMa ithDma : Nat) (s : State) : Host.Outcome State Fault Refusal :=
  .next (
    if s.bu.gate && s.writingAca != noAca && s.reg .LAS_STATE == 1 then
      ((s.set .SLOPE_UW_MA slopeUwMa).set .ITH_DMA ithDma).slopeRef.slopeShow.writeLevels
    else s)

/-- A monitor fault (12 R581): the cluster in flight is broken, the laser goes off, one retry; a second
failure takes the disc out of service. -/
def State.monitorFault (s : State) : State :=
  let l := s.reg .SV_LAYER
  let s := (s.cutWrite.laserOff).set .MON_FAULT 1
  if s.las.apcTries = 0 then
    let s := s.report Code.laserMonitor
    { s.startAcquire (if l < 4 then l else s.sv.layer) with las.apcTries := 1 }
  else { s.set .LAS_STATE 3 with las.apcTries := 0 }.discOut Code.laserMonitor

/-- APC_LOCK_TIMEOUT (12 R581): 2 ms after the laser was turned on without a lock. -/
def execApcLockTimeout (s : State) : Host.Outcome State Fault Refusal :=
  .next (
    if s.reg .LAS_STATE = 1 ∧ s.on .APC_LOCK = false ∧ s.las.onAt + 2000 ≤ s.clock then s.monitorFault else s)

/-- MONITOR_DEVIATION (12 R581). -/
def execMonitorDeviation (s : State) : Host.Outcome State Fault Refusal :=
  .next (if s.reg .LAS_STATE = 1 then s.monitorFault else s)

/-- LASER_OVERPOWER (12 R582). -/
def execLaserOverpower (s : State) : Host.Outcome State Fault Refusal :=
  .next (
    if s.reg .LAS_STATE = 1 then
      ((s.laserOff.set .LAS_STATE 3).set .OVERPOWER 1).discOut Code.laserOverpower
    else s)

/-- LANE_DISAGREE (12 R560): the output with fewer corrections is used for the frame, the row is bad where
neither decodes; the spare takes the shadowed lane's place, and the removed lane is checked. -/
def execLaneDisagree (spareFixes shadowFixes : Option Nat) (s : State) : Host.Outcome State Fault Refusal :=
  .next (
    let k := s.reg .SHADOWED_LANE
    if 5 ≤ k then s
    else
      let j := (List.range 5).findIdx fun j => s.get .SH_STATE j == 1
      let used := match spareFixes, shadowFixes with
        | none, none => 0
        | some _, none => 1
        | none, some _ => 2
        | some a, some b => if a < b then 1 else 2
      let s := ((s.bump .SH_DISAGREE).pulse Ev.laneDisagree).report Code.laneSwap k
      let s := ((s.put .SH_STATE j 0).put .SH_STATE k 2).set .SHADOWED_LANE 0xFF
      let l := (s.las.frames :: s.las.disagree.getD k []).filter fun t => s.las.frames < t + 2 ^ 24
      let s : State := { s with las.testing := some k, las.used := used, las.disagree := s.las.disagree.set k l,
                                st.laneError := s.st.laneError.erase k }
      s.laneHealth)

/-- LANE_LOOPBACK_DONE (12 R561, R562): the removed lane becomes the spare, or is retired when it fails or has
disagreed three times within 2^24 frames. -/
def execLaneLoopbackDone (lane : Nat) (pass : Bool) (s : State) : Host.Outcome State Fault Refusal :=
  checked (lane < 5) (
    if s.las.testing ≠ some lane then s
    else
      let bad := !pass || s.st.laneLoopFail.contains lane || decide (3 ≤ (s.las.disagree.getD lane []).length)
      let s : State := { s with las.testing := none, st.laneLoopFail := s.st.laneLoopFail.erase lane }
      if bad then s.retireLane lane else (s.put .SH_STATE lane 1).laneHealth)

/-- SHADOW_ROTATE (12 R559): every 2^20 frames. The frames since the last rotation that no row of a read showed have
passed too. -/
def execShadowRotate (s : State) : Host.Outcome State Fault Refusal :=
  .next (
    let k := s.reg .SHADOWED_LANE
    let s := { s with las.rotations := s.las.rotations + 1, las.frames := (s.las.frames / 2 ^ 20 + 1) * 2 ^ 20 }
    if 5 ≤ k then s
    else
      let l := (List.range 5).map fun i => (k + 1 + i) % 5
      s.set .SHADOWED_LANE ((l.find? fun j => s.get .SH_STATE j == 0).getD k))

end Sys2Proof.Machine
end

