-- ==== Sys2Proof/Machine/Read.lean ====
section
/-! DEFINITION. Reading the cartridge: DISC_DIR, EXPORT, DISC_READ, the attempts at a cluster and the recovery
ladder, low margin and reallocation; CARTRIDGE; the verdict on a written cluster (06 R264-R272, 12 R566-R577,
R584, 02 R78, R83, R87). -/

namespace Sys2Proof.Machine

/-- Bytes written to host ranges in order, as far as they reach. -/
def State.rangesWrite (s : State) : List (Nat × Nat) → List Byte → State
  | [], _ => s
  | (a, n) :: rs, bs => (s.hostWrite a (bs.take n)).rangesWrite rs (bs.drop n)

/-- The bytes a command's buffer holds. -/
def QCmd.room (c : QCmd) : Nat := (c.buf.map (·.2)).sum

/-- A buffer shorter than its row requires, or a descriptor list that is malformed or whose total length is above what
the row requires at most, fails with BAD_LENGTH (05 R229, 06 R236); the answer is the detail. A longer buffer that is no
list is filled only as far as the row requires. -/
def QCmd.lengthFault (c : QCmd) (lo : Nat) (hi : Option Nat) : Option Nat :=
  match c.badDesc with
  | some d => some d
  | none =>
    if c.room < lo ∨ (c.sgl = true ∧ hi.any (fun h => decide (h < c.room)) = true) then some 0xFFFFFFFF else none

/-- NO_MEDIUM or DISC_OUT_OF_SERVICE, with its detail (06 Table 6.4, R285). -/
def State.discFault (s : State) : Option (Nat × Nat) :=
  if s.reg .LD_STATE ≠ 2 then some (St.noMedium, 0)
  else if s.reg .DISC_SERVICE = 3 then some (St.discOutOfService, s.reg .OOS_CODE)
  else none

/-- A mount is to come or under way, or the cartridge is on its way out: disc commands wait (02 R84, 06
R271). -/
def State.discChanging (s : State) : Bool :=
  (s.reg .LD_STATE == 2 && s.reg .DISC_SERVICE != 3 && (!s.md.mounted || s.md.mounting)) || s.md.ejecting

/-- The cluster a part decoded to. -/
def State.partCluster (s : State) (p : ReadPart) : Cluster :=
  (s.clusterAt p.addr).getD
    { decodes := false, hdrCrcOk := false, md := noMetadata, trailer := noTrailer, body := .test }

/-- A part was read whole. -/
def PartState.isDone : PartState → Bool
  | .done => true
  | _ => false

/-- RECOVERED and REALLOCATED of a read's result (12 R577). -/
def State.readFlags (s : State) (j : ReadJob) : Nat :=
  b2n j.recovered + 2 * b2n (j.moved.any fun h => s.md.defects.any fun d => d.home == h && d.reason == 2)

/-- An EXPORT ends (06 R267, R268): the directory entry, then every cluster's matrix, an uncorrectable one as
zeros; then the integrity checks. -/
def State.finishExport (s : State) (c : QCmd) (j : ReadJob) (e : DirEntry) : State :=
  let ps := j.parts.zip j.states
  let bytes := dirEntryBytes e ++ ps.flatMap fun p =>
    if p.2.isDone then matrixBytes p.1.addr (s.partCluster p.1) else List.replicate 67584 0
  let flags := s.readFlags j
  let s := s.rangesWrite c.buf bytes
  match ps.findIdx? fun p => !p.2.isDone with
  | some i => s.finishWith c St.uncorrectable bytes.length i
  | none =>
    let before := s.md.dir.takeWhile fun d => !(d.type == 1 && d.blockId == e.blockId)
    match s.integrity e.blockId (headBefore before e.stream) (j.parts.map s.partCluster) with
    | some (reason, i) =>
      (s.unverifiable reason e.blockId).finishWith c St.integrityUnverifiable bytes.length i
    | none => s.finishWith c St.success bytes.length flags

/-- A cluster that was read is not the one its place calls for: BLOCK_ID and CL_INDEX must run without a gap (02 R87). -/
def State.misplaced (s : State) (p : ReadPart) : Bool :=
  let t := (s.partCluster p).trailer
  t.blockId != p.block || t.clIndex != p.index

/-- A DISC_READ ends (06 R269): user bytes as recorded, up to the first that did not decode; then the check of 02 R87,
whose failure is reported as integrity unverifiable (02 R88), with reason 2 and the first CL_INDEX. -/
def State.finishDiscRead (s : State) (c : QCmd) (j : ReadJob) : State :=
  let ps := (j.parts.zip j.states).takeWhile fun p => p.2.isDone
  let bytes := ps.flatMap fun p => bytesAt (bodyBytes (s.partCluster p.1).body) p.1.from' p.1.len
  let flags := s.readFlags j
  let s := s.rangesWrite c.buf bytes
  if ps.length < j.parts.length then s.finishWith c St.uncorrectable bytes.length bytes.length
  else match j.parts.find? s.misplaced with
    | some p => (s.unverifiable 2 p.block).finishWith c St.integrityUnverifiable bytes.length p.index
    | none => s.finishWith c St.success bytes.length flags

/-- A read whose clusters are all settled, with no reallocation under way, completes; else its next read
starts if it can. -/
def State.pollRead (s : State) : State :=
  match s.job with
  | none => s
  | some j =>
    match j.cursor, s.cmd j.qp j.tag with
    | none, some c =>
      if s.md.realloc.isSome then s
      else
        let s := match j.entry with
          | some e => s.finishExport c j e
          | none => s.finishDiscRead c j
        { s with rd := s.rd.filter fun x => !(x.qp == j.qp && x.tag == j.tag) }
    | _, _ => s.aimRead

/-- The address a reallocated copy is written at (02 R78). -/
def State.spareAddress (s : State) (layer : Nat) : Option Nat :=
  let free (l : Nat) : Bool := decide (s.md.spareNext.getD l spareEnd < spareEnd)
  let l := if free layer then some layer else (List.range 4).find? free
  l.map fun l => pcnAca l (s.md.spareNext.getD l spareEnd)

/-- A low-margin cluster is reallocated, or the reallocation is skipped (12 R573-R575, 02 R74, R78, R83): the
copy keeps the trailer, with REALLOCATED set. -/
def State.reallocate (s : State) (p : ReadPart) : Bool × State :=
  let can := !s.md.readOnly && s.pw.pfail.isNone && decide (8 < s.zoneFree .defects) && s.canSign &&
    (s.md.session.isSome || s.canOpen)
  match s.spareAddress (acaLayer p.addr) with
  | none => (false, s.bump .REALLOC_SKIPPED)
  | some a =>
    if !can then (false, s.bump .REALLOC_SKIPPED)
    else
      let c := s.partCluster p
      let t := { c.trailer with flags := c.trailer.flags ||| trReallocated }
      let k : Block :=
        { kind := .spare, bobbin := c.md.stream, start := 0, stop := 0, id := t.blockId, layer := acaLayer a,
          clusters := [⟨c.body, c.md⟩], trailers := [t], chainPrev := t.chainPrev, selvSeq := 0,
          firstAca := a, nextAca := a }
      let s := s.openSession
      (true, { s with bu.block := some k, md.realloc := some (p.home, false) }.tryOpenGate)

/-- A cluster has decoded at a ladder step, 0 the first read (12 R566, R573, R576): `erased` rows of the combined
set are erased and a column needed 2t + e = `need`. -/
def State.partDecoded (s : State) (j : ReadJob) (i : Nat) (p : ReadPart) (step erased need : Nat) : State :=
  let s := if step = 0 then s else
    ((s.add .STEP_WINS step 1).bump .CL_RECOVERED).pulse Ev.clRecovered
  let r := s.reg .REALLOC_STEP
  let low := (r != 0 && decide (r ≤ step)) || decide (s.reg .MARGIN_ROWS < erased) ||
    decide (s.reg .MARGIN_COL < need)
  let j := { j with states := j.states.set i .done, recovered := j.recovered || step != 0, step := 1,
                    tries := 0, cuts := 0 }
  let s := s.setJob { j with reading := false }
  if !low then s
  else if 2 ^ 31 ≤ p.addr then (s.bump .SYS_LOW_MARGIN).report Code.sysLowMargin p.addr
  else
    let (ok, s) := s.reallocate p
    if ok then s.setJob { j with reading := false, moved := j.moved ++ [p.home] } else s

/-- A cluster is uncorrectable (12 R569, R572). -/
def State.partLost (s : State) (j : ReadJob) (i : Nat) (p : ReadPart) : State :=
  let s := ((s.bump .CL_UNCORRECTABLE).pulse Ev.clUncorrectable).report Code.clUncorrectable p.addr
  s.setJob { j with states := j.states.set i .lost, reading := false, step := 1, tries := 0, cuts := 0 }

/-- Reads of a ladder step (12 Table 12.2). -/
def State.stepReads (s : State) : Nat → Nat
  | 1 => s.reg .RETRY_REVS
  | 3 => 4
  | 4 => 4
  | 5 => 0
  | _ => 2

/-- Erasure decoding, step 5 (12 Table 12.2): `bad` rows that never decoded, `t` undetected errors in the worst
column. It succeeds where 2t + e ≤ 32. Where it would succeed only if the rows erased one by one are those in
error, which the spec does not say of any one cluster, the outcome is a free value (log entry 20). -/
def State.stepFive (s : State) (bad t : Nat) : Bool × State :=
  if bad + 2 * t ≤ 32 then (true, s)
  else if bad + t ≤ 32 then
    let (v, s) := s.draw
    (v % 2 == 1, s)
  else (false, s)

/-- The ladder after a read that did not decode: `fuel` steps at most (12 R566, Table 12.2). -/
def State.climb (s : State) (j : ReadJob) (i : Nat) (p : ReadPart) (rows : RowSet) (t : Nat) : Nat → State
  | 0 => s
  | fuel + 1 =>
    if s.reg .LADDER_MAX_STEP < j.step then s.partLost j i p
    else if j.step = 5 then
      let bad := 384 - rows.good.length - rows.flagged.length
      let (ok, s) := s.stepFive bad t
      if ok && (s.partCluster p).decodes then s.partDecoded j i p 5 bad (bad + 2 * t)
      else s.climb { j with step := 6, tries := 0 } i p rows t fuel
    else if s.stepReads j.step ≤ j.tries then s.climb { j with step := j.step + 1, tries := 0 } i p rows t fuel
    else s.setJob { j with states := j.states.set i (.failed rows 0), reading := false }

/-- The best copies of each row after another read (12 R567); an injection flags frames of it as erased (16
Table 16.4). -/
def RowSet.join (a : RowSet) (rs : List FrameResult) (erase : Nat) : RowSet :=
  let clean := readRows false rs
  let good := (a.good ++ clean.drop erase).eraseDups
  { good := good,
    flagged := (a.flagged ++ readRows true rs ++ clean.take erase).eraseDups.filter fun k => !good.contains k }

/-- A read that counts, of a part whose earlier rows are `old`: its frames go through the channel (12 R554-R558,
R565-R567, R570). -/
def State.readCounted (s : State) (j : ReadJob) (i : Nat) (p : ReadPart) (old : Option RowSet)
    (r : ReadOutcome) : State :=
  let (s, rs) := s.readFrames (old.isSome && j.step == 2) r
  let rows := (old.getD {}).join rs s.st.eraseFrames
  let s : State := { s with st.eraseFrames := 0 }
  let e := 384 - rows.good.length
  let ok := decide (e + 2 * r.colErr ≤ 32) && (s.partCluster p).decodes
  match old with
  | none =>
    let s := ((s.bump .CL_READ).pulse Ev.clRead).add .ERASED_ROWS 0 e
    let s := if e = 0 then s else s.pulse Ev.erasedRows e
    if ok then s.partDecoded j i p 0 e (e + 2 * r.colErr)
    else s.setJob { j with states := j.states.set i (.failed rows 0), reading := false, cuts := 0 }
  | some _ =>
    let s := s.pulse Ev.ladderReads
    if ok then s.partDecoded j i p j.step e (e + 2 * r.colErr)
    else s.climb { j with tries := j.tries + 1 } i p rows r.colErr 8

/-- A read cut short (12 R569): not counted; the eighth of one cluster makes it uncorrectable. -/
def State.readCut (s : State) (j : ReadJob) (i : Nat) (p : ReadPart) : State :=
  let s := s.bump .ATTEMPTS_LOST
  if 7 ≤ j.cuts then s.partLost j i p else s.setJob { j with cuts := j.cuts + 1, reading := false }

/-- A read whose data met a parity error counts as one retry of step 1 (12 R584). -/
def State.readParity (s : State) (j : ReadJob) (i : Nat) (p : ReadPart) (old : Option RowSet) (used : Nat) :
    State :=
  let j := { j with parity := false }
  match old with
  | none => s.setJob { j with states := j.states.set i (.failed {} 1), reading := false }
  | some rows =>
    if j.step = 1 then s.climb { j with tries := j.tries + 1 } i p rows 0 8
    else s.setJob { j with states := j.states.set i (.failed rows used), reading := false }

/-- READ_ATTEMPT_DONE (12 R565-R577, 06 R268, R269): one read of a cluster of the command being served ends, and the
offset it was made with is removed. -/
def execReadAttemptDone (r : ReadOutcome) (s : State) : Host.Outcome State Fault Refusal :=
  .next (
    match s.job with
    | none => s
    | some j =>
      match j.cursor.bind fun i => (j.parts[i]?).map fun p => (i, p) with
      | none => s.pollRead
      | some (i, p) =>
        let (s, j) := if j.reading then (s, j) else s.startRead j
        if !j.reading then s.setJob j
        else
          let l := acaLayer p.addr
          let step := j.step
          let (old, used) : Option RowSet × Nat := match j.states.getD i .todo with
            | .failed rows used => (some rows, used)
            | _ => (none, 0)
          let j := { j with begun := true, tries := if j.step = 1 ∧ j.tries = 0 then used else j.tries }
          let s := if r.parity then s.bump .SCRATCH_PARITY else s
          let s := if r.cut then s.readCut j i p
            else if r.parity || j.parity then s.readParity j i p old used
            else s.readCounted j i p old r
          let s := if old.isSome && (step == 3 || step == 4) then s.aimAt l (0, 0) else s
          s.pollRead)

/-- A parity error in channel scratch (12 R584, 15 R647): a cluster still to be written fails its attempt;
read-back data makes the read count as a retry. -/
def State.scratchParity (s : State) (toWrite : Bool) : State :=
  let s := (s.bump .SCRATCH_PARITY).parityMet 3 false
  if toWrite then s.setBlock fun k => { k with mustFail := true }
  else match s.job with
    | none => s
    | some j => s.setJob { j with parity := j.reading }

/-- SCRATCH_PARITY (12 R584). -/
def execScratchParity (toWrite : Bool) (s : State) : Host.Outcome State Fault Refusal :=
  .next (s.scratchParity toWrite)

/-- A read command starts: the disc is wanted (03 Table 3.2), its job joins the others. -/
def State.beginRead (s : State) (c : QCmd) (j : ReadJob) : State :=
  let s := (s.arrive 7).setCmd c fun d => { d with started := true }
  { s with rd := s.rd ++ [j] }.pollRead

/-- EXPORT (06 R267, R268, R270, R285). -/
def execExportBlock (qp tag : Nat) (s : State) : Host.Outcome State Fault Refusal :=
  s.runCmd qp tag 0x131 fun c s =>
    if c.started then s.pollRead
    else match c.badDesc with
    | some d => s.finishWith c St.badLength 0 d
    | none =>
      if s.discChanging then (if c.noWait then s.finishWith c St.busyDisc 0 0 else s)
      else
        match s.md.dir.find? fun e => e.type == 1 && e.blockId == fieldAt c.args 8 8 with
        | none => s.finishWith c St.blockUnknown 0 0
        | some e =>
          let n := 64 + e.clCount * 67584
          match c.lengthFault n (some n), s.discFault with
          | some d, _ => s.finishWith c St.badLength 0 d
          | _, some (st, d) => s.finishWith c st 0 d
          | none, none =>
            if c.noWait && !s.on .DISC_TURNING then s.finishWith c St.busyDisc 0 0
            else
              let l := s.blockAddresses e
              s.beginRead c
                { qp := qp, tag := tag, entry := some e,
                  parts := l.mapIdx fun i a =>
                    { block := e.blockId, home := a.1, addr := a.2, index := i, from' := 0, len := 0 },
                  states := l.map fun _ => .todo }

/-- The parts of a block that hold stream bytes from `o` up to `z`. -/
def State.blockParts (s : State) (e : DirEntry) (o z : Nat) : List ReadPart :=
  ((s.blockAddresses e).mapIdx fun i a =>
    let lo := e.streamOffset + clusterBytes * i
    let hi := min (lo + clusterBytes) (e.streamOffset + e.byteCount)
    ({ block := e.blockId, home := a.1, addr := a.2, index := i, from' := max o lo - lo,
       len := min z hi - max o lo } : ReadPart)).filter fun p => p.len != 0

/-- The parts of a bobbin's blocks from stream offset `o`, at most up to `z`, as far as the cartridge holds
them (06 R269). -/
def State.readPlan (s : State) (b o z : Nat) : Nat → List ReadPart
  | 0 => []
  | fuel + 1 =>
    if z ≤ o then []
    else match s.md.dir.find? fun e =>
        e.type == 1 && e.stream == b && e.streamOffset ≤ o && o < e.streamOffset + e.byteCount with
      | none => []
      | some e =>
        let ps := s.blockParts e o z
        let n := (ps.map (·.len)).sum
        if n = 0 then [] else ps ++ s.readPlan b (o + n) z fuel

/-- DISC_READ (06 R269, R270, R285). -/
def execDiscRead (qp tag : Nat) (s : State) : Host.Outcome State Fault Refusal :=
  s.runCmd qp tag 0x132 fun c s =>
    if c.started then s.pollRead
    else
      let b := fieldAt c.args 0 2
      match c.lengthFault 1 (some 0x1000000), s.discFault with
      | some d, _ => s.finishWith c St.badLength 0 d
      | none, f =>
        if s.bobbinAbsent b then s.finishWith c St.bobbinUnknown 0 0
        else if s.discChanging then (if c.noWait then s.finishWith c St.busyDisc 0 0 else s)
        else match f with
          | some (st, d) => s.finishWith c st 0 d
          | none =>
            let o := fieldAt c.args 8 8
            let ps := s.readPlan b o (o + min c.room 0x1000000) (s.md.dir.length + 1)
            if ps.isEmpty then s.finishWith c St.rangeGone 0 0
            else if c.noWait && !s.on .DISC_TURNING then s.finishWith c St.busyDisc 0 0
            else s.beginRead c { qp := qp, tag := tag, parts := ps, states := ps.map fun _ => .todo }

/-- DISC_DIR (06 R266): entries in recording order, from what is held; it does not spin the disc. -/
def execDiscDir (qp tag : Nat) (s : State) : Host.Outcome State Fault Refusal :=
  s.runCmd qp tag 0x130 fun c s =>
    match c.lengthFault 64 none with
    | some d => s.finishWith c St.badLength 0 d
    | none =>
      if s.discChanging then s
      else if !s.md.mounted then
        let (st, d) := s.discFault.getD (St.noMedium, 0)
        s.finishWith c st 0 d
      else
          let es := (s.md.dir.drop (fieldAt c.args 0 4)).take (c.room / 64)
          (s.rangesWrite c.buf (es.flatMap dirEntryBytes)).finishWith c St.success es.length s.md.dir.length

/-- CARTRIDGE eject (06 R271, 10 R477): it waits for a burst or a read to end, closes the session, and ejects
once the disc is at rest. An ACTION the row does not give is refused. -/
def execCartridgeEject (qp tag : Nat) (s : State) : Host.Outcome State Fault Refusal :=
  s.runCmd qp tag 0x133 fun c s =>
    let action := fieldAt c.args 0 1
    if action = 1 ∨ c.started = true then s
    else if 1 < action then s.finishWith c St.outOfRange 0 0
    else if s.reg .LD_STATE = 0 then s.finishWith c St.noMedium 0 0
    else
      let moving := s.reg .LD_STATE == 1 || s.reg .LD_STATE == 3 || s.md.ejecting
      let busy := s.bu.active || s.bu.turning || s.bu.block.isSome || s.bu.redo.isSome || s.md.mounting || s.readsWaiting || moving
      if busy then (if c.noWait then s.finishWith c St.busyDisc 0 0 else s)
      else
        let s := (s.arrive 7).setCmd c fun d => { d with started := true, committed := true }
        let s : State := { s with md.ejecting := true }
        if s.reg .LD_STATE = 4 then s.loaderStart false
        else (if s.md.session.isSome && s.canSign then s.startClose.resume else s).pollEject

/-- CARTRIDGE load and mount (06 R272, 10 R477, 02 R84): the loader drives in, and the mount completes the
command; a mounted cartridge is reported as it stands. -/
def execCartridgeLoad (qp tag : Nat) (s : State) : Host.Outcome State Fault Refusal :=
  s.runCmd qp tag 0x133 fun c s =>
    if fieldAt c.args 0 1 ≠ 1 ∨ c.started = true then s
    else
      let begin' (s : State) : State := (s.arrive 7).setCmd c fun d => { d with started := true, committed := true }
      let st := s.reg .LD_STATE
      if s.md.ejecting || st == 1 || st == 3 then (if c.noWait then s.finishWith c St.busyDisc 0 0 else s)
      else if st = 2 then
        if s.md.mounted && !s.md.mounting then s.finishWith c St.success 0 (if s.md.readOnly then 2 else 1)
        else if s.reg .DISC_SERVICE = 3 then s.finishWith c St.discOutOfService 0 (s.reg .OOS_CODE)
        else begin' s
      else if s.loaderFree then (begin' s).loaderStart true
      else if c.noWait then s.finishWith c St.busyDisc 0 0
      else s

end Sys2Proof.Machine
end

