-- ==== Sys2Proof/Machine/Calib.lean ====
section
/-! DEFINITION. Calibration and trimming (13) and the ageing re-trims made with it (16 R714, R715). -/

namespace Sys2Proof.Machine

/-- A block has begun: a cluster of it is burned or being written (13 R591). -/
def State.blockBegun (s : State) : Bool :=
  match s.bu.block with
  | none => false
  | some k => decide (k.index ≠ 0) || !k.burned.isEmpty || k.writing.isSome

/-- A command's read has begun and has not ended (13 R591). -/
def State.readBegun (s : State) : Bool := s.job.any fun j => j.begun

/-- Calibration falls due (13 R586, R591): `mask` as CAL_DUE is laid out. One that falls due inside a block or a
command's read waits, and the wait is counted. -/
def State.makeDue (s : State) (mask : Nat) : State :=
  let due := s.reg .CAL_DUE ||| mask
  if due = s.reg .CAL_DUE then s
  else
    let s := s.set .CAL_DUE due
    if s.blockBegun || s.readBegun then { s.bump .CAL_DEFERRED with cal.deferred := true } else s

/-- A kind of calibration is no longer due on a layer; a CAL_NOW bit clears when both kinds have run (13 R589). -/
def State.notDue (s : State) (layer : Nat) (opc : Bool) : State :=
  let k := layer + if opc then 4 else 0
  let s := if bit (s.reg .CAL_DUE) k then s.set .CAL_DUE (s.reg .CAL_DUE - 2 ^ k) else s
  let s := if bit (s.reg .CAL_NOW) layer && !s.calDue layer false && !s.calDue layer true then
      s.set .CAL_NOW (s.reg .CAL_NOW - 2 ^ layer)
    else s
  if s.reg .CAL_DUE = 0 then { s with cal.deferred := false } else s

/-- Work goes on after a calibration: seeks, mounts, blocks and reads that waited for it (13 R592). -/
def State.afterCal (s : State) : State := s.onFollow.pollRead

/-- The layer the work in hand touches (13 R590): that of the block, of the read, else the first layer of a
cartridge to be mounted. -/
def State.workLayer (s : State) : Option Nat :=
  match s.bu.block, s.job.bind fun j => j.cursor.bind fun i => j.parts[i]? with
  | some k, _ => some (acaLayer k.nextAca)
  | none, some p => some (acaLayer p.addr)
  | none, none => if s.md.mounted then none else some 0

/-- The servo, the cartridge and what else runs let a calibration start on a layer (13 R590-R595). -/
def State.canCalibrate (s : State) (l : Nat) : Bool :=
  s.reg .SV_STATE == 3 && !s.on .SHOCK_HOLD && s.reg .SV_LAYER == l && s.workLayer == some l &&
    s.cal.running.isNone && !s.blockBegun && !s.readBegun && s.pw.pfail.isNone && s.reg .DISC_SERVICE != 3 &&
    s.st.granted.isNone && s.las.testing.isNone && s.reg .LD_STATE == 2

/-- READ_CAL_START (13 R590-R596). -/
def execReadCalStart (s : State) : Host.Outcome State Fault Refusal :=
  .next (
    let l := s.reg .SV_LAYER
    if l < 4 ∧ s.calDue l false = true ∧ s.canCalibrate l = true then
      { s with cal.running := some (l, false), cal.deferred := false }
    else s)

/-- `a / b`, rounded to the nearest, `b` positive. -/
def roundDiv (a b : Int) : Int := (2 * a + b) / (2 * b)

/-- The first index of the greatest value. -/
def peakAt (ys : List Nat) : Nat := ys.findIdx (· == ys.foldl max 0)

/-- The sum of `f x y` over the points of a sweep about its peak `p`, `x` counted in steps from it: two neighbours on each
side, those that there are (13 Table 13.2). -/
def aboutPeak (ys : List Nat) (p : Nat) (f : Int → Int → Int) : Int :=
  ((List.range 5).map fun k => if k + p < 2 then 0 else ((ys[k + p - 2]?).map fun y => f ((k : Int) - 2) y).getD 0).sum

/-- The fit of a sweep (13 R596, R597): the vertex of the least-squares parabola through the peak point and its
neighbours; none where the peak lies at an end or the parabola is not concave (log entry 147). -/
def sweepFit (first step : Int) (ys : List Nat) : Option Int :=
  let p := peakAt ys
  let sx (n : Nat) : Int := aboutPeak ys p fun x _ => x ^ n
  let tx (n : Nat) : Int := aboutPeak ys p fun x y => x ^ n * y
  let det (a b c d e f g h i : Int) : Int := a * (e * i - f * h) - b * (d * i - f * g) + c * (d * h - e * g)
  let α := det (tx 2) (sx 3) (sx 2) (tx 1) (sx 2) (sx 1) (tx 0) (sx 1) (sx 0)
  let β := det (sx 4) (tx 2) (sx 2) (sx 3) (tx 1) (sx 1) (sx 2) (tx 0) (sx 0)
  if p = 0 ∨ ys.length ≤ p + 1 ∨ 0 ≤ α then none
  else some (first + step * p + roundDiv (step * β) (-(2 * α)))

/-- Tracking balance k in Q4.12 (13 Table 13.2): the value at which the mean TE is equal at both positions; none where
E − F does not tell them apart (log entry 147). -/
def balanceFit (b : Balance) : Option Int :=
  let n := b.main0 - b.main1
  let d := b.side0 - b.side1
  if d = 0 then none else some (max 0 (min 65535 (if 0 < d then roundDiv (4096 * n) d else roundDiv (-(4096 * n)) (-d))))

/-- A fit's result, or the value kept when the fit is rejected (13 R597). -/
def State.fit (s : State) (n : RegName) (l : Nat) (r : Option Int) : State :=
  match r with
  | none => s.bump .FIT_REJECTS
  | some v => s.put n l (toBits n.info.width v)

/-- A loop's gain is rescaled to restore unity at its reference crossover (16 R714, R715): `g` is the gain
measured there, in 1/1000; the new gain stays within ±25 % of its reference. -/
def State.rescale (s : State) (loop g : Nat) : State :=
  let s := if s.get .GAIN_REF loop = 0 then s.put .GAIN_REF loop (s.get .LOOP_GAIN loop) else s
  let r := s.get .GAIN_REF loop
  let want := s.get .LOOP_GAIN loop * 1000 / g
  let new := max ((3 * r + 3) / 4) (min (5 * r / 4) want)
  let s := s.put .LOOP_GAIN loop new
  if new = want then s else s.report Code.ageing loop want

/-- The equaliser seeds of a layer (13 R596, R597): those of its most recent OPC cluster, or the default ones. Reads cut
short three times over keep what there was. -/
def State.setSeeds (s : State) (l : Nat) (seeds : Option (List Int)) : State :=
  if s.onAt .OPC_VALID l then
    match seeds with
    | none => s.bump .FIT_REJECTS
    | some seeds =>
      (List.range 15).foldl (fun s m => s.put .LC_SEED (15 * l + m) (toBits 12 (seeds.getD m 0)))
        (s.put .SEEDS_DEFAULT l 0)
  else s.put .SEEDS_DEFAULT l 1

/-- READ_CAL_DONE (13 R596-R598, R608, R610, 16 R714, R715): the amplitudes of the focus and tilt sweeps, the means of the
balance, the tracking offset, the seeds, the loop gains; an item whose reads were cut short three times over has none. The
values come into force along a ramp. -/
def execReadCalDone (focusSweep tiltSweep : Option (List Nat)) (balance : Option Balance) (trackOfs : Option Int)
    (seeds : Option (List Int)) (gains : List Nat) (s : State) : Host.Outcome State Fault Refusal :=
  checked (focusSweep.all (fun l => l.length == 11) && tiltSweep.all fun l => l.length == 9) (
    match s.cal.running with
    | some (l, false) =>
      let s : State := { s with cal.running := none }
      let s := (s.fit .LC_FOCUS_OFS_NM l (focusSweep.bind (sweepFit (-80) 16))).fit .LC_TILT_MDEG l
        (tiltSweep.bind (sweepFit (-400) 100))
      let s := (s.fit .LC_TE_K l (balance.bind balanceFit)).fit .LC_TRACK_OFS_NM l trackOfs
      let s := s.setSeeds l seeds
      let s := (List.range 3).foldl (fun s k => s.rescale k (gains.getD k 1000)) s
      let s := ((s.put .READ_VALID l 1).put .LC_CAL_TEMP_DC l (s.reg .TEMP_NOW_DC)).put .LC_CAL_TIME l s.now
      let s := (((s.bump .CAL_RUNS).pulse Ev.calRuns).report Code.calRun l).notDue l false
      let s := s.slopeRef.slopeShow.useLayer l
      let t := s.sv.target.take 8 ++ (List.range 3).map fun k => (s.get .LOOP_GAIN k : Int)
      (s.rampTo t).updateHealth.afterCal
    | _ => s)

/-- The next test cluster after the one at `a` (13 R599). -/
def State.testAfter (s : State) (l a : Nat) : Nat :=
  if 2 ^ 31 ≤ a ∧ acaNumber a < 1023 then a + 1
  else if 2 ^ 31 ≤ a then
    let m := (s.md.cart.map fun d => firstFree d false l 360448).getD 360448
    if m ≤ 361471 then aca false l m else noAca
  else if acaNumber a < 361471 then a + 1
  else noAca

/-- The centre of a layer's OPC, in 0.01 mW (13 R601, R604). -/
def State.opcCentre (s : State) (l : Nat) : Nat :=
  match s.cal.second with
  | some p => p
  | none =>
    let hint := (s.md.identity.map fun i => i.opcHint / 2 ^ (8 * l) % 256).getD 0
    if s.onAt .OPC_VALID l then s.get .LC_OPC_PEAK l
    else if hint ≠ 0 then hint * 25
    else s.get .P_PEAK l

/-- The scores of the 16 steps of 24 frames (13 R602): `frames` gives each frame's corrected inner symbols, none for a row
that failed, which counts as 16. -/
def opcScores (frames : List (Option Nat)) : List Nat :=
  (List.range 16).map fun k => ((List.range 24).map fun i => ((frames[24 * k + i]?).join).getD 16).sum

/-- The chosen step (13 R602): the lowest whose own score and that of the next are at most OPC_SYM_MAX; step 15
on its own score alone. -/
def opcStep (limit : Nat) (scores : List Nat) : Option Nat :=
  (List.range 16).find? fun k =>
    decide (scores.getD k (limit + 1) ≤ limit) && (k == 15 || decide (scores.getD (k + 1) (limit + 1) ≤ limit))

/-- `a × b / c`, rounded to the nearest. -/
def scaleRound (a b c : Nat) : Nat := (a * b + c / 2) / c

/-- The four write powers that a new P_PEAK gives (13 R603): P_BIAS, P_COOL, P_PEAK, P_OD. -/
def State.opcPowers (s : State) (l new : Nat) : Nat × Nat × Nat × Nat :=
  let old := s.get .P_PEAK l
  (scaleRound (s.get .P_BIAS l) new old, scaleRound (s.get .P_COOL l) new old, new,
    scaleRound (s.get .P_OD l) new old)

/-- Powers lie in their fields' ranges and keep 12 R542 (13 R604). -/
def powersOk (p : Nat × Nat × Nat × Nat) : Bool :=
  RegName.accepts .P_BIAS p.1 && RegName.accepts .P_COOL p.2.1 && RegName.accepts .P_PEAK p.2.2.1 &&
    RegName.accepts .P_OD p.2.2.2 && decide (p.2.1 ≤ p.1) && decide (p.1 ≤ p.2.2.1) &&
    decide (p.2.2.1 ≤ p.2.2.2)

/-- An OPC ends without a result: the values in force are kept, and it is no longer due (13 R604, R605). -/
def State.opcEnd (s : State) (l : Nat) : State :=
  let t : State := { s with cal.running := none, cal.second := none }
  t.notDue l true

/-- An OPC run succeeds with step `k` of a centre (13 R603). -/
def State.opcGood (s : State) (l : Nat) (p : Nat × Nat × Nat × Nat) : State :=
  let s := (((s.put .P_BIAS l p.1).put .P_COOL l p.2.1).put .P_PEAK l p.2.2.1).put .P_OD l p.2.2.2
  let s := ((s.put .OPC_VALID l 1).put .LC_OPC_PEAK l p.2.2.1).put .LC_OPC_TEMP_DC l (s.reg .TEMP_NOW_DC)
  ((((s.put .LC_OPC_TIME l s.now).bump .OPC_RUNS).pulse Ev.opcRuns).report Code.calRun l).opcEnd l

/-- The currents of the four levels in step `k` of a test cluster (13 R601, 12 R538-R540): each power of the strategy times
(0.70 + 0.04 k) of P_C over P_PEAK. -/
def State.opcDrive (s : State) (l pc k : Nat) : State :=
  let st := s.strategyOf l
  let t := s.trackNow
  let at' (p : Nat) : Nat := scaleRound p (pc * (70 + 4 * k)) (100 * st.pPeak)
  let (b, s) := s.levelCurrent 0 (at' st.pBias)
  let (c, s) := s.levelCurrent 1 (scaledPower (at' st.pCool) t)
  let (p, s) := s.levelCurrent 2 (scaledPower (at' st.pPeak) t)
  let (o, s) := s.levelCurrent 3 (scaledPower (at' st.pOd) t)
  { s with cal.driven := s.cal.driven ++ [[b, c, p, o]] }

/-- A test cluster is written at `a` and scored (13 R599-R604, R615). -/
def State.opcTest (s : State) (l a : Nat) (scores : List Nat) (followed : Bool) : State :=
  let pc := s.opcCentre l
  let s : State := { s.set .HEADROOM_LOW 0 with cal.driven := [] }
  let s := (List.range 16).foldl (fun s k => s.opcDrive l pc k) s
  let c : Cluster := { decodes := followed, hdrCrcOk := false, md := noMetadata, trailer := noTrailer, body := .test }
  let s := (s.burn a c).put .LC_NEXT_TEST l (s.testAfter l a)
  let good := do
    let k ← if followed then opcStep (s.reg .OPC_SYM_MAX) scores else none
    let p := s.opcPowers l (scaleRound (pc * (70 + 4 * k)) (100 + s.reg .OPC_MARGIN_PCT) 10000)
    if powersOk p then some p else none
  match good, s.cal.second with
  | some p, _ => (s.opcGood l p).afterCal
  | none, none => { s with cal.running := some (l, true), cal.second := some (scaleRound pc 130 100) }
  | none, some _ => (((s.bump .OPC_FAILS).report Code.opcFailed l).opcEnd l).afterCal

/-- The layer on which an OPC runs now (13 R590): that of a second run, else that of a data block that waits for
it before its first cluster. -/
def State.opcLayer (s : State) : Option Nat :=
  match s.cal.running, s.bu.block with
  | some (l, true), _ => some l
  | some (_, false), _ => none
  | none, none => none
  | none, some k =>
    let l := acaLayer k.nextAca
    if k.kind == .data && s.calDue l true && !s.calDue l false && s.canCalibrate l then some l else none

/-- OPC_RUN (13 R599-R605, R615): `frames` are the 384 frames' corrected inner symbols, `followed` whether the verify spot followed
the test cluster. With both test zones full OPC is skipped. -/
def execOpcRun (frames : List (Option Nat)) (followed : Bool) (s : State) : Host.Outcome State Fault Refusal :=
  .next (
    match s.opcLayer with
    | none => s
    | some l =>
      let a := s.get .LC_NEXT_TEST l
      if a = noAca then (((s.put .OPC_EXHAUSTED l 1).report Code.opcExhausted l).opcEnd l).afterCal
      else s.opcTest l a (opcScores frames) followed)

/-- The acceleration of a loop over a window of samples of the three axes (11 R513, 13 R606). -/
def State.ffAccel (s : State) (loop : Nat) (x y z : List Int) : List Int :=
  List.zipWith (fun a p => s.ffPick loop (a, p)) x (List.zip y z)

/-- The sums of y·a, a·a and y·y over a window, `a` the acceleration `d` µs before each sample times 125, in mg, linear
between samples 125 µs apart (13 R606); the first five samples only give the past of the others. -/
def fitSums (accel demand : List Int) (d : Nat) : Int × Int × Int :=
  let k := d / 125
  let r : Int := d % 125
  let a := List.zipWith (fun x x' => x * (125 - r) + x' * r) (accel.drop (5 - k)) (accel.drop (4 - k))
  (List.zip a (demand.drop 5)).foldl (fun (t : Int × Int × Int) p =>
    (t.1 + p.2 * p.1, t.2.1 + p.1 * p.1, t.2.2 + p.2 * p.2)) (0, 0, 0)

/-- The fit of a window (13 R606): the delay, in 25 µs steps to 500 µs, whose least-squares gain leaves the least residual,
the gain in µA per g, and whether it takes at least 20 % off the residual that no gain leaves (log entry 147). -/
def ffFit (accel demand : List Int) : Nat × Int × Bool :=
  let c := (List.range 21).map fun i => (25 * i, fitSums accel demand (25 * i))
  let b := c.foldl (fun (b : Nat × Int × Int × Int) x =>
    if b.2.1 ^ 2 * x.2.2.1 < x.2.1 ^ 2 * b.2.2.1 then x else b) (c.headD (0, 0, 0, 0))
  let (d, xy, xx, yy) := b
  (d, if xx = 0 then 0 else roundDiv (125000 * xy) xx, decide (0 < xx ∧ yy * xx ≤ 5 * xy ^ 2))

/-- FF_FIT_WINDOW (13 R606, R607): a window of 4,096 samples of the three axes in mg, and of the demand of a loop, 0 focus
or 1 tracking, in µA without the feed-forward term. A fit that is applied comes into force along a ramp. -/
def execFfFitWindow (loop : Nat) (x y z demand : List Int) (s : State) : Host.Outcome State Fault Refusal :=
  checked (loop < 2 && [x, y, z, demand].all fun l => l.length == 4096) (
    let accel := s.ffAccel loop x y z
    let (delayUs, gain, better) := ffFit accel demand
    if !s.on .FF_FIT || s.reg .SV_STATE != 3 || s.reg .ACC_STATE != 1 ||
        decide ((accel.filter fun a => decide (100 < a.natAbs)).length < 1000) then s
    else if !better ∨ 30000 < gain.natAbs then s.bump .FIT_REJECTS
    else
      let s := if loop = 0 then (s.setInt .FF_GAIN_F gain).set .FF_DELAY_F_US delayUs
        else (s.setInt .FF_GAIN_T gain).set .FF_DELAY_T_US delayUs
      let s := s.bump .FF_FITS
      s.rampTo ((s.sv.target.set (4 + loop) gain).set (6 + loop) (delayUs : Int)))

/-- A drive-die temperature sensor has failed (13 R614). -/
def State.sensorFail (s : State) (sensor : Nat) : State :=
  if s.cal.sensors.contains sensor then s
  else
    let t : State := { s with cal.sensors := s.cal.sensors ++ [sensor], cal.staleUs := 0 }
    t.report Code.tempSensor sensor

/-- TEMP_SENSOR_STALE (13 R614). -/
def execTempSensorStale (sensor : Nat) (s : State) : Host.Outcome State Fault Refusal :=
  .next (s.sensorFail sensor)

/-- The kinds and layers whose last run was at a temperature more than CAL_DT_DC away (13 R588). -/
def State.tempMask (s : State) (t : Int) : Nat :=
  let far (n : RegName) (l : Nat) : Bool := decide (s.reg .CAL_DT_DC < (t - s.getInt n l).natAbs)
  ((List.range 4).map fun l =>
    (if s.onAt .READ_VALID l && far .LC_CAL_TEMP_DC l then 2 ^ l else 0) +
      (if s.onAt .OPC_VALID l && far .LC_OPC_TEMP_DC l then 2 ^ (l + 4) else 0)).sum

/-- TEMP_CHECK (13 R588, R614): the drive-die temperature in 0.1 °C, once a second. With a sensor failed, both
kinds fall due on every layer after each 600 s of spindle RUN. -/
def execTempCheck (tempDc : Int) (s : State) : Host.Outcome State Fault Refusal :=
  .next (
    let s := s.setInt .TEMP_NOW_DC tempDc
    let s := if tempDc < -500 ∨ 1600 < tempDc then s.sensorFail 0 else s
    let s := if s.on .TEMP_TRIGGER then s.makeDue (s.tempMask tempDc) else s
    if !s.cal.sensors.isEmpty && decide (600000000 ≤ s.cal.staleUs) then
      let t : State := { s with cal.staleUs := 0 }
      t.makeDue 0xFF
    else s)

/-- A calibration under way ends at once (13 R592, R616). -/
def State.stopCal (s : State) : State := { s with cal.running := none, cal.second := none }

end Sys2Proof.Machine
end

