-- ==== Sys2Proof/Machine/Repair.lean ====
section
/-! DEFINITION. Spares and the repair map; units taken out of use (15 R652, Table 15.3; 16 R688, R709-R713). -/

namespace Sys2Proof.Machine

/-- A spare of a kind (1 row, 2 column) of a macro covers a row or column, if one remains and the map has room
(16 R686, R712). -/
def State.takeSpare (s : State) (ramNo kind index source : Nat) : Option State :=
  let used := s.sparesUsed ramNo kind
  if used < (if kind = 1 then 8 else 4) ∧ s.reg .MAP_USED < 256 then
    some (s.mapEntry ramNo kind index used source)
  else none

/-- Columns with two or more failing cells take spare columns (16 R709, step 1); the answer keeps the cells that
are still not covered. -/
def State.coverColumns (s : State) (m source : Nat) (cells : FailCells) : List Nat → FailCells × State
  | [] => (cells, s)
  | c :: cs =>
    match s.takeSpare m 2 c source with
    | none => s.coverColumns m source cells cs
    | some t => t.coverColumns m source (cells.filter fun x => x.2 != c) cs

/-- The other failing rows take spare rows; without one, a single failing cell takes a spare column (16 R709,
steps 2 and 3). False if some cell stays uncovered. -/
def State.coverRows (s : State) (m source : Nat) (cells : FailCells) : List Nat → Bool × State
  | [] => (true, s)
  | r :: rs =>
    match s.takeSpare m 1 r source, cells.filter fun x => x.1 == r with
    | some t, _ => t.coverRows m source cells rs
    | none, [x] =>
      match s.takeSpare m 2 x.2 source with
      | some t => t.coverRows m source cells rs
      | none => (false, s)
    | none, _ => (false, s)

/-- The failures of a macro are repaired (16 R709-R713); false if a failure has no spare to cover it. -/
def State.repair (s : State) (m : Nat) (cells : FailCells) (source : Nat) : Bool × State :=
  let cols := (cells.map (·.2)).eraseDups.filter fun c => 2 ≤ (cells.filter fun x => x.2 == c).length
  let (left, s) := s.coverColumns m source cells cols
  s.coverRows m source left (left.map (·.1)).eraseDups

/-- The rows of 15 Table 15.3. -/
inductive UnitRow where
  | l2Way | mergeEntry | contextBank | scratchBank | lane | core | servo | security | poisonBitmap | path
  deriving DecidableEq, Repr

/-- The row of Table 15.3 of a number. -/
def unitRow : Nat → UnitRow
  | 0 => .l2Way
  | 1 => .mergeEntry
  | 2 => .contextBank
  | 3 => .scratchBank
  | 4 => .lane
  | 5 => .core
  | 6 => .servo
  | 7 => .security
  | 8 => .poisonBitmap
  | _ => .path

/-- The smallest unit of Table 15.3 that contains a macro (16 Table 16.2, R688): two macros make an L2 way, four a
scratch bank (DEDUCED, log entry 22). -/
def macroUnit (m : Nat) : Nat × Nat :=
  if m < 32 then (0, m / 2)
  else if m < 64 then (3, (m - 32) / 4)
  else if m < 72 then (5, 10)
  else if m < 80 then (5, 11)
  else if m < 88 then (6, 0)
  else if m < 92 then (7, 0)
  else (8, 0)

/-- The boot is degraded by a unit (15 R652, 19 R786). -/
def State.degrade (s : State) (row : Nat) : State :=
  if s.on .BOOT_DEGRADED then s
  else ((((s.set .BOOT_DEGRADED 1).set .BOOT_MODE 1).report Code.degradedBoot row)).updateHealth

/-- A unit is taken out of use, with the consequence of its row (15 R652, Table 15.3). -/
def State.dropUnit (s : State) (row unit : Nat) : State :=
  match unitRow row with
  | .l2Way =>
    if s.un.ways.contains unit then s
    else
      let w := s.un.ways ++ [unit]
      let t : State := { s with un.ways := w }
      let t : State := { t with ca.l2 := t.ca.l2.filter fun e => e.1 % 16 != unit }
      let t := t.set .L2_WAYS (16 - w.length)
      if 16 - w.length < 8 then { t with ca.l2 := [] }.degrade row else t
  | .mergeEntry =>
    if s.un.merge.contains unit then s
    else
      let t : State := { s with un.merge := s.un.merge ++ [unit] }
      if 32 - t.un.merge.length < 8 then t.degrade row else t
  | .contextBank =>
    if s.un.contexts.contains unit then s
    else
      let t : State := { s with un.contexts := s.un.contexts ++ [unit] }
      t.set .CTX_CACHE (1024 - 64 * t.un.contexts.length)
  | .scratchBank =>
    if s.un.scratch.contains unit then s
    else
      let t : State := { s with un.scratch := s.un.scratch ++ [unit] }
      let t := t.set .SCRATCH_BANKS (8 - t.un.scratch.length)
      if 8 - t.un.scratch.length < 6 then t.discOut Code.checkerFailed row else t
  | .lane => s.retireLane unit
  | .core => { s with un.cores := (s.un.cores ++ [unit]).eraseDups }.degrade row
  | .servo => ({ s with un.servo := true }.discOut Code.checkerFailed row).degrade row
  | .security => { s with un.security := true }.degrade row
  | .poisonBitmap =>
    let t : State := { s with un.pool := true }
    (t.losePool 0).degrade row
  | .path =>
    let t : State := { s with un.agents := (s.un.agents ++ [unit]).eraseDups }
    if unit = 9 then t.discOut Code.checkerFailed row else t

/-- A checker of Table 15.3 fails: its bit, a record, and its unit out of use (15 R652). -/
def State.checkerFailed (s : State) (row unit : Nat) : State :=
  let s := s.set .CHECKER_FAIL (s.reg .CHECKER_FAIL ||| 2 ^ row)
  (s.report Code.checkerFailed row).dropUnit row unit

end Sys2Proof.Machine
end

