-- ==== Sys2Proof/Machine/Boot.lean ====
section
/-! DEFINITION. Supply, rails and resets; the boot (19, 20; 07 R329-R332; 14 R620, R644; 16 R687-R689). -/

namespace Sys2Proof.Machine

/-- Registers a host may set that are held in the settings store (19 R793), beside the bead events and modes. -/
def RegName.isSetting (n : RegName) : Bool :=
  (n.info.keep == .stored && (n.info.access == .rw || n.info.access == .rwl)) || n == .CNT_EVENT || n == .CNT_MODE

/-- Registers kept while the part is Off (00 R22): in NOR, in MRAM or in eFuse, the repair map among them; a
SET_DEFAULTS still to be carried out is, for the next boot carries it out (19 R793). -/
def RegName.isKept (n : RegName) : Bool :=
  n == .SET_DEFAULTS || n.info.keep == .stored || n.info.keep == .mram || n.info.keep == .efuse || n.info.page == 0x630

/-- The keys of the registers that satisfy `p`. -/
def keysOf (p : RegName → Bool) : List Nat := (RegName.all.filter p).map (·.ctorIdx)

/-- The registers of a group that differ from reset. -/
def State.regsOf (s : State) (p : RegName → Bool) : Map Nat :=
  let ks := keysOf p
  s.regs.filter fun e => ks.contains (e.1 % 1024)

/-- The settings as CURRENT would hold them. -/
def State.settings (s : State) : Map Nat := s.regsOf RegName.isSetting

/-- A register set by its key. -/
def State.putKey (s : State) (k v : Nat) : State :=
  match RegName.all[k % 1024]? with
  | some n => s.put n (k / 1024) v
  | none => s

/-- The settings in force become those of a copy (19 R791). -/
def State.loadSettings (s : State) (m : Map Nat) : State :=
  let ks := keysOf RegName.isSetting
  let t : State := { s with regs := s.regs.filter fun e => !ks.contains (e.1 % 1024) }
  m.foldl (fun s e => s.putKey e.1 e.2) t

/-- A new copy of CURRENT holds the settings in force at the running firmware's version (19 R790, R792). -/
def State.saveSettings (s : State) : State := { s with bo.current := some (s.reg .SET_VERSION, s.settings) }

/-- The drive die on its own (01 R42, 09 R436, 10 R488): no valid frame from the logic die. -/
def State.driveAlone (s : State) : State := (s.laserOff.coilsOff.spFloat).sledHold

/-- A PFAIL record of an outcome is written and PFAIL_OUTCOME follows (03 R119, 20 R841, R842). -/
def State.pfailOutcome (s : State) (outcome : Nat) : State :=
  (s.set .PFAIL_OUTCOME outcome).report Code.pfail outcome

/-- The cluster being written is left broken on the medium (02 R89). -/
def State.burnBroken (s : State) : State :=
  match s.bu.block with
  | none => s
  | some k => match k.writing with
    | none => s
    | some a => s.burn a (k.cluster k.trailer false)

/-- The granules of pending merging-buffer entries and of writes in flight are poisoned (14 R644, 03 R128, 07
R331). -/
def State.poisonFlight (s : State) (inFlight : List Nat) : State :=
  if s.poolUp then (s.ca.merge.map (fun (e : MergeEntry) => e.line / 64) ++ inFlight).foldl State.poisonGranule s else s

/-- The record a port was receiving when a reset began is torn, dropped and counted (07 R332): that of each port into
whose bobbin a write is in flight. -/
def State.tornRecords (s : State) (inFlight : List Nat) : State :=
  [1, 2, 3, 4, 5, 6, 7].foldl (fun s p =>
    let (g0, g1) := s.bobGranules p
    if s.bobSize p != 0 && inFlight.any fun g => decide (g0 ≤ g) && decide (g ≤ g1) then s.portDrop p else s) s

/-- GPIO_8 to GPIO_23 turn off and their outputs become 0 (18 R761). -/
def State.banksOff (s : State) : State :=
  { s.set .GPIO_OUT (s.reg .GPIO_OUT % 256) with gp.banksOff := true }

/-- The mailbox slots of a logic die that loses its state: commands in flight are lost, and reported as not
applied (07 R332, 04 R167). -/
def State.slotsLost (s : State) : State :=
  let code (n : Nat) : Nat := if (s.slot n).busy then 2 else 0
  let slots := (List.range 4).map code
  let r := s.host.reset.map fun x => (x.1, x.2.1, slots)
  { s with host.slots := [{}, {}, {}, {}], host.claim := 0, host.releaseDue := false, host.reset := r,
           host.challenge := none, host.unlocked := false }

/-- What the logic die forgets at a reset (14 R620, 17 R734, 15 R682, 13 R587): registers named here, and the
working state of every block. The pool, the index, the marks and the ledger are the pool's. -/
def State.forget (s : State) : State :=
  let s := s.resetRegs fun n => n == .BEAD_VALUE || n == .BEAD_CARRY || n == .READY || n == .FATAL ||
    n == .DS_FATAL_CODE || n == .SIGNING_HALTED || n == .ENTROPY_STATE || n == .ENTRY_BUSY || n == .LOCK_STEP ||
    n == .CLK_CORE || n == .CLK_SERVO || n == .CLK_CHANNEL || n == .CLK_MEMORY || n == .BOOT_DEGRADED ||
    n == .SHOCK_HOLD || n == .DEFECT || n == .DEFECT_HOLD || n == .BQ_PENDING || n == .DISC_SERVICE ||
    n == .OOS_CODE || n == .CHECKER_FAIL || n == .L2_WAYS || n == .SCRATCH_BANKS || n == .CTX_CACHE ||
    n == .LAS_STATE || n == .MON_FAULT || n == .OVERPOWER || n == .VFY_FAULT || n == .ACC_STATE ||
    n == .RCV_STATE || n == .BQ_APPLY || n == .CAL_NOW
  let md : MediumS := { cart := s.md.cart, heads := s.md.heads }
  let sp : SpindleS := { at' := s.clock, restAt := s.sp.restAt, runUs := s.sp.runUs }
  let sv : ServoS := { inForce := s.sv.inForce, target := s.sv.target }
  let st : SelfTestS := { checkerBreaks := s.st.checkerBreaks, trainFail := s.st.trainFail,
                          winFailed := s.st.winFailed, poolDegraded := s.st.poolDegraded,
                          slopeWarned := s.st.slopeWarned }
  let sec : SecS := { devKey := s.sec.devKey, pub := s.sec.pub, streamKeys := s.sec.streamKeys }
  let pt : PortS := {}
  let tb : TimeS := {}
  let ca : CacheS := {}
  let un : UnitsS := {}
  { s with md := md, bu := { done := s.bu.done }, rd := [], sp := sp, sv := sv, las := { onUs := s.las.onUs }, cal := {}, st := st, sec := sec, ca := ca,
           un := un, pt := pt, tb := tb, bead := {} }

/-- The logic die resets and is to boot (07 R329, R332, 14 R644; 19 R781): the drive die acts on its own. -/
def State.logicReset (s : State) (inFlight : List Nat) : State :=
  let s := (((s.poisonFlight inFlight).tornRecords inFlight).burnBroken.driveAlone).hostReset.slotsLost
  let s := (List.range 10).foldl (fun s b => s.dropLease b) s.forget
  let s := s.banksOff.calAllDue
  { s with pw.mode := .boot, pw.swapAt := s.clock, pw.entry := none, pw.waking := none, pw.hibTried := false, pw.hold := false,
           pw.d2dDown := false, pw.d2dFailed := false,
           bo.readyAt := none, lm.engine := List.replicate 10 .ok, lm.segHeld := List.replicate 10 none }

/-- A power failure being handled ends with the reset: its outcome is recorded (20 R842, 03 R118). -/
def State.pfailCut (s : State) : State :=
  match s.pw.pfail with
  | none => s
  | some p =>
    if p.shut then s
    else
      let s := s.pfailOutcome (if s.bu.block.isSome || p.abandoned then 2 else 3)
      { s with pw.pfail := some { p with shut := true } }

/-- A master reset (07 Master reset, R329-R332): nothing to reset while the logic die has no power. -/
def State.masterReset (s : State) (inFlight : List Nat) : State :=
  match s.pw.mode with
  | .off => s
  | .hibernate => s
  | .boot => s
  | _ => { s.pfailCut.logicReset inFlight with bo.source := .master }

/-- MASTER_RESET (07, 20 R828, R842). -/
def execMasterReset (_cause : ResetCause) (inFlight : List Nat) (s : State) :
    Host.Outcome State Fault Refusal := .next (s.masterReset inFlight)

/-- What the part keeps with its supply removed: NOR, MRAM, eFuse, and what lies outside it (00 R22, 08 R389, 17
R743). Device time starts again from 0 (DESIGN CHOICE, log entry 23). -/
def State.powerLost (s : State) (mode : PowerMode) (up : Bool) : State :=
  let pw : PowerS := { mode := mode, wardenUp := up }
  let md : MediumS := { cart := s.md.cart, heads := s.md.heads }
  let sec : SecS := { devKey := s.sec.devKey, pub := s.sec.pub, streamKeys := s.sec.streamKeys }
  let bb : BlackBoxS := { bank0 := s.bb.bank0, bank1 := s.bb.bank1, word0 := s.bb.word0, word1 := s.bb.word1,
                            torn := s.bb.torn }
  let bo : BootS := { control := s.bo.control, slots := s.bo.slots, attempts := s.bo.attempts, current := s.bo.current,
                      previous := s.bo.previous }
  let gp : GpioS := { ext := s.gp.ext }
  let host : HostS := { mem := s.host.mem, perst := s.host.perst }
  let t : State := { pending := s.pending, regs := s.regsOf RegName.isKept, clock := s.clock, free := s.free }
  { t with pw := pw, md := md, sec := sec, bb := bb, bo := bo, gp := gp, host := host }

/-- SUPPLY_REMOVED (03 Table 3.4, R118; 17 Table 17.5): whatever was being written is left broken on the medium, and
half-written in the black box. -/
def execSupplyRemoved (s : State) : Host.Outcome State Fault Refusal :=
  .next (s.burnBroken.bbCut.powerLost .off false)

/-- POWER_ON_RESET (20 R817, 17 R741): the supply is present and the warden's reset releases. From a part that
had power it is a loss and return of the supply. -/
def execPowerOnReset (s : State) : Host.Outcome State Fault Refusal :=
  .next (
    let s := s.burnBroken.bbCut.powerLost .boot true
    let s : State := { s with host.subsys := (s.reg .SUBSYS_VID, s.reg .SUBSYS_ID) }
    let s := (s.set .TIME_UNSET 1).set .SLOW_RC 1
    s.bbScan)

/-- PWR_MAIN_EN_RAISE (20 R817): 1 ms after the warden's reset releases, or at an exit from Hibernate; never while
PFAIL_N is asserted. -/
def execPwrMainEnRaise (s : State) : Host.Outcome State Fault Refusal :=
  .next (
    let wanted := s.pw.mode == .boot || (s.pw.mode == .hibernate && s.pw.waking.isSome)
    if s.pw.wardenUp && wanted && !s.pw.pwrMainEn && s.pw.pfail.isNone && !s.pw.refFailed then
      { s with pw.pwrMainEn := true, pw.railAt := s.clock }
    else s)

/-- MAIN_PGOOD_RISE (20 R818, R819, R841): the logic die leaves reset; DDR_RESET_N is held low. -/
def execMainPgoodRise (s : State) : Host.Outcome State Fault Refusal :=
  .next (
    if !s.pw.pwrMainEn || s.pw.mainPgood then s
    else
      let s : State := { s with pw.mainPgood := true, pw.ddrResetN := false, pw.railAt := s.clock,
                                pw.railFault := false, pw.driveDie := true }
      let s := s.set .CLK_REF25 1
      if s.pw.mode = .hibernate then
        { s with pw.mode := .boot, pw.waking := none, bo.source := .hibernate }
      else s)

/-- A failed start of the 25 MHz reference (03 R126, 20 R818): two more tries, then the fault line, in the state
that stands. -/
def State.refFails (s : State) : State :=
  let t : State := { s with pw.pwrMainEn := false, pw.mainPgood := false, pw.refTries := s.pw.refTries + 1,
                            pw.railAt := s.clock }
  let t := t.set .CLK_REF25 0
  if 3 ≤ t.pw.refTries then
    let u : State := { t with pw.refFailed := true, pw.waking := none }
    u.report Code.referenceFailed
  else t

/-- MAIN_PGOOD_TIMEOUT (20 R818): not high within 20 ms of PWR_MAIN_EN rising. -/
def execMainPgoodTimeout (s : State) : Host.Outcome State Fault Refusal :=
  .next (if s.pw.pwrMainEn && !s.pw.mainPgood && decide (s.pw.railAt + 20000 ≤ s.clock) then s.refFails else s)

/-- REFERENCE_START_TIMEOUT (03 R126): the reference does not start within 20 ms. -/
def execReferenceStartTimeout (s : State) : Host.Outcome State Fault Refusal :=
  .next (
    if s.pw.mode ≠ .boot ∨ s.pw.mainPgood = false ∨ s.clock < s.pw.railAt + 20000 then s
    else
      let src := s.bo.source
      let t := s.refFails
      if src = .hibernate ∧ t.pw.refFailed = false then
        { t with pw.mode := .hibernate, pw.waking := some .hibernate }
      else if src = .hibernate then { t with pw.mode := .hibernate }
      else t)

/-- MAIN_PGOOD_FALL (20 R841): with PWR_MAIN_EN high and PFAIL_N not asserted the logic die is held in reset; with
PFAIL_N asserted the supply has gone; with PWR_MAIN_EN low the rails were switched off. -/
def execMainPgoodFall (s : State) : Host.Outcome State Fault Refusal :=
  .next (
    if !s.pw.mainPgood then s
    else if !s.pw.pwrMainEn then { s with pw.mainPgood := false }
    else
      let s := if s.pw.pfail.isNone then s.pfailOutcome (if s.bu.block.isSome then 2 else 3) else s
      let s := if s.pw.mode = .boot then s else { s.logicReset [] with bo.source := .master }
      { s with pw.mainPgood := false, pw.railFault := true, pw.railAt := s.clock })

/-- RAIL_LOW_VLAS_VANA (20 R844). -/
def execRailLowVlasVana (s : State) : Host.Outcome State Fault Refusal :=
  .next (s.cutWrite.laserOff.coilsOff)

/-! ## The boot -/

/-- A slot is complete, and GOOD (19 R779, R783). -/
def State.slotComplete (s : State) (k : Nat) : Bool := if k = 0 then s.on .A_COMPLETE else s.on .B_COMPLETE

/-- A slot's GOOD mark. -/
def State.slotGood (s : State) (k : Nat) : Bool := if k = 0 then s.on .A_GOOD else s.on .B_GOOD

/-- What the boot control block holds now (19 R777). -/
def State.controlNow (s : State) (seq : Nat) : ControlCopy :=
  { seq := seq, staged := (s.reg .STAGED_A, s.reg .STAGED_B), complete := (s.on .A_COMPLETE, s.on .B_COMPLETE),
    good := (s.on .A_GOOD, s.on .B_GOOD), attempts := (s.bo.attempts.getD 0 0, s.bo.attempts.getD 1 0),
    next := s.reg .NEXT_SLOT }

/-- A change of the boot control block is written to the copy with the older sequence (19 R777). -/
def State.saveControl (s : State) : State :=
  let (a, b) := s.bo.control
  if a.seq ≤ b.seq then { s with bo.control := (s.controlNow (b.seq + 1), b) }
  else { s with bo.control := (a, s.controlNow (a.seq + 1)) }

/-- A slot's attempt count is set; ATTEMPTS shows that of the next-boot slot (19 Table 19.6). -/
def State.setAttempts (s : State) (k n : Nat) : State :=
  let t : State := { s with bo.attempts := s.bo.attempts.set k n }
  (t.set .ATTEMPTS (t.bo.attempts.getD (t.reg .NEXT_SLOT) 0)).saveControl

/-- The next-boot slot is set. -/
def State.setNext (s : State) (k : Nat) : State :=
  let t := s.set .NEXT_SLOT k
  (t.set .ATTEMPTS (t.bo.attempts.getD k 0)).saveControl

/-- The version a slot's header gives, or 0 for an incomplete slot (19 Table 19.6). -/
def State.slotVersion (s : State) (k : Nat) (complete : Bool) : Nat :=
  if complete then leNat ((s.bo.slots.getD k []).readN 8 4) else 0

/-- What the boot control block holds is that of a copy. -/
def State.takeControl (s : State) (c : ControlCopy) : State :=
  let t : State := { s with bo.attempts := [c.attempts.1, c.attempts.2] }
  let t := ((t.set .STAGED_A c.staged.1).set .A_COMPLETE (b2n c.complete.1)).set .A_GOOD (b2n c.good.1)
  let t := ((t.set .STAGED_B c.staged.2).set .B_COMPLETE (b2n c.complete.2)).set .B_GOOD (b2n c.good.2)
  let t := (t.set .FW_VERSION_A (t.slotVersion 0 c.complete.1)).set .FW_VERSION_B (t.slotVersion 1 c.complete.2)
  (t.set .NEXT_SLOT c.next).set .ATTEMPTS (if c.next = 0 then c.attempts.1 else c.attempts.2)

/-- The boot control block as a boot takes it (19 R777): the copy whose CRC passes and whose sequence is higher. That copy
is what stands, unless its CRC fails; where both fail no slot is complete (DEDUCED, log entry 137). -/
def State.loadControl (s : State) (ok : Bool × Bool) : State :=
  let (a, b) := s.bo.control
  let newest := if b.seq < a.seq then ok.1 else ok.2
  if newest then s
  else if b.seq < a.seq ∧ ok.2 = true then s.takeControl b
  else if a.seq ≤ b.seq ∧ ok.1 = true then s.takeControl a
  else s.takeControl {}

/-- The boot ROM's choice (19 R782-R784): the slot it runs, or none; an unproven slot's attempt is counted before
the load; a slot that fails verification is bad for this boot. FELL_BACK tells whether this boot passed over the
next-boot slot (Table 19.6; DEDUCED, log entry 137). -/
def State.chooseSlot (s : State) (ok : Bool × Bool) : Option Nat × State :=
  let verify (k : Nat) : Bool := if k = 0 then ok.1 else ok.2
  let n := s.reg .NEXT_SLOT % 2
  let other := 1 - n
  let good := s.slotGood n
  let first := s.slotComplete n && (good || decide (s.bo.attempts.getD n 0 < 3))
  let s := s.set .FELL_BACK 0
  let s := if first && !good then s.setAttempts n (s.bo.attempts.getD n 0 + 1) else s
  if first && verify n then (some n, s)
  else if s.slotComplete other && s.slotGood other && verify other then
    let s := s.set .FELL_BACK 1
    let s := if good then s
      else ((s.setNext other).bump .FALLBACKS).reportBoot Code.bootFallback n
    (some other, s)
  else (none, s)

/-- IH_SET_VERSION of a slot's image (19 Table 19.3). -/
def State.slotSetVersion (s : State) (k : Nat) : Nat := leNat ((s.bo.slots.getD k []).readN 20 2)

/-- The settings of a boot (19 R791-R793, 03 R123). -/
def State.bootSettings (s : State) (ver : Nat) (ok migrationOk : Bool) : State :=
  let s := s.set .SET_VERSION ver
  let defaults (s : State) : State :=
    ((s.loadSettings []).set .SET_SOURCE 3).report Code.migrationFailed ver
  let s := if s.on .SET_DEFAULTS then
      { s with bo.current := (s.bo.current.map fun (c : Nat × Map Nat) => (c.1, [])) }.set .SET_DEFAULTS 0 else s
  let cur := if ok then s.bo.current else none
  let s := match cur with
    | none => defaults s
    | some (v, m) =>
      if v = ver then (s.loadSettings m).set .SET_SOURCE 0
      else if v < ver then
        if migrationOk then
          let m' : Map Nat := m.map fun (e : Nat × Nat) => (e.1, Config.migrateValue ver e.1 e.2)
          let t := ((s.loadSettings m').set .SET_SOURCE 1)
          { t with bo.previous := some (v, m), bo.current := some (ver, t.settings) }
        else defaults s
      else match s.bo.previous with
        | some (pv, pm) => if pv = ver then (s.loadSettings pm).set .SET_SOURCE 2 else defaults s
        | none => defaults s
  if s.on .HOLDUP_LOCK then s.set .HOLDUP_MS (s.reg .HOLDUP_MRAM) else s

/-- Where the records of a bobbin that lie in its last indexed granule stop passing their CRC (07 R329, 15 R649);
the answer keeps the whole records. -/
def State.walk (s : State) (b : Nat) (last : Nat) : List Rec → List Rec
  | [] => []
  | r :: rs => if r.off / 4096 < last ∨ s.recCrcOk b r = true then r :: s.walk b last rs else []

/-- A poisoned granule of a bobbin after the walk (07 R330): `o` is the stream offset of its first byte. -/
def State.mendGranule (s : State) (b g o : Nat) : State :=
  let tail := s.get .TAIL_OFFSET b
  let bad := (s.recs b).any fun r => decide (r.off < o + 4096) && decide (o < r.off + r.len) && !s.recCrcOk b r
  if tail ≤ o then s.cleanGranule g
  else if o + 4096 ≤ tail then s
  else if bad then
    let t := s.put .TAIL_OFFSET b (o + 4096)
    { t with lm.recs := t.lm.recs.modify b fun l => l.filter fun r => r.off + r.len ≤ o + 4096 }
  else
    { s with lm.mem := s.lm.mem.zero (4096 * g + (tail - o)) (o + 4096 - tail), lm.poison := s.lm.poison.erase g,
             lm.ledger := s.lm.ledger.erase g }

/-- A bobbin's tail is rebuilt after a master reset (07 R329, R330). -/
def State.rebuild (s : State) (b : Nat) : State :=
  if s.bobSize b = 0 then s
  else
    let s := s.bump .RESET_ROLLBACKS
    let l := s.recs b
    let kept := match l.getLast? with
      | none => []
      | some r => s.walk b (r.off / 4096) l
    let s := if kept.length < l.length then (s.bump .CRC_REJECTS).pulse Ev.crcRejects else s
    let s : State := { s with lm.recs := s.lm.recs.set b kept }
    let s := match kept.getLast? with
      | none => s
      | some r => (s.put .TAIL_OFFSET b (r.off + r.len)).put .RC_SEQ_NEXT b (r.seq + 1)
    let (g0, g1) := s.bobGranules b
    let head := granFloor (s.get .HEAD_OFFSET b)
    let size := s.bobSize b
    let at' (g : Nat) : Nat := head + (4096 * g + size - s.ringAddr b head) % size
    let s := (s.lm.poison.filter fun g => g0 ≤ g && g ≤ g1).foldl (fun s g => s.mendGranule b g (at' g)) s
    s.bobFlags b

/-- The pool at a boot (07 R295, R296, R329-R331, R336, R337, R856): fresh and empty where it was lost or unpowered;
rebuilt after a master reset. `bad` masks the channels that fail. -/
def State.bootPool (s : State) (poolMib bad : Nat) : State :=
  let live := s.bo.source == .master && s.lm.formed && !s.poolLost && s.reg .POOL_STATE != 0
  let s : State := { s with pw.ddrResetN := true, st.trainFail := [], lm.lostAt := none, lm.formed := true }
  let s := (s.set .POOL_CH0_TRAINED (b2n !(bit bad 0))).set .POOL_CH1_TRAINED (b2n !(bit bad 1))
  if bad = 0 ∧ live = true then
    let s := (List.range 10).foldl State.rebuild (s.set .POOL_STATE 1)
    (s.deriveReed.deriveHeddle.reopen 4).unbuffer
  else
    let s := if live || s.bo.source == .powerOn then (List.range 10).foldl (fun s b => s.put .TSAVED_VALID b 0) s else s
    let s := ((s.set .POOL_MIB poolMib).formBobbins.emptyBobbins).set .POOL_STATE 1
    if bad ≠ 0 ∨ s.un.pool = true then s.losePool bad
    else s.deriveReed.deriveHeddle.grantAll.unbuffer

/-- Ports as a boot leaves them (08 R391): enabled ones not heard yet. -/
def State.bootPorts (s : State) : State :=
  let s := (List.range 4).foldl (fun s i => s.put .CAM_STATE (i + 1) (s.get .CAM_ENABLE (i + 1))) s
  let s := [5, 6].foldl (fun s i => s.put .SER_STATE i (s.get .SER_ENABLE i)) s
  s.set .CAN_STATE (s.reg .CAN_ENABLE)

/-- Units of a row of 15 Table 15.3. -/
def rowUnits : Nat → Nat
  | 0 => 16
  | 1 => 32
  | 2 => 16
  | 3 => 8
  | 4 => 5
  | 9 => 16
  | _ => 1

/-- A checker broken by an injection (16 Table 16.4): which unit of its row the byte lane belongs to is a free value
(log entry 26); the cores are units 10 and 11. -/
def State.brokenUnit (s : State) (row : Nat) : Nat × State :=
  let (v, s) := s.draw
  (if row = 5 then 10 + v % 2 else v % rowUnits row, s)

/-- A checker fails at boot: one of Table 15.3, or (row 10) that of the windows' save buffer (16 R721). -/
def State.bootChecker (s : State) (row unit : Nat) : State :=
  if row < 10 then s.checkerFailed row unit
  else
    let t : State := { s with st.windowsOff := true }
    (t.report Code.windowsOff).updateHealth

/-- The memory tests and checkers of a boot (15 R651, R652, 16 R687, R688, R720, R721): broken checkers armed by an
injection fail too. -/
def State.bootTests (s : State) (inp : BootInputs) : State :=
  let s := if inp.mapOk then s
    else (s.resetRegs fun n => n.info.page == 0x630 || n == .MAP_USED || n == .MAP_FULL).report Code.repairMapLost
  let armed := s.st.checkerBreaks
  let s : State := { s with st.checkerBreaks := [] }
  let s := inp.checkers.foldl (fun s c => s.bootChecker c.1 c.2) s
  let s := armed.foldl (fun (s : State) c =>
    let (u, s) := s.brokenUnit c.1
    s.bootChecker c.1 u) s
  inp.macros.foldl (fun s m =>
    let (ok, s) := s.repair m.1 m.2 1
    if ok then s else s.dropUnit (macroUnit m.1).1 (macroUnit m.1).2) s

/-- Recovery over the service port (19 R794, R798, R803). -/
def State.enterRecovery (s : State) : State :=
  let s := ((s.set .BOOT_MODE 2).set .RUN_SLOT 0xFF).bump .RECOVERIES
  let s := ((s.set .LINK_STATE 0).set .LINK_SPEED 0).set .LINK_WIDTH 0
  let s := (s.set .DISC_SERVICE 3).reportBoot Code.recoveryBoot
  s.acceptWaiting

/-- Run is reached (19 R782, R785, R786, Table 19.4; 03 R105, R107, R113; 16 R689). The notice that marks an exit
from Hibernate has no code in the spec: its code is a free value (log entry 24). -/
def State.reachRun (s : State) (inp : BootInputs) (slot : Nat) : State :=
  let s := ((((s.set .CLK_CORE 1).set .CLK_MEMORY 1).set .CORE_MHZ 1200).set .LAST_BOOT_MS inp.bootMs)
  let s : State := { s with pw.mode := .run, pw.swapAt := s.clock, pw.waking := none, time := s.now, gp.banksOff := false,
                            bo.readyAt := some s.clock, host.ltrNs := some 20000, pw.refTries := 0 }
  let s := s.set .GOOD_PENDING (b2n (!s.slotGood slot))
  let s := if s.on .TIME_UNSET then s.set .TIME_STATE 0 else s.set .TIME_STATE 1
  let s := s.sledPowerUp.restartIdle
  let s := s.set .LD_STATE (if s.md.cart.isSome then 2 else 0)
  let s := if s.pw.pfail.isNone ∧ s.host.reset = none then s.set .READY 1 else s
  let s := if s.bo.source = .hibernate then
      let (v, s) := s.draw
      s.noticeDrained { code := v % 65536, sev := 0, seq := 0, time := s.now, data := 0 }
    else s
  s.laneHealth.acceptWaiting.serveP8

/-- Feed-forward gains and delays and loop gains as set come into force at once (11 R514, Table 11.10). -/
def State.takeGains (s : State) : State :=
  let l : List Int := [s.getInt .FF_GAIN_F 0, s.getInt .FF_GAIN_T 0, (s.reg .FF_DELAY_F_US : Int), (s.reg .FF_DELAY_T_US : Int)]
    ++ (List.range 3).map fun (k : Nat) => (s.get .LOOP_GAIN k : Int)
  { s with sv.inForce := s.sv.inForce.take 4 ++ l, sv.target := s.sv.target.take 4 ++ l }

/-- The part of a boot that the chosen firmware carries out (19 R782, R789-R792, 15 R671, R675). -/
def State.bootRun (s : State) (inp : BootInputs) (slot : Nat) : State :=
  let s := (s.set .RUN_SLOT slot).set .FW_SLOT slot
  let s := s.set .FW_VERSION (if slot = 0 then s.reg .FW_VERSION_A else s.reg .FW_VERSION_B)
  let s := s.set .BOOT_MODE (b2n (s.on .BOOT_DEGRADED))
  let s := s.bootSettings (s.slotSetVersion slot) inp.settingsOk inp.migrationOk
  let s := (List.range 60).foldl (fun s i => s.put .BQ_ACTIVE i (s.get .BQ_COEF i)) s
  let s := s.applyTable.takeGains
  let bad := inp.trainFail ||| (s.st.trainFail.map (2 ^ ·)).sum
  let s := s.bootPool inp.poolMib (bad % 4)
  let s := if s.on .COMMISSIONED ∧ inp.keyOk = false then
      { s.set .KEY_LOST 1 with sec.devKey := none }.report Code.keyLost
    else s
  (s.bootPorts.calAllDue).reachRun inp slot

/-- BOOT (19 R781-R786, 16 R687-R689, R720; 15 R651, R652; 03 R105): the boot ROM and the start of the firmware. -/
def execBoot (inp : BootInputs) (s : State) : Host.Outcome State Fault Refusal :=
  .next (
    if s.pw.mode ≠ .boot ∨ s.pw.mainPgood = false ∨ s.pw.refFailed = true ∨ s.reg .BOOT_MODE = 2 then s
    else
      let s := (s.bump .BOOTS).bootTests inp
      let mib := inp.sfdpMib.getD 0
      let s := s.set .NOR_MIB mib
      if mib < 32 then s.enterRecovery
      else
        match (s.loadControl inp.controlOk).chooseSlot inp.slotOk with
        | (none, s) => s.enterRecovery
        | (some slot, s) => s.bootRun inp slot)

/-- GOOD_DELAY_EXPIRY (19 R785): READY has been 1 for GOOD_DELAY_S without a reset. -/
def execGoodDelayExpiry (s : State) : Host.Outcome State Fault Refusal :=
  .next (
    let slot := s.reg .RUN_SLOT
    if s.on .GOOD_PENDING && decide (slot < 2) &&
        s.bo.readyAt.any (fun t => decide (t + 1000000 * s.reg .GOOD_DELAY_S ≤ s.clock)) then
      let s := (if slot = 0 then s.set .A_GOOD 1 else s.set .B_GOOD 1).set .GOOD_PENDING 0
      (s.setAttempts slot 0).report Code.bootGood slot
    else s)

/-- RECOVERY_REBOOT (19 R797): 1 s after the P8 claim is released, with a complete image loaded. -/
def execRecoveryReboot (s : State) : Host.Outcome State Fault Refusal :=
  .next (
    if s.reg .BOOT_MODE = 2 ∧ s.bo.rcvDone = true ∧ s.host.claim ≠ 2 ∧ s.pw.mode = .boot ∧
        s.host.releasedAt + 1000000 ≤ s.clock then
      { s.forget.set .BOOT_MODE 0 with bo.rcvDone := false }
    else s)

/-- The core or memory PLL loses lock (03 R128): granules in flight poisoned, a record, the logic die reset. R128 speaks of
Run; a loss in Doze, where the two PLLs run too, is treated the same (DESIGN CHOICE, log entry 129). -/
def execCorePllLoss (memoryPll : Bool) (inFlight : List Nat) (s : State) : Host.Outcome State Fault Refusal :=
  .next (
    if s.pw.mode = .run ∨ s.pw.mode = .doze then
      (s.report Code.corePllLoss (if memoryPll then 1 else 0)).masterReset inFlight
    else s)

/-- CORE_WATCHDOG_EXPIRY (14 R621): a record that names the core by its identity, then a master reset. -/
def execCoreWatchdogExpiry (core : Nat) (inFlight : List Nat) (s : State) : Host.Outcome State Fault Refusal :=
  checked (core < 2) (
    if s.pw.mode = .run ∨ s.pw.mode = .doze then
      (s.report Code.coreWatchdog (10 + core)).masterReset inFlight
    else s)

/-- SECURITY_WATCHDOG_EXPIRY (14 R623, 15 R684): the security core is reset; signing waits until its entropy source
has warmed up again. -/
def execSecurityWatchdogExpiry (s : State) : Host.Outcome State Fault Refusal :=
  .next (
    if s.pw.mode = .run ∨ s.pw.mode = .doze then
      let s := (s.report Code.securityWatchdog).securityReset
      { s with sec.coreDown := true }
    else s)

end Sys2Proof.Machine
end

