-- ==== Sys2Proof/Machine/Cache.lean ====
section
/-! DEFINITION. The shared L2, the merging buffer and the range engine (14), and the crossbar accesses that meet
them (07 R311-R317, R326). -/

namespace Sys2Proof.Machine

/-- A parity error at a place of the L2: the third within 60 s passes it to self-repair; without a spare that way of
that set is not allocated (14 R642); with the map full the way leaves use (16 R712). -/
def State.l2Hit (s : State) (k : Nat) : State :=
  let ts := s.clock :: ((Map.get s.ca.hits k).getD []).filter fun t => decide (s.clock < t + 60000000)
  if ts.length < 3 then { s with ca.hits := Map.put s.ca.hits k ts }
  else
    let s : State := { s with ca.hits := Map.erase s.ca.hits k }
    match s.takeSpare (l2Cell k).1 1 (l2Cell k).2.1 3 with
    | some t => t
    | none => if 256 ≤ s.reg .MAP_USED then s.dropUnit 0 (k % 16) else
      let t := s.l2Drop k
      { t with ca.shut := t.ca.shut ++ [k] }

/-- The line at a place of the L2 raised a data parity error: it is refetched and keeps its lock (14 R640, R642; 15 R648).
`same` says that the bytes themselves may be good. -/
def State.l2Recover (s : State) (k : Nat) (c : CacheLine) (same : Bool) : State :=
  let data := s.coreLine c.line
  let fresh := (s.entriesOf c.line).foldl (fun l e => overlay l e.bytes) (s.dramLine c.line)
  ((s.parityMet 0 (same && fresh == data)).l2Put k (.of c.line fresh c.locked)).l2Hit k

/-- L2_DATA_PARITY (14 R640, R642): the line is refetched and keeps its lock. -/
def execL2DataParity (line : Nat) (sameBytes : Bool) (s : State) : Host.Outcome State Fault Refusal :=
  .next (
    match s.l2Find line with
    | none => s
    | some k => match Map.get s.ca.l2 k with
      | none => s
      | some c => s.l2Recover k c sameBytes)

/-- A line that a core reads passes its parity check first (14 R640, 15 R647). -/
def State.l2Check (s : State) (line : Nat) : State :=
  match s.l2Find line with
  | none => s
  | some k => match Map.get s.ca.l2 k with
    | none => s
    | some c => if parityGood c.data c.par then s else s.l2Recover k c true

/-- A core read of bytes of one line (14 R618, R628, R630): from the L2, its parity checked, or from DRAM with a fill once
no entry for the line is waiting. -/
def State.coreRead (s : State) (addr n : Nat) : State :=
  let line := addr / 64
  let s := s.l2Check line
  let bs := bytesAt (s.coreLine line) (addr % 64) n
  let s := match s.l2Find line with
    | some _ => s.pulse Ev.l2ReadHits
    | none =>
      let t := s.pulse Ev.l2ReadMisses
      if (t.entriesOf line).isEmpty then t.l2Fill line false else t
  s.readReturns (s.shown addr bs) false

/-- A core write, which stalls with no entry free; a stalled core's later writes wait behind it (14 R627). -/
def State.coreWrite (s : State) (core addr : Nat) (bs : List Byte) : State :=
  let wait : State := { s with ca.stalled := s.ca.stalled ++ [(core, addr, bs)] }
  if s.ca.stalled.any fun (w : Nat × Nat × List Byte) => w.1 == core then wait
  else match s.mergeTake core addr bs with
    | some t => t
    | none => wait

/-- MERGE_DRAIN (14 R626, R643); the drain of a line in a granule under test stalls (16 R692). -/
def execMergeDrain (s : State) : Host.Outcome State Fault Refusal :=
  .next (if s.ca.merge.head?.any fun e => s.underTest (e.line / 64) then s else s.drainOldest)

/-- The last entry of a line closes to merging, and the read waits for its drain (14 R631). -/
def State.deviceWait (s : State) (agent addr n id : Nat) : State :=
  let t : State := { s with ca.merge := s.ca.merge.map fun (x : MergeEntry) =>
    if x.line == addr / 64 then { x with closed := true } else x }
  let t : State := { t with ca.reads := t.ca.reads ++ [{ agent := agent, addr := addr, len := n, id := id }] }
  t.pulse Ev.deviceReadWaits

/-- The contents of a granule under test, from the save buffer (16 R692). -/
def State.fromSave (s : State) (addr n : Nat) : List Byte :=
  match s.st.window with
  | none => []
  | some w => bytesAt w.saved (addr % 4096) n

/-- A device-side write: into a granule under test it stalls until the window closes (16 R692). -/
def State.deviceWrite (s : State) (agent addr : Nat) (bs : List Byte) : State :=
  if s.underTest (addr / 4096) then
    { s with st.window := s.st.window.map fun (w : TestWindow) => { w with stalled := w.stalled ++ [(agent, addr, bs)] } }
  else { s with lm.mem := s.lm.mem.writeN addr bs }

/-- A device-side read of bytes of one line (14 R631, 07 R326), from the save buffer where its granule is under test. -/
def State.deviceRead (s : State) (agent addr n : Nat) : State :=
  match (s.entriesOf (addr / 64)).getLast? with
  | some e => s.deviceWait agent addr n e.id
  | none =>
    if s.poisoned (addr / 4096) then s.readReturns (List.replicate n 0) true
    else if s.underTest (addr / 4096) then s.readReturns (s.shown addr (s.fromSave addr n)) false
    else s.readReturns (s.shown addr (s.lm.mem.readN addr n)) false

/-- Agents 10 and 11 are Core A and Core B, which reach the pool through the L2 (14 R618, Table 14.2). -/
def isCore (agent : Nat) : Bool := agent == 10 || agent == 11

/-- An access the tables permit is carried out. -/
def State.access (s : State) (agent addr : Nat) (write : Bool) (data : List Byte) : State :=
  match isCore agent, write with
  | true, true => s.coreWrite (agent - 10) addr data
  | true, false =>
    if s.poisoned (addr / 4096) && (s.l2Find (addr / 64)).isNone then
      s.readReturns (List.replicate data.length 0) true
    else s.coreRead addr data.length
  | false, true => s.deviceWrite agent addr data
  | false, false => s.deviceRead agent addr data.length

/-- An access of at most 64 bytes within one line (07 R311-R317, R322): checked by the heddle and then the reed table.
A refused access, and one to a pool that is not up, writes nothing or reads zeros flagged as poison. -/
def State.crossbar (s : State) (agent addr : Nat) (write : Bool) (data : List Byte) : State :=
  let g := addr / 4096
  let refuse (s : State) : State :=
    if write then s else s.readReturns (List.replicate data.length 0) true
  if !s.poolUp then refuse s
  else
    let s := if write then s.wrapAhead agent addr data.length else s
    if !s.heddleOk agent addr data.length write then
      (((refuse s).bump .HEDDLE_DENY).pulse Ev.heddleDeny).revokeAgent agent
    else if !s.reedOk agent g write then ((refuse s).mismatch g).revokeAgent agent
    else s.access agent addr write data

/-- An access lies within one line. -/
def inLine (addr n : Nat) : Bool := n != 0 && addr / 64 == (addr + n - 1) / 64

/-- CROSSBAR_ACCESS (07 R311-R317, R322, R326). A read's length is that of `data`. -/
def execCrossbarAccess (agent addr : Nat) (write : Bool) (data : List Byte) (s : State) :
    Host.Outcome State Fault Refusal :=
  checked (agent < 16 && inLine addr data.length) (s.crossbar agent addr write data)

/-- The cores run: Run, or Doze at the lower clock (14 Table 14.2). -/
def State.coresRun (s : State) : Bool := s.pw.mode == .run || s.pw.mode == .doze

/-- CORE_WRITE (14 R625, R627). -/
def execCoreWrite (core addr : Nat) (data : List Byte) (s : State) : Host.Outcome State Fault Refusal :=
  checked (core < 2 && inLine addr data.length) (
    if s.coresRun && !s.un.cores.contains (10 + core) then s.crossbar (10 + core) addr true data else s)

/-- DEVICE_READ_MATCH (14 R631): a device-side read of a line that has an entry. -/
def execDeviceReadMatch (agent addr : Nat) (s : State) : Host.Outcome State Fault Refusal :=
  checked (agent < 16 && !isCore agent) (
    match (s.entriesOf (addr / 64)).isEmpty with
    | true => s
    | false => s.crossbar agent (addr / 64 * 64) false (List.replicate 64 0))

/-- DRAIN_BARRIER (14 R629): complete at once with no entry in use. -/
def execDrainBarrier (core : Nat) (s : State) : Host.Outcome State Fault Refusal :=
  checked (core < 2) (
    if !s.coresRun then s
    else
      let s := s.pulse Ev.drains
      let d : Drain := { core := core, ids := s.ca.merge.map (·.id), since := s.clock }
      if d.ids.isEmpty then s else { s with ca.drains := s.ca.drains ++ [d] })

/-- DRAIN_TIMEOUT (14 R645): 1 ms after its issue an uncompleted DRAIN is fatal. -/
def execDrainTimeout (core : Nat) (inFlight : List Nat) (s : State) : Host.Outcome State Fault Refusal :=
  checked (core < 2) (
    if s.ca.drains.any fun (d : Drain) => d.core == core && decide (d.since + 1000 ≤ s.clock) then
      (s.report Code.drainTimeout (10 + core)).masterReset inFlight
    else s)

/-! ## The range engine -/

/-- The most lines of a set that may be locked (14 R636, 15 Table 15.3). -/
def State.lockLimit (s : State) : Nat := min 12 (16 - s.un.ways.length - 4)

/-- Locked lines of a line's set. -/
def State.lockedIn (s : State) (line : Nat) : Nat :=
  ((List.range 16).filter fun w =>
    match Map.get s.ca.l2 (16 * l2Set line + w) with
    | none => false
    | some c => c.locked).length

/-- A line of the range engine's operation waits to be filled, or is filled at once (14 R630). -/
def State.rangeFill (s : State) (line : Nat) (locked : Bool) : State :=
  if (s.entriesOf line).isEmpty then
    if (s.l2Find line).isSome then s.l2Refill line else s.l2Fill line locked
  else match s.ca.range with
    | none => s
    | some r => { s with ca.range := some { r with fills := r.fills ++ [(line, locked)] } }

/-- A line is skipped by a LOCK (14 R635). -/
def State.rangeSkip (s : State) : State :=
  match s.ca.range with
  | none => s
  | some r => { s with ca.range := some { r with skipped := r.skipped + 1 } }

/-- A line's lock set or cleared. -/
def State.l2Lock (s : State) (line : Nat) (on : Bool) : State :=
  match s.l2Find line with
  | none => s
  | some k => match Map.get s.ca.l2 k with
    | none => s
    | some c => s.l2Put k { c with locked := on }

/-- An operation's effect on one line of its range (14 Table 14.6). -/
def State.rangeLine (s : State) (kind : RangeKind) (line : Nat) : State :=
  let here := (s.l2Find line).isSome
  match kind with
  | .preload => if here || !s.l2On then s else s.rangeFill line false
  | .invalidate => if s.isLocked line then s.rangeFill line true else s.l2Invalidate line
  | .lock =>
    if s.isLocked line then s
    else if !here || decide (s.lockLimit ≤ s.lockedIn line) then s.rangeSkip
    else s.l2Lock line true
  | .unlock => s.l2Lock line false

/-- Ranges without the lines from `a` on, `n` of them. -/
def cutRanges (a n : Nat) (rs : List (Nat × Nat)) : List (Nat × Nat) :=
  rs.flatMap fun r =>
    (if r.1 < a then [(r.1, min r.2 (a - r.1))] else []) ++
      (if a + n < r.1 + r.2 then [(max r.1 (a + n), r.1 + r.2 - max r.1 (a + n))] else [])

/-- The ranges Tchimi keeps locked, after an operation (14 R641). -/
def locksAfter (kind : RangeKind) (a n : Nat) (rs : List (Nat × Nat)) : List (Nat × Nat) :=
  match kind with
  | .lock => cutRanges a n rs ++ [(a, n)]
  | .unlock => cutRanges a n rs
  | _ => rs

/-- An operation is offered to the range engine (14 R634): refused while one is under way. -/
def State.rangeStart (s : State) (kind : RangeKind) (line count : Nat) : State :=
  if !s.coresRun || s.ca.range.isSome then s
  else
    let t : State := { s with ca.range := some { kind := kind, line := line, count := count },
                              ca.locks := locksAfter kind line count s.ca.locks }
    (List.range count).foldl (fun s i => s.rangeLine kind (line + i)) t

/-- A range the engine takes (14 R634): 1 to 131,072 lines. -/
def rangeOk (count : Nat) : Bool := decide (1 ≤ count) && decide (count ≤ 131072)

/-- RANGE_PRELOAD (14 R634, Table 14.6). -/
def execRangePreload (line count : Nat) (s : State) : Host.Outcome State Fault Refusal :=
  checked (rangeOk count) (s.rangeStart .preload line count)

/-- RANGE_INVALIDATE (14 R634, Table 14.6). -/
def execRangeInvalidate (line count : Nat) (s : State) : Host.Outcome State Fault Refusal :=
  checked (rangeOk count) (s.rangeStart .invalidate line count)

/-- RANGE_LOCK (14 R634-R636, Table 14.6). -/
def execRangeLock (line count : Nat) (s : State) : Host.Outcome State Fault Refusal :=
  checked (rangeOk count) (s.rangeStart .lock line count)

/-- RANGE_UNLOCK (14 R634, Table 14.6). -/
def execRangeUnlock (line count : Nat) (s : State) : Host.Outcome State Fault Refusal :=
  checked (rangeOk count) (s.rangeStart .unlock line count)

/-- RANGE_OP_DONE (14 R635): the lines skipped are reported and RE_BUSY ends, once no fill still waits. -/
def execRangeOpDone (s : State) : Host.Outcome State Fault Refusal :=
  .next (
    match s.ca.range with
    | none => s
    | some r => if r.fills.isEmpty then { s with ca.range := none, ca.skipped := r.skipped } else s)

/-! ## Parity -/

/-- L2_TAG_PARITY (14 R641, R642): the way is invalid and unlocked; a line of a locked range is fetched and locked
again. -/
def execL2TagParity (line : Nat) (s : State) : Host.Outcome State Fault Refusal :=
  .next (
    match s.l2Find line with
    | none => s
    | some k =>
      let s := ((s.parityMet 0 false).l2Drop k).l2Hit k
      if s.ca.locks.any fun (r : Nat × Nat) => decide (r.1 ≤ line) && decide (line < r.1 + r.2) then
        s.l2Fill line (decide (s.lockedIn line < s.lockLimit))
      else s)

/-- MERGE_PARITY (14 R643): a parity bit of the entry is wrong; it will drain with bad parity, and the core that wrote it receives the fault. -/
def execMergeParity (entry : Nat) (s : State) : Host.Outcome State Fault Refusal :=
  .next (
    match s.ca.merge[entry]? with
    | none => s
    | some e =>
      let s := s.parityMet 0 false
      let upset (x : MergeEntry) : MergeEntry := match x.par with
        | [] => { x with bad := true }
        | (o, p) :: ps => { x with bad := true, par := (o, !p) :: ps }
      { s with ca.merge := s.ca.merge.map fun (x : MergeEntry) => if x.id == e.id then upset x else x
               ca.fault := some (10 + e.core) })

end Sys2Proof.Machine
end

