-- ==== Sys2Proof/Machine/Integrity.lean ====
section
/-! DEFINITION. Parity errors of the structures of 15 Table 15.2 that have no row of their own, and the entropy
source (15 R647, R674-R678). -/

namespace Sys2Proof.Machine

/-- The eight granules that byte `b` of the poison bitmap covers. -/
def bitmapGranules (b : Nat) : List Nat := (List.range 8).map (8 * b + ·)

/-- A byte of the poison bitmap is rebuilt from the ledger; with the ledger poisoned its 8 granules count as poisoned
(07 R339). -/
def State.rebuildBitmap (s : State) (b : Nat) (ledgerPoisoned : Bool) : State :=
  if ledgerPoisoned then (bitmapGranules b).foldl State.poisonGranule s
  else
    let keep := s.lm.poison.filter fun g => g / 8 != b
    let back := s.lm.ledger.filter fun g => g / 8 == b
    { s with lm.poison := back.foldl (fun l g => insertSorted g l) keep }

/-- The granule of the pool that holds a pair's context (07 Table 7.2: pair q at 0x0100_0000 + 128 q). -/
def contextGranule (qp : Nat) : Nat := (0x01000000 + 128 * qp) / 4096

/-- The recovery of a structure (15 Table 15.2). `same` says whether refetched bytes equal those that raised the
error. -/
def State.parityRecover (s : State) (u : ParityUnit) (same : Bool) : State :=
  match u with
  | .contextCache qp lost =>
    if !s.q.cache.contains qp then s
    else
      let t := s.parityMet 1 same
      if lost || s.poisoned (contextGranule qp) then t.halt qp 7 else t
  | .poisonBitmap b lost => (s.parityMet 2 (same && !lost)).rebuildBitmap b lost
  | .channelScratch toWrite => s.scratchParity toWrite
  | .coreCode => s.parityMet 4 same
  | .coreData core => ((s.parityMet 5 false).report Code.coreDataParity (10 + core)).masterReset []
  | .servoMemory =>
    let t := (s.parityMet 6 same).missSample
    let t := (List.range 60).foldl (fun s i => s.put .BQ_ACTIVE i (s.get .BQ_COEF i)) t
    { t.set .BQ_PENDING 0 with sv.bqWaiting := [] }
  | .securityMemory => s.parityMet 7 same
  | .mram => s.parityMet 8 same
  | .crossbar identity granule write second =>
    let t := s.parityMet 9 (same && !second)
    if !second then t
    else if write then t.poisonGranule granule
    else (t.readReturns [] true).report Code.pathFault identity

/-- PARITY_ERROR names units the K760 has. -/
def parityUnitOk : ParityUnit → Bool
  | .contextCache qp _ => qp < 65536
  | .poisonBitmap b _ => b < 262144
  | .coreData core => core < 2
  | .crossbar identity granule _ _ => identity < 16 && decide (granule < 2097152)
  | _ => true

/-- PARITY_ERROR (15 R647, R648). -/
def execParityError (u : ParityUnit) (same : Bool) (s : State) : Host.Outcome State Fault Refusal :=
  checked (parityUnitOk u) (if s.coresRun then s.parityRecover u same else s)

/-- ENTROPY_READY (15 R675, R684): the start-up samples have passed and the first conditioning block is complete; the
security core answers. -/
def execEntropyReady (s : State) : Host.Outcome State Fault Refusal :=
  .next (
    if s.coresRun && s.reg .ENTROPY_STATE == 0 && !s.un.security then
      { s.set .ENTROPY_STATE 1 with sec.coreDown := false }
    else s)

/-- A mailbox command draws entropy (15 R677). -/
def MbCopy.drawsEntropy (c : MbCopy) : Bool :=
  c.opcode == 0x50 || c.opcode == 0x60 || (c.opcode == 0x52 && fieldAt c.args 2 1 == 2)

/-- Commands that wait for entropy end with INTERNAL (15 R677). -/
def State.entropyGone (s : State) : State :=
  (List.range 4).foldl (fun s n =>
    match (s.slot n).copy, (s.slot n).resp with
    | some c, none => if c.drawsEntropy then s.answer n (failResp St.internal Code.entropyFailed) else s
    | _, _ => s) s

/-- ENTROPY_HEALTH_FAIL (15 R676): the block in progress is discarded and the start-up repeated; the third failure
in service within 10 s fails the source until reset. -/
def execEntropyHealthFail (rct : Bool) (s : State) : Host.Outcome State Fault Refusal :=
  .next (
    if !s.coresRun || s.reg .ENTROPY_STATE == 2 || s.un.security then s
    else
      let s := if rct then s.bump .RCT_FAILS else s.bump .APT_FAILS
      if s.reg .ENTROPY_STATE = 0 then s
      else
        let ts := s.clock :: s.sec.entropyFails.filter fun t => decide (s.clock < t + 10000000)
        let s : State := { s with sec.entropyFails := ts }
        if 3 ≤ ts.length then ((s.set .ENTROPY_STATE 2).report Code.entropyFailed).entropyGone
        else s.set .ENTROPY_STATE 0)

end Sys2Proof.Machine
end

