-- ==== Sys2Proof/Machine/D2d.lean ====
section
/-! DEFINITION. The die-to-die link (01 R42-R45; 07 R338; 09 R436; 10 R460, R488; 11 R533). -/

namespace Sys2Proof.Machine

/-- The die-to-die link is lost (01 R42, R43; 07 R338): the drive die acts on its own, the cluster in flight is broken,
granules being written are poisoned, and refresh follows MR4 polling. -/
def State.d2dLoss (s : State) (inFlight : List Nat) : State :=
  if s.pw.d2dDown || !s.coresRun then s
  else
    let t : State := { s with pw.d2dDown := true }
    let t := ((t.stopCal.cutWrite).driveAlone).servoOff
    let t := if t.poolUp then inFlight.foldl State.poisonGranule t else t
    if t.reg .POOL_STATE = 1 then (t.set .POOL_STATE 2).report Code.refreshPolling else t

/-- D2D_LINK_LOSS (01 R42, R43). -/
def execD2dLinkLoss (inFlight : List Nat) (s : State) : Host.Outcome State Fault Refusal :=
  .next (s.d2dLoss inFlight)

/-- The microstep index the drive die should hold (10 R460). -/
def State.ustepIndex (s : State) : Nat := ((s.getInt .SLED_POS 0) % 1024).toNat

/-- The one attempt to retrain has succeeded (01 R44; 07 R338; 10 R460). -/
def State.d2dUp (s : State) (ustepIndex : Nat) : State :=
  let t : State := { s with pw.d2dDown := false, st.d2dUntil := none }
  let t := if t.reg .POOL_STATE = 2 then t.set .POOL_STATE 1 else t
  let t := t.report Code.d2dRetrained
  if ustepIndex ≠ t.ustepIndex ∧ t.on .SL_POS_VALID = true then (t.posLost true).retainPos else t

/-- An injected break still lasts (16 Table 16.4). -/
def State.d2dHeld (s : State) : Bool := s.st.d2dUntil.any fun t => decide (s.clock < t)

/-- D2D_RETRAIN_DONE (01 R44, R45): the one attempt ends; on a failure the disc leaves service until the next reset. -/
def execD2dRetrainDone (ok : Bool) (ustepIndex : Nat) (s : State) : Host.Outcome State Fault Refusal :=
  checked (ustepIndex < 1024) (
    if !s.pw.d2dDown || s.pw.d2dFailed then s
    else if ok && !s.d2dHeld then s.d2dUp ustepIndex
    else
      let t : State := { s with pw.d2dFailed := true }
      t.discOut Code.d2dFailed)

end Sys2Proof.Machine
end

