-- ==== Sys2Proof/Machine/SelfTest.lean ====
section
/-! DEFINITION. Windowed tests, the SELFTEST command and its injections (16). -/

namespace Sys2Proof.Machine

/-- What SELFTEST answers on a verdict (16 R702, Table 16.5). -/
structure Verdict16 where
  test : Nat
  verdict : Nat
  repairs : Nat := 0
  unit : Nat := 0
  value : Int := 0
  duration : Nat := 0
  deriving DecidableEq, Repr

/-- MR_RESULT bytes 8-23 of a verdict (16 Table 16.5). -/
def Verdict16.bytes (v : Verdict16) : List Byte :=
  leBytes 2 v.test ++ leBytes 1 v.verdict ++ leBytes 1 v.repairs ++ leBytes 4 v.unit
    ++ leBytes 4 (toBits 32 v.value) ++ leBytes 4 v.duration

/-- A SELFTEST ends (16 R702, R708): the answer, the idle timers anew; what waited for it goes on (R705). -/
def State.endTest (s : State) (slot : Nat) (v : Verdict16) : State :=
  let t : State := { s with st.granted := if s.st.granted = some slot then none else s.st.granted }
  t.restartIdle.answer slot (okResp v.bytes)

/-- A SELFTEST ends without a verdict (16 R700, R701, R704, R708). -/
def State.failTest (s : State) (slot status detail : Nat) : State := s.restartIdle.answer slot (failResp status detail)

/-- A SELFTEST row acts on a command with its TEST_ID (16 R700). -/
def State.runTest (s : State) (slot id : Nat) (f : MbCopy → State → State) : Host.Outcome State Fault Refusal :=
  s.runMbx slot 0x30 (fun c => fieldAt c.args 0 2 == id) f

/-! ## Windows -/

/-- A window never opens on a granule (16 R693): ahead of an open bobbin's tail, the context of a pinned pair, a block
under encoding. Where staging holds a block is not stated, so all of it counts while there is one (log entry 27). -/
def State.windowBarred (s : State) (g : Nat) : Bool :=
  ((List.range 10).any fun b =>
    let t := s.get .TAIL_OFFSET b
    s.bobSize b != 0 && (List.range 17).any fun i =>
      s.granOf b (t + 4096 * i) == g || s.granOf b (t + 65535) == g) ||
    (s.q.cmds.any fun (c : QCmd) => 0x1000 + c.qp / 32 == g) ||
    (s.bu.block.isSome && decide (0x2000 ≤ g) && decide (g < 0x4000))

/-- Granules of the pool. -/
def State.granules (s : State) : Nat := s.reg .POOL_MIB * 256

/-- The granule the next window opens on, from `g` on (16 R690, R693). -/
def State.windowFrom (s : State) (g : Nat) : Nat → Option Nat
  | 0 => none
  | n + 1 =>
    let g := if g < s.granules then g else 0
    if s.windowBarred g then s.windowFrom (g + 1) n else some g

/-- A window has completed (16 Table 16.9). -/
def State.windowRun (s : State) : State := (s.bump .WINDOWS_RUN).pulse Ev.windowsRun

/-- A pool granule fails its window (16 R694). -/
def State.poolFail (s : State) (g : Nat) : State :=
  let s := ((s.poisonGranule g).bump .POOL_WIN_FAILS).pulse Ev.windowFails
  let s : State := { s with st.winFailed := insertSorted g s.st.winFailed }
  if 16 ≤ s.st.winFailed.length ∧ s.st.poolDegraded = false then
    let t : State := { s with st.poolDegraded := true }
    (t.report Code.poolDegraded).updateHealth
  else s

/-- A window over a pool granule; the answer says whether it passed. -/
def State.poolWindow (s : State) (g : Nat) (fail : Bool) : State :=
  if fail then s.windowRun.poolFail g else s.windowRun

/-- What the saved contents of a region meet when they cannot be restored: the recovery of its structure (16 R695,
R696; 15 Table 15.2). -/
def State.regionLost (s : State) (m : Nat) : State :=
  if m < 32 then s.parityMet 0 false
  else if m < 64 then s.scratchParity false
  else if m < 72 then s.parityRecover (.coreData 0) false
  else if m < 80 then s.parityRecover (.coreData 1) false
  else if m < 88 then s.parityRecover .servoMemory false
  else if m < 92 then s.parityRecover .securityMemory false
  else s.parityMet 2 false

/-- A window over a region of a macro (16 R695): failing cells are repaired; without a spare the unit leaves use. -/
def State.sramWindow (s : State) (m : Nat) (cells : FailCells) : State :=
  let s := s.windowRun
  if cells.isEmpty then s
  else
    let s := (s.bump .WIN_FAILS).pulse Ev.windowFails
    let (ok, s) := s.repair m cells 2
    if ok then s else (s.dropUnit (macroUnit m).1 (macroUnit m).2).regionLost m

/-- The open window closes (16 R690-R697): the region is repaired or the granule poisoned where the march failed, the saved
contents are back otherwise, and the writes that stalled go on. -/
def State.endRegionTest (s : State) : State :=
  match s.st.window with
  | none => s
  | some w =>
    let s : State := { s with st.window := none }
    let s := match w.region with
      | some (m, _) =>
        let t := s.sramWindow m w.cells
        if w.saveParity then t.regionLost m else t
      | none =>
        let t := s.poolWindow w.granule w.fail
        if w.saveParity || w.otherPoison then t.poisonGranule w.granule else t
    let s := w.stalled.foldl (fun (s : State) x => s.access x.1 x.2.1 true x.2.2) s
    s.unstall s.ca.stalled

/-- A window opens (16 R690, R692); one that is still open closes first. -/
def State.beginRegionTest (s : State) (w : TestWindow) : State :=
  let s := s.endRegionTest
  { s with st.window := some { w with openAt := s.clock } }

/-- A window's time is up: typically 6.9 µs after it opened (16 R692; log entry 148). -/
def State.windowTick (s : State) : State :=
  if s.st.window.any fun w => decide (w.openAt + 7 ≤ s.clock) then s.endRegionTest else s

/-- First macro and number of macros of the structures of 16 Table 16.2, in order. -/
def structures : List (Nat × Nat) := [(0, 32), (32, 32), (64, 8), (72, 8), (80, 8), (88, 4), (92, 4)]

/-- The macro and region the next on-chip window opens on; the structures take turns, each its regions in order (16 R690). -/
def State.nextRegion (s : State) : (Nat × Nat) × State :=
  let k := s.st.nextStruct
  let (first, n) := structures.getD k (0, 32)
  let r := s.st.regions.getD k 0
  let t : State := { s with st.nextStruct := (k + 1) % 7, st.regions := s.st.regions.set k ((r + 1) % (16 * n)) }
  ((first + r / 16, r % 16), t)

/-- The structure of 16 Table 16.2 that a macro belongs to. -/
def structureOf (m : Nat) : Nat := (structures.findIdx? fun x => decide (x.1 ≤ m) && decide (m < x.1 + x.2)).getD 0

/-- A turn of the on-chip windows is due (16 R690). -/
def State.sramDue (s : State) : Bool := decide (s.st.sramAt + s.reg .WIN_SRAM_US ≤ s.clock)

/-- A turn of the pool's windows is due (16 R690). -/
def State.poolDue (s : State) : Bool := decide (s.st.poolAt + s.reg .WIN_POOL_US ≤ s.clock)

/-- MACRO names the pool (16 Table 16.4). -/
def poolMacro : Nat := 0xFF

/-- A WINDOW_NOW waits for the turn of its structure: of on-chip structure `k`, or of the pool with `none` (16 R707). -/
def State.windowAsked (s : State) (k : Option Nat) : Bool :=
  s.host.slots.any fun (m : Slot) => match m.copy, m.resp with
    | some c, none =>
      let ram := fieldAt c.args 2 1
      c.opcode == 0x30 && fieldAt c.args 0 2 == 0x10 &&
        (match k with
         | none => ram == poolMacro
         | some k => decide (ram < 96) && structureOf ram == k)
    | _, _ => false

/-- SRAM_WINDOW_TIMER (16 R690-R697): the next on-chip window opens, in Run and Doze, WIN_SRAM_US after the last, unless
a WINDOW_NOW takes the turn (R707). -/
def execSramWindowTimer (cells : FailCells) (saveParity : Bool) (s : State) : Host.Outcome State Fault Refusal :=
  .next (
    if !s.coresRun || !s.on .WIN_SRAM_ENABLE || s.st.windowsOff || !s.sramDue ||
        s.windowAsked (some s.st.nextStruct) then s
    else
      let (r, s) := { s.endRegionTest with st.sramAt := s.clock }.nextRegion
      s.beginRegionTest { region := some r, cells := cells, saveParity := saveParity, openAt := s.clock })

/-- POOL_WINDOW_TIMER (16 R690-R697): the next window over the pool opens, in Run and Doze, WIN_POOL_US after the last,
unless a WINDOW_NOW takes the turn (R707). -/
def execPoolWindowTimer (fail saveParity otherPoison : Bool) (s : State) : Host.Outcome State Fault Refusal :=
  .next (
    if !s.coresRun || !s.on .WIN_POOL_ENABLE || s.st.windowsOff || !s.poolUp || !s.poolDue || s.windowAsked none then s
    else
      let s := { s.endRegionTest with st.poolAt := s.clock }
      match s.windowFrom s.st.nextGranule s.granules with
      | none => s
      | some g =>
        let s : State := { s with st.nextGranule := g + 1 }
        s.beginRegionTest
          { region := none, granule := g, saved := s.lm.mem.readN (4096 * g) 4096, fail := fail,
            saveParity := saveParity, otherPoison := otherPoison, openAt := s.clock })

/-! ## SELFTEST memory tests -/

/-- The window turn of a macro's structure, or of the pool, has come (16 R690, R707). With those windows disabled there
are no turns, and a WINDOW_NOW runs at once (DESIGN CHOICE, log entry 150). -/
def State.windowTurn (s : State) (m : Nat) : Bool :=
  if m = poolMacro then !s.on .WIN_POOL_ENABLE || s.poolDue
  else !s.on .WIN_SRAM_ENABLE || (s.sramDue && s.st.nextStruct == structureOf m)

/-- A WINDOW_NOW takes the turn of a macro's structure, or of the pool. -/
def State.takeTurn (s : State) (m : Nat) : State :=
  if m = poolMacro then { s with st.poolAt := s.clock }
  else if s.on .WIN_SRAM_ENABLE then { s with st.sramAt := s.clock, st.nextStruct := (structureOf m + 1) % 7 }
  else s

/-- The first argument of a window test that is out of range, by its offset (16 Table 16.4). -/
def State.windowArgs (s : State) (m at' : Nat) (all : Bool) : Option Nat :=
  if 96 ≤ m ∧ m ≠ poolMacro then some 2
  else if all then none
  else if m = poolMacro then (if at' < s.granules then none else some 4)
  else if at' < 65536 then none else some 4

/-- A free value for a result field of a failing memory test that the spec does not lay out: the packing of macro and
row, and a measured value with no limit (16 Table 16.5; log entry 28). -/
def State.failFields (s : State) (v : Verdict16) (granule : Option Nat) : Verdict16 × State :=
  let (a, s) := s.draw
  let (b, s) := s.draw
  ({ v with verdict := 1, unit := granule.getD (a % 2 ^ 32), value := ofBits 32 (b % 2 ^ 32) }, s)

/-- A window test ends with its verdict: repairs are those the test made. -/
def State.endWindow (s : State) (slot id before : Nat) (failed : Bool) (granule : Option Nat) (duration : Nat) :
    State :=
  let v : Verdict16 := { test := id, verdict := 0, repairs := s.reg .REPAIRS - before, duration := duration }
  if failed then
    let (v, s) := s.failFields v granule
    s.endTest slot v
  else s.endTest slot v

/-- WINDOW_NOW (16 R690-R697, R702, R703, R707): one window over a region or a granule, in the next window turn of its
structure. A window that cannot run is not run. -/
def execWindowNow (slot : Nat) (cells : FailCells) (duration : Nat) (s : State) :
    Host.Outcome State Fault Refusal :=
  s.runTest slot 0x10 fun c s =>
    let m := fieldAt c.args 2 1
    let at' := fieldAt c.args 4 8
    let before := s.reg .REPAIRS
    match s.windowArgs m at' false with
    | some o => s.failTest slot St.outOfRange o
    | none =>
      if !s.st.windowsOff && !s.windowTurn m then s
      else
      let s := s.endRegionTest.takeTurn m
      if s.st.windowsOff then s.endTest slot { test := 0x10, verdict := 2, duration := duration }
      else if m = poolMacro then
        match if s.poolUp then s.windowFrom at' s.granules else none with
        | none => s.endTest slot { test := 0x10, verdict := 2, duration := duration }
        | some g => (s.poolWindow g (!cells.isEmpty)).endWindow slot 0x10 before (!cells.isEmpty) (some g) duration
      else (s.sramWindow m cells).endWindow slot 0x10 before (!cells.isEmpty) none duration

/-- A full pass over a macro: `fails` gives the failing cells of its regions 0-15. -/
def State.macroPass (s : State) (m : Nat) (fails : List (Nat × FailCells)) : State :=
  (List.range 16).foldl (fun s r =>
    s.sramWindow m ((fails.filter fun f => f.1 == r).flatMap (·.2))) s

/-- A full pass over the pool: `fails` names the granules that fail. -/
def State.poolPass (s : State) (fails : List (Nat × FailCells)) : State :=
  (List.range s.granules).foldl (fun s g =>
    if s.windowBarred g then s else s.poolWindow g (fails.any fun f => f.1 == g)) s

/-- WINDOW_PASS (16 R690-R697, R702). -/
def execWindowPass (slot : Nat) (fails : List (Nat × FailCells)) (duration : Nat) (s : State) :
    Host.Outcome State Fault Refusal :=
  s.runTest slot 0x11 fun c s =>
    let s := s.endRegionTest
    let m := fieldAt c.args 2 1
    let before := s.reg .REPAIRS
    match s.windowArgs m 0 true with
    | some o => s.failTest slot St.outOfRange o
    | none =>
      if s.st.windowsOff || (m == poolMacro && !s.poolUp) then
        s.endTest slot { test := 0x11, verdict := 2, duration := duration }
      else if m = poolMacro then
        let bad := fails.filter fun f => !s.windowBarred f.1 && decide (f.1 < s.granules)
        let t := s.poolPass bad
        t.endWindow slot 0x11 before (!bad.isEmpty) ((bad.map (·.1)).min?) duration
      else
        let bad := fails.filter fun f => decide (f.1 < 16) && !f.2.isEmpty
        (s.macroPass m bad).endWindow slot 0x11 before (!bad.isEmpty) none duration

/-! ## Analogue tests -/

/-- A servo-affecting test cannot start now (16 R704). -/
def State.servoBusy (s : State) : Bool :=
  (s.reg .SV_STATE != 0 && s.reg .SV_STATE != 7) || s.cal.running.isSome

/-- A servo-affecting test (16 R704, R705, R707): refused or made to wait while the servo or a calibration runs; one
test at a time. -/
def State.servoTest (s : State) (slot id : Nat) (f : MbCopy → State → State) : Host.Outcome State Fault Refusal :=
  s.runTest slot id fun c s =>
    if s.st.granted = some slot then f c s
    else if s.st.granted.isSome || s.st.waiting.contains slot then s
    else if s.servoBusy then
      if bit c.flags 0 then s.failTest slot St.busyServo 0
      else { s with st.waiting := s.st.waiting ++ [slot] }
    else f c s

/-- A slot holds a SELFTEST without a response. -/
def State.testPending (s : State) (slot : Nat) : Bool :=
  match (s.slot slot).copy, (s.slot slot).resp with
  | some c, none => c.opcode == 0x30
  | _, _ => false

/-- SERVO_TEST_START (16 R704, R705): the spindle has reached STOPPED, and no burst is starting. -/
def execServoTestStart (s : State) : Host.Outcome State Fault Refusal :=
  .next (
    let w := s.st.waiting.filter s.testPending
    if s.reg .SP_STATE ≠ 0 ∨ s.st.granted.isSome = true ∨ s.discWanted = true ∨ s.pw.pfail.isSome = true then s
    else match w with
      | [] => { s with st.waiting := [] }
      | k :: rest => { s with st.granted := some k, st.waiting := rest })

/-- A non-servo-affecting test or an injection runs while no other test does (16 R703, R707). -/
def State.freeTest (s : State) (slot id : Nat) (f : MbCopy → State → State) : Host.Outcome State Fault Refusal :=
  s.runTest slot id fun c s => if s.st.granted.isSome then s else f c s

/-- The consequence of a failed analogue test (16 R699): the disc leaves service, a sensor has failed (13 R614), a
die-to-die fault. -/
def State.analogueFailed (s : State) (id unit : Nat) : State :=
  let s := s.bump .ANALOGUE_FAILS
  match id with
  | 0x24 => s.retireLane unit
  | 0x25 => s.sensorFail unit
  | 0x26 => s.d2dLoss []
  | _ => s.discOut Code.analogueFail id

/-- An analogue test's verdict and consequence: `test` is the TEST_ID answered, `id` the test that failed. -/
def State.analogueEnd (s : State) (slot test id n : Nat) (fault : Option (Nat × Int)) (duration : Nat) : State :=
  let before := s.reg .REPAIRS
  let s := s.pulse Ev.analogueTests n
  match fault with
  | none => s.endTest slot { test := test, verdict := 0, duration := duration }
  | some (u, v) =>
    let s := s.analogueFailed id u
    s.endTest slot { test := test, verdict := 1, repairs := s.reg .REPAIRS - before, unit := u, value := v,
                     duration := duration }

/-- An analogue test of its own judges its readings. -/
def State.analogueRun (s : State) (slot id : Nat) (r : Timed (List Int)) : State :=
  s.analogueEnd slot id id 1 (analogueFault id r.seen) r.duration

/-- LASER_DAC (16 Table 16.3): the readings of each level DAC at codes 64, 512 and 960. -/
def execLaserDac (slot : Nat) (codes : Timed (List Int)) (s : State) : Host.Outcome State Fault Refusal :=
  s.servoTest slot 0x20 fun _ s => s.analogueRun slot 0x20 codes

/-- COIL_SENSE (16 Table 16.3): the readings of each coil's amplifier at 100, -100, 250 and -250 mA. -/
def execCoilSense (slot : Nat) (ma : Timed (List Int)) (s : State) : Host.Outcome State Fault Refusal :=
  s.servoTest slot 0x21 fun _ s => s.analogueRun slot 0x21 ma

/-- MOTOR_SENSE (16 Table 16.3): the readings of the spindle phases, the sled coils and the loader at 500 and -500 mA. -/
def execMotorSense (slot : Nat) (ma : Timed (List Int)) (s : State) : Host.Outcome State Fault Refusal :=
  s.servoTest slot 0x22 fun _ s => s.analogueRun slot 0x22 ma

/-- ADC_TONE (16 Table 16.3): the SNR of each RF ADC, in tenths of a dB. -/
def execAdcTone (slot : Nat) (snr : Timed (List Int)) (s : State) : Host.Outcome State Fault Refusal :=
  s.servoTest slot 0x23 fun _ s => s.analogueRun slot 0x23 snr

/-- The lanes that fail their loopback check, injected failures with them. -/
def State.lanesFailing (s : State) (failed : List Nat) : List Nat :=
  (failed ++ s.st.laneLoopFail).eraseDups.filter (· < 5)

/-- The shuttle loopback's verdict, as the `n`th test of TEST_ID `test` (12 R561-R563): failing lanes are retired. The
value measured at the first failure is free (log entry 28). -/
def State.shuttleEnd (s : State) (slot test n : Nat) (failed : List Nat) (duration : Nat) : State :=
  let before := s.reg .REPAIRS
  let bad := s.lanesFailing failed
  let t : State := { s with st.laneLoopFail := [] }
  let t := t.pulse Ev.analogueTests n
  match bad with
  | [] => t.endTest slot { test := test, verdict := 0, duration := duration }
  | k :: _ =>
    let (v, t) := (bad.foldl State.retireLane (t.bump .ANALOGUE_FAILS)).draw
    t.endTest slot { test := test, verdict := 1, repairs := t.reg .REPAIRS - before, unit := k,
                     value := ofBits 32 (v % 2 ^ 32), duration := duration }

/-- SHUTTLE_LOOP (16 Table 16.3, 12 R561-R563): `failed` are the lanes whose output does not match. -/
def execShuttleLoop (slot : Nat) (failed : List Nat) (duration : Nat) (s : State) :
    Host.Outcome State Fault Refusal :=
  s.servoTest slot 0x24 fun _ s => s.shuttleEnd slot 0x24 1 failed duration

/-- TEMP_CROSS (16 Table 16.3, R699): the drive-die sensors' readings and last the logic die's, in tenths of a degree. -/
def execTempCross (slot : Nat) (temps : Timed (List Int)) (s : State) : Host.Outcome State Fault Refusal :=
  s.freeTest slot 0x25 fun _ s => s.analogueRun slot 0x25 temps

/-- D2D_LOOP (16 Table 16.3, R699): the number of the 1,024 frames in error. -/
def execD2dLoop (slot : Nat) (errors : Timed Nat) (s : State) : Host.Outcome State Fault Refusal :=
  s.freeTest slot 0x26 fun _ s => s.analogueRun slot 0x26 ⟨[(errors.seen : Int)], errors.duration⟩

/-- ALL_ANALOGUE (16 Table 16.3): the tests 0x20-0x26 in order, stopping at the first failure; `readings` are those of
0x20-0x23, 0x25 and 0x26, `failed` the lanes of 0x24. -/
def execAllAnalogue (slot : Nat) (failed : List Nat) (readings : Timed (List (List Int))) (s : State) :
    Host.Outcome State Fault Refusal :=
  s.servoTest slot 0x2F fun _ s =>
    match analogueFirst [0x20, 0x21, 0x22, 0x23] readings.seen with
    | some (t, f) => s.analogueEnd slot 0x2F t (t - 0x1F) (some f) readings.duration
    | none =>
      if !(s.lanesFailing failed).isEmpty then s.shuttleEnd slot 0x2F 5 failed readings.duration
      else match analogueFirst [0x25, 0x26] (readings.seen.drop 4) with
        | some (t, f) => s.analogueEnd slot 0x2F t (t - 0x1F) (some f) readings.duration
        | none => s.analogueEnd slot 0x2F 0 7 none readings.duration

/-! ## Injections -/

/-- An injection (16 R701): only from P8 with a current unlock; recorded with the INJECTED mark and counted, then its
effect, which is real. The duration it reports is free (log entry 28). `bad` is the offset of the first argument out of range. -/
def State.inject (s : State) (slot id : Nat) (bad : MbCopy → State → Option Nat) (f : MbCopy → State → State) :
    Host.Outcome State Fault Refusal :=
  s.freeTest slot id fun c s =>
    if !c.byP8 || !s.host.unlocked then s.failTest slot St.notPermitted 0
    else match bad c s with
      | some o => s.failTest slot St.outOfRange o
      | none =>
        let s := (s.bump .INJECTIONS).pulse Ev.injections
        let s := s.reportFull Code.injected (s.recordData id 0 0) (s.sourceOf Code.injected) true
        let (v, s) := (f c s).draw
        s.endTest slot { test := id, verdict := 3, duration := v % 2 ^ 32 }

/-- The offset of an argument that is out of range. -/
def argCheck (ok : Bool) (o : Nat) : Option Nat := if ok then none else some o

/-- INJ_D2D_BREAK (16 Table 16.4): no valid frame crosses for the duration. -/
def execInjD2dBreak (slot : Nat) (s : State) : Host.Outcome State Fault Refusal :=
  s.inject slot 0x100 (fun _ _ => none) fun c s => { s with st.d2dUntil := some (s.clock + fieldAt c.args 4 4) }

/-- INJ_LEASE_STOP (16 Table 16.4). -/
def execInjLeaseStop (slot : Nat) (s : State) : Host.Outcome State Fault Refusal :=
  s.inject slot 0x101 (fun c _ => argCheck (1 ≤ fieldAt c.args 2 1 && fieldAt c.args 2 1 ≤ 7) 2) fun c s =>
    { s with st.leaseStop := insertSorted (fieldAt c.args 2 1) s.st.leaseStop }

/-- INJ_BEMF_BLANK (16 Table 16.4). -/
def execInjBemfBlank (slot : Nat) (s : State) : Host.Outcome State Fault Refusal :=
  s.inject slot 0x102 (fun _ _ => none) fun c s => { s with st.blankUntil := some (s.clock + fieldAt c.args 4 4) }

/-- INJ_BEMF_SPURIOUS (16 Table 16.4). -/
def execInjBemfSpurious (slot : Nat) (s : State) : Host.Outcome State Fault Refusal :=
  s.inject slot 0x103 (fun _ _ => none) fun c s => { s with st.spurious := s.st.spurious + fieldAt c.args 2 1 }

/-- INJ_LANE_ERROR (16 Table 16.4). -/
def execInjLaneError (slot : Nat) (s : State) : Host.Outcome State Fault Refusal :=
  s.inject slot 0x104 (fun c _ => argCheck (fieldAt c.args 2 1 < 5) 2) fun c s =>
    { s with st.laneError := s.st.laneError ++ [fieldAt c.args 2 1] }

/-- INJ_LANE_LOOP_FAIL (16 Table 16.4). -/
def execInjLaneLoopFail (slot : Nat) (s : State) : Host.Outcome State Fault Refusal :=
  s.inject slot 0x105 (fun c _ => argCheck (fieldAt c.args 2 1 < 5) 2) fun c s =>
    { s with st.laneLoopFail := insertSorted (fieldAt c.args 2 1) s.st.laneLoopFail }

/-- A bit of a byte inverted. -/
def flipBit (b : Byte) (k : Nat) : Byte := b ^^^ BitVec.ofNat 8 (2 ^ k)

/-- A parity bit, or data bit `k`, of byte `o` of a macro of the L2 is inverted, where a line lies there. -/
def State.flipL2 (s : State) (m o : Nat) (parity : Bool) (k : Nat) : State :=
  let at' := 16 * (m % 2 * 1024 + o / 64) + m / 2
  match Map.get s.ca.l2 at' with
  | none => s
  | some c =>
    s.l2Put at' (if parity then { c with par := c.par.modify (o % 64) (!·) }
      else { c with data := c.data.modify (o % 64) (flipBit · k) })

/-- INJ_PARITY_FLIP (16 Table 16.4): the error is met when the location is next read (15 R647); in the L2 the bit itself
is inverted. -/
def execInjParityFlip (slot : Nat) (s : State) : Host.Outcome State Fault Refusal :=
  s.inject slot 0x106 (fun c _ =>
      (argCheck (fieldAt c.args 2 1 < 96) 2).or (argCheck (fieldAt c.args 4 4 < 65536) 4)) fun c s =>
    let b := fieldAt c.args 8 1
    let (m, o) := (fieldAt c.args 2 1, fieldAt c.args 4 4)
    if m < 32 then s.flipL2 m o (bit b 0) (b / 2 % 8)
    else { s with st.flips := s.st.flips ++ [(m, o, bit b 0, b / 2 % 8)] }

/-- INJ_CHECKER_BREAK (16 Table 16.4): at the next boot only. -/
def execInjCheckerBreak (slot : Nat) (s : State) : Host.Outcome State Fault Refusal :=
  s.inject slot 0x107 (fun c _ => argCheck (fieldAt c.args 2 1 < 10) 2) fun c s =>
    { s with st.checkerBreaks := s.st.checkerBreaks ++ [(fieldAt c.args 2 1, fieldAt c.args 3 1)] }

/-- INJ_REED_CORRUPT (16 Table 16.4): the entry as 07 Table 7.7 lays it out. -/
def execInjReedCorrupt (slot : Nat) (s : State) : Host.Outcome State Fault Refusal :=
  s.inject slot 0x108 (fun _ _ => none) fun c s =>
    let k := fieldAt c.args 2 1
    let v := bytesAt c.args 4 16
    let s := ((s.put .RD_BASE k (fieldAt v 0 4)).put .RD_LIMIT k (fieldAt v 4 4)).put .RD_READ_MASK k (fieldAt v 8 2)
    (s.put .RD_WRITE_MASK k (fieldAt v 10 2)).put .RD_VALID k (fieldAt v 12 1)

/-- INJ_POISON (16 Table 16.4). -/
def execInjPoison (slot : Nat) (s : State) : Host.Outcome State Fault Refusal :=
  s.inject slot 0x109 (fun c s => argCheck (fieldAt c.args 4 8 < s.granules) 4) fun c s =>
    s.poisonGranule (fieldAt c.args 4 8)

/-- INJ_VERIFY_FAIL (16 Table 16.4). -/
def execInjVerifyFail (slot : Nat) (s : State) : Host.Outcome State Fault Refusal :=
  s.inject slot 0x10A (fun _ _ => none) fun c s => { s with st.verifyFail := s.st.verifyFail + fieldAt c.args 2 1 }

/-- INJ_ERASE_FRAMES (16 Table 16.4). -/
def execInjEraseFrames (slot : Nat) (s : State) : Host.Outcome State Fault Refusal :=
  s.inject slot 0x10B (fun _ _ => none) fun c s => { s with st.eraseFrames := fieldAt c.args 2 1 }

/-- INJ_DEFECT_FLAG (16 Table 16.4). -/
def execInjDefectFlag (slot : Nat) (s : State) : Host.Outcome State Fault Refusal :=
  s.inject slot 0x10C (fun _ _ => none) fun c s =>
    let t : State := { s with st.defectUntil := some (s.clock + fieldAt c.args 4 4) }
    t.defectOn

/-- INJ_TRAIN_FAIL (16 Table 16.4): at the next pool training. -/
def execInjTrainFail (slot : Nat) (s : State) : Host.Outcome State Fault Refusal :=
  s.inject slot 0x10D (fun c _ => argCheck (fieldAt c.args 2 1 < 2) 2) fun c s =>
    { s with st.trainFail := insertSorted (fieldAt c.args 2 1) s.st.trainFail }

/-- INJ_POOL_WRITE (16 Table 16.4): lines written as Core B. -/
def execInjPoolWrite (slot : Nat) (s : State) : Host.Outcome State Fault Refusal :=
  s.inject slot 0x10E (fun _ _ => none) fun c s =>
    let p := bytesAt c.args 16 8
    let line := (List.replicate 8 p).flatten
    (List.range (fieldAt c.args 12 4)).foldl (fun s i =>
      s.crossbar 11 ((fieldAt c.args 4 8 / 64 + i) * 64) true line) s

end Sys2Proof.Machine
end

