-- ==== Sys2Proof/Machine/Tally.lean ====
section
/-! DEFINITION. The tally unit (08 R383-R390). -/

namespace Sys2Proof.Machine

/-- The odometer that a tally record takes (08 R387): the held value of the lowest-numbered odometer entry. -/
def State.odometer (s : State) : Nat :=
  if s.pt.canStale then 0xFFFFFFFF
  else match (List.range 64).find? fun j => s.get .CM_KIND j == 1 with
    | none => 0xFFFFFFFF
    | some j => s.get .CANVAL j

/-- A tally record's 32 bytes (08 Table 8.17). -/
def tallyBytes (seq channel flags start stop odoStart odoStop : Nat) : List Byte :=
  leBytes 4 seq ++ leBytes 1 channel ++ leBytes 1 flags ++ leBytes 2 0 ++ leBytes 8 start ++ leBytes 8 stop
    ++ leBytes 4 odoStart ++ leBytes 4 odoStop

/-- A tally record is appended to bobbin 8 (08 R387, R388). -/
def State.tallyRecord (s : State) (ch flags start stop odoStart odoStop : Nat) (coarse : Bool) : State :=
  let q := s.reg .TALLY_NEXT_SEQ
  let payload := tallyBytes q ch (flags + 16 * b2n coarse) start stop odoStart odoStop
  let s := (s.set .TALLY_NEXT_SEQ (q + 1)).add .TL_INTERVALS ch 1
  s.appendLog 8 payload (b2n coarse) 0xFF stop

/-- A channel opens. -/
def State.tallyOpen (s : State) (ch t : Nat) (coarse : Bool) : State :=
  let o : TallyOpen := { start := t, coarse := coarse, odo := s.odometer, since := s.clock }
  let u : State := { s with tally := Map.put s.tally ch o }
  u.put .TL_STATE ch 1

/-- A channel closes. -/
def State.tallyShut (s : State) (ch : Nat) : State :=
  let u : State := { s with tally := Map.erase s.tally ch }
  u.put .TL_STATE ch 0

/-- An open interval's record, ending at `t`. -/
def State.tallyEnd (s : State) (ch : Nat) (o : TallyOpen) (flags t : Nat) (coarse : Bool) : State :=
  s.tallyRecord ch flags o.start t o.odo s.odometer (o.coarse || coarse)

/-- A channel meets the events of one tick `t` (08 R385, Table 8.16). -/
def State.tallyTick (s : State) (ch t : Nat) (start stop coarse : Bool) : State :=
  match Map.get s.tally ch, start, stop with
  | none, true, false => s.tallyOpen ch t coarse
  | none, false, true => (s.tallyRecord ch 2 0 t 0xFFFFFFFF s.odometer coarse).add .TL_ORPHANS ch 1
  | none, true, true => s.tallyRecord ch 1 t t s.odometer s.odometer coarse
  | none, false, false => s
  | some o, false, true => (s.tallyEnd ch o 0 t coarse).tallyShut ch
  | some o, true, false => (s.tallyEnd ch o 4 t coarse).tallyOpen ch t coarse
  | some o, true, true => (s.tallyEnd ch o 0 t coarse).tallyOpen ch t coarse
  | some _, false, false => s

/-- The events of one tick, as codes of 08 Table 8.15, meet every channel. -/
def State.tallyEvents (s : State) (codes : List Nat) (t : Nat) (coarse : Bool) : State :=
  (List.range 8).foldl (fun s ch =>
    s.tallyTick ch t (codes.contains (s.get .TL_START ch)) (codes.contains (s.get .TL_STOP ch)) coarse) s

/-- The code of a pin's edge (08 Table 8.15). -/
def edgeCode (e : Nat × Bool) : Nat := (if e.2 then 0x20 else 0x40) + e.1

/-- A time was taken by the warden (03 R112): the part was not in Run then. -/
def State.wardenTook (s : State) (t : Nat) : Bool :=
  let at' := s.clock - (s.time - t)
  if s.pw.mode == .run then decide (at' < s.pw.swapAt) else decide (s.pw.swapAt ≤ at')

/-- A time the tally unit takes: 1 µs in Run, the warden's below (08 R384), as the edge was stamped. -/
def State.tickTime (s : State) (t : Nat) : Nat := if s.wardenTook t then wardenTime t else t

/-- The levels outside a pin after an edge. -/
def State.pinLevel (s : State) (e : Nat × Bool) : State :=
  let m := 2 ^ e.1
  let low := s.gp.ext - if bit s.gp.ext e.1 then m else 0
  { s with gp.ext := if e.2 then low + m else low }

/-- TALLY_EDGE_DEBOUNCED (08 R384, R385, R388): edges of pins whose first transition came in the tick at `firstAt`,
stable since. In Hibernate the warden sees only wake-capable pins; a pin in ANALOGUE mode gives no edges (18 R756); a
tally event wakes the device. -/
def execTallyEdgeDebounced (edges : List (Nat × Bool)) (firstAt : Nat) (s : State) :
    Host.Outcome State Fault Refusal :=
  checked (edges.all fun e => decide (e.1 < 24)) (
    if s.pw.mode == .off then s
    else
      let s := edges.foldl State.pinLevel s
      let seen := edges.filter fun e =>
        s.get .GP_FUNC e.1 != 8 && (s.pw.mode != .hibernate || decide (e.1 < 8))
      let codes := seen.map edgeCode
      let used := (List.range 8).any fun ch =>
        codes.contains (s.get .TL_START ch) || codes.contains (s.get .TL_STOP ch)
      if !used then s
      else (s.activity 6).tallyEvents codes (s.tickTime firstAt) (s.wardenTook firstAt))

/-- TALLY_MAX_OPEN (08 Table 8.16, last row): the channel has been open for TL_MAX_OPEN_S. -/
def execTallyMaxOpen (channel : Nat) (s : State) : Host.Outcome State Fault Refusal :=
  checked (channel < 8) (
    match Map.get s.tally channel with
    | none => s
    | some o =>
      let m := s.get .TL_MAX_OPEN_S channel
      let t := o.start + m * 1000000
      if m = 0 ∨ s.time < t ∨ s.pw.mode = .off then s
      else (((s.activity 6).tallyEnd channel o 8 t (s.pw.mode != .run)).tallyShut channel))

/-- A write to TL_START or TL_STOP of an open channel closes it (08 R386). -/
def State.tallyRewired (s : State) (ch : Nat) : State :=
  match Map.get s.tally ch with
  | none => s
  | some o => (s.tallyEnd ch o 4 s.now (s.pw.mode != .run)).tallyShut ch

end Sys2Proof.Machine
end

