-- ==== Sys2Proof/Machine/Time.lean ====
section
/-! DEFINITION. The time sources and the time base (08 R374-R382, 03 R114). -/

namespace Sys2Proof.Machine

/-- A signed value saturated to 32 bits, as a pattern. -/
def sat32 (i : Int) : Nat := toBits 32 (max (-2147483648) (min 2147483647 i))

/-- A time record joins bobbin 9 (08 R381, Table 8.13). -/
def State.timeRecord (s : State) (kind : Nat) (offset : Int) (before after : Nat) : State :=
  let payload := leBytes 1 kind ++ leBytes 1 (s.reg .TIME_STATE) ++ leBytes 2 0 ++ leBytes 4 (sat32 offset)
    ++ leBytes 8 before ++ leBytes 8 after
  s.appendLog 9 payload (b2n s.coarse) 0x01FF s.now

/-- A step of the time base by an offset of so many µs of device time over the label (08 R377). -/
def State.timeStep (s : State) (offset : Int) : State :=
  let before := s.time
  let after := ((s.time : Int) - offset).toNat
  let t : State := { s with time := after, pw.fineAt := 0, tb.slew := 0, tb.slewFull := false }
  let t := ((t.bump .TIME_STEPS).pulse Ev.timeSteps).report Code.timeStep noAca (sat32 (offset * 1000))
  t.timeRecord 1 (offset * 1000) before after

/-- The correction of a locked base at a labelled edge (08 R377): `offset` in µs, device time less label. -/
def State.discipline (s : State) (offset : Int) : State :=
  if offset < -1000 then s.timeStep offset
  else { s with tb.slew := offset * 1000, tb.slewFull := decide (1000 < offset) }

/-- The time base locks (08 R376, R377). -/
def State.timeLock (s : State) (offset : Int) : State :=
  let unset := s.on .TIME_UNSET
  let s := (s.set .TIME_STATE 2).set .TIME_UNSET 0
  let s := (s.report Code.timeLock).timeRecord 2 (offset * 1000) s.time s.time
  let s : State := { s with tb.bad := 0 }
  if unset then s.timeStep offset else s.discipline offset

/-- TIME_STATE becomes 1 where time is set (08 R378, R381). -/
def State.timeFree (s : State) : State :=
  if s.on .TIME_UNSET then s.set .TIME_STATE 0
  else (s.set .TIME_STATE 1).timeRecord 4 0 s.time s.time

/-- The part takes time inputs: PPS and NMEA reach it in Run, Doze and Nap. -/
def State.timeUp (s : State) : Bool := s.pw.mode == .run || s.pw.mode == .doze || s.pw.mode == .nap

/-- Some pin carries a function (18 Table 18.2, R774). -/
def State.pinHas (s : State) (func : Nat) : Bool := (List.range 24).any fun p => s.get .GP_FUNC p == func

/-- PPS_EDGE (08 R374, R380, Table 8.12): of the polarity set, at least 1 µs wide, 0.999-1.001 s after the last one
accepted. After 1.5 s without one the next counts as a first edge (DEDUCED, log entry 30). -/
def execPpsEdge (falling : Bool) (widthNs : Nat) (s : State) : Host.Outcome State Fault Refusal :=
  .next (
    if !s.timeUp || !s.on .PPS_ENABLE || !s.pinHas 1 || falling != s.on .PPS_FALLING then s
    else
      let inRange := match s.tb.edge with
        | none => true
        | some (_, c) => decide (c + 999000 ≤ s.clock) && decide (s.clock ≤ c + 1001000)
      if widthNs < 1000 ∨ inRange = false then s.bump .PPS_REJECTED
      else
        let run := if s.tb.edge.isSome && !s.tb.labelled then 0 else s.tb.run
        let t : State := { s with tb.edge := some (s.now, s.clock), tb.labelled := false, tb.run := run }
        ((t.set .LAST_PPS_TIME s.now).bump .PPS_COUNT).pulse Ev.ppsAccepted)

/-- An edge of device time `e` takes the label `l`, both in µs (08 R375-R377, R379). -/
def State.labelEdge (s : State) (e l : Nat) : State :=
  let offset : Int := (e : Int) - l
  let s : State := { s with tb.labelled := true }
  if s.reg .TIME_STATE = 2 ∧ 500000 < offset.natAbs then
    let s := s.bump .NMEA_REJECTED
    let t : State := { s with tb.bad := s.tb.bad + 1, tb.run := 0, tb.label := none }
    if 4 ≤ t.tb.bad then
      let u : State := { t with tb.bad := 0 }
      u.timeFree
    else t
  else
    let s := s.set .LAST_OFFSET_NS (sat32 (offset * 1000))
    let next := s.tb.label.any fun p => p + 1000000 == l
    let t : State := { s with tb.label := some l, tb.run := if next then s.tb.run + 1 else 1, tb.bad := 0 }
    if t.reg .TIME_STATE = 2 then t.discipline offset
    else if 4 ≤ t.tb.run then t.timeLock offset
    else t

/-- NMEA_SENTENCE (08 R374, R375, R380): RMC with status A, and ZDA; others are ignored. One that is damaged or comes
outside the window of an accepted edge is discarded and counted. -/
def execNmeaSentence (n : Nmea) (s : State) : Host.Outcome State Fault Refusal :=
  .next (
    if !s.timeUp || !s.on .NMEA_ENABLE || !s.pinHas 2 || !((n.rmc && n.statusA) || n.zda) then s
    else match s.tb.edge with
      | none => s.bump .NMEA_REJECTED
      | some (e, c) =>
        if !n.good || decide (s.clock < c + 100000) || decide (c + 900000 < s.clock) then s.bump .NMEA_REJECTED
        else if s.tb.labelled then s
        else s.labelEdge e (n.second * 1000000))

/-- PPS_TIMEOUT (08 R378): no edge accepted for 1.5 s; a locked base goes into holdover at its last rate. -/
def execPpsTimeout (s : State) : Host.Outcome State Fault Refusal :=
  .next (
    match s.tb.edge with
    | none => s
    | some (_, c) =>
      if s.clock < c + 1500000 then s
      else
        let t : State := { s with tb.edge := none, tb.labelled := false, tb.label := none, tb.run := 0 }
        if t.reg .TIME_STATE = 2 then
          let u : State := { t.set .TIME_STATE 3 with tb.holdoverAt := t.clock }
          (u.report Code.timeHoldover).timeRecord 3 0 u.time u.time
        else t)

/-- HOLDOVER_EXPIRY (08 R378): 600 s in holdover. -/
def execHoldoverExpiry (s : State) : Host.Outcome State Fault Refusal :=
  .next (if s.reg .TIME_STATE = 3 ∧ s.tb.holdoverAt + 600000000 ≤ s.clock then s.timeFree else s)

end Sys2Proof.Machine
end

