-- ==== Sys2Proof/Machine/Ports.lean ====
section
/-! DEFINITION. The partner ports: cameras P1-P4, the serial ports P5 and P6, the CAN port P7 (08 R341-R373,
R391-R396). -/

namespace Sys2Proof.Machine

/-- A port is enabled and its path is in use (08 Tables 8.5, 8.8, 8.11; 15 Table 15.3). -/
def State.portOn (s : State) (p : Nat) : Bool :=
  !s.un.agents.contains p &&
    (if isCam p then s.onAt .CAM_ENABLE p else if isSer p then s.onAt .SER_ENABLE p else s.on .CAN_ENABLE)

/-- A port is STALE (08 R391, R396). -/
def State.portStale (s : State) (p : Nat) : Bool :=
  if isCam p then s.get .CAM_STATE p == 3 else if isSer p then s.get .SER_STATE p == 3 else s.pt.canStale

/-- A port goes STALE (08 R391, 07 R324). -/
def State.goStale (s : State) (p : Nat) : State :=
  if s.portStale p then s
  else
    let s := if isCam p then (s.put .CAM_STATE p 3).add .CAM_STALE_COUNT p 1
      else if isSer p then (s.put .SER_STATE p 3).add .SER_STALE_COUNT p 1
      else s.bump .CAN_STALE_COUNT
    let s : State := if p = 7 then
        { if s.pt.busOff then s else s.set .CAN_STATE 4 with pt.canStale := true }
      else s
    let s := if s.get .BB_STATE p = 1 then s.put .BB_STATE p 2 else s
    let t : State := { s with pt.gap := insertSorted p s.pt.gap }
    t.report Code.portStale p

/-- An input that passed its port's filter and range check: the timeout runs from it, and STALE ends (08 R391). -/
def State.heard (s : State) (p : Nat) : State :=
  let stale := s.portStale p
  let s : State := { s with pt.lastIn := s.pt.lastIn.set p (some s.clock) }
  if !stale then s
  else
    let s := if s.get .BB_STATE p = 2 then s.put .BB_STATE p 1 else s
    if isCam p then s.put .CAM_STATE p (if s.pt.linkUp.getD p false then 2 else 1)
    else if isSer p then s.put .SER_STATE p 1
    else
      let t : State := { s with pt.canStale := false }
      if t.pt.busOff then t else t.set .CAN_STATE (if 127 < t.reg .REC then 2 else 1)

/-- A record of a port is appended to its bobbin; the first after STALE carries STALE_GAP (07 R324). It restarts the
idle timers (03 R97). -/
def State.portRecord (s : State) (p sub flags : Nat) (payload : List Byte) (time : Nat) (coarse : Bool) :
    Bool × State :=
  let s := s.activity 4
  let gap := s.pt.gap.contains p
  let (ok, s) := s.tryAppend p payload (flags + b2n coarse + 4 * b2n gap) (p + 256 * sub) time
  if ok && gap then
    let t : State := { s with pt.gap := s.pt.gap.erase p }
    (ok, t.add .STALE_GAPS p 1)
  else (ok, s)

/-! ## Cameras -/

/-- The "KRSH" that opens a KRS datagram, big-endian (08 Table 8.2). -/
def krsMagic : Nat := 0x4B525348

/-- The first check a frame fails, as the counter it adds to: true for DROP_FILTER, false for DROP_RANGE (08 R342,
Table 8.3). -/
def State.camDrop (s : State) (p : Nat) (f : CamFrame) : Option Bool :=
  if !f.fcsOk || f.destMac != s.get .MAC_ADDR p || !(f.vlan.all fun v => v != 0 && v == s.get .VLAN_ID p) then
    some true
  else if f.frameLen < 64 ∨ 9238 < f.frameLen then some false
  else if f.ipVersion != 4 || f.ihl != 5 || !f.ipChecksumOk || f.fragment || f.proto != 17 ||
      f.destIp != s.get .IP_ADDR p || s.get .IP_ADDR p == 0 then some true
  else if f.ipLen < 29 ∨ 9216 < f.ipLen then some false
  else if f.destPort != s.get .UDP_PORT p || !f.udpChecksumOk then some true
  else if f.udpLen + 20 ≠ f.ipLen ∨ f.payload.length + 8 ≠ f.udpLen then some false
  else none

/-- What a UDP payload is (08 R345-R347): a KRS datagram with its sub-stream and sequence, an opaque one, or one to be
dropped. A payload that opens with KRS_MAGIC and fails a check of the KRS row counts in DROP_RANGE, as Check 2 has it
for KRS_HCRC (DEDUCED, log entry 29). -/
def State.camKind (s : State) (p : Nat) (bs : List Byte) : Option (Option (Nat × Nat)) :=
  if beFieldAt bs 0 4 = krsMagic ∧ 4 ≤ bs.length then
    if 32 ≤ bs.length ∧ beFieldAt bs 4 1 = 1 ∧ beFieldAt bs 5 1 = 32 ∧
        beFieldAt bs 28 4 = crc32c (bytesAt bs 0 28) ∧ beFieldAt bs 12 4 + 32 = bs.length ∧
        beFieldAt bs 6 1 ≤ 15 then
      some (some (beFieldAt bs 6 1, beFieldAt bs 8 4))
    else none
  else if s.onAt .CAM_ACCEPT_RTP p ∧ beFieldAt bs 0 1 / 64 = 2 ∧ 12 ≤ bs.length ∧ bs.length ≤ 9188 then some none
  else none

/-- KRS_SEQ of a sub-stream (08 R347). -/
def State.krsSeq (s : State) (p sub seq : Nat) : State :=
  let k := 16 * p + sub
  let gap := match Map.get s.pt.krs k with
    | none => false
    | some last => (last + 1) % 2 ^ 32 != seq
  let t : State := { s with pt.krs := Map.put s.pt.krs k seq }
  if gap then (t.add .SEQ_GAPS p 1).pulse Ev.seqGaps else t

/-- An accepted datagram becomes one record (08 R344, R347). -/
def State.takeCam (s : State) (p : Nat) (payload : List Byte) (krs : Option (Nat × Nat)) (time : Nat)
    (coarse : Bool) : State :=
  let s := match krs with
    | some (sub, seq) => s.krsSeq p sub seq
    | none => s
  let (ok, s) := s.portRecord p (match krs with
    | some (sub, _) => sub
    | none => 0xFF) (2 * b2n krs.isNone) payload time coarse
  if ok then ((s.add .DGRAM_OK p 1).put .CAM_LAST_RX_TIME p time).pulse (Ev.dgramP1 + (p - 1)) else s

/-- What a port sends (08 R343, R349). -/
def State.sends (s : State) (p : Nat) (l : List PortTx) : State := { s with pt.sent := Map.put s.pt.sent p l }

/-- An ARP request for IP_ADDR is answered (08 R343). -/
def State.takeArp (s : State) (p target : Nat) : State :=
  if target = s.get .IP_ADDR p ∧ target ≠ 0 then s.sends p [.arpReply target] else s

/-- Device time on the 802.1AS timescale, in ns (08 Table 8.4). -/
def State.ptpTime (s : State) (us : Nat) : Nat := (us + (946684800 + s.reg .UTC_OFFSET_S) * 1000000) * 1000

/-- A peer-delay exchange of ours ends (08 R349): the mean link delay. -/
def State.pdelayEnd (s : State) (p seq t3 t4 : Nat) : State :=
  match Map.get s.pt.pdelay p, Map.get s.pt.pdelayT p with
  | some (q, t1), some (q', t2) =>
    if q = seq ∧ q' = seq then
      let mean : Int := (((t4 : Int) - t1) - ((t3 : Int) - t2)) / 2
      s.put .GPTP_PDELAY_NS p (min mean.toNat 0xFFFFFFFF)
    else s
  | _, _ => s

/-- An 802.1AS message (08 R349, R351). The time at which the response leaves is a free value. -/
def State.takeGptp (s : State) (p : Nat) (m : GptpMsg) (time : Nat) : State :=
  match m with
  | .announce => s.add .ANNOUNCE_IGNORED p 1
  | .pdelayReq seq =>
    let (t3, s) := s.draw
    s.sends p [.pdelayResp seq (s.ptpTime time), .pdelayRespFollowUp seq t3]
  | .pdelayResp seq t2 => { s with pt.pdelayT := Map.put s.pt.pdelayT p (seq, t2) }
  | .pdelayRespFollowUp seq t3 t4 => s.pdelayEnd p seq t3 t4
  | _ => s

/-! ## Serial ports -/

/-- A serial frame (08 Table 8.6). -/
def serialFrame (type seq : Nat) (payload : List Byte) : List Byte :=
  let b := leBytes 2 payload.length ++ leBytes 1 type ++ leBytes 1 seq ++ payload
  leBytes 2 0x5AA5 ++ b ++ leBytes 4 (crc32c b)

/-- A frame passes the checks of 08 Table 8.7. -/
def serialOk (bs : List Byte) : Bool :=
  let n := fieldAt bs 2 2
  let type := fieldAt bs 4 1
  bs.length == n + 10 && fieldAt bs 0 2 == 0x5AA5 && fieldAt bs (6 + n) 4 == crc32c (bytesAt bs 2 (n + 4)) &&
    ((type == 1 && decide (1 ≤ n) && decide (n ≤ 4064)) || (type == 2 && n == 0))

/-- An answer falls due, unless the pool is lost (08 R356, R394). `from'` is when its frame ended, if it did not wait in a
FIFO (R357). -/
def State.answerDue (s : State) (p seq : Nat) (nak from' : Option Nat) : State :=
  if s.poolLost then s
  else { s with pt.answers := Map.put s.pt.answers p { seq := seq, nak := nak, from' := from' } }

/-- A frame of a serial port (08 R355-R357, R359, R393). -/
def State.takeSerial (s : State) (p : Nat) (bs : List Byte) (time : Nat) (coarse waited : Bool) : State :=
  let ended := if waited then none else some s.clock
  if !serialOk bs then s.portDrop p
  else
    let n := fieldAt bs 2 2
    let seq := fieldAt bs 5 1
    let crc := fieldAt bs (6 + n) 4
    let s := s.heard p
    if fieldAt bs 4 1 = 2 then s.answerDue p seq none ended
    else if Map.get s.pt.serLast p = some (seq, crc) then
      ((s.add .DUPLICATES p 1).pulse Ev.duplicates).answerDue p seq none ended
    else
      let leased := (s.lm.lease.getD p none).isSome
      let (ok, s) := s.portRecord p 0 0 (bytesAt bs 6 n) time coarse
      if ok then
        let s := ((s.add .SER_FRAMES_OK p 1).put .SER_LAST_RX_TIME p time).pulse (Ev.framesP5 + (p - 5))
        let t : State := { s with pt.serLast := Map.put s.pt.serLast p (seq, crc) }
        t.answerDue p seq none ended
      else s.answerDue p seq (some (if leased then 1 else 2)) ended

/-! ## CAN -/

/-- The bit below a bit in big-endian order (08 R367). -/
def bitBelow (k : Nat) : Nat := if k % 8 = 0 then k + 15 else k - 1

/-- The bit positions of a signal, least significant first (08 R367). -/
def signalBits (big : Bool) (start n : Nat) : List Nat :=
  if big then ((List.range n).map fun i => (List.range i).foldl (fun k _ => bitBelow k) start).reverse
  else (List.range n).map (start + ·)

/-- Data bit `k` of a frame (08 R367). -/
def dataBit (data : List Byte) (k : Nat) : Bool := bit (data.getD (k / 8) 0).toNat (k % 8)

/-- A frame matches entry `j` of the signal map (08 R366). -/
def State.canMatch (s : State) (f : CanFrame) (j : Nat) : Bool :=
  let mask := s.get .CM_MASK j
  s.get .CM_KIND j != 0 && f.ide == s.onAt .CM_IDE j && (f.id &&& mask) == (s.get .CM_ID j &&& mask) &&
    s.get .CM_BITS j != 0 &&
    (signalBits (s.onAt .CM_BIG_ENDIAN j) (s.get .CM_START j) (s.get .CM_BITS j)).all fun k =>
      decide (k < 8 * f.data.length)

/-- The raw value of entry `j` in a frame (08 R367). -/
def State.canRaw (s : State) (f : CanFrame) (j : Nat) : Int :=
  let n := s.get .CM_BITS j
  let l := signalBits (s.onAt .CM_BIG_ENDIAN j) (s.get .CM_START j) n
  let v := (l.zipIdx.map fun e => b2n (dataBit f.data e.1) * 2 ^ e.2).sum
  if s.onAt .CM_SIGNED j then ofBits n v else v

/-- A raw value lies in its entry's range (08 R368); the limits are read with the raw value's sign. -/
def State.canInRange (s : State) (j : Nat) (raw : Int) : Bool :=
  let lim (n : RegName) : Int := if s.onAt .CM_SIGNED j then ofBits 32 (s.get n j) else s.get n j
  decide (lim .CM_RAW_MIN ≤ raw) && decide (raw ≤ lim .CM_RAW_MAX)

/-- The physical value (08 R368): rounded toward zero, saturated. -/
def State.canValue (s : State) (j : Nat) (raw : Int) : Nat :=
  sat32 (Int.tdiv (raw * s.getInt .CM_SCALE j + s.getInt .CM_OFFSET j * 65536) 65536)

/-- A frame is decoded for entry `j`; the answer lists the tally sources it sets off (08 R368, Table 8.15). -/
def State.canDecode (s : State) (f : CanFrame) (j : Nat) : List Nat × State :=
  let raw := s.canRaw f j
  if !s.canInRange j raw then ([], s.bump .RANGE_REJECTS)
  else
    let was := s.get .CANVAL j
    let new := s.canValue j raw
    let codes := if was = 0 ∧ new ≠ 0 then [0x80 + j] else if was ≠ 0 ∧ new = 0 then [0xC0 + j] else []
    (codes, s.put .CANVAL j new)

/-- The record of a CAN frame (08 R369). -/
def canBytes (f : CanFrame) : List Byte :=
  leBytes 4 (f.id % 2 ^ 29 + 2 ^ 29 * b2n f.ide + 2 ^ 30 * b2n f.fdf + 2 ^ 31 * b2n f.brs) ++ leBytes 1 f.dlc
    ++ leBytes 1 f.data.length ++ leBytes 2 0 ++ f.data

/-- A frame is recorded once, unless it repeats the last of its identifier within the minimum gap (08 R369, R370). -/
def State.canRecord (s : State) (f : CanFrame) (j time : Nat) (coarse : Bool) : State :=
  let k := 2 * f.id + b2n f.ide
  let again := match Map.get s.pt.canLast k with
    | none => false
    | some l => l.data == f.data && decide (time < l.time + s.get .CM_MIN_GAP_MS j * 1000)
  if again then s.bump .FRAMES_SUPPRESSED
  else
    let (ok, s) := s.portRecord 7 j 0 (canBytes f) time coarse
    if ok then { s with pt.canLast := Map.put s.pt.canLast k { data := f.data, time := time } } else s

/-- A good data frame on P7 (08 R366-R370, R391). -/
def State.takeCan (s : State) (f : CanFrame) (time : Nat) (coarse : Bool) : State :=
  match (List.range 64).filter fun j => s.canMatch f j with
  | [] => s.bump .FRAMES_UNMAPPED
  | j :: js =>
    let s := (((s.heard 7).bump .CAN_FRAMES_OK).pulse Ev.canMatched).set .CAN_LAST_RX_TIME time
    let (codes, s) := (j :: js).foldl (fun (a : List Nat × State) i =>
      let (c, t) := a.2.canDecode f i
      (a.1 ++ c, t)) ([], s)
    let s := if codes.isEmpty then s else s.tallyEvents codes time coarse
    s.canRecord f j time coarse

/-! ## The receive FIFOs -/

/-- An input is taken as its port's rules say, `waited` if it did so in a FIFO. -/
def State.takeInput (s : State) (i : PortIn) (waited : Bool := false) : State :=
  match i.body with
  | .cam payload krs => s.takeCam i.port payload krs i.time i.coarse
  | .arp target => s.takeArp i.port target
  | .gptp m => s.takeGptp i.port m i.time
  | .serial bs => s.takeSerial i.port bs i.time i.coarse waited
  | .can f => s.takeCan f i.time i.coarse

/-- Room of a port's receive FIFO (03 R100, R859): bytes, or frames on P7. -/
def fifoRoom (p : Nat) : Nat := if isCam p then 32768 else if isSer p then 8192 else 64

/-- An input that is to become a record (08 R344, R355, R369), and so restarts the idle timers (03 R97). -/
def PortBody.isRecord : PortBody → Bool
  | .cam _ _ => true
  | .serial bs => serialOk bs && fieldAt bs 4 1 == 1
  | .can _ => true
  | _ => false

/-- An input that arrives in Nap waits in its port's FIFO and wakes the device (08 R350); without room it is dropped and
counted (03 R99, R100, R859). -/
def State.fifoPush (s : State) (i : PortIn) : State :=
  let held := ((s.pt.fifo.filter fun x => x.port == i.port).map (·.size)).sum
  let t : State := { s with pt.fifo := s.pt.fifo ++ [i] }
  let u := if held + i.size ≤ fifoRoom i.port then t else s.portDrop i.port
  if i.body.isRecord then u.activity 4 else u.arrive 4

/-- Inputs that waited are taken once the pool has left self-refresh (03 R99). -/
def State.fifoDrain (s : State) : State :=
  let l := s.pt.fifo
  let t : State := { s with pt.fifo := [] }
  l.foldl (fun s i => s.takeInput i true) t

/-- An input reaches a port: in Run and Doze it is taken at once, in Nap it waits; else nothing is received. -/
def State.arrives (s : State) (p size : Nat) (body : PortBody) : State :=
  let i : PortIn := { port := p, size := size, time := s.now, coarse := s.coarse, body := body }
  match s.pw.mode with
  | .run | .doze => s.takeInput i
  | .nap => s.fifoPush i
  | _ => s

/-- The logic die is held in reset, or on its way out of one: what partners send is dropped and counted (07 R332). -/
def State.resetDrops (s : State) : Bool := s.pw.mode == .boot && s.bo.source == .master

/-- CAM_DATAGRAM (08 R342-R348, R391). -/
def execCamDatagram (port : Nat) (frame : CamFrame) (s : State) : Host.Outcome State Fault Refusal :=
  checked (isCam port) (
    if s.resetDrops then s.portDrop port
    else if !s.coresRun && s.pw.mode != .nap then s
    else if !s.portOn port || !s.pt.linkUp.getD port false then s
    else match s.camDrop port frame with
      | some true => s.add .DROP_FILTER port 1
      | some false => s.add .DROP_RANGE port 1
      | none =>
        match s.camKind port frame.payload with
        | none => s.add .DROP_RANGE port 1
        | some krs => (s.heard port).arrives port frame.frameLen (.cam frame.payload krs))

/-- A camera port is served: enabled, its link up, the part in Run, Doze or Nap. -/
def State.camUp (s : State) (p : Nat) : Bool :=
  s.portOn p && s.pt.linkUp.getD p false && (s.coresRun || s.pw.mode == .nap)

/-- ARP_REQUEST (08 R342, R343). -/
def execArpRequest (port target : Nat) (s : State) : Host.Outcome State Fault Refusal :=
  checked (isCam port) (if s.camUp port then s.arrives port 64 (.arp target) else s)

/-- Bytes of an 802.1AS frame from the destination address to the FCS, as IEEE 802.1AS gives them (PRESUMED, log entry
31). -/
def gptpSize : GptpMsg → Nat
  | .sync => 64
  | .announce => 94
  | .pdelayReq _ => 72
  | .pdelayResp _ _ => 72
  | .pdelayRespFollowUp _ _ _ => 72
  | .other => 64

/-- GPTP_FRAME (08 R349-R351). -/
def execGptpFrame (port : Nat) (msg : GptpMsg) (s : State) : Host.Outcome State Fault Refusal :=
  checked (isCam port) (
    if !s.camUp port then s
    else if !s.onAt .CAM_GPTP_ENABLE port then s.add .DROP_FILTER port 1
    else s.arrives port (gptpSize msg) (.gptp msg))

/-- 802.1AS messages go out on a port (08 R350): none in Nap or Hibernate. -/
def State.gptpOut (s : State) (p : Nat) : Bool := s.camUp p && s.coresRun && s.onAt .CAM_GPTP_ENABLE p

/-- The next 802.1AS sequence of a kind on a port: 0 Sync, 1 Announce, 2 Pdelay_Req. -/
def State.gptpSeq (s : State) (p kind : Nat) : Nat × State :=
  let k := 4 * p + kind
  let q := (Map.get s.pt.seqs k).getD 0
  (q, { s with pt.seqs := Map.put s.pt.seqs k ((q + 1) % 65536) })

/-- SYNC_TIMER (08 R349, R350): Sync then Follow_Up, not while TIME_UNSET is 1. -/
def execSyncTimer (port : Nat) (s : State) : Host.Outcome State Fault Refusal :=
  checked (isCam port) (
    if s.gptpOut port && !s.on .TIME_UNSET then
      let (q, t) := s.gptpSeq port 0
      t.sends port [.sync q, .followUp q (t.ptpTime t.now)]
    else s)

/-- ANNOUNCE_TIMER (08 R349). -/
def execAnnounceTimer (port : Nat) (s : State) : Host.Outcome State Fault Refusal :=
  checked (isCam port) (
    if s.gptpOut port then
      let (q, t) := s.gptpSeq port 1
      let cls := match t.reg .TIME_STATE with
        | 2 => 6
        | 3 => 7
        | _ => 248
      t.sends port [.announce q cls (t.reg .UTC_OFFSET_S)]
    else s)

/-- PDELAY_TIMER (08 R349). -/
def execPdelayTimer (port : Nat) (s : State) : Host.Outcome State Fault Refusal :=
  checked (isCam port) (
    if s.gptpOut port then
      let (q, t) := s.gptpSeq port 2
      let u : State := { t with pt.pdelay := Map.put t.pt.pdelay port (q, t.ptpTime t.now) }
      u.sends port [.pdelayReq q]
    else s)

/-- A camera's link goes down (08 R341, R391): STALE at once if it was up. -/
def State.camDown (s : State) (p : Nat) : State :=
  let was := s.pt.linkUp.getD p false
  let t : State := { s with pt.linkUp := s.pt.linkUp.set p false }
  if was && s.portOn p then t.goStale p else t

/-- Links are seen in Run, Doze and Nap. -/
def State.linksSeen (s : State) : Bool := s.coresRun || s.pw.mode == .nap

/-- CAM_LINK_DOWN (08 Table 8.3, R391). -/
def execCamLinkDown (port : Nat) (s : State) : Host.Outcome State Fault Refusal :=
  checked (isCam port) (if s.linksSeen then s.camDown port else s)

/-- CAM_LINK_UP (08 R341, R391): any speed but 1,000 Mb/s, and half duplex, count as link down. -/
def execCamLinkUp (port speed : Nat) (fullDuplex : Bool) (s : State) : Host.Outcome State Fault Refusal :=
  checked (isCam port) (
    if !s.linksSeen then s
    else if speed = 1000 ∧ fullDuplex = true then
      let t : State := { s with pt.linkUp := s.pt.linkUp.set port true }
      if t.portOn port && !t.portStale port then t.put .CAM_STATE port 2 else t
    else s.camDown port)

/-- A port's timeout in µs. -/
def State.portTimeout (s : State) (p : Nat) : Nat :=
  1000 * (if isCam p then s.get .CAM_TIMEOUT_MS p else if isSer p then s.get .SER_TIMEOUT_MS p
    else s.reg .CAN_TIMEOUT_MS)

/-- PORT_TIMEOUT (08 R391). -/
def execPortTimeout (port : Nat) (s : State) : Host.Outcome State Fault Refusal :=
  checked (1 ≤ port && port ≤ 7) (
    match s.pt.lastIn.getD port none with
    | none => s
    | some t =>
      if s.linksSeen && s.portOn port && decide (t + s.portTimeout port ≤ s.clock) then s.goStale port else s)

/-- A frame reaches a serial port (08 R355-R357, R362). -/
def State.serialIn (s : State) (p : Nat) (f : SerialFrame) : State :=
  if s.resetDrops then s.portDrop p
  else if !s.linksSeen || !s.portOn p then s
  else
    let s : State := { s with pt.lineAt := s.pt.lineAt.set p s.clock }
    if f.broken then s.portDrop p else s.arrives p f.bytes.length (.serial f.bytes)

/-- SERIAL_DATA_FRAME (08 R355, R356, R359, R362). -/
def execSerialDataFrame (port : Nat) (frame : SerialFrame) (s : State) : Host.Outcome State Fault Refusal :=
  checked (isSer port) (s.serialIn port frame)

/-- SERIAL_HEARTBEAT (08 R356, R362). -/
def execSerialHeartbeat (port : Nat) (frame : SerialFrame) (s : State) : Host.Outcome State Fault Refusal :=
  checked (isSer port) (s.serialIn port frame)

/-- The serial ports send: Run or Doze, the pool not lost (08 R394). -/
def State.serialOut (s : State) (p : Nat) : Bool := s.coresRun && s.portOn p && !s.poolLost

/-- A collision cuts off what was being sent (08 R361). -/
def State.collide (s : State) (p : Nat) : State := (s.add .COLLISIONS p 1).pulse Ev.collisions

/-- A TIME frame (08 R354, R360). -/
def State.timeFrame (s : State) : List Byte :=
  serialFrame 0x83 0 (leBytes 8 s.now ++
    leBytes 1 (b2n (s.on .TIME_UNSET) + 2 * b2n s.coarse + 4 * b2n (s.reg .TIME_STATE == 2)))

/-- An ACK or NAK frame (08 R354, R356). -/
def answerFrame (a : SerAnswer) : List Byte :=
  match a.nak with
  | none => serialFrame 0x81 a.seq []
  | some r => serialFrame 0x82 a.seq (leBytes 1 r)

/-- The granule at which a serial port's outbox begins (07 Table 7.2a). -/
def outboxGranule (p : Nat) : Nat := if p = 5 then 0x780 else 0x790

/-- A serial port sends: the line is in use from then on (08 R360). A message that the poisoned outbox holds is discarded
and counted in the port's drop counter (07 R326; which counter, and that a message lies at the outbox's start, DESIGN
CHOICE, log entry 142). -/
def State.serialSends (s : State) (p : Nat) (l : List PortTx) : State :=
  if s.poisoned (outboxGranule p) then s.portDrop p
  else { s with pt.lineAt := s.pt.lineAt.set p s.clock }.sends p l

/-- An answer may begin (08 R357): 2 character times, of 10 bits each, after its frame's last stop bit. -/
def State.answerReady (s : State) (p : Nat) (a : SerAnswer) : Bool :=
  a.from'.all fun t => decide (20000000 ≤ (s.clock - t) * s.get .BAUD p)

/-- SERIAL_ANSWER (08 R356-R361): the answer that is due goes out, and a TIME frame directly after an ACK; after a
collision the rest is dropped, an answer for good. -/
def execSerialAnswer (port : Nat) (collision : Bool) (s : State) : Host.Outcome State Fault Refusal :=
  checked (isSer port) (
    match Map.get s.pt.answers port with
    | none => s
    | some a =>
      let t : State := { s with pt.answers := Map.erase s.pt.answers port }
      if !s.serialOut port then t
      else if !s.answerReady port a then s
      else if collision then t.collide port
      else if a.nak.isNone && t.pt.timeDue.contains port then
        let u : State := { t with pt.timeDue := t.pt.timeDue.erase port }
        u.serialSends port [.serial (answerFrame a), .serial u.timeFrame]
      else t.serialSends port [.serial (answerFrame a)])

/-- SERIAL_GAP_DISCARD (08 Table 8.7): a gap of more than 10 character times discards the frame. -/
def execSerialGapDiscard (port : Nat) (s : State) : Host.Outcome State Fault Refusal :=
  checked (isSer port) (
    if (s.linksSeen && s.portOn port) || s.resetDrops then s.portDrop port else s)

/-- TIME_FRAME_TIMER (08 R360, R361): with an answer due the TIME frame follows it, else it goes after 10 ms of line idle;
after a collision it goes at the next opportunity. -/
def execTimeFrameTimer (port : Nat) (collision : Bool) (s : State) : Host.Outcome State Fault Refusal :=
  checked (isSer port) (
    if !s.serialOut port || !s.onAt .SER_TIME_FRAMES port then s
    else
      let due : State := { s with pt.timeDue := insertSorted port s.pt.timeDue }
      if Map.has s.pt.answers port || decide (s.clock < s.pt.lineAt.getD port 0 + 10000) then due
      else if collision then due.collide port
      else
        let t : State := { s with pt.timeDue := s.pt.timeDue.erase port }
        t.serialSends port [.serial t.timeFrame])

/-- REC and the error state of P7 after a frame (08 Table 8.11), as ISO 11898-1 has a receiver count: up by 1 for a frame
with an error, down by 1 for a good one, from above 127 to 127; error-passive above 127 (PRESUMED, log entry 141). -/
def State.canErrors (s : State) (good : Bool) : State :=
  let r := s.reg .REC
  let s := s.set .REC (if good then min 127 (r - 1) else min 255 (r + 1))
  if s.reg .CAN_STATE = 1 ∨ s.reg .CAN_STATE = 2 then s.set .CAN_STATE (if 127 < s.reg .REC then 2 else 1) else s

/-- CAN_FRAME (08 R364-R372, R396): remote frames are ignored, frames in bus-off missed, FD frames with FD_ENABLE 0 and
frames that fail ISO 11898-1 dropped. -/
def execCanFrame (frame : CanFrame) (s : State) : Host.Outcome State Fault Refusal :=
  checked (frame.data.length ≤ 64) (
    if s.resetDrops then s.portDrop 7
    else if !s.linksSeen || !s.portOn 7 || s.pt.busOff then s
    else
      let s := s.canErrors (frame.ok && (!frame.fdf || s.on .CAN_FD_ENABLE))
      if frame.remote || !frame.ok || (frame.fdf && !s.on .CAN_FD_ENABLE) then s else s.arrives 7 1 (.can frame))

/-- CAN_BUS_OFF (08 R396). -/
def execCanBusOff (s : State) : Host.Outcome State Fault Refusal :=
  .next (
    if !s.linksSeen || !s.portOn 7 || s.pt.busOff then s
    else
      let t : State := { s with pt.busOff := true }
      ((t.set .CAN_STATE 3).bump .BUSOFF_COUNT).report Code.canBusOff)

/-- CAN_BUSOFF_RECOVERY (08 R364, R396): after 128 occurrences of 11 recessive bits. -/
def execCanBusoffRecovery (s : State) : Host.Outcome State Fault Refusal :=
  .next (
    if !s.pt.busOff then s
    else
      let t : State := { s with pt.busOff := false }
      ((t.set .CAN_STATE (if t.pt.canStale then 4 else 1)).set .TEC 0).set .REC 0)

/-- A port that is turned on has not been heard yet; one that is turned off is disabled (08 R391, Tables 8.5, 8.8,
8.11). -/
def State.portSwitched (s : State) (p : Nat) : State :=
  let t : State := { s with pt.lastIn := s.pt.lastIn.set p none }
  let on := t.portOn p
  let t := if t.get .BB_STATE p = 2 then t.put .BB_STATE p 1 else t
  if isCam p then t.put .CAM_STATE p (if on then (if t.pt.linkUp.getD p false then 2 else 1) else 0)
  else if isSer p then t.put .SER_STATE p (b2n on)
  else
    let u : State := { t with pt.canStale := false, pt.busOff := false }
    u.set .CAN_STATE (b2n on)

end Sys2Proof.Machine
end

