-- ==== Sys2Proof/Machine/Gpio.lean ====
section
/-! DEFINITION. The general-purpose pins (18). -/

namespace Sys2Proof.Machine

/-- The code of a writer (18 Table 18.5). -/
def ownerCode : PinOwner → Nat
  | .host => 0
  | .coreA => 1
  | .coreB => 2
  | .servo => 3
  | .security => 4
  | .warden => 5

/-- A write to GPIO_OUT by an owner (18 R762, R763, R765): only its pins change; another bit that differs from the
current value is a violation, recorded with its lowest pin. -/
def State.gpioOut (s : State) (owner value : Nat) : State :=
  let cur := s.gpioOutNow
  let own (p : Nat) : Bool := s.pinOwner p == owner
  let new := ((List.range 24).map fun p => 2 ^ p * b2n (if own p then bit value p else bit cur p)).sum
  let bad := (List.range 24).find? fun p => !own p && bit value p != bit cur p
  let s := s.set .GPIO_OUT new
  match bad with
  | none => s
  | some p => (s.bump .GP_VIOLATIONS).report Code.ownerViolation p

/-- The masked update (18 R764). -/
def State.gpioMasked (s : State) (owner mask value : Nat) : State :=
  let cur := s.gpioOutNow
  s.gpioOut owner (((List.range 24).map fun p => 2 ^ p * b2n (if bit mask p then bit value p else bit cur p)).sum)

/-- A write to GPIO_LOCK_KEY (18 R767-R769): step 1, 2 or 3 of the sequence, each within 100 ms of the one before; one
that breaks the sequence or comes late counts as step 1. -/
def State.lockWrite (s : State) (m : Nat) : State :=
  let first (s : State) : State := { s.set .LOCK_STEP 1 with gp.lockMask := m, gp.lockAt := s.clock }
  let late := decide (s.gp.lockAt + 100000 < s.clock)
  match s.reg .LOCK_STEP with
  | 0 => first s
  | 1 =>
    if !late && m == (s.gp.lockMask ^^^ 0xFFFFFF) then { s.set .LOCK_STEP 2 with gp.lockAt := s.clock }
    else first (s.bump .LOCK_ABORTS)
  | _ =>
    if !late && m == s.gp.lockMask then
      ((s.set .GPIO_LOCKED (s.reg .GPIO_LOCKED ||| m)).set .LOCK_STEP 0).report Code.pinLocked m
    else first (s.bump .LOCK_ABORTS)

/-- A pin is locked (18 R769). -/
def State.pinLocked (s : State) (p : Nat) : Bool := bit (s.reg .GPIO_LOCKED) p

/-- The edge of a pin that wakes (18 R759): function GPIO, GP_WAKE set for it. -/
def State.wakeEdge (s : State) (p : Nat) (rising : Bool) : Bool :=
  s.get .GP_FUNC p == 0 && (if rising then s.onAt .GPW_RISING p else s.onAt .GPW_FALLING p)

/-- GPIO_WAKE_EDGE (18 R757, R759): edges of wake-capable pins in one tick, 61 µs or longer. -/
def execGpioWakeEdge (pins : BitVec 8) (rising : Bool) (s : State) : Host.Outcome State Fault Refusal :=
  .next (
    if s.pw.mode == .off then s
    else
      let moved := (List.range 8).filter fun p => bit pins.toNat p
      let s := moved.foldl (fun s p => s.pinLevel (p, rising)) s
      let mask := ((moved.filter fun p => s.wakeEdge p rising).map (2 ^ ·)).sum
      if mask = 0 then s
      else
        let before := s.pw.waking.isSome
        let s := s.arrive 0
        if s.pw.waking.isSome && !before then s.set .GP_WAKE_CAUSE mask else s)

/-- AUX_SAMPLE (18 R757, R758): the means of 8 conversions of AUX_0 to AUX_5, saturated at the VIO_B voltage. -/
def execAuxSample (mv : List (List Nat)) (vioMv : Nat) (s : State) : Host.Outcome State Fault Refusal :=
  checked (mv.length == 6 && mv.all fun l => l.length == 8) (
    if !s.coresRun then s
    else (List.range 6).foldl (fun s k =>
      let mean := (((mv.getD k []).map (min vioMv)).sum) / 8
      s.put .AUX_MV k (if s.get .GP_FUNC (16 + k) = 8 then mean else 0)) s)

end Sys2Proof.Machine
end

