-- ==== Sys2Proof/Machine/Power.lean ====
section
/-! DEFINITION. Power states and their entries, wake sources, power failure, the slow clock and the PLLs, the link's
power states (03; 04 R161-R164; 06 R243-R246; 20 R817, R820, R821, R843). -/

namespace Sys2Proof.Machine

/-! ## What an entry waits for -/

/-- The disc is at rest, no burst is under way and nothing is to turn it (03 R97, 06 R244). -/
def State.dozeReady (s : State) : Bool :=
  s.pw.mode == .run && s.pw.waking.isNone && s.pw.pfail.isNone && !s.bu.active && s.bu.block.isNone &&
    !s.on .DISC_TURNING && !s.discWanted && s.st.granted.isNone

/-- Mailbox slots with a command in hand. -/
def State.busySlots (s : State) : List Nat := (List.range 4).filter fun n => (s.slot n).busy

/-- Doze may become Nap (03 R99, 14 R639): no command is outstanding, the merging buffer is empty, the range engine is
idle, no window is open (16 R690). A mailbox command other than that of slot `but` must not be in hand. -/
def State.napReady (s : State) (but : Option Nat) : Bool :=
  s.pw.mode == .doze && s.pw.waking.isNone && s.pw.pfail.isNone && s.q.cmds.isEmpty &&
    s.busySlots.all (fun n => but == some n) && s.ca.merge.isEmpty && s.ca.stalled.isEmpty && s.ca.range.isNone && s.st.window.isNone

/-- Idle timers run, and may take the device as low as a state (03 R98, 06 R243). -/
def State.idleMay (s : State) (depth : Nat) : Bool :=
  !s.pw.hold && decide (depth ≤ s.reg .DEEPEST_STATE) && s.pw.entry.isNone && s.pw.pfail.isNone && s.pw.waking.isNone

/-- An entry begins (03 R106). -/
def State.beginEntry (s : State) (e : Entry) : State := { s.set .ENTRY_BUSY 1 with pw.entry := some e }

/-- An entry is over. -/
def State.endEntry (s : State) : State := { s.set .ENTRY_BUSY 0 with pw.entry := none }

/-! ## Commit points -/

/-- The Doze commit point (03 Tables 3.3, 3.4, R108; 07 R308): the core clock at 300 MHz. -/
def State.dozeCommit (s : State) : State :=
  let s : State := { s with pw.mode := .doze, pw.swapAt := s.clock, pw.fineAt := s.time }
  ((s.set .CORE_MHZ 300).handover).restartIdle

/-- A bead's level as Nap is entered (17 R734). -/
def State.beadNapEnter (s : State) (i : Nat) : State :=
  let code := s.get .CNT_EVENT i
  if !Ev.levels.contains code then s
  else
    let was := s.bead.level.getD i false
    let cur := s.level code
    let acts := s.gateOpen s.level i
    let t : State := { s with bead.level := s.bead.level.set i cur, bead.napOpen := s.bead.napOpen.set i acts,
                              bead.period := s.bead.period.set i (if cur then s.bead.period.getD i 0 else 0) }
    if t.get .CNT_MODE i = 1 ∧ cur = true ∧ was = false ∧ acts = true then t.beadAdd i 1 else t

/-- The Nap time is added to a bead whose level was true at Nap entry (17 R734). -/
def State.beadNapExit (s : State) (d i : Nat) : State :=
  if s.bead.level.getD i false then
    let p := s.bead.period.getD i 0 + d
    let t : State := { s with bead.period := s.bead.period.set i p }
    if !s.bead.napOpen.getD i true then t
    else match t.get .CNT_MODE i with
      | 2 => t.beadAdd i d
      | 3 => t.beadMax i p
      | _ => t
  else s

/-- The Nap commit point (03 Tables 3.3, 3.4, 04 R161): the pool in self-refresh, core clocks and the drive die off. -/
def State.napCommit (s : State) : State :=
  let s : State := { s with pw.mode := .nap, pw.driveDie := false, host.ltrNs := some (s.reg .EXIT_NAP_NS) }
  let s := ((s.set .CLK_CORE 0).set .CLK_MEMORY 0).set .CORE_MHZ 0
  let s := (List.range 32).foldl State.beadNapEnter s.sledPowerDown
  let s : State := { s with bead.napAt := some s.clock }
  s.restartIdle

/-- What the host side loses with the logic die's power (03 R104, Table 3.3). A link that was up is in L3: Hibernate
allows L2 and L3 only, and no LTR value is sent (04 Table 4.9). -/
def State.hostLost (s : State) : State :=
  let h : HostS := { mem := s.host.mem, perst := s.host.perst, wakeN := s.host.wakeN, p8At := s.host.p8At,
                     linkOff := s.host.linkOff || s.p0Up, busMaster := false, releasedAt := s.host.releasedAt,
                     subsys := s.host.subsys, trained := s.host.trained, ltrNs := none,
                     failedUnlocks := s.host.failedUnlocks }
  let link := if s.p0Up then 0 else s.reg .LINK_STATE
  let t : State := { s with host := h, q := {} }
  ((((t.set .NT_HEAD 0).set .NT_TAIL 0).set .LINK_STATE link).set .LINK_SPEED 0).set .LINK_WIDTH 0

/-- The Hibernate commit point (03 R104, 20 R821, 07 R856, 18 R761): pairs discarded, leases released without a record,
the pool lost, the main rails off. The rails' own fall is MAIN_PGOOD_FALL. -/
def State.hibCommit (s : State) : State :=
  let s := s.saveTails.hostLost.forget.banksOff
  let s := ((s.set .CLK_REF25 0).set .POOL_STATE 0).set .LAS_STATE 0
  let l : LoomS := { warden := s.lm.warden, markNext := s.lm.markNext }
  let s : State := { s with lm := l, pw.mode := .hibernate, pw.hold := false, pw.entry := none, pw.waking := none,
                            pw.ddrResetN := false, pw.pwrMainEn := false, pw.driveDie := false, bo.readyAt := none,
                            pw.railAt := s.clock, pw.xtalGood := 0, pw.rcAt := none }
  (s.set .ENTRY_BUSY 0).restartIdle

/-! ## Hibernate's conditions -/

/-- A condition of 03 R103 before the burst: no disc in service, no KAC-80 loaded, or bytes pending that no burst can
take. -/
def State.staysNap (s : State) : Bool :=
  s.reg .DISC_SERVICE == 3 || s.reg .LD_STATE != 2 || (s.pendingBytes != 0 && !s.burstAllowed)

/-- A condition of 03 R103 once the burst is over. -/
def State.staysNapAfter (s : State) : Bool :=
  s.reg .DISC_SERVICE == 3 || s.reg .LD_STATE != 2 || s.pendingBytes != 0

/-- HIB_ALLOW bars Hibernate while P0 is up (03 R102). -/
def State.hibBarred (s : State) : Bool := s.p0Up && !s.on .HIB_ALLOW

/-- The burst of 03 R101, part of an entry (R857): every bobbin up to its tail. A burst under way is taken up to the
tails. -/
def State.hibBurst (s : State) : State :=
  if !s.burstAllowed then s
  else
    let going := s.bu.active || s.bu.turning
    let order := if going then s.bu.order ++ s.fillOrder.filter (fun b => !s.bu.order.contains b) else s.fillOrder
    let s := if going then s else s.openSession.pulse Ev.bursts
    let s : State := { s with bu.active := true, bu.turning := true, bu.order := order,
                              bu.exhausted := if going then s.bu.exhausted else 0,
                              bu.blocks := if going then s.bu.blocks else 0,
                              bu.limits := (List.range 10).map fun b => s.get .TAIL_OFFSET b }
    s.resume

/-- A Hibernate entry begins (03 R857): with bytes pending it leaves for Run and its burst, which is no wake. -/
def State.hibEntry (s : State) (cmd : Option Nat) (force : Bool) : State :=
  let burst := s.pendingBytes != 0 && s.burstAllowed
  let s := s.beginEntry { target := .hibernate, cmd := cmd, force := force, burst := burst }
  if !burst then s
  else if s.pw.mode = .run then s.hibBurst
  else { s with pw.waking := some s.pw.mode }

/-- The burst of an entry is over: the Doze commit point is passed (03 R857, 06 R246). A condition of R103 that has
arisen makes it an entry into Nap. -/
def State.hibDoze (s : State) (e : Entry) : State :=
  let t : State := if s.staysNapAfter && !e.force then { s with pw.entry := some { e with target := .nap } } else s
  if t.pw.mode = .run then t.dozeCommit else t

/-- The Nap commit point of an entry; one that stays in Nap under 03 R103 is not tried again until a wake. -/
def State.entryNap (s : State) (e : Entry) : State :=
  let s := s.napCommit
  if e.target = .hibernate then s
  else
    let s := s.endEntry
    { s with pw.hibTried := e.burst }

/-- The link is in L2 or L3 (04 Table 4.9). -/
def State.linkGone (s : State) : Bool := s.reg .LINK_STATE == 5 || s.host.linkOff

/-- An entry into Hibernate reaches its commit point where nothing holds it back (03 R102, R103, R857; 06 R246; 19 R785). -/
def State.entryHib (s : State) (e : Entry) : State :=
  let due := match e.cmd, e.answered with
    | none, _ => !s.hibBarred
    | some _, some t => s.linkGone || decide (t + 1000000 ≤ s.clock)
    | some _, none => false
  if !due || s.on .GOOD_PENDING || s.pw.pfail.isSome || s.pw.waking.isSome then s
  else
    let n := s.pendingBytes
    let s := if e.force && s.staysNapAfter then s.report Code.hibernateForced (n % 2 ^ 32) 0 n else s
    s.hibCommit

/-- A Hibernate entry moves through the commit points that it can pass (03 R857). One that a POWER command started moves
on only once that command is answered. -/
def State.hibStep (s : State) : State :=
  match s.pw.entry with
  | none => s
  | some e =>
    if e.target ≠ .hibernate ∨ (e.cmd.isSome = true ∧ e.answered = none) then s
    else
      let s := if s.dozeReady then s.hibDoze e else s
      match s.pw.entry with
      | none => s
      | some e =>
        let s := if s.napReady none then s.entryNap e else s
        if s.pw.mode = .nap ∧ e.target = .hibernate then s.entryHib e else s

/-! ## POWER -/

/-- A POWER row acts on the command with its TARGET. -/
def State.power (s : State) (slot target : Nat) (f : MbCopy → State → State) : Host.Outcome State Fault Refusal :=
  s.runMbx slot 0x20 (fun c => fieldAt c.args 0 1 == target) f

/-- POWER completes with SUCCESS and a state in byte 8 (06 Table 6.2). -/
def State.powerDone (s : State) (slot code : Nat) : State := s.answer slot (okResp (leBytes 1 code))

/-- POWER is refused (06 R243, R245). -/
def State.powerRefused (s : State) (target : Nat) : Bool := s.pw.hold || decide (s.reg .DEEPEST_STATE < target)

/-- POWER with TARGET 1 to 3 (06 R243-R246): `go` carries an entry of its own on, `start` begins one. No entry runs under
PFAIL_N. -/
def State.powerEntry (s : State) (slot target : Nat) (refused : Bool) (go : Entry → State) (start : State → State) :
    State :=
  match s.pw.entry with
  | some e => if e.cmd = some slot then go e else s
  | none =>
    if s.powerRefused target || refused then s.answer slot (failResp St.stateRefused 0)
    else if s.pw.pfail.isSome then s
    else start s

/-- POWER_HOLD_RUN (06 R243): in Doze the device leaves for Run, where the hold keeps it. -/
def execPowerHoldRun (slot : Nat) (s : State) : Host.Outcome State Fault Refusal :=
  s.power slot 0 fun _ s =>
    let t : State := { s with pw.hold := true, pw.waking := if s.pw.mode = .doze then some .doze else s.pw.waking }
    t.powerDone slot 0

/-- The Doze commit point of a POWER with TARGET 1. -/
def State.powerDoze (s : State) (slot : Nat) : State :=
  if s.dozeReady then (s.dozeCommit.endEntry).powerDone slot 1 else s

/-- POWER_DOZE (06 R244): it waits until the disc is at rest. -/
def execPowerDoze (slot : Nat) (s : State) : Host.Outcome State Fault Refusal :=
  s.power slot 1 fun _ s =>
    s.powerEntry slot 1 false (fun _ => s.powerDoze slot) fun s =>
      if s.pw.mode = .doze then s.powerDone slot 1
      else (s.beginEntry { target := .doze, cmd := some slot }).powerDoze slot

/-- POWER_NAP (06 R244): past the Doze commit point; NAP_COMMIT answers and commits. -/
def execPowerNap (slot : Nat) (s : State) : Host.Outcome State Fault Refusal :=
  let pass (s : State) : State := if s.dozeReady then s.dozeCommit else s
  s.power slot 2 fun _ s =>
    s.powerEntry slot 2 false (fun _ => pass s) fun s =>
      pass (s.beginEntry { target := .nap, cmd := some slot })

/-- The answer of POWER with TARGET 3 once its burst is over (06 R246): byte 8 is 3, or 2 where R103 keeps it in Nap. -/
def State.powerHibAnswer (s : State) (slot : Nat) (e : Entry) : State :=
  if e.answered.isSome || !(s.dozeReady || (s.pw.mode == .doze && s.pw.waking.isNone)) then s
  else
    let code := if s.staysNapAfter && !e.force then 2 else 3
    let s := s.hibDoze e
    let s : State := { s with pw.entry := s.pw.entry.map fun (e : Entry) => { e with answered := some s.clock, burst := true } }
    s.powerDone slot code

/-- POWER_HIBERNATE (06 R246, 03 R102, R103, R857). -/
def execPowerHibernate (slot : Nat) (s : State) : Host.Outcome State Fault Refusal :=
  s.power slot 3 fun c s =>
    let force := bit c.flags 1
    s.powerEntry slot 3 (s.hibBarred || (s.staysNap && !force)) (fun e => s.powerHibAnswer slot e) fun s =>
      s.hibEntry (some slot) force

/-- POWER_RELEASE_HOLD (06 R243). -/
def execPowerReleaseHold (slot : Nat) (s : State) : Host.Outcome State Fault Refusal :=
  s.power slot 4 fun _ s =>
    let t : State := { s with pw.hold := false }
    t.powerDone slot t.pw.mode.code

/-! ## Idle timers -/

/-- DOZE_IDLE_EXPIRY (03 R96-R98): counted from the last restart, and from the disc at rest. -/
def execDozeIdleExpiry (s : State) : Host.Outcome State Fault Refusal :=
  .next (
    let n := s.reg .DOZE_IDLE_MS
    if n ≠ 0 ∧ s.idleMay 1 = true ∧ s.dozeReady = true ∧ max s.pw.idleFrom s.sp.restAt + 1000 * n ≤ s.clock then
      s.dozeCommit
    else s)

/-- NAP_IDLE_EXPIRY (03 R96, R98): the entry into Nap begins. -/
def execNapIdleExpiry (s : State) : Host.Outcome State Fault Refusal :=
  .next (
    let n := s.reg .NAP_IDLE_S
    if n ≠ 0 ∧ s.idleMay 2 = true ∧ s.pw.mode = .doze ∧ s.pw.idleFrom + 1000000 * n ≤ s.clock then
      s.beginEntry { target := .nap }
    else s)

/-- NAP_COMMIT (03 R99, 14 R639, 06 R244): POWER is answered as the last act before the commit point. -/
def execNapCommit (s : State) : Host.Outcome State Fault Refusal :=
  .next (
    match s.pw.entry with
    | none => s
    | some e =>
      match e.target, e.cmd, e.answered with
      | .nap, some slot, none =>
        if s.napReady (some slot) then
          let t : State := { s with pw.entry := some { e with answered := some s.clock } }
          t.powerDone slot 2
        else s
      | .nap, _, _ => if s.napReady none then s.entryNap e else s
      | .hibernate, some _, some _ => if s.napReady none then s.entryNap e else s
      | _, _, _ => s)

/-- HIB_IDLE_EXPIRY (03 R96, R98, R102, R103, R857). -/
def execHibIdleExpiry (s : State) : Host.Outcome State Fault Refusal :=
  .next (
    let n := s.reg .HIB_IDLE_S
    if n ≠ 0 ∧ s.idleMay 3 = true ∧ s.pw.mode = .nap ∧ s.pw.hibTried = false ∧
        s.pw.idleFrom + 1000000 * n ≤ s.clock ∧ s.hibBarred = false then
      if s.staysNap then { s with pw.hibTried := true } else s.hibEntry none false
    else s)

/-- HIBERNATE_COMMIT (03 R101-R104, R857; 20 R821). -/
def execHibernateCommit (s : State) : Host.Outcome State Fault Refusal := .next s.hibStep

/-! ## Wakes -/

/-- Wake sources that a state knows (03 Table 3.5): in Doze a port's record is taken without leaving it; in Hibernate
doorbells, ports and triggers do not exist. -/
def State.wakeReaches (s : State) (source : Nat) : Bool :=
  match s.pw.mode with
  | .doze => source != 4
  | .hibernate => !([3, 4, 7].contains source)
  | _ => true

/-- WAKE_EVENT (03 R106, R107, R109, Table 3.5). -/
def execWakeEvent (source : Nat) (s : State) : Host.Outcome State Fault Refusal :=
  checked (source < 8) (if s.wakeReaches source then s.arrive source else s)

/-- The return to Run from Doze or Nap (03 R99, R107, R108, R113; 07 R308; 17 R734): fine time goes on from the warden's
count, inputs held in the FIFOs are taken. An exit that is part of a Hibernate entry restarts no timer and runs its
burst (R857). -/
def State.wakeExit (s : State) : State :=
  let nap := s.pw.mode == .nap
  let slept := match s.bead.napAt with
    | some t => wardenTime s.clock - wardenTime t
    | none => 0
  let part := s.pw.entry.any fun (e : Entry) => e.burst
  let s : State := { s with pw.mode := .run, pw.swapAt := s.clock, pw.waking := none, pw.driveDie := true, time := s.now, host.ltrNs := some 20000 }
  let s := if nap then
      (List.range 32).foldl (fun s i => s.beadNapExit slept i) (((s.set .CLK_CORE 1).set .CLK_MEMORY 1).sledPowerUp)
    else s
  let s : State := { s with bead.napAt := none }
  let s := ((s.set .CORE_MHZ 1200).handover.unbuffer).fifoDrain
  let s := if part then s.hibBurst else s.restartIdle
  if s.bu.active || s.bu.block.isSome then s.resume else s

/-- WAKE_EXIT_COMPLETE (03 R107): from Hibernate the exit is a boot. -/
def execWakeExitComplete (s : State) : Host.Outcome State Fault Refusal :=
  .next (
    if s.pw.waking.isSome && (s.pw.mode == .doze || s.pw.mode == .nap) then s.wakeExit else s)

/-- RTC_ALARM_FIRE (03 R124, Table 3.5): once per value. -/
def execRtcAlarmFire (s : State) : Host.Outcome State Fault Refusal :=
  .next (
    let a := s.reg .RTC_ALARM
    if s.pw.wardenUp && a != 0 && decide (a ≤ s.now) && !s.pw.alarmFired then
      let t : State := { s with pw.alarmFired := true }
      t.arrive 1
    else s)

/-! ## Power failure -/

/-- The shutdown of 03 R119 and its record: FINISHED, ABANDONED or IDLE. -/
def State.pfailShutdown (s : State) (p : PFail) : State :=
  let s := s.servoOff.laserOff
  let turning := (s.reg .SP_STATE != 0 || s.on .DISC_TURNING) && s.reg .SP_STATE != 7
  let s := if turning && s.pw.driveDie then s.spShort .pfail else s
  let s := if s.pw.driveDie then s.sledShutdown else s
  let s := s.set .PFAIL_FLUSHED (p.flushed - b2n p.hadBlock)
  let outcome := if p.abandoned then 2 else if p.flushed ≠ 0 then 1 else 3
  let t : State := { s with bu.active := false, bu.turning := false, bu.redo := none,
                            pw.pfail := some { p with shut := true } }
  t.pfailOutcome outcome

/-- A block that the budget no longer covers is given up (03 R117, R120): abandoned once it has begun. -/
def State.pfailBudget (s : State) : State :=
  match s.bu.block with
  | none => s
  | some k =>
    if k.writing.isSome || s.budgetOk 0 k.notBegun then s
    else if k.burned.isEmpty then { s with bu.block := none }
    else s.abandonBlock

/-- What follows under PFAIL_N once no block is in hand (03 R119, R120): the shutdown. -/
def State.pfailFollow (s : State) : State :=
  let s := if s.pw.pfail.any (fun p => !p.shut) then s.pfailBudget else s
  match s.pw.pfail with
  | none => s
  | some p =>
    if p.shut || s.bu.block.isSome || (s.pw.waking.isSome && s.bu.active) then s else s.pfailShutdown p

/-- The clusters of the first block a flush would write (03 R120). -/
def State.firstBlock (s : State) : Option Nat :=
  match s.nextRange with
  | none => none
  | some (b, l, p) =>
    let good := l.dropWhile fun r => !s.recGood b r
    match good with
    | [] => none
    | r :: _ =>
      let run := takeRun (fun q => p q && s.recGood b q) r.off (64 * clusterBytes) good
      some (((run.map (·.len)).sum + clusterBytes - 1) / clusterBytes)

/-- The exit latency of the present state, in µs (03 Table 3.7). -/
def State.exitUs (s : State) : Nat :=
  match s.pw.mode with
  | .doze => s.reg .EXIT_DOZE_NS / 1000
  | .nap => s.reg .EXIT_NAP_NS / 1000
  | _ => 0

/-- The flush of 03 R120: every bobbin up to its tail; from rest, or from Doze or Nap, only if the budget covers the exit,
the spin-up, the first block and the reserve. -/
def State.pfailFlush (s : State) (p : PFail) : State :=
  let s : State := { s with bu.order := s.fillOrder, bu.limits := (List.range 10).map fun b => s.get .TAIL_OFFSET b }
  let spin := s.exitUs + 1000 * s.reg .SPINUP_MS
  match s.firstBlock with
  | none => if s.bu.block.isSome then s else { s with bu.active := false }
  | some n =>
    let ready := s.pw.mode == .run && s.on .SP_SPEED_OK
    if s.bu.block.isSome || ready then
      let s := if s.bu.active || s.bu.turning then s else s.openSession.pulse Ev.bursts
      { s with bu.active := true, bu.turning := true }
    else if spin + n * s.bu.tcl + 1000 * s.reg .RESERVE_MS ≤ 1000 * s.reg .HOLDUP_MS then
      let s := if s.bu.active || s.bu.turning then s else s.openSession.pulse Ev.bursts
      { s with bu.active := true, bu.turning := true, pw.waking := if s.pw.mode = .run then s.pw.waking else some s.pw.mode,
               pw.pfail := some { p with spinupBy := some (p.since + spin) } }
    else { s with bu.active := false }

/-- A running SELFTEST ends at once with the verdict ABORTED (16 R706). -/
def State.abortTest (s : State) : State :=
  match s.st.granted with
  | none => s
  | some slot =>
    match (s.slot slot).copy, (s.slot slot).resp with
    | some c, none => s.endTest slot { test := fieldAt c.args 0 2, verdict := 2 }
    | _, _ => { s with st.granted := none }

/-- What is in hand as PFAIL_N falls (03 R116-R118): a system cluster is cut off, a spare copy given up, a block not yet
begun dropped, a block being written tested. The answer says whether a block was in flight. -/
def State.pfailBlock (s : State) (tRem : Nat) : Bool × State :=
  match s.bu.block with
  | none => (false, s)
  | some k =>
    match k.kind with
    | .data =>
      if k.burned.isEmpty && k.writing.isNone then (false, { s with bu.block := none })
      else if s.budgetOk (if k.writing.isSome then tRem else 0) k.notBegun then (true, s)
      else (true, s.abandonBlock)
    | .spare => (false, s.dropBlock.dropCopy)
    | _ => (false, s.dropBlock)

/-- PFAIL_ASSERT (03 R115-R120, R129; 20 R843). `tRem` is the time still needed to finish the cluster in flight. -/
def execPfailAssert (tRem : Nat) (s : State) : Host.Outcome State Fault Refusal :=
  .next (
    if s.pw.pfail.isSome || !s.pw.wardenUp then s
    else
      let allowed := s.burstAllowed || s.bu.active
      let s := (s.bump .PFAIL_COUNT).set .PFAIL_ACTIVE 1
      if !s.pw.pwrMainEn then
        { s.set .PFAIL_OUTCOME 3 with pw.pfail := some { since := s.clock, shut := true } }
      else
        let s := s.cancelEntry
        let s : State := { s with pw.pfail := some { since := s.clock } }
        let s := if s.p0Up then
            s.noticeDrained
              { code := Code.pfail, sev := severity Code.pfail, seq := 0, time := s.now, data := data16 0xFFFFFFFF 0 0 }
          else s
        let (had, s) := s.stopCal.abortTest.pfailBlock tRem
        let s : State := { s with pw.pfail := s.pw.pfail.map fun (p : PFail) => { p with hadBlock := had } }
        let s := match s.pw.pfail with
          | none => s
          | some p => if s.pfailWrites && allowed then s.pfailFlush p else s
        let s := if s.bu.block.isNone && s.pw.waking.isNone then s.resume else s
        s.pfailFollow)

/-- PFAIL_SPINUP_TIMEOUT (03 R120): the disc has not locked by the time the budget gave its spin-up. -/
def execPfailSpinupTimeout (s : State) : Host.Outcome State Fault Refusal :=
  .next (
    match s.pw.pfail with
    | none => s
    | some p =>
      if p.shut || s.on .SP_LOCKED || !p.spinupBy.any (fun t => decide (t ≤ s.clock)) then s
      else
        let t : State := { s with bu.block := none, bu.active := false }
        t.pfailFollow)

/-- A FLUSH whose burst PFAIL_N stopped takes a burst again (06 R264, 03 R121). -/
def State.flushAgain (s : State) : State :=
  let cs := s.q.cmds.filter fun (c : QCmd) => c.opcode == 0x120 && c.started
  let bobs := (cs.flatMap fun (c : QCmd) => c.tails.map (·.1)).eraseDups
  if bobs.isEmpty then s else s.trigger bobs

/-- READY that a boot or a host reset kept back under PFAIL_N is set (04 R168). -/
def State.readyAgain (s : State) : State :=
  if s.bo.readyAt.isSome && s.host.reset.isNone then s.set .READY 1 else s

/-- The return to Run after a released PFAIL_N (03 R121, 09 R411): the disc is caught if it is still turning; READY that
a boot or a host reset kept back is set. -/
def State.pfailReturn (s : State) : State :=
  let caught := s.reg .SP_STATE == 6 && s.sp.why == .pfail && s.pw.driveDie
  let s : State := { s with sp.why := if s.sp.why = .pfail then .stop else s.sp.why }
  let s := if caught && s.pw.mode == .run then { s.spSense with sp.requestedAt := s.clock } else s
  match s.pw.mode with
  | .doze | .nap =>
    let t : State := { s with pw.waking := s.pw.waking.or (some s.pw.mode) }
    t.readyAgain.acceptWaiting
  | .run =>
    s.readyAgain.acceptWaiting.flushAgain.resume
  | _ => s

/-- PFAIL_RELEASE (03 R121, R129; 20 R843): with a rail out of range nothing returns; the fall of MAIN_PGOOD follows. An
assertion released before any work was done ends as RECOVERED, whether or not the shutdown had found nothing in hand. -/
def execPfailRelease (railsOk : Bool) (s : State) : Host.Outcome State Fault Refusal :=
  .next (
    match s.pw.pfail with
    | none => s
    | some p =>
      if !railsOk then s
      else
        let t : State := { s.set .PFAIL_ACTIVE 0 with pw.pfail := none, pw.wakeLater := none }
        let done := p.shut && (p.abandoned || p.flushed != 0)
        let t := if done then t else (t.set .PFAIL_FLUSHED (p.flushed - b2n p.hadBlock)).pfailOutcome 4
        match s.pw.wakeLater with
        | some cause => t.beginWake cause
        | none => t.pfailReturn)

/-- CLUSTER_VERIFY_VERDICT (12 R549, R550, R583; 03 R117-R120): after it a read that waited for a reallocation goes on, and
under PFAIL_N the shutdown follows the last block. -/
def execClusterVerifyVerdict (v : Verdict) (s : State) : Host.Outcome State Fault Refusal :=
  .next (s.verdict v).pollRead.pfailFollow

/-! ## Clocks -/

/-- SLOW_CRYSTAL_STOP (03 R125, R114): time is unset until it is next set. -/
def execSlowCrystalStop (s : State) : Host.Outcome State Fault Refusal :=
  .next (
    if !s.pw.wardenUp || s.on .SLOW_RC then s
    else
      let t : State := { s with pw.xtalGood := 0, pw.xtalStart := false, tb.run := 0, tb.label := none, tb.slew := 0 }
      let t := (((t.set .SLOW_RC 1).set .TIME_UNSET 1).set .TIME_STATE 0).set .CLK_XTAL32 0
      t.report Code.slowCrystal)

/-- WARDEN_RC_CALIBRATE (03 R125): every 1 s while the 25 MHz reference runs; one that comes sooner is none. -/
def execWardenRcCalibrate (crystalGood : Bool) (correctionPpm : Int) (s : State) :
    Host.Outcome State Fault Refusal :=
  .next (
    if s.on .CLK_REF25 && s.pw.rcAt.all (fun t => decide (t + 1000000 ≤ s.clock)) then
      { s with pw.rcCorrection := correctionPpm, pw.rcAt := some s.clock,
               pw.xtalGood := if crystalGood then s.pw.xtalGood + 1 else 0 }
    else s)

/-- CRYSTAL_RETURN (03 R125): after 10 good seconds in a row; at the first power-on as soon as the crystal is good (Table
3.2, 20 Table 20.12). -/
def execCrystalReturn (s : State) : Host.Outcome State Fault Refusal :=
  .next (
    if s.pw.wardenUp && s.on .SLOW_RC && (s.pw.xtalStart || decide (10 ≤ s.pw.xtalGood)) then
      let t : State := { s with pw.xtalStart := false }
      (t.set .SLOW_RC 0).set .CLK_XTAL32 1
    else s)

/-- SERVO_PLL_UNLOCK (03 R127): the gate closes and the cluster in flight is broken; where the one re-lock fails, the disc
leaves service. -/
def execServoPllUnlock (channelPll relocked : Bool) (s : State) : Host.Outcome State Fault Refusal :=
  .next (
    if !(if channelPll then s.channelOn else s.on .CLK_SERVO) then s
    else
      let s := s.cutWrite.report Code.fastPllUnlock (b2n channelPll)
      if relocked then s.tryOpenGate
      else
        let s := if channelPll then s else s.set .CLK_SERVO 0
        s.servoOff.discOut Code.fastPllUnlock (b2n channelPll))

/-! ## The link -/

/-- LINK_STATE of a link state (04 Table 4.14): L3 has no code and reads as down. -/
def linkCode : LinkState → Nat
  | .down => 0
  | .l0 => 1
  | .l1 => 2
  | .l11 => 3
  | .l12 => 4
  | .l2 => 5
  | .l3 => 0

/-- The endpoint is powered and out of reset (03 Table 3.3, 19 R794). -/
def State.endpointUp (s : State) : Bool :=
  s.pw.mainPgood && s.pw.mode != .off && s.pw.mode != .hibernate && s.reg .BOOT_MODE != 2

/-- Link states the K760 allows (04 Table 4.9): in Run, Doze and Nap those with the link up; L2 and L3 in Hibernate and on
the way there (06 R246), where the link still stands in one of them after a wake, or from the other. A link may go down in
every state (DEDUCED, log entry 136). -/
def State.linkAllows (s : State) (l : LinkState) : Bool :=
  match l with
  | .down => true
  | .l2 | .l3 => !s.endpointUp || s.linkGone || s.pw.entry.any fun (e : Entry) => e.target == .hibernate
  | _ => s.endpointUp

/-- The link trains, at most at MAX_SPEED (04 Table 4.14), at what the last PERST# release offered. -/
def State.linkTrains (s : State) : State :=
  (s.set .LINK_SPEED (min s.host.trained.1 (s.reg .MAX_SPEED))).set .LINK_WIDTH s.host.trained.2

/-- The link is in a state it was allowed (04 R161-R164, Table 4.14): one that leaves L0 without PERST# is to be back
within 1 ms; one that comes up trains, and entries held while it was down are written (05 R222). -/
def State.linkTo (s : State) (l : LinkState) : State :=
  let was := s.reg .LINK_STATE
  let gone := l == .l2 || l == .l3
  let left := if l != .down then none else if s.p0Up then some s.clock else s.host.leftL0
  let t : State := { s with host.linkOff := l == .l3, host.wakeN := s.host.wakeN && gone, host.leftL0 := left }
  let t := (t.set .LINK_STATE (linkCode l)).set .CLK_PCIE (b2n (l != .down && l != .l3))
  let t := if linkCode l = 0 then (t.set .LINK_SPEED 0).set .LINK_WIDTH 0 else if was = 0 then t.linkTrains else t
  t.writeHeld

/-- LINK_POWER_STATE_CHANGE (04 R161, R163; 06 R246; 03 Table 3.5): a return from L2 or L3 is an in-band wake, also where
the device must wake before the link is up; L2 or L3 commits a Hibernate entry that a POWER command started. -/
def execLinkPowerStateChange (l : LinkState) (s : State) : Host.Outcome State Fault Refusal :=
  .next (
    if s.host.perst || s.pw.mode == .off then s
    else
      let wake := s.linkGone && l == .l0
      let t := if s.linkAllows l then s.linkTo l else s
      let t := if wake then t.arrive 2 else t
      if l == .l2 || l == .l3 then t.hibStep else t)

/-- PERST_RELEASE (20 R820, 03 Table 3.5): the endpoint trains the link, at most at MAX_SPEED, except in recovery and
unpowered; the release is wake source 2. -/
def execPerstRelease (speed width : Nat) (s : State) : Host.Outcome State Fault Refusal :=
  checked (1 ≤ speed && speed ≤ 3 && 1 ≤ width && width ≤ 2) (
    if !s.host.perst && s.reg .LINK_STATE != 0 then s
    else
      let t : State := { s with host.perst := false, host.linkOff := false, host.wakeN := false,
                                host.leftL0 := none, host.trained := (speed, width) }
      let t := if s.endpointUp then ((t.set .LINK_STATE 1).linkTrains.set .CLK_PCIE 1).writeHeld else t
      t.arrive 2)

/-- DS_HEARTBEAT_TICK (04 Table 4.5): every 1 ms in Run and Doze. -/
def execDsHeartbeatTick (s : State) : Host.Outcome State Fault Refusal :=
  .next (
    if s.pw.mode = .run ∨ s.pw.mode = .doze then s.set .DS_HEARTBEAT (s.reg .DS_HEARTBEAT + 1) else s)

end Sys2Proof.Machine
end

