-- ==== Sys2Proof/Machine/QueueCmds.lean ====
section
/-! DEFINITION. Queue commands of the pool, evidence, time, tally, counters and the black box (06 R255-R265, R273-R279;
05 R207-R221; 17 R730-R733). -/

namespace Sys2Proof.Machine

/-! ## The pool -/

/-- The bobbins a command names: one, or all with 0xFFFF (06 Table 6.3). -/
def namedBobbins (b : Nat) : List Nat := if b = 0xFFFF then List.range 10 else [b]

/-- A number that names no bobbin, nor all of them (07 R294). -/
def State.bobbinBad (s : State) (b : Nat) : Bool := s.bobbinAbsent b && b != 0xFFFF

/-- The index of the first poisoned granule among those a read of `n` stream bytes from `o` covers (06 R257). -/
def State.firstPoison (s : State) (b o n : Nat) : Option Nat :=
  (List.range ((o + n - 1) / 4096 - o / 4096 + 1)).find? fun i => s.poisoned (s.granOf b (granFloor o + 4096 * i))

/-- The buffer ranges left after `n` bytes. -/
def dropRanges : Nat → List (Nat × Nat) → List (Nat × Nat)
  | _, [] => []
  | n, (a, l) :: rs => if n < l then (a + n, l - n) :: rs else dropRanges (n - l) rs

/-- POOL_READ moves at most `upTo` more bytes, poisoned granules as zeros (06 R255-R257): it ends at the tail as it then
stands, at its buffer's end, or where the bobbin has wrapped over what is still to come. -/
def State.poolReadOn (s : State) (c : QCmd) (b o upTo : Nat) : State :=
  let want := min c.room 0x1000000
  let at' := o + c.count
  if at' < s.get .HEAD_OFFSET b then s.finishWith c St.rangeGone c.count 0
  else
    let left := min (want - c.count) (s.get .TAIL_OFFSET b - at')
    let n := min upTo left
    let s := s.rangesWrite (dropRanges c.count c.buf) (s.ringRead b at' n)
    let met := if n = 0 then none else (s.firstPoison b at' n).map (· + (at' / 4096 - o / 4096))
    let bad := c.poison.or met
    if n < left then s.setCmd c fun d => { d with started := true, count := c.count + n, poison := bad }
    else match bad with
      | some i => s.finishWith c St.poisoned (c.count + n) i
      | none => s.finishWith c St.success (c.count + n) 0

/-- POOL_READ (06 R255-R257): the row moves a part of the bytes, or all that are left. -/
def execPoolRead (qp : Nat) (work : PartOf) (s : State) : Host.Outcome State Fault Refusal :=
  s.runCmd qp work.tag 0x110 fun c s =>
    let b := fieldAt c.args 0 2
    let o := fieldAt c.args 8 8
    match c.lengthFault 1 (some 0x1000000) with
    | some d => s.finishWith c St.badLength 0 d
    | none =>
      if s.bobbinAbsent b then s.finishWith c St.bobbinUnknown 0 0
      else if s.poolLost then s.finishWith c St.poolLost c.count Code.poolLost
      else if c.started = false ∧ s.get .TAIL_OFFSET b ≤ o then s.finishWith c St.rangeBeyond 0 0
      else s.poolReadOn c b o (work.part.getD 0x1000000)

/-- The records of a POOL_APPEND list that starts at byte `at'` of its buffer, or the offset of the first bad one (06
R258). A last record whose padding the buffer's end cuts off is whole. -/
def recordList (at' : Nat) : Nat → List Byte → Except Nat (List (List Byte))
  | 0, _ => .error at'
  | fuel + 1, bs =>
    let n := fieldAt bs 0 4
    if bs.length < 4 ∨ n = 0 ∨ 4064 < n ∨ bs.length < 4 + n then .error at'
    else
      let step := 4 + (n + 3) / 4 * 4
      let rest := bs.drop step
      if rest.isEmpty then .ok [bytesAt bs 4 n]
      else match recordList (at' + step) fuel rest with
        | .error e => .error e
        | .ok l => .ok (bytesAt bs 4 n :: l)

/-- P0 may append to a bobbin: its identity holds a valid APPEND entry for it, and the reed table lets it write there
(06 R259, 07 R309, R314). -/
def State.hostAppends (s : State) (b : Nat) : Bool :=
  (List.range 64).any (fun k => s.onAt .H_VALID k && s.onAt .H_APPEND k && s.get .H_BOBBIN k == b) &&
    s.reedOk 0 (s.granOf b (s.get .TAIL_OFFSET b)) true

/-- Records are applied in list order (06 R260); from the first that a full bobbin refuses on, they are dropped and
counted. The answer counts those applied. -/
def State.applyRecords (s : State) (b : Nat) : List (List Byte) → Nat × State
  | [] => (0, s)
  | r :: rs =>
    match s.tryAppend b r (b2n s.coarse) 0 s.now with
    | (true, s) =>
      let (n, s) := s.applyRecords b rs
      (n + 1, s)
    | (false, s) => (0, s.add .REC_DROPPED b rs.length)

/-- An append to the same bobbin that was fetched earlier has not been applied (05 Table 5.6). -/
def State.appendWaits (s : State) (c : QCmd) : Bool :=
  s.q.cmds.any fun (d : QCmd) => d.opcode == 0x111 && decide (d.order < c.order) && d.ended.isNone &&
    fieldAt d.args 0 2 == fieldAt c.args 0 2

/-- POOL_APPEND applies at most `upTo` of the records still to come (06 R260): the first takes it past its commit point
(05 Table 5.7). One that a full bobbin refuses ends the command. The lines its records took are invalidated before its
completion (14 R633). -/
def State.poolAppendOn (s : State) (c : QCmd) (b : Nat) (l : List (List Byte)) (upTo : Nat) : State :=
  let todo := l.drop c.count
  let now := todo.take upTo
  let (n, t) := s.applyRecords b now
  let o := s.get .TAIL_OFFSET b
  let t := t.invalidateRing b o (t.get .TAIL_OFFSET b - o)
  if n = now.length ∧ now.length < todo.length then
    t.setCmd c fun d => { d with started := true, committed := d.committed || n != 0, count := c.count + n }
  else
    let t := if n = now.length then t else t.add .REC_DROPPED b (todo.length - now.length)
    t.finishWith c St.success (c.count + n) 0

/-- POOL_APPEND (06 R258-R260, 05 R206): the row applies a part of the records, or all that are left. No status names a full
bobbin: the count of a SUCCESS gives the records applied. -/
def execPoolAppend (qp : Nat) (work : PartOf) (s : State) : Host.Outcome State Fault Refusal :=
  s.runCmd qp work.tag 0x111 fun c s =>
    let b := fieldAt c.args 0 2
    if s.appendWaits c then s
    else match c.badDesc, recordList 0 (c.input.length + 1) c.input with
    | some d, _ => s.finishWith c St.badLength 0 d
    | none, .error o => s.finishWith c St.badLength 0 o
    | none, .ok l =>
      if s.bobbinAbsent b then s.finishWith c St.bobbinUnknown 0 0
      else if s.poolLost then s.finishWith c St.poolLost c.count Code.poolLost
      else if s.hostAppends b = false then s.finishWith c St.noRights c.count 0
      else s.poolAppendOn c b l (work.part.getD l.length)

/-! ## Evidence -/

/-- A named bobbin whose oldest record is later than START_TIME is marked from that record (06 R263). -/
def State.truncated (s : State) (bobs : List Nat) (start : Nat) : Bool :=
  bobs.any fun b => match s.recs b with
    | [] => false
    | r :: _ => decide (start < r.time)

/-- A mark is made (06 R261, R263; 07 R303): it joins the table, and is a burst trigger. -/
def State.makeMark (s : State) (bobs : List Nat) (start stop fetch reason : Nat) : State :=
  let m : Mark := { id := s.lm.markNext, bobbins := bobs, start := start, stop := stop, fetch := fetch, reason := reason }
  let t : State := { s with lm.marks := s.lm.marks ++ [m], lm.markNext := (s.lm.markNext + 1) % 2 ^ 32 }
  ((List.range 10).foldl State.bobFlags t).trigger bobs true

/-- EVENT_MARK (06 R237, R261-R263; 07 R304). -/
def execEventMark (qp tag : Nat) (s : State) : Host.Outcome State Fault Refusal :=
  s.runCmd qp tag 0x112 fun c s =>
    let b := fieldAt c.args 0 2
    let start := fieldAt c.args 8 8
    let stop := if fieldAt c.args 16 8 = 0 then c.fetchTime else fieldAt c.args 16 8
    if s.bobbinBad b then s.finishWith c St.bobbinUnknown 0 0
    else if stop < start then s.finishWith c St.outOfRange 0 8
    else if c.fetchTime < stop then s.finishWith c St.outOfRange 0 16
    else if s.poolLost then s.finishWith c St.poolLost 0 Code.poolLost
    else if s.on .COMMISSIONED = false then s.finishWith c St.notCommissioned 0 0
    else if 4096 ≤ s.lm.marks.length then
      if s.reg .DISC_SERVICE = 3 then s.finishWith c St.discOutOfService 0 (s.reg .OOS_CODE) else s
    else
      let cut := b2n (s.truncated (namedBobbins b) start)
      let id := s.lm.markNext
      (s.makeMark (namedBobbins b) start stop c.fetchTime (fieldAt c.args 2 2)).finishWith c St.success id cut

/-- What keeps a FLUSH from its work (06 R237, R265, Table 6.5 rank 5), with its detail. -/
def State.flushFault (s : State) : Option (Nat × Nat) :=
  if s.poolLost then some (St.poolLost, Code.poolLost)
  else match s.discFault with
    | some f => some f
    | none =>
      if s.md.readOnly then some (St.readOnly, 0)
      else if (s.md.session.isNone && !s.canOpen) || (s.pickLayer 1).isNone then some (St.cartridgeFull, 0)
      else if s.on .COMMISSIONED = false then some (St.notCommissioned, 0)
      else none

/-- A FLUSH under way completes when its ranges are done, and takes another burst where the last one ended first (06
R264). -/
def State.flushOn (s : State) (c : QCmd) : State :=
  let left := (c.tails.filter fun t => decide (s.get .FLUSHED_OFFSET t.1 < t.2)).map (·.1)
  if left.isEmpty then s.checkFlushes else if s.bu.active || s.bu.turning then s
  else s.trigger left false (some (c.qp, c.tag))

/-- FLUSH (06 R264, R265): the named bobbins, up to their tails at its fetch. -/
def execFlush (qp tag : Nat) (s : State) : Host.Outcome State Fault Refusal :=
  s.runCmd qp tag 0x120 fun c s =>
    let b := fieldAt c.args 0 2
    if c.started then s.flushOn c
    else if s.bobbinBad b then s.finishWith c St.bobbinUnknown 0 0
    else if s.discChanging then s
    else match s.flushFault with
      | some (st, d) => s.finishWith c st 0 d
      | none =>
        let tails := c.tails.filter fun t => (namedBobbins b).contains t.1
        let left := (tails.filter fun t => decide (s.get .FLUSHED_OFFSET t.1 < t.2)).map (·.1)
        let s := s.setCmd c fun d => { d with started := true, tails := tails }
        if left.isEmpty then s.checkFlushes
        else ((s.trigger left false (some (c.qp, c.tag))).commitNow c tails).resume

/-- ABORT (05 R212-R219): a caught FLUSH takes its burst with it where nothing else asked for one (R209). -/
def execAbort (qp tag : Nat) (s : State) : Host.Outcome State Fault Refusal :=
  s.runCmd qp tag 0x102 fun c s =>
    if (s.abortTarget c).isSome then s
    else
      let tq := fieldAt c.args 0 2
      let tt := fieldAt c.args 2 2
      let flush := (s.cmd tq tt).any fun (t : QCmd) => t.opcode == 0x120
      let s := s.resolveAbort c
      if flush && (s.cmd tq tt).all (fun (t : QCmd) => t.ended.isSome) then s.dropFlush tq tt else s

/-! ## Time -/

/-- The host sets the time (06 R273, R274; 08 R378, R381). -/
def State.hostSet (s : State) (t : Nat) (force : Bool) : State :=
  let before := s.now
  let u : State := { s with time := t, pw.fineAt := 0, tb.slew := 0 }
  let u := if u.reg .TIME_STATE = 0 then u.set .TIME_STATE 1 else u
  let u := u.set .TIME_UNSET 0
  let u := if force then u.report Code.timeForced else u
  u.timeRecord 5 (((before : Int) - t) * 1000) before t

/-- TIME_SET (06 R273-R275): holdover counts as locked while it lasts (08 R378). -/
def execTimeSet (qp tag : Nat) (s : State) : Host.Outcome State Fault Refusal :=
  s.runCmd qp tag 0x140 fun c s =>
    let t := fieldAt c.args 0 8
    if s.reg .TIME_STATE = 2 ∨ s.reg .TIME_STATE = 3 then s.finishWith c St.timeRefused 0 0
    else if s.on .TIME_UNSET then (s.hostSet t false).finish c St.success 0
    else if bit (fieldAt c.args 8 1) 0 && decide (s.now < t) then (s.hostSet t true).finish c St.success 0
    else s.finishWith c St.timeRefused 0 0

/-- TIME_GET (06 Table 6.3, 03 R111, R112). -/
def execTimeGet (qp tag : Nat) (s : State) : Host.Outcome State Fault Refusal :=
  s.runCmd qp tag 0x141 fun c s => s.finish c St.success (s.now % 2 ^ 64) s.coarse

/-! ## Tally, counters, black box -/

/-- The tally records bobbin 8 holds whole, oldest first (08 R387). -/
def State.tallies (s : State) : List (List Byte) :=
  ((s.recs 8).filter fun r => s.recGood 8 r).map fun r => s.ringRead 8 (r.off + 32) 32

/-- The highest sequence held; with none held the spec gives no value: a free value (log entry 32). -/
def State.highest (s : State) (l : List Nat) : Nat × State :=
  match l.getLast? with
  | some q => (q, s)
  | none =>
    let (v, s) := s.draw
    (v % 2 ^ 32, s)

/-- TALLY_READ (06 R279). -/
def execTallyRead (qp tag : Nat) (s : State) : Host.Outcome State Fault Refusal :=
  s.runCmd qp tag 0x150 fun c s =>
    match c.lengthFault 32 none with
    | some d => s.finishWith c St.badLength 0 d
    | none =>
      if s.poolLost then s.finishWith c St.poolLost 0 Code.poolLost
      else
        let all := s.tallies
        let l := (all.filter fun r => decide (fieldAt c.args 0 4 ≤ fieldAt r 0 4)).take (c.room / 32)
        let (q, s) := s.highest (all.map fun r => fieldAt r 0 4)
        (s.rangesWrite c.buf l.flatten).finishWith c St.success l.length q

/-- The first failing argument of CNT_CONFIG (06 R277, 17 R730). -/
def cntFault (a : List Byte) : Option Nat :=
  let event := fieldAt a 1 1
  let mode := fieldAt a 2 1
  if 31 < fieldAt a 0 1 then some 0
  else if 0x73 < event then some 1
  else if 3 < mode ∨ (mode = 2 ∧ event ≠ 0 ∧ Ev.levels.contains event = false) then some 2
  else none

/-- A bead's value and carry are cleared. -/
def State.beadClear (s : State) (i : Nat) : State := (s.put .BEAD_VALUE i 0).put .BEAD_CARRY i 0

/-- A bead is set to an event and a mode between two events (06 R276): a change clears it; its level is as it stands. -/
def State.beadConfig (s : State) (i event mode : Nat) (clear : Bool) : State :=
  let change := event != s.get .CNT_EVENT i || mode != s.get .CNT_MODE i
  let s := if change || clear then s.beadClear i else s
  let s := (s.put .CNT_EVENT i event).put .CNT_MODE i mode
  if change then
    let cur := Ev.levels.contains event && s.level event
    { s with bead.level := s.bead.level.set i cur, bead.period := s.bead.period.set i 0 }
  else s

/-- CNT_CONFIG (06 R276, R277; 17 R730, R734). -/
def execCntConfig (qp tag : Nat) (s : State) : Host.Outcome State Fault Refusal :=
  s.runCmd qp tag 0x160 fun c s =>
    match cntFault c.args with
    | some o => s.finishWith c St.outOfRange 0 o
    | none =>
      ((s.beadConfig (fieldAt c.args 0 1) (fieldAt c.args 1 1) (fieldAt c.args 2 1)
        (bit (fieldAt c.args 3 1) 0)).saveSettings).finish c St.success 0

/-- The 256 bytes of a snapshot (06 R278). -/
def State.beadBytes (s : State) : List Byte :=
  (List.range 32).flatMap fun i => leBytes 8 (s.get .BEAD_VALUE i + 2 ^ 48 * s.get .BEAD_CARRY i)

/-- CNT_SNAPSHOT (06 R278, 17 R733). -/
def execCntSnapshot (qp tag : Nat) (s : State) : Host.Outcome State Fault Refusal :=
  s.runCmd qp tag 0x161 fun c s =>
    match c.lengthFault 256 (some 256) with
    | some d => s.finishWith c St.badLength 0 d
    | none =>
      let t := s.rangesWrite c.buf s.beadBytes
      let t := if bit (fieldAt c.args 0 1) 0 then (List.range 32).foldl State.beadClear t else t
      (t.set .LAST_SNAPSHOT_TIME s.now).finish c St.success (s.now % 2 ^ 64) s.coarse

/-- BB_READ (06 R279, 17 R742). -/
def execBbRead (qp tag : Nat) (s : State) : Host.Outcome State Fault Refusal :=
  s.runCmd qp tag 0x170 fun c s =>
    match c.lengthFault 64 none with
    | some d => s.finishWith c St.badLength 0 d
    | none =>
      let l := (s.bbList (fieldAt c.args 0 4)).take (c.room / 64)
      let (q, s) := s.highest ((s.bbList 0).map (·.seq))
      (s.rangesWrite c.buf (l.flatMap recordBytes)).finishWith c St.success l.length q

end Sys2Proof.Machine
end

