-- ==== Sys2Proof/Machine/Firmware.lean ====
section
/-! DEFINITION. Firmware images, staging and activation; commissioning and stream keys (06 R247-R249, R280-R283;
15 R665-R672; 19 R775-R789). -/

namespace Sys2Proof.Machine

/-! ## Images -/

/-- A chunk's full length. -/
def chunkLen : Nat := 1048576

/-- N of an image header (19 Table 19.3). -/
def headerChunks (h : List Byte) : Nat := fieldAt h 7 1

/-- IH_BODY_LEN. -/
def headerBody (h : List Byte) : Nat := fieldAt h 12 4

/-- A header verifies (19 R779, 15 R672). -/
def headerOk (h : List Byte) : Bool :=
  let n := headerChunks h
  let len := headerBody h
  h.length == 4096 && fieldAt h 0 4 == 0x4857464B && fieldAt h 4 2 == 1 && fieldAt h 6 1 == 0xB1
    && decide (1 ≤ n) && decide (n ≤ 12) && decide ((n - 1) * chunkLen < len) && decide (len ≤ n * chunkLen)
    && decide (len ≤ 12578816)
    && ecdsaVerify Config.firmwareKey (sha256 (bytesAt h 0 4032)) (beNat (bytesAt h 4032 64))

/-- The length of chunk `k` under a header (19 R778): chunk 0 is the header. -/
def chunkSize (h : List Byte) (k : Nat) : Nat :=
  if k = 0 then 4096
  else if k < headerChunks h then chunkLen
  else headerBody h - (headerChunks h - 1) * chunkLen

/-- A body chunk verifies (19 R779). -/
def chunkOk (h : List Byte) (k : Nat) (body : List Byte) : Bool :=
  body.length == chunkSize h k && sha256 body == beNat (bytesAt h (64 + 32 * (k - 1)) 32)

/-- Where the parts of the NOR begin (19 Table 19.2): the boot control block, the settings store, the slots A and B, and
what is never written. -/
def norMap : List Nat := [0, 0x10000, 0x100000, 0xD00000, 0x1900000]

/-- The NOR address of an offset in a slot (19 Table 19.2). -/
def norAddr (slot o : Nat) : Nat := norMap.getD (2 + slot) 0 + o

/-- The slot and offset at a NOR address in a slot. -/
def slotOf (a : Nat) : Option (Nat × Nat) :=
  if norAddr 0 0 ≤ a ∧ a < norAddr 1 0 then some (0, a - norAddr 0 0)
  else if norAddr 1 0 ≤ a ∧ a < norMap.getD 4 0 then some (1, a - norAddr 1 0) else none

/-- The slot offset of a chunk (19, The image). -/
def chunkAt (k : Nat) : Nat := if k = 0 then 0 else 4096 + (k - 1) * chunkLen

/-- The bytes of a slot. -/
def State.slotBytes (s : State) (slot o n : Nat) : List Byte := (s.bo.slots.getD slot []).readN o n

/-- The header that stands in a slot. -/
def State.slotHeader (s : State) (slot : Nat) : List Byte := s.slotBytes slot 0 4096

/-- The first chunk of a slot that does not verify (19 R779, R797). -/
def State.badChunk (s : State) (slot : Nat) : Option Nat :=
  let h := s.slotHeader slot
  if !headerOk h then some 0
  else ((List.range (headerChunks h)).find? fun i =>
    !chunkOk h (i + 1) (s.slotBytes slot (chunkAt (i + 1)) (chunkSize h (i + 1)))).map (· + 1)

/-- Verified chunks of a slot, COMPLETE, GOOD and FW_VERSION, by slot (19 R777, Table 19.6). -/
def State.staged (s : State) (slot : Nat) : Nat := if slot = 0 then s.reg .STAGED_A else s.reg .STAGED_B

/-- A slot's verified chunk count is set. -/
def State.setStaged (s : State) (slot n : Nat) : State :=
  (if slot = 0 then s.set .STAGED_A n else s.set .STAGED_B n).saveControl

/-- A slot's marks are set: complete or not, with the version its header gives; GOOD is left to Tchimi. -/
def State.setComplete (s : State) (slot : Nat) (on : Bool) : State :=
  let v := s.slotVersion slot on
  (if slot = 0 then ((s.set .A_COMPLETE (b2n on)).set .A_GOOD 0).set .FW_VERSION_A v
   else ((s.set .B_COMPLETE (b2n on)).set .B_GOOD 0).set .FW_VERSION_B v).saveControl

/-- Bytes programmed into a slot: none outside its 12 MiB (19 Table 19.2). -/
def State.program (s : State) (slot o : Nat) (bs : List Byte) : State :=
  match slotOf (norAddr slot o), slotOf (norAddr slot (o + bs.length - 1)) with
  | some (k, a), some (l, _) =>
    if k = slot ∧ l = slot then { s with bo.slots := s.bo.slots.modify k fun m => m.writeN a bs } else s
  | _, _ => s

/-- A slot is erased. -/
def State.eraseSlot (s : State) (slot : Nat) : State := { s with bo.slots := s.bo.slots.set slot [] }

/-! ## Staging and activation -/

/-- The length a staged chunk must have: that of 19 R778 where the slot's header gives one, else 1 byte to 1 MiB. -/
def State.chunkLengthOk (s : State) (slot k n : Nat) : Bool :=
  if k = 0 then n == 4096
  else if slot ≤ 1 ∧ 1 ≤ s.staged slot ∧ k ≤ headerChunks (s.slotHeader slot) then
    n == chunkSize (s.slotHeader slot) k
  else decide (1 ≤ n) && decide (n ≤ chunkLen)

/-- A verified chunk is in its slot (19 R787, 06 R281): chunk 0 starts the slot anew and cancels a pending change to it;
the last makes it complete. -/
def State.stageChunk (s : State) (slot k : Nat) (bs : List Byte) : State :=
  if k = 0 then
    let s := (((s.eraseSlot slot).program slot 0 bs).setStaged slot 1).setComplete slot false
    if s.reg .NEXT_SLOT = slot then s.setNext (s.reg .RUN_SLOT) else s
  else
    let s := (s.program slot (chunkAt k) bs).setStaged slot (k + 1)
    if k = headerChunks (s.slotHeader slot) then s.setComplete slot true else s

/-- FW_STAGE (06 R280-R283, 19 R787, R788): one at a time, in fetch order across all pairs and after the activations
accepted before it. -/
def execFwStage (qp tag : Nat) (s : State) : Host.Outcome State Fault Refusal :=
  s.runCmd qp tag 0x180 fun c s =>
    let slot := fieldAt c.args 0 1
    let k := fieldAt c.args 4 4
    let activation := s.host.slots.any fun (m : Slot) => m.resp.isNone && m.copy.any fun (d : MbCopy) =>
      d.opcode == 0x40 && decide (d.fetched ≤ c.order)
    if activation || s.q.cmds.any fun (d : QCmd) => d.opcode == 0x180 && decide (d.order < c.order) then s
    else
      let n := s.staged slot
      match c.badDesc with
      | some d => s.finishWith c St.badLength n d
      | none =>
        if !s.chunkLengthOk slot k c.input.length then s.finishWith c St.badLength n 0xFFFFFFFF
        else if 1 < slot then s.finishWith c St.outOfRange 0 0
        else if slot = s.reg .RUN_SLOT then s.finishWith c St.fwSlotActive n 0
        else if k ≠ 0 ∧ (k ≠ n ∨ s.slotComplete slot = true) then s.finishWith c St.fwSequence n n
        else
          let ok := if k = 0 then headerOk c.input else chunkOk (s.slotHeader slot) k c.input
          if !ok then s.finishWith c St.fwBadSignature n k
          else
            let t := s.stageChunk slot k c.input
            t.finishWith c St.success (t.staged slot) 0

/-- FW_ACTIVATE (06 R247, 19 R788, R789): after the chunks fetched before it was accepted. -/
def execFwActivate (slot : Nat) (s : State) : Host.Outcome State Fault Refusal :=
  s.runMbx slot 0x40 (fun _ => true) fun c s =>
    let k := fieldAt c.args 0 1
    if s.q.cmds.any fun (d : QCmd) => d.opcode == 0x180 && d.ended.isNone && decide (d.order < c.fetched) then s
    else if 1 < k then s.answer slot (failResp St.outOfRange 0)
    else if s.slotComplete k = false then s.answer slot (failResp St.fwIncomplete 0)
    else
      let t := if k = s.reg .RUN_SLOT then s.setNext k
        else ((s.setNext k).setAttempts k 0).report Code.fwActivated k
      t.answer slot (okResp (leBytes 1 k))

/-! ## Keys -/

/-- The order of the P-256 group (FIPS 186-4). -/
def p256Order : Nat := 0xFFFFFFFF00000000FFFFFFFFFFFFFFFFBCE6FAADA7179E84F3B9CAC2FC632551

/-- KEY_ID of a public point (15 R668). -/
def keyIdOf (pub : Nat) : Nat := sha256 (4 :: beBytes 64 pub)

/-- A key becomes the device's (15 R667, R668): stored, COMMISSIONED set, its KEY_ID recorded; each wrap
takes a fresh IV from its counter (R670). PFAIL_COUNT counts from here
(03 Table 3.7). -/
def State.commission (s : State) (d : Nat) : State :=
  let pub := publicKey d
  let id := beBytes 32 (keyIdOf pub)
  let t : State := { s with sec.devKey := some d, sec.pub := pub }
  let t := (((t.set .SEC_KEY_ID (leNat id)).set .COMMISSIONED 1).set .PFAIL_COUNT 0).set .WRAP_IV_COUNT (t.reg .WRAP_IV_COUNT + 1)
  let data := t.recordData 0 0 0 / 2 ^ 128 * 2 ^ 128 + leNat (id.take 16)
  t.reportFull Code.commissioned data (t.sourceOf Code.commissioned)

/-- COMMISSION (06 R248, 15 R667, R677): it waits for the entropy source whatever NO_WAIT says. The key is a free value. -/
def execCommission (slot : Nat) (s : State) : Host.Outcome State Fault Refusal :=
  s.runMbx slot 0x50 (fun _ => true) fun c s =>
    if s.on .COMMISSIONED then s.answer slot (failResp St.alreadyCommissioned 0)
    else s.needEntropy slot { c with flags := 0 } fun s =>
      let (v, s) := s.draw
      let t := s.commission (1 + v % (p256Order - 1))
      t.answer slot (okResp ((beBytes 32 (keyIdOf t.sec.pub)).take 16) (beBytes 64 t.sec.pub))

/-- KEY_READ (06 Table 6.2): before COMMISSION there is no key. -/
def execKeyRead (slot : Nat) (s : State) : Host.Outcome State Fault Refusal :=
  s.runMbx slot 0x51 (fun _ => true) fun _ s =>
    if s.on .COMMISSIONED then s.answer slot (okResp [] (beBytes 64 s.sec.pub ++ beBytes 32 s.keyId))
    else s.answer slot (failResp St.notCommissioned 0)

/-- A stream key comes into force (15 R662, R663, R665, R666): the epoch rises, the invocation count restarts; the key
is wrapped under a fresh IV (R670). -/
def State.streamKey (s : State) (b key : Nat) : State :=
  let t : State := { s with sec.streamKeys := Map.put s.sec.streamKeys b key }
  (((t.put .KEY_EPOCH b (t.get .KEY_EPOCH b + 1)).put .GCM_COUNT b 0).set .WRAP_IV_COUNT (t.reg .WRAP_IV_COUNT + 1)).set .ENC_MASK (t.reg .ENC_MASK ||| 2 ^ b)

/-- A STREAM_KEY row: the bobbin is one of the ten and has a size (06 Table 6.4, 07 R294). -/
def State.streamRow (s : State) (slot action : Nat) (f : MbCopy → Nat → State → State) :
    Host.Outcome State Fault Refusal :=
  s.runMbx slot 0x52 (fun c => fieldAt c.args 2 1 == action) fun c s =>
    let b := fieldAt c.args 0 2
    if action = 1 ∧ c.dlen ≠ 32 then s.answer slot (failResp St.badLength 0xFFFFFFFF)
    else if s.bobbinAbsent b then s.answer slot (failResp St.bobbinUnknown 0)
    else f c b s

/-- A STREAM_KEY that would take the epoch past its last value is refused (15 R665); which argument its detail names the
spec does not say: a free value (log entry 33). -/
def State.epochFull (s : State) (slot : Nat) : State :=
  let (v, s) := s.draw
  s.answer slot (failResp St.outOfRange (v % 2 ^ 32))

/-- STREAM_KEY_OFF (15 R665): the epoch stays, encryption stops from the next block. -/
def execStreamKeyOff (slot : Nat) (s : State) : Host.Outcome State Fault Refusal :=
  s.streamRow slot 0 fun _ b s =>
    let t : State := { s with sec.streamKeys := Map.erase s.sec.streamKeys b }
    let m := t.reg .ENC_MASK
    (t.set .ENC_MASK (if bit m b then m - 2 ^ b else m)).answer slot (okResp (leBytes 4 (t.get .KEY_EPOCH b)))

/-- STREAM_KEY_HOST (06 R249, 15 R665). -/
def execStreamKeyHost (slot : Nat) (s : State) : Host.Outcome State Fault Refusal :=
  s.streamRow slot 1 fun c b s =>
    if 0xFFFFFFFE ≤ s.get .KEY_EPOCH b then s.epochFull slot
    else
      let t := s.streamKey b (beNat c.data)
      t.answer slot (okResp (leBytes 4 (t.get .KEY_EPOCH b)))

/-- STREAM_KEY_DEVICE (06 R249, 15 R665, R669, R677): the key is returned this once. -/
def execStreamKeyDevice (slot : Nat) (s : State) : Host.Outcome State Fault Refusal :=
  s.streamRow slot 2 fun c b s =>
    if 0xFFFFFFFE ≤ s.get .KEY_EPOCH b then s.epochFull slot
    else s.needEntropy slot c fun s =>
      let (v, s) := s.draw
      let key := v % 2 ^ 256
      let t := s.streamKey b key
      t.answer slot (okResp (leBytes 4 (t.get .KEY_EPOCH b)) (beBytes 32 key))

end Sys2Proof.Machine
end

