-- ==== Sys2Proof/Machine/ParamSet.lean ====
section
/-! DEFINITION. PARAM_GET and PARAM_SET: the checks of a write, its effects, and the rows with a behaviour of their own
(06 R238-R242, R284, R285; the field maps of the home chapters); recovery over the service port (19 R794-R798); the TAP
(20 R830). -/

namespace Sys2Proof.Machine

/-! ## A write and its fields -/

/-- A PARAM_SET as its arguments and data give it (06 Table 6.2). -/
structure PSet where
  page : Nat
  off : Nat
  len : Nat
  data : List Byte
  deriving DecidableEq, Repr

/-- The PARAM_SET of a mailbox command. -/
def MbCopy.pset (c : MbCopy) : PSet :=
  { page := fieldAt c.args 0 2, off := fieldAt c.args 2 2, len := fieldAt c.args 4 2, data := c.data }

/-- The fields other than RO ones that lie in the range, with the values supplied (06 R240, 00 R20). -/
def PSet.writes (w : PSet) : List (PageField × Nat) :=
  ((pageFields w.page).filter fun (f : PageField) =>
    decide (w.off ≤ f.first) && decide (f.past ≤ w.off + w.len) && f.name.info.access != .ro).map
      fun (f : PageField) => (f, f.value w.off w.data)

/-- The value a write supplies for entry `i` of a register. -/
def wrote (ws : List (PageField × Nat)) (n : RegName) (i : Nat) : Option Nat :=
  (ws.find? fun (x : PageField × Nat) => x.1.name == n && x.1.idx == i).map fun (x : PageField × Nat) => x.2

/-- The value a write supplies for a register that is not repeated. -/
def wrote1 (ws : List (PageField × Nat)) (n : RegName) : Option Nat := wrote ws n n.info.idx0

/-- A register as it would stand once a write has been applied. -/
def State.after (s : State) (ws : List (PageField × Nat)) (n : RegName) (i : Nat) : Nat :=
  (wrote ws n i).getD (s.get n i)

/-- A register that is not repeated, as it would stand once a write has been applied. -/
def State.after1 (s : State) (ws : List (PageField × Nat)) (n : RegName) : Nat := s.after ws n n.info.idx0

/-- A write touches some of the registers `ns`. -/
def touches (ws : List (PageField × Nat)) (ns : List RegName) : Bool :=
  ws.any fun (x : PageField × Nat) => ns.contains x.1.name

/-! ## The checks of page values -/

/-- The lock that governs an RWL field is set (00 R18; 03 R123; 18 R769). -/
def State.fieldLocked (s : State) (f : PageField) : Bool :=
  f.name.info.access == .rwl && (if f.name = .HOLDUP_MS then s.on .HOLDUP_LOCK else s.pinLocked f.idx)

/-- A field's own failure: a locked field whose value differs, or a value outside the stated range (06 R241, 00 R19,
R24); a locked field's write is ignored, so its range is not judged. BAUD of P6 ends at 1,000,000 (08 Table 8.8). -/
def State.fieldFault (s : State) (x : PageField × Nat) : Option (Nat × Nat) :=
  if s.fieldLocked x.1 then
    if x.2 = s.get x.1.name x.1.idx then none else some (x.1.off, St.locked)
  else if ((x.1.name.info.access == .rw || x.1.name.info.access == .rwl) && !x.1.name.accepts x.2) ||
      (x.1.name == .BAUD && x.1.idx == 6 && decide (1000000 < x.2)) then
    some (x.1.off, St.outOfRange)
  else none

/-- An OUT_OF_RANGE failure at an offset, where `bad`. -/
def badAt (bad : Bool) (off : Nat) : List (Nat × Nat) := if bad then [(off, St.outOfRange)] else []

/-- The first entry at which the shadow microstep table fails its check (10 R443, R444). -/
def State.badStep (s : State) : Option Nat :=
  let t (i : Nat) : Nat := s.get .USTEP_T i
  match (List.range 255).find? fun i => decide (t (i + 1) < t i) with
  | some i => some i
  | none => if 64 < t 0 then some 0 else if t 255 < 512 then some 255 else none

/-- The first section of a loop's shadow, as it would stand, whose poles are not inside the unit circle (11 R495). -/
def State.badSection (s : State) (ws : List (PageField × Nat)) (loop : Nat) : Option Nat :=
  (List.range 4).find? fun k =>
    let a1 := ofBits 24 (s.after ws .BQ_COEF (20 * loop + 5 * k + 3))
    let a2 := ofBits 24 (s.after ws .BQ_COEF (20 * loop + 5 * k + 4))
    !(decide (a2.natAbs < 4194304) && decide ((a1.natAbs : Int) < 4194304 + a2))

/-- The conditions of a write strategy (12 R542): the powers in order (lowest field P_BIAS, at 2), and every class's
peak long enough (lowest field OD_40THS, at 10). -/
def State.strategyFaults (s : State) (ws : List (PageField × Nat)) (l : Nat) : List (Nat × Nat) :=
  let v (n : RegName) : Nat := s.after ws n l
  let ordered := decide (v .P_COOL ≤ v .P_BIAS) && decide (v .P_BIAS ≤ v .P_PEAK) && decide (v .P_PEAK ≤ v .P_OD)
  let fits (c : Nat) : Bool :=
    decide ((max 20 (v .OD_40THS) : Int) ≤ 40 * (c + 2) - ofBits 8 (s.after ws .DT_TOP (4 * l + c))
      - ofBits 8 (s.after ws .DT_E (4 * l + c)))
  badAt (!ordered) 2 ++ badAt (!(List.range 4).all fits) 10

/-- The pins a function may be selected on (18 Table 18.2). -/
def funcPins : Nat → List Nat
  | 0 => List.range 24
  | 1 => [2, 3]
  | 2 => [8, 9]
  | 3 => [6]
  | 4 => [7]
  | 5 => [12, 13]
  | 6 => [14]
  | 7 => [15]
  | 8 => [16, 17, 18, 19, 20, 21]
  | _ => []

/-- The conditions of PP_GPIO_CFG (18 R753, R755, Table 18.5) for the pins a write touches. -/
def State.pinFaults (s : State) (ws : List (PageField × Nat)) (p : Nat) : List (Nat × Nat) :=
  let f := s.after ws .GP_FUNC p
  let twice := decide (1 ≤ f) && decide (f ≤ 7) &&
    (List.range 24).any fun q => q != p && s.after ws .GP_FUNC q == f
  let func := (wrote ws .GP_FUNC p).isSome && (!(funcPins f).contains p || twice)
  let pulls := (wrote ws .GP_PULL_UP p).isSome &&
    s.after ws .GP_PULL_UP p == 1 && s.after ws .GP_PULL_DOWN p == 1
  let wake := decide (8 ≤ p) && ((wrote ws .GPW_RISING p).getD 0 == 1 || (wrote ws .GPW_FALLING p).getD 0 == 1)
  badAt func (4 * p) ++ badAt pulls (4 * p + 1) ++ badAt wake (4 * p + 2)

/-- The conditions of PP_TALLY (08 R383): start and stop sources of a written channel differ, unless none. -/
def State.tallyFaults (s : State) (ws : List (PageField × Nat)) (ch : Nat) : List (Nat × Nat) :=
  badAt (((wrote ws .TL_START ch).isSome || (wrote ws .TL_STOP ch).isSome) && s.after ws .TL_STOP ch != 0 &&
    s.after ws .TL_START ch == s.after ws .TL_STOP ch) (16 * ch)

/-- The conditions of PP_RECOVERY (19 R796): a write of all 256 bytes places RCV_DATA. -/
def PSet.placesData (w : PSet) : Bool := w.page == 0x810 && w.off == 0 && w.len == 256

/-- A placement of RCV_DATA that breaks 19 R796. -/
def State.rcvFaults (s : State) (w : PSet) (ws : List (PageField × Nat)) : List (Nat × Nat) :=
  let o := s.after1 ws .RCV_OFFSET
  badAt (w.placesData && ((o != 0 && o != s.reg .RCV_WRITTEN) || decide (12582912 < o + s.after1 ws .RCV_LEN))) 4

/-- The failures of page values that no single field shows, by page. -/
def State.crossFaults (s : State) (w : PSet) (ws : List (PageField × Nat)) : List (Nat × Nat) :=
  if w.page = 0x110 then
    badAt (touches ws [.CHOP_KHZ, .TOFF_US] &&
      decide (1000 < (s.after1 ws .TOFF_US + 2) * s.after1 ws .CHOP_KHZ)) 12
      ++ badAt (wrote1 ws .USTEP_APPLY == some 1 && s.badStep.isSome) 36
  else if 0x201 ≤ w.page ∧ w.page ≤ 0x204 then s.strategyFaults ws (w.page - 0x201)
  else if 0x228 ≤ w.page ∧ w.page ≤ 0x22A then
    badAt (wrote ws .BQ_APPLY (w.page - 0x228) == some 1 && (s.badSection ws (w.page - 0x228)).isSome) 82
  else if 0x310 ≤ w.page ∧ w.page ≤ 0x319 then
    badAt (touches ws [.BB_SIZE_MIB, .FLUSH_MARK_MIB] &&
      decide (s.after ws .BB_SIZE_MIB (w.page - 0x310) < s.after ws .FLUSH_MARK_MIB (w.page - 0x310))) 4
  else if w.page = 0x328 then (List.range 8).flatMap (s.tallyFaults ws)
  else if w.page = 0x600 then
    (List.range 4).flatMap fun r =>
      badAt ((wrote ws .ROD_GATE r).any fun g => g != 0 && !Ev.levels.contains g) (64 + r)
  else if w.page = 0x700 then (List.range 24).flatMap (s.pinFaults ws)
  else if w.page = 0x701 then badAt ((wrote1 ws .GPIO_UPD_MASK).isSome != (wrote1 ws .GPIO_UPD_VALUE).isSome) 8
  else if w.page = 0x810 then s.rcvFaults w ws
  else []

/-- The failure at the lowest page offset; of two at one offset, the first (06 R285). -/
def firstFault (l : List (Nat × Nat)) : Option (Nat × Nat) :=
  l.foldl (fun a x => match a with
    | none => some x
    | some y => if x.1 < y.1 then some x else some y) none

/-- The page failures of a write: the edge that cuts a field, and the values (06 R239, R285). -/
def State.pageFault (s : State) (w : PSet) : Option (Nat × Nat) :=
  let ws := w.writes
  firstFault (((cutEdge w.page w.off w.len).toList.map fun o => (o, St.badAlign)) ++ ws.filterMap s.fieldFault
    ++ s.crossFaults w ws)

/-- A check of a shadow that fails is noted (10 R444, 11 R496). -/
def State.noteShadow (s : State) (w : PSet) (off : Nat) : State :=
  if w.page = 0x110 ∧ off = 36 then s.set .USTEP_BAD_INDEX (s.badStep.getD 0xFFFF)
  else if 0x228 ≤ w.page ∧ w.page ≤ 0x22A ∧ off = 82 then
    s.put .BQ_BAD_SECTION (w.page - 0x228) ((s.badSection w.writes (w.page - 0x228)).getD 0xFF)
  else s

/-! ## What a write does -/

/-- A field takes its value by its access code (00 Table 0.6); GPIO_OUT is written by its owner rule (18 R763). -/
def State.writeField (s : State) (x : PageField × Nat) : State :=
  let f := x.1
  if f.name = .GPIO_OUT then s
  else match f.name.info.access with
    | .rw => s.put f.name f.idx x.2
    | .rwl => s.put f.name f.idx x.2
    | .w1c => s.put f.name f.idx (s.get f.name f.idx - (s.get f.name f.idx &&& x.2))
    | .w1s => s.put f.name f.idx (s.get f.name f.idx ||| x.2)
    | _ => s

/-- A value of the list of 13 R608 in force at once. -/
def State.takeNow (s : State) (k : Nat) (v : Int) : State :=
  { s with sv.inForce := s.sv.inForce.set k v, sv.target := s.sv.target.set k v }

/-- HOLDUP_UNLOCK, HOLDUP_LOCK and RTC_ALARM (03 R123, R124). `s0` is the state before the write: with both bits written
the lock ends set (00 R17). -/
def State.hookPower (s s0 : State) (ws : List (PageField × Nat)) : State :=
  let s : State := if (wrote1 ws .RTC_ALARM).isSome then { s with pw.alarmFired := false } else s
  let lock := wrote1 ws .HOLDUP_LOCK == some 1
  let open' := wrote1 ws .HOLDUP_UNLOCK == some 1 && s0.on .HOLDUP_LOCK
  let s := if open' then
      (if lock then s else s.set .HOLDUP_LOCK 0).report Code.holdupUnlocked (s.reg .HOLDUP_MS)
    else s
  if lock && (open' || !s0.on .HOLDUP_LOCK) then s.set .HOLDUP_MRAM (s.reg .HOLDUP_MS) else s

/-- A mark that pending bytes have reached is a burst trigger (07 R299), and a bobbin's flags follow its policy (R300,
R302). -/
def State.hookLoom (s s0 : State) (w : PSet) (ws : List (PageField × Nat)) : State :=
  let reached (mark old pending : Nat) : Bool :=
    mark != 0 && decide (mark ≤ pending) && (old == 0 || decide (pending < old))
  if w.page = 0x300 then
    if reached (s.reg .POOL_FLUSH_MIB * mib) (s0.reg .POOL_FLUSH_MIB * mib) s.pendingBytes then
      s.trigger (List.range 10)
    else s
  else if 0x310 ≤ w.page ∧ w.page ≤ 0x319 then
    let b := w.page - 0x310
    let full := s.onAt .BOB_FULL b
    let s := if touches ws [.FULL_POLICY] then s.bobFlags b else s
    let s := if !full && s.onAt .BOB_FULL b then s.trigger [b] else s
    if reached (s.get .FLUSH_MARK_MIB b * mib) (s0.get .FLUSH_MARK_MIB b * mib) (s.pendingOf b) then s.trigger [b]
    else s
  else s

/-- Ports turned on or off (08 R391, Tables 8.5, 8.8, 8.11), changed CANMAP entries (R371), rewired tally channels
(R386). -/
def State.hookPorts (s s0 : State) (w : PSet) (ws : List (PageField × Nat)) : State :=
  let moved (n : RegName) (i : Nat) : Bool := s.get n i != s0.get n i
  if 0x320 ≤ w.page ∧ w.page ≤ 0x323 then
    let p := w.page - 0x31F
    if moved .CAM_ENABLE p then s.portSwitched p else s
  else if w.page = 0x324 ∨ w.page = 0x325 then
    let p := w.page - 0x31F
    if moved .SER_ENABLE p then s.portSwitched p else s
  else if w.page = 0x326 then
    if moved .CAN_ENABLE 0 then s.portSwitched 7 else s
  else if 0x330 ≤ w.page ∧ w.page ≤ 0x337 then
    ws.foldl (fun s (x : PageField × Nat) =>
      if x.2 = s0.get x.1.name x.1.idx then s else s.put .CANVAL x.1.idx 0) s
  else if w.page = 0x328 then
    (List.range 8).foldl (fun s ch =>
      if (wrote ws .TL_START ch).isSome || (wrote ws .TL_STOP ch).isSome then s.tallyRewired ch else s) s
  else s

/-- The microstep table (10 R442-R445), the accelerometer and feed-forward (11 R511, R514), the biquads and loop gains
(R495-R497, Table 11.10; 16 R717). -/
def State.hookDrive (s : State) (w : PSet) (ws : List (PageField × Nat)) : State :=
  let now (s : State) (n : RegName) (k : Nat) (v : Int) : State := if (wrote1 ws n).isSome then s.takeNow k v else s
  if w.page = 0x111 ∨ w.page = 0x112 then if ws.isEmpty then s else s.set .SL_TABLE_PENDING 1
  else if w.page = 0x110 then
    let s := if touches ws [.STANDSTILL] then s.standNow else s
    if wrote1 ws .USTEP_APPLY = some 1 then
      let s := s.set .USTEP_BAD_INDEX 0xFFFF
      if s.sl.target.isNone && s.sl.homing.isNone then s.applyTable else { s with sl.tableWaits := true }
    else s
  else if w.page = 0x221 then
    let s := if wrote1 ws .ACC_ENABLE = some 0 then s.set .ACC_STATE 0 else s
    let s := now s .FF_GAIN_F 4 (s.getInt .FF_GAIN_F 0)
    let s := now s .FF_GAIN_T 5 (s.getInt .FF_GAIN_T 0)
    let s := now s .FF_DELAY_F_US 6 (s.reg .FF_DELAY_F_US)
    now s .FF_DELAY_T_US 7 (s.reg .FF_DELAY_T_US)
  else if 0x228 ≤ w.page ∧ w.page ≤ 0x22A then
    let k := w.page - 0x228
    let s := if (wrote ws .LOOP_GAIN k).isSome then (s.takeNow (8 + k) (s.get .LOOP_GAIN k)).updateHealth else s
    if wrote ws .BQ_APPLY k = some 1 then
      { s.set .BQ_PENDING 1 with sv.bqWaiting := s.sv.bqWaiting.filter (· != k) ++ [k] }
    else s
  else s

/-- CAL_NOW (13 R589): both kinds fall due on each layer written. -/
def State.hookCal (s : State) (ws : List (PageField × Nat)) : State :=
  match wrote1 ws .CAL_NOW with
  | some m => s.makeDue (m + 16 * m)
  | none => s

/-- GPIO_OUT, then the masked update, then the lock key (18 R762-R769). -/
def State.hookGpio (s : State) (ws : List (PageField × Nat)) : State :=
  let s := match wrote1 ws .GPIO_OUT with
    | some v => s.gpioOut 0 v
    | none => s
  let s := match wrote1 ws .GPIO_UPD_MASK, wrote1 ws .GPIO_UPD_VALUE with
    | some m, some v => s.gpioMasked 0 m v
    | _, _ => s
  match wrote1 ws .GPIO_LOCK_KEY with
  | some m => s.lockWrite m
  | none => s

/-- A slot written over the service port (19 R796): offset 0 erases it first; it is not complete until closed. -/
def State.rcvPlace (s : State) (w : PSet) : State :=
  let slot := s.reg .RCV_SLOT
  let o := s.reg .RCV_OFFSET
  let n := s.reg .RCV_LEN
  if !w.placesData then s
  else
    let s := if o = 0 then ((s.eraseSlot slot).setStaged slot 0).setComplete slot false else s
    let s := (s.program slot o ((bytesAt w.data 16 240).take n)).set .RCV_WRITTEN (o + n)
    { s.set .RCV_STATE 1 with bo.rcvDone := false }

/-- The slot is closed (19 R797): complete, next to boot, or the failing chunk. -/
def State.rcvClose (s : State) : Option Nat × State :=
  let slot := s.reg .RCV_SLOT
  let s := s.set .RCV_CLOSE 0
  match s.badChunk slot with
  | some k => (some k, s.set .RCV_STATE 4)
  | none =>
    let s := (s.setStaged slot (headerChunks (s.slotHeader slot) + 1)).setComplete slot true
    (none, { ((s.setNext slot).setAttempts slot 0).set .RCV_STATE 3 with bo.rcvDone := true })

/-- Fields whose effect their home chapter ties to a later event (06 R242; 04 Tables 4.13, 4.14; 07 R296; 09 R404; 10
R445, R454, R458; 11 R497, Table 11.9; 12 R543; 13 R610; 19 R793). -/
def State.defers (s : State) (x : PageField × Nat) : Bool :=
  match x.1.name with
  | .SUBSYS_VID | .SUBSYS_ID | .MAX_SPEED | .BB_SIZE_MIB | .POS_MEMORY | .ACC_INIT_COUNT | .ACC_INIT | .ACC_READ_CMD
  | .ACC_SPI_MHZ => true
  | .P_READ | .P_BIAS | .P_COOL | .P_PEAK | .P_OD | .OD_40THS | .DT_TOP | .DT_E | .T_COOL | .CAL_SLEW_SAMPLES => true
  | .STANDSTILL => !s.sl.standing || s.keepsHold
  | .USTEP_APPLY => x.2 == 1 && !(s.sl.target.isNone && s.sl.homing.isNone)
  | .BQ_APPLY => x.2 == 1
  | .ALIGN_MA | .ALIGN_MS | .RAMP_RPM_S => s.reg .SP_STATE == 2 || s.reg .SP_STATE == 3
  | .SET_DEFAULTS => x.2 == 1
  | _ => false

/-- Every field of the range is applied in one step (a pin that leaves an output function keeps its bit, 18 R754), with what
its home chapter ties to it (06 R240); a stored field is in a new copy of CURRENT when the command completes (19 R790). -/
def State.applyPage (s : State) (w : PSet) : State :=
  let ws := w.writes
  let t := ws.foldl State.writeField (if touches ws [.GP_FUNC] then s.set .GPIO_OUT s.gpioOutNow else s)
  let t := (t.hookPower s ws).hookLoom s w ws
  let t := ((t.hookPorts s w ws).hookDrive w ws).hookCal ws
  let t := (t.hookGpio ws).rcvPlace w
  let unlocked := wrote1 ws .HOLDUP_UNLOCK == some 1 && s.on .HOLDUP_LOCK
  if unlocked || ws.any fun (x : PageField × Nat) => x.1.name.isSetting then t.saveSettings else t

/-! ## The commands -/

/-- In recovery the boot ROM serves PP_IDENT, PP_BOOT and PP_RECOVERY, and writes of PP_RECOVERY only; outside it no
write of PP_RECOVERY (19 R794, R795). -/
def State.pageBarred (s : State) (page : Nat) (write : Bool) : Bool :=
  if s.reg .BOOT_MODE = 2 then (if write then page != 0x810 else !([0, 0x800, 0x810] : List Nat).contains page)
  else write && page == 0x810

/-- HOLDUP_UNLOCK is written 1 by a source without the current unlock (03 R123). -/
def State.unlockBarred (s : State) (c : MbCopy) : Bool :=
  wrote1 c.pset.writes .HOLDUP_UNLOCK == some 1 && !(c.byP8 && s.host.unlocked)

/-- The failure of a PARAM_SET by rank and offset (06 R234, R285; 19 R798): NOT_PERMITTED, BAD_LENGTH, the arguments, the
page. A NOR that is absent or small makes every write of PP_RECOVERY fail; which offset its detail names the spec does
not say. -/
def State.setFault (s : State) (c : MbCopy) (v : Nat) : Option (Nat × Nat) :=
  let w := c.pset
  if s.pageBarred w.page true || s.unlockBarred c then some (St.notPermitted, 0)
  else if 768 < c.dlen ∨ c.dlen ≠ w.len then some (St.badLength, 0xFFFFFFFF)
  else match rangeFault w.page w.off w.len true with
    | some e => some e
    | none =>
      if w.page = 0x810 ∧ s.reg .NOR_MIB < 32 then some (St.outOfRange, v % 2 ^ 32)
      else (s.pageFault w).map fun (e : Nat × Nat) => (e.2, e.1)

/-- A PARAM_SET that passes its checks (06 R240, R242; 19 R797). -/
def State.setPage (s : State) (slot : Nat) (w : PSet) : State :=
  let ws := w.writes
  let t := s.applyPage w
  if wrote1 ws .RCV_CLOSE = some 1 then
    match t.rcvClose with
    | (some k, t) => t.answer slot (failResp St.fwBadSignature k)
    | (none, t) => t.answer slot okResp
  else t.answer slot (okResp (leBytes 1 (b2n (ws.any s.defers))))

/-- PARAM_SET, whichever row it comes by. The draw is for the one detail the spec leaves open. -/
def State.paramSet (slot : Nat) (c : MbCopy) (s : State) : State :=
  let (v, t) := s.draw
  match s.setFault c v with
  | some (st, d) =>
    let s := if c.pset.page = 0x810 ∧ s.reg .NOR_MIB < 32 then t else s
    (if st = St.outOfRange then s.noteShadow c.pset d else s).answer slot (failResp st d)
  | none => s.setPage slot c.pset

/-- A PARAM_SET writes field `n` with a value that is not 0, or with any. -/
def MbCopy.sets (c : MbCopy) (n : RegName) (zero : Bool := false) : Bool :=
  c.pset.writes.any fun (x : PageField × Nat) => x.1.name == n && (zero || x.2 != 0)

/-- PARAM_GET (06 R238): the range of the page as it stood when the command was accepted, or once the earlier commands on
it had been applied (04 R143). -/
def execParamGet (slot : Nat) (s : State) : Host.Outcome State Fault Refusal :=
  s.runMbx slot 1 (fun _ => true) fun c s =>
    let w := c.pset
    if s.pageBarred w.page false then s.answer slot (failResp St.notPermitted 0)
    else match rangeFault w.page w.off w.len false with
      | some (st, d) => s.answer slot (failResp st d)
      | none => s.answer slot (okResp [] (bytesAt (if c.page.isEmpty then s.pageBytes w.page else c.page) w.off w.len))

/-- PARAM_SET (06 R238-R242), with whatever its fields do. -/
def execParamSet (slot : Nat) (s : State) : Host.Outcome State Fault Refusal :=
  s.runMbx slot 2 (fun _ => true) (State.paramSet slot)

/-- HOLDUP_LOCK_SET (03 R123). -/
def execHoldupLockSet (slot : Nat) (s : State) : Host.Outcome State Fault Refusal :=
  s.runMbx slot 2 (fun c => c.sets .HOLDUP_LOCK) (State.paramSet slot)

/-- HOLDUP_UNLOCK (03 R123). -/
def execHoldupUnlock (slot : Nat) (s : State) : Host.Outcome State Fault Refusal :=
  s.runMbx slot 2 (fun c => c.sets .HOLDUP_UNLOCK) (State.paramSet slot)

/-- USTEP_APPLY (10 R443-R445). -/
def execUstepApply (slot : Nat) (s : State) : Host.Outcome State Fault Refusal :=
  s.runMbx slot 2 (fun c => c.sets .USTEP_APPLY) (State.paramSet slot)

/-- BQ_APPLY (11 R495-R497). -/
def execBqApply (slot : Nat) (s : State) : Host.Outcome State Fault Refusal :=
  s.runMbx slot 2 (fun c => c.sets .BQ_APPLY) (State.paramSet slot)

/-- CAL_NOW (13 R589). -/
def execCalNow (slot : Nat) (s : State) : Host.Outcome State Fault Refusal :=
  s.runMbx slot 2 (fun c => c.sets .CAL_NOW) (State.paramSet slot)

/-- SET_DEFAULTS (19 R793). -/
def execSetDefaults (slot : Nat) (s : State) : Host.Outcome State Fault Refusal :=
  s.runMbx slot 2 (fun c => c.sets .SET_DEFAULTS) (State.paramSet slot)

/-- GPIO_OUT_WRITE (18 R762, R763): the host and P8 write by PARAM_SET; an agent of the K760 writes directly, the warden
in every state but Off, the others while the logic die runs. -/
def execGpioOutWrite (writer : PinOwner) (slot : Nat) (value : BitVec 24) (s : State) :
    Host.Outcome State Fault Refusal :=
  match writer with
  | .host => s.runMbx slot 2 (fun c => c.sets .GPIO_OUT true) (State.paramSet slot)
  | .warden => .next (if s.pw.mode = .off then s else s.gpioOut (ownerCode .warden) value.toNat)
  | w => .next (if s.coresRun then s.gpioOut (ownerCode w) value.toNat else s)

/-- GPIO_MASKED_UPDATE (18 R764). -/
def execGpioMaskedUpdate (slot : Nat) (s : State) : Host.Outcome State Fault Refusal :=
  s.runMbx slot 2 (fun c => c.sets .GPIO_UPD_MASK true || c.sets .GPIO_UPD_VALUE true) (State.paramSet slot)

/-- GPIO_LOCK_KEY (18 R767-R769). -/
def execGpioLockKey (slot : Nat) (s : State) : Host.Outcome State Fault Refusal :=
  s.runMbx slot 2 (fun c => c.sets .GPIO_LOCK_KEY true) (State.paramSet slot)

/-- CANMAP_WRITE (08 R371). -/
def execCanmapWrite (slot : Nat) (s : State) : Host.Outcome State Fault Refusal :=
  s.runMbx slot 2 (fun c => decide (0x330 ≤ c.pset.page) && decide (c.pset.page ≤ 0x337)) (State.paramSet slot)

/-- TALLY_SOURCE_WRITE (08 R383, R386). -/
def execTallySourceWrite (slot : Nat) (s : State) : Host.Outcome State Fault Refusal :=
  s.runMbx slot 2 (fun c => c.sets .TL_START true || c.sets .TL_STOP true) (State.paramSet slot)

/-- RCV_DATA_WRITE (19 R794-R796, R798). -/
def execRcvDataWrite (slot : Nat) (s : State) : Host.Outcome State Fault Refusal :=
  s.runMbx slot 2 (fun c => c.pset.page == 0x810) (State.paramSet slot)

/-- RCV_CLOSE (19 R797). -/
def execRcvClose (slot : Nat) (s : State) : Host.Outcome State Fault Refusal :=
  s.runMbx slot 2 (fun c => c.sets .RCV_CLOSE) (State.paramSet slot)

/-! ## The TAP -/

/-- The IDCODE of 20 R830. -/
def idcode : Nat := 1 + 2 * (Config.jedecId % 2 ^ 11) + 0x0760 * 2 ^ 12 + 2 * 2 ^ 28

/-- The code of a TAP instruction in State. -/
def TapOp.code : TapOp → Nat
  | .bypass => 0
  | .idcode => 1
  | .samplePreload => 2
  | .extest => 3
  | .scan _ => 0

/-- JTAG_TAP_OPERATION (20 R830): an instruction scan selects; a data scan shifts `bits` in and its register's contents
out. SAMPLE/PRELOAD and EXTEST act while RESET_N is low, else as BYPASS; the order of the chain is not in the spec, so
the bits it captures are free. -/
def execJtagTapOperation (op : TapOp) (resetLow : Bool) (s : State) : Host.Outcome State Fault Refusal :=
  .next (
    if s.pw.mode = .off then s
    else match op with
      | .scan bits =>
        if s.tap.instr = 1 then
          { s with tap.out := (((List.range 32).map (bit idcode)) ++ bits).take bits.length }
        else if resetLow && decide (2 ≤ s.tap.instr) then
          let (v, s) := s.draw
          { s with tap.out := (List.range bits.length).map (bit v), tap.preload := bits }
        else
          { s with tap.out := (false :: bits).take bits.length, tap.bypassBit := bits.getLast?.getD false }
      | op => { s with tap.instr := TapOp.code op })

end Sys2Proof.Machine
end

