-- ==== Sys2Proof/Machine/Dispatch.lean ====
section
/-! DEFINITION. What each command does: one arm per constructor of `Instr`. -/

namespace Sys2Proof.Machine

/-- The effect of a command on everything but the queue. -/
def exec (i : Instr) (s : State) : Host.Outcome State Fault Refusal :=
  match i with
  | .w0BadAccess window offset size write => Sys2Proof.Machine.execW0BadAccess window offset size write s
  | .mbGo slot ctrl byP8 => Sys2Proof.Machine.execMbGo slot ctrl byP8 s
  | .mbComplete slot => Sys2Proof.Machine.execMbComplete slot s
  | .mbDoneClear slot byP8 => Sys2Proof.Machine.execMbDoneClear slot byP8 s
  | .mbClaim byHost byP8 => Sys2Proof.Machine.execMbClaim byHost byP8 s
  | .mbRelease byP8 => Sys2Proof.Machine.execMbRelease byP8 s
  | .p8ClaimTimeout => Sys2Proof.Machine.execP8ClaimTimeout s
  | .p8Write offset data => Sys2Proof.Machine.execP8Write offset data s
  | .p8Read offset len => Sys2Proof.Machine.execP8Read offset len s
  | .p8Status => Sys2Proof.Machine.execP8Status s
  | .ntTailWrite v => Sys2Proof.Machine.execNtTailWrite v s
  | .doorbellWrite offset size value => Sys2Proof.Machine.execDoorbellWrite offset size value s
  | .d3hotEntry => Sys2Proof.Machine.execD3hotEntry s
  | .d0Return => Sys2Proof.Machine.execD0Return s
  | .linkRetrainTimeout => Sys2Proof.Machine.execLinkRetrainTimeout s
  | .functionLevelReset => Sys2Proof.Machine.execFunctionLevelReset s
  | .hotReset => Sys2Proof.Machine.execHotReset s
  | .perstAssert => Sys2Proof.Machine.execPerstAssert s
  | .perstRelease speed width => Sys2Proof.Machine.execPerstRelease speed width s
  | .hostResetComplete => Sys2Proof.Machine.execHostResetComplete s
  | .hostReadTimeout qp tag => Sys2Proof.Machine.execHostReadTimeout qp tag s
  | .poisonedTlp qp tag => Sys2Proof.Machine.execPoisonedTlp qp tag s
  | .qpCreate slot => Sys2Proof.Machine.execQpCreate slot s
  | .qpDelete slot => Sys2Proof.Machine.execQpDelete slot s
  | .sqFetch qp entry buffer descriptors => Sys2Proof.Machine.execSqFetch qp entry buffer descriptors s
  | .fencedStart qp tag => Sys2Proof.Machine.execFencedStart qp tag s
  | .coalTimerExpiry qp => Sys2Proof.Machine.execCoalTimerExpiry qp s
  | .paramGet slot => Sys2Proof.Machine.execParamGet slot s
  | .paramSet slot => Sys2Proof.Machine.execParamSet slot s
  | .powerHoldRun slot => Sys2Proof.Machine.execPowerHoldRun slot s
  | .powerDoze slot => Sys2Proof.Machine.execPowerDoze slot s
  | .powerNap slot => Sys2Proof.Machine.execPowerNap slot s
  | .powerHibernate slot => Sys2Proof.Machine.execPowerHibernate slot s
  | .powerReleaseHold slot => Sys2Proof.Machine.execPowerReleaseHold slot s
  | .fwActivate slot => Sys2Proof.Machine.execFwActivate slot s
  | .commission slot => Sys2Proof.Machine.execCommission slot s
  | .keyRead slot => Sys2Proof.Machine.execKeyRead slot s
  | .streamKeyOff slot => Sys2Proof.Machine.execStreamKeyOff slot s
  | .streamKeyHost slot => Sys2Proof.Machine.execStreamKeyHost slot s
  | .streamKeyDevice slot => Sys2Proof.Machine.execStreamKeyDevice slot s
  | .svcChallenge slot => Sys2Proof.Machine.execSvcChallenge slot s
  | .svcUnlock slot => Sys2Proof.Machine.execSvcUnlock slot s
  | .bbErase slot => Sys2Proof.Machine.execBbErase slot s
  | .windowNow slot cells duration => Sys2Proof.Machine.execWindowNow slot cells duration s
  | .windowPass slot fails duration => Sys2Proof.Machine.execWindowPass slot fails duration s
  | .laserDac slot codes => Sys2Proof.Machine.execLaserDac slot codes s
  | .coilSense slot ma => Sys2Proof.Machine.execCoilSense slot ma s
  | .motorSense slot ma => Sys2Proof.Machine.execMotorSense slot ma s
  | .adcTone slot snr => Sys2Proof.Machine.execAdcTone slot snr s
  | .shuttleLoop slot failed duration => Sys2Proof.Machine.execShuttleLoop slot failed duration s
  | .tempCross slot temps => Sys2Proof.Machine.execTempCross slot temps s
  | .d2dLoop slot errors => Sys2Proof.Machine.execD2dLoop slot errors s
  | .allAnalogue slot failed readings => Sys2Proof.Machine.execAllAnalogue slot failed readings s
  | .injD2dBreak slot => Sys2Proof.Machine.execInjD2dBreak slot s
  | .injLeaseStop slot => Sys2Proof.Machine.execInjLeaseStop slot s
  | .injBemfBlank slot => Sys2Proof.Machine.execInjBemfBlank slot s
  | .injBemfSpurious slot => Sys2Proof.Machine.execInjBemfSpurious slot s
  | .injLaneError slot => Sys2Proof.Machine.execInjLaneError slot s
  | .injLaneLoopFail slot => Sys2Proof.Machine.execInjLaneLoopFail slot s
  | .injParityFlip slot => Sys2Proof.Machine.execInjParityFlip slot s
  | .injCheckerBreak slot => Sys2Proof.Machine.execInjCheckerBreak slot s
  | .injReedCorrupt slot => Sys2Proof.Machine.execInjReedCorrupt slot s
  | .injPoison slot => Sys2Proof.Machine.execInjPoison slot s
  | .injVerifyFail slot => Sys2Proof.Machine.execInjVerifyFail slot s
  | .injEraseFrames slot => Sys2Proof.Machine.execInjEraseFrames slot s
  | .injDefectFlag slot => Sys2Proof.Machine.execInjDefectFlag slot s
  | .injTrainFail slot => Sys2Proof.Machine.execInjTrainFail slot s
  | .injPoolWrite slot => Sys2Proof.Machine.execInjPoolWrite slot s
  | .servoTestStart => Sys2Proof.Machine.execServoTestStart s
  | .nop qp tag => Sys2Proof.Machine.execNop qp tag s
  | .fence qp tag => Sys2Proof.Machine.execFence qp tag s
  | .abort qp tag => Sys2Proof.Machine.execAbort qp tag s
  | .poolRead qp work => Sys2Proof.Machine.execPoolRead qp work s
  | .poolAppend qp work => Sys2Proof.Machine.execPoolAppend qp work s
  | .eventMark qp tag => Sys2Proof.Machine.execEventMark qp tag s
  | .flush qp tag => Sys2Proof.Machine.execFlush qp tag s
  | .discDir qp tag => Sys2Proof.Machine.execDiscDir qp tag s
  | .exportBlock qp tag => Sys2Proof.Machine.execExportBlock qp tag s
  | .discRead qp tag => Sys2Proof.Machine.execDiscRead qp tag s
  | .cartridgeEject qp tag => Sys2Proof.Machine.execCartridgeEject qp tag s
  | .cartridgeLoad qp tag => Sys2Proof.Machine.execCartridgeLoad qp tag s
  | .timeSet qp tag => Sys2Proof.Machine.execTimeSet qp tag s
  | .timeGet qp tag => Sys2Proof.Machine.execTimeGet qp tag s
  | .tallyRead qp tag => Sys2Proof.Machine.execTallyRead qp tag s
  | .cntConfig qp tag => Sys2Proof.Machine.execCntConfig qp tag s
  | .cntSnapshot qp tag => Sys2Proof.Machine.execCntSnapshot qp tag s
  | .bbRead qp tag => Sys2Proof.Machine.execBbRead qp tag s
  | .fwStage qp tag => Sys2Proof.Machine.execFwStage qp tag s
  | .holdupLockSet slot => Sys2Proof.Machine.execHoldupLockSet slot s
  | .holdupUnlock slot => Sys2Proof.Machine.execHoldupUnlock slot s
  | .ustepApply slot => Sys2Proof.Machine.execUstepApply slot s
  | .ustepTableActivate => Sys2Proof.Machine.execUstepTableActivate s
  | .bqApply slot => Sys2Proof.Machine.execBqApply slot s
  | .bqActivate loop => Sys2Proof.Machine.execBqActivate loop s
  | .calNow slot => Sys2Proof.Machine.execCalNow slot s
  | .setDefaults slot => Sys2Proof.Machine.execSetDefaults slot s
  | .gpioOutWrite writer slot value => Sys2Proof.Machine.execGpioOutWrite writer slot value s
  | .gpioMaskedUpdate slot => Sys2Proof.Machine.execGpioMaskedUpdate slot s
  | .gpioLockKey slot => Sys2Proof.Machine.execGpioLockKey slot s
  | .canmapWrite slot => Sys2Proof.Machine.execCanmapWrite slot s
  | .tallySourceWrite slot => Sys2Proof.Machine.execTallySourceWrite slot s
  | .rcvDataWrite slot => Sys2Proof.Machine.execRcvDataWrite slot s
  | .rcvClose slot => Sys2Proof.Machine.execRcvClose slot s
  | .recoveryReboot => Sys2Proof.Machine.execRecoveryReboot s
  | .dozeIdleExpiry => Sys2Proof.Machine.execDozeIdleExpiry s
  | .napIdleExpiry => Sys2Proof.Machine.execNapIdleExpiry s
  | .napCommit => Sys2Proof.Machine.execNapCommit s
  | .hibIdleExpiry => Sys2Proof.Machine.execHibIdleExpiry s
  | .hibernateCommit => Sys2Proof.Machine.execHibernateCommit s
  | .wakeEvent source => Sys2Proof.Machine.execWakeEvent source s
  | .wakeExitComplete => Sys2Proof.Machine.execWakeExitComplete s
  | .rtcAlarmFire => Sys2Proof.Machine.execRtcAlarmFire s
  | .pfailAssert tRem => Sys2Proof.Machine.execPfailAssert tRem s
  | .pfailSpinupTimeout => Sys2Proof.Machine.execPfailSpinupTimeout s
  | .pfailRelease railsOk => Sys2Proof.Machine.execPfailRelease railsOk s
  | .slowCrystalStop => Sys2Proof.Machine.execSlowCrystalStop s
  | .wardenRcCalibrate crystalGood correctionPpm => Sys2Proof.Machine.execWardenRcCalibrate crystalGood correctionPpm s
  | .crystalReturn => Sys2Proof.Machine.execCrystalReturn s
  | .referenceStartTimeout => Sys2Proof.Machine.execReferenceStartTimeout s
  | .servoPllUnlock channelPll relocked => Sys2Proof.Machine.execServoPllUnlock channelPll relocked s
  | .corePllLoss memoryPll inFlight => Sys2Proof.Machine.execCorePllLoss memoryPll inFlight s
  | .powerOnReset => Sys2Proof.Machine.execPowerOnReset s
  | .pwrMainEnRaise => Sys2Proof.Machine.execPwrMainEnRaise s
  | .mainPgoodRise => Sys2Proof.Machine.execMainPgoodRise s
  | .mainPgoodTimeout => Sys2Proof.Machine.execMainPgoodTimeout s
  | .mainPgoodFall => Sys2Proof.Machine.execMainPgoodFall s
  | .railLowVlasVana => Sys2Proof.Machine.execRailLowVlasVana s
  | .masterReset cause inFlight => Sys2Proof.Machine.execMasterReset cause inFlight s
  | .boot inp => Sys2Proof.Machine.execBoot inp s
  | .goodDelayExpiry => Sys2Proof.Machine.execGoodDelayExpiry s
  | .d2dLinkLoss inFlight => Sys2Proof.Machine.execD2dLinkLoss inFlight s
  | .d2dRetrainDone ok ustepIndex => Sys2Proof.Machine.execD2dRetrainDone ok ustepIndex s
  | .clusterVerifyVerdict v => Sys2Proof.Machine.execClusterVerifyVerdict v s
  | .leaseRenew bobbin => Sys2Proof.Machine.execLeaseRenew bobbin s
  | .leaseExpiry bobbin => Sys2Proof.Machine.execLeaseExpiry bobbin s
  | .engineLoopbackDone bobbin pass => Sys2Proof.Machine.execEngineLoopbackDone bobbin pass s
  | .engineLoopbackRetry bobbin => Sys2Proof.Machine.execEngineLoopbackRetry bobbin s
  | .crossbarAccess agent addr write data => Sys2Proof.Machine.execCrossbarAccess agent addr write data s
  | .tailCommit agent bobbin newTail => Sys2Proof.Machine.execTailCommit agent bobbin newTail s
  | .segCloseHeldAppend bobbin => Sys2Proof.Machine.execSegCloseHeldAppend bobbin s
  | .markRetire markId => Sys2Proof.Machine.execMarkRetire markId s
  | .poolLoss channels => Sys2Proof.Machine.execPoolLoss channels s
  | .poolRetrain failed => Sys2Proof.Machine.execPoolRetrain failed s
  | .mr4Poll ok inLimit => Sys2Proof.Machine.execMr4Poll ok inLimit s
  | .camDatagram port frame => Sys2Proof.Machine.execCamDatagram port frame s
  | .arpRequest port target => Sys2Proof.Machine.execArpRequest port target s
  | .gptpFrame port msg => Sys2Proof.Machine.execGptpFrame port msg s
  | .syncTimer port => Sys2Proof.Machine.execSyncTimer port s
  | .announceTimer port => Sys2Proof.Machine.execAnnounceTimer port s
  | .pdelayTimer port => Sys2Proof.Machine.execPdelayTimer port s
  | .camLinkDown port => Sys2Proof.Machine.execCamLinkDown port s
  | .camLinkUp port speed fullDuplex => Sys2Proof.Machine.execCamLinkUp port speed fullDuplex s
  | .portTimeout port => Sys2Proof.Machine.execPortTimeout port s
  | .serialDataFrame port frame => Sys2Proof.Machine.execSerialDataFrame port frame s
  | .serialHeartbeat port frame => Sys2Proof.Machine.execSerialHeartbeat port frame s
  | .serialAnswer port collision => Sys2Proof.Machine.execSerialAnswer port collision s
  | .serialGapDiscard port => Sys2Proof.Machine.execSerialGapDiscard port s
  | .timeFrameTimer port collision => Sys2Proof.Machine.execTimeFrameTimer port collision s
  | .canFrame frame => Sys2Proof.Machine.execCanFrame frame s
  | .canBusOff => Sys2Proof.Machine.execCanBusOff s
  | .canBusoffRecovery => Sys2Proof.Machine.execCanBusoffRecovery s
  | .ppsEdge falling widthNs => Sys2Proof.Machine.execPpsEdge falling widthNs s
  | .nmeaSentence sentence => Sys2Proof.Machine.execNmeaSentence sentence s
  | .ppsTimeout => Sys2Proof.Machine.execPpsTimeout s
  | .holdoverExpiry => Sys2Proof.Machine.execHoldoverExpiry s
  | .tallyEdgeDebounced edges firstAt => Sys2Proof.Machine.execTallyEdgeDebounced edges firstAt s
  | .tallyMaxOpen channel => Sys2Proof.Machine.execTallyMaxOpen channel s
  | .spinupRequest readings laneFails => Sys2Proof.Machine.execSpinupRequest readings laneFails s
  | .senseEnd crossings => Sys2Proof.Machine.execSenseEnd crossings s
  | .alignEnd => Sys2Proof.Machine.execAlignEnd s
  | .rampTimeout => Sys2Proof.Machine.execRampTimeout s
  | .shortRetryEnd => Sys2Proof.Machine.execShortRetryEnd s
  | .bemfCrossing periodNs forward => Sys2Proof.Machine.execBemfCrossing periodNs forward s
  | .toothSynth => Sys2Proof.Machine.execToothSynth s
  | .commutation => Sys2Proof.Machine.execCommutation s
  | .spindleStall => Sys2Proof.Machine.execSpindleStall s
  | .stopRequest => Sys2Proof.Machine.execStopRequest s
  | .shortCycle crossing => Sys2Proof.Machine.execShortCycle crossing s
  | .spindleOvercurrent phase => Sys2Proof.Machine.execSpindleOvercurrent phase s
  | .spindleFaultRetry => Sys2Proof.Machine.execSpindleFaultRetry s
  | .spindleOpenPhase phase => Sys2Proof.Machine.execSpindleOpenPhase phase s
  | .vmotLow => Sys2Proof.Machine.execVmotLow s
  | .vmotRecover => Sys2Proof.Machine.execVmotRecover s
  | .spindleStageHot => Sys2Proof.Machine.execSpindleStageHot s
  | .spindleStageCool => Sys2Proof.Machine.execSpindleStageCool s
  | .sledSeekDemand ustep => Sys2Proof.Machine.execSledSeekDemand ustep s
  | .sledMoveEnd => Sys2Proof.Machine.execSledMoveEnd s
  | .holdDelayExpiry => Sys2Proof.Machine.execHoldDelayExpiry s
  | .sledReenergiseEnd => Sys2Proof.Machine.execSledReenergiseEnd s
  | .homeSwitchEdge asserted => Sys2Proof.Machine.execHomeSwitchEdge asserted s
  | .sledStall => Sys2Proof.Machine.execSledStall s
  | .homingSettle => Sys2Proof.Machine.execHomingSettle s
  | .homingFail => Sys2Proof.Machine.execHomingFail s
  | .sledOvercurrent coil => Sys2Proof.Machine.execSledOvercurrent coil s
  | .sledRehomeTimer => Sys2Proof.Machine.execSledRehomeTimer s
  | .sledOpenCoil coil => Sys2Proof.Machine.execSledOpenCoil coil s
  | .sledStageHot => Sys2Proof.Machine.execSledStageHot s
  | .sledStageCool => Sys2Proof.Machine.execSledStageCool s
  | .coilRmsTrip coil => Sys2Proof.Machine.execCoilRmsTrip coil s
  | .coilOpenShort coil below => Sys2Proof.Machine.execCoilOpenShort coil below s
  | .loaderEndSwitch inner disc => Sys2Proof.Machine.execLoaderEndSwitch inner disc s
  | .loaderTimeout => Sys2Proof.Machine.execLoaderTimeout s
  | .cartridgePull => Sys2Proof.Machine.execCartridgePull s
  | .focusClose crossings wedgeLayer coilOfsNm wedgeTrack => Sys2Proof.Machine.execFocusClose crossings wedgeLayer coilOfsNm wedgeTrack s
  | .focusSweepEnd => Sys2Proof.Machine.execFocusSweepEnd s
  | .layerJumpTimeout => Sys2Proof.Machine.execLayerJumpTimeout s
  | .trackLoss => Sys2Proof.Machine.execTrackLoss s
  | .focusLoss => Sys2Proof.Machine.execFocusLoss s
  | .settleComplete track => Sys2Proof.Machine.execSettleComplete track s
  | .seekRequest layer track => Sys2Proof.Machine.execSeekRequest layer track s
  | .seekDone track => Sys2Proof.Machine.execSeekDone track s
  | .writeGateTrip te fe acc peakTe peakFe => Sys2Proof.Machine.execWriteGateTrip te fe acc peakTe peakFe s
  | .shockHoldClear => Sys2Proof.Machine.execShockHoldClear s
  | .accSample bytes ok => Sys2Proof.Machine.execAccSample bytes ok s
  | .accTimeout => Sys2Proof.Machine.execAccTimeout s
  | .accReinit => Sys2Proof.Machine.execAccReinit s
  | .defectFlagAssert => Sys2Proof.Machine.execDefectFlagAssert s
  | .defectFlagRelease => Sys2Proof.Machine.execDefectFlagRelease s
  | .defectHoldOverrun => Sys2Proof.Machine.execDefectHoldOverrun s
  | .sampleMissed => Sys2Proof.Machine.execSampleMissed s
  | .laneDisagree spareFixes shadowFixes => Sys2Proof.Machine.execLaneDisagree spareFixes shadowFixes s
  | .laneLoopbackDone lane pass => Sys2Proof.Machine.execLaneLoopbackDone lane pass s
  | .shadowRotate => Sys2Proof.Machine.execShadowRotate s
  | .readAttemptDone r => Sys2Proof.Machine.execReadAttemptDone r s
  | .apcUpdate slopeUwMa ithDma => Sys2Proof.Machine.execApcUpdate slopeUwMa ithDma s
  | .apcLockTimeout => Sys2Proof.Machine.execApcLockTimeout s
  | .monitorDeviation => Sys2Proof.Machine.execMonitorDeviation s
  | .laserOverpower => Sys2Proof.Machine.execLaserOverpower s
  | .scratchParity toWrite => Sys2Proof.Machine.execScratchParity toWrite s
  | .tempCheck tempDc => Sys2Proof.Machine.execTempCheck tempDc s
  | .readCalStart => Sys2Proof.Machine.execReadCalStart s
  | .readCalDone focusSweep tiltSweep balance trackOfs seeds gains => Sys2Proof.Machine.execReadCalDone focusSweep tiltSweep balance trackOfs seeds gains s
  | .opcRun frames followed => Sys2Proof.Machine.execOpcRun frames followed s
  | .ffFitWindow loop x y z demand => Sys2Proof.Machine.execFfFitWindow loop x y z demand s
  | .tempSensorStale sensor => Sys2Proof.Machine.execTempSensorStale sensor s
  | .coreWatchdogExpiry core inFlight => Sys2Proof.Machine.execCoreWatchdogExpiry core inFlight s
  | .securityWatchdogExpiry => Sys2Proof.Machine.execSecurityWatchdogExpiry s
  | .coreWrite core addr data => Sys2Proof.Machine.execCoreWrite core addr data s
  | .mergeDrain => Sys2Proof.Machine.execMergeDrain s
  | .deviceReadMatch agent addr => Sys2Proof.Machine.execDeviceReadMatch agent addr s
  | .drainBarrier core => Sys2Proof.Machine.execDrainBarrier core s
  | .drainTimeout core inFlight => Sys2Proof.Machine.execDrainTimeout core inFlight s
  | .rangePreload line count => Sys2Proof.Machine.execRangePreload line count s
  | .rangeInvalidate line count => Sys2Proof.Machine.execRangeInvalidate line count s
  | .rangeLock line count => Sys2Proof.Machine.execRangeLock line count s
  | .rangeUnlock line count => Sys2Proof.Machine.execRangeUnlock line count s
  | .rangeOpDone => Sys2Proof.Machine.execRangeOpDone s
  | .l2DataParity line sameBytes => Sys2Proof.Machine.execL2DataParity line sameBytes s
  | .l2TagParity line => Sys2Proof.Machine.execL2TagParity line s
  | .mergeParity entry => Sys2Proof.Machine.execMergeParity entry s
  | .parityError u same => Sys2Proof.Machine.execParityError u same s
  | .clusterEncode => Sys2Proof.Machine.execClusterEncode s
  | .signatureDone ok => Sys2Proof.Machine.execSignatureDone ok s
  | .entropyReady => Sys2Proof.Machine.execEntropyReady s
  | .entropyHealthFail rct => Sys2Proof.Machine.execEntropyHealthFail rct s
  | .sramWindowTimer cells saveParity => Sys2Proof.Machine.execSramWindowTimer cells saveParity s
  | .poolWindowTimer fail saveParity otherPoison => Sys2Proof.Machine.execPoolWindowTimer fail saveParity otherPoison s
  | .bbRecordWrite bank0 bank1 => Sys2Proof.Machine.execBbRecordWrite bank0 bank1 s
  | .bbSuppressWindowClose code source => Sys2Proof.Machine.execBbSuppressWindowClose code source s
  | .gpioWakeEdge pins rising => Sys2Proof.Machine.execGpioWakeEdge pins rising s
  | .auxSample mv vioMv => Sys2Proof.Machine.execAuxSample mv vioMv s
  | .mbFieldWrite slot offset data byP8 => Sys2Proof.Machine.execMbFieldWrite slot offset data byP8 s
  | .msixMaskWrite w => Sys2Proof.Machine.execMsixMaskWrite w s
  | .linkPowerStateChange l => Sys2Proof.Machine.execLinkPowerStateChange l s
  | .supplyRemoved => Sys2Proof.Machine.execSupplyRemoved s
  | .servoLoopSample ac bd e f wedge => Sys2Proof.Machine.execServoLoopSample ac bd e f wedge s
  | .dsHeartbeatTick => Sys2Proof.Machine.execDsHeartbeatTick s
  | .jtagTapOperation op resetLow => Sys2Proof.Machine.execJtagTapOperation op resetLow s

end Sys2Proof.Machine
end

