-- ==== Sys2Proof/Machine/Tick.lean ====
section
/-! DEFINITION. What passes in a microsecond with no command waiting (DESIGN CHOICE, log entry 5): the
model's clock and the device's time advance, running times are counted, the spindle's PWM, the sled and its chopper run
on, coils that ramp to zero do so, a test window closes, a power failure's shutdown goes on, and the beads sample their levels. -/

namespace Sys2Proof.Machine

/-- Bead `i` samples its level (17 R730, R732, R733): count mode adds 1 at a false-to-true change,
duration adds 1 us, max-hold keeps the longest true period; it acts only while its rod's gate is open. -/
def State.sampleBead (s : State) (i : Nat) : State :=
  let code := s.get .CNT_EVENT i
  if !Ev.levels.contains code then s
  else
    let was := s.bead.level.getD i false
    let cur := s.level code
    let period := if cur then s.bead.period.getD i 0 + 1 else 0
    let s := { s with bead.level := s.bead.level.set i cur, bead.period := s.bead.period.set i period }
    if !s.gateOpen s.level i then s
    else match s.get .CNT_MODE i with
      | 1 => if cur && !was then s.beadAdd i 1 else s
      | 2 => if cur then s.beadAdd i 1 else s
      | 3 => s.beadMax i period
      | _ => s

/-- Every bead samples its level; none does in Nap (17 R734). -/
def State.sampleBeads (s : State) : State :=
  match s.pw.mode with
  | .nap | .hibernate | .off => s
  | _ => (List.range 32).foldl State.sampleBead s

/-- The warden's count strays by its RC oscillator's error while it counts that and the reference is stopped (03 R125): a
free value within 5 %. Elsewhere each second's measurement corrects the count. -/
def State.rcTick (s : State) : State :=
  if s.on .SLOW_RC && !s.on .CLK_REF25 && s.pw.mode != .off then
    let d := s.pw.rcDrift + max (-50000) (min 50000 (Config.rcError (s.clock / 1000000)))
    if 1000000 ≤ d then { s with time := s.time + 1, pw.rcDrift := d - 1000000 }
    else if d ≤ -1000000 then { s with time := s.time - 1, pw.rcDrift := d + 1000000 }
    else { s with pw.rcDrift := d }
  else s

/-- Device time advances by 1 µs; every 2,000 µs a correction under way may take or give 1 µs, so that the rate stays
within 500 ppm: always where the device is more than 1 ms ahead, else as a free value says (08 R377). -/
def State.timePasses (s : State) : State :=
  if s.pw.mode == .off then s
  else if s.clock % 2000 ≠ 0 ∨ s.tb.slew.natAbs < 1000 then { s with time := s.time + 1 }
  else
    let (v, t) := s.draw
    let (go, s) := if s.tb.slewFull then (true, s) else (bit v 0, t)
    if !go then { s with time := s.time + 1 }
    else if 0 < s.tb.slew then { s with tb.slew := s.tb.slew - 1000 }
    else { s with time := s.time + 2, tb.slew := s.tb.slew + 1000 }

/-- RUN_SECONDS, LASER_ON_S and the spindle's running time with a failed sensor (09 Table 9.6, 12 Table 12.4, 13 R614). -/
def State.runTimes (s : State) : State :=
  let sp := s.reg .SP_STATE
  let s := if 2 ≤ sp ∧ sp ≤ 6 then
      if 999999 ≤ s.sp.runUs then { s with sp.runUs := 0 }.bump .RUN_SECONDS
      else { s with sp.runUs := s.sp.runUs + 1 }
    else s
  let s := if s.reg .LAS_STATE = 1 ∨ s.bu.gate = true then
      if 999999 ≤ s.las.onUs then { s with las.onUs := 0 }.bump .LASER_ON_S
      else { s with las.onUs := s.las.onUs + 1 }
    else s
  if sp = 4 ∧ s.cal.sensors.isEmpty = false then { s with cal.staleUs := s.cal.staleUs + 1 } else s

/-- One microsecond passes. -/
def State.tick (s : State) : State :=
  let s := { s with clock := s.clock + 1 }.timePasses.rcTick.runTimes.pwmTick.sledRuns.coilTick.windowTick
  let s := if s.pw.pfail.isSome then s.pfailFollow else s
  s.sampleBeads

end Sys2Proof.Machine
end

