-- ==== Sys2Proof/WellFormed.lean ====
section
/-! DEFINITION. The operands a command can have: those that name a unit the K760 has, and data of the size the
row's transfer has. A command outside them cannot exist; its meaning stops (Fault.noSuchUnit). -/

namespace Sys2Proof

/-- At least one byte, all in one 64-byte line (07 R311, 14 R625). -/
def oneLine (addr n : Nat) : Bool := n != 0 && addr / 64 == (addr + n - 1) / 64

/-- The line counts of a range operation (14 Table 14.6). -/
def lineCount (count : Nat) : Bool := decide (1 ≤ count) && decide (count ≤ 131072)

/-- P1 to P4 (08). -/
def camPort (port : Nat) : Bool := 1 ≤ port && port ≤ 4

/-- P5 and P6 (08). -/
def serialPort (port : Nat) : Bool := port == 5 || port == 6

/-- A unit of 15 Table 15.2 that exists. -/
def ParityUnit.wf : ParityUnit → Bool
  | .contextCache qp _ => qp < 65536
  | .poisonBitmap b _ => b < 262144
  | .coreData core => core < 2
  | .crossbar identity granule _ _ => identity < 16 && decide (granule < 2097152)
  | _ => true

/-- An entry of the MSI-X table (04 R154). -/
def MsixWrite.wf : MsixWrite → Bool
  | .entry vector _ _ _ => vector < 1024
  | _ => true

/-- A command whose operands exist. -/
def Instr.wf : Instr → Bool
  | .w0BadAccess window offset size _ =>
    (window == 0 || window == 2) && offset + size ≤ (if window = 0 then 0x10000 else 0x80000)
  | .mbGo slot _ byP8 => slot < 4 && (!byP8 || slot == 3)
  | .mbComplete slot => slot < 4
  | .mbDoneClear slot byP8 => slot < 4 && (!byP8 || slot == 3)
  | .mbClaim _ _ => true
  | .mbRelease _ => true
  | .p8ClaimTimeout => true
  | .p8Write _ _ => true
  | .p8Read _ _ => true
  | .p8Status => true
  | .ntTailWrite _ => true
  | .doorbellWrite offset size _ => offset + size ≤ 0x80000
  | .d3hotEntry => true
  | .d0Return => true
  | .linkRetrainTimeout => true
  | .functionLevelReset => true
  | .hotReset => true
  | .perstAssert => true
  | .perstRelease speed width => 1 ≤ speed && speed ≤ 3 && 1 ≤ width && width ≤ 2
  | .hostResetComplete => true
  | .hostReadTimeout qp _ => qp < 65536
  | .poisonedTlp qp _ => qp < 65536
  | .qpCreate slot => slot < 4
  | .qpDelete slot => slot < 4
  | .sqFetch qp entry _ _ => qp < 65536 && entry.length == 64
  | .fencedStart _ _ => true
  | .coalTimerExpiry qp => qp < 65536
  | .paramGet slot => slot < 4
  | .paramSet slot => slot < 4
  | .powerHoldRun slot => slot < 4
  | .powerDoze slot => slot < 4
  | .powerNap slot => slot < 4
  | .powerHibernate slot => slot < 4
  | .powerReleaseHold slot => slot < 4
  | .fwActivate slot => slot < 4
  | .commission slot => slot < 4
  | .keyRead slot => slot < 4
  | .streamKeyOff slot => slot < 4
  | .streamKeyHost slot => slot < 4
  | .streamKeyDevice slot => slot < 4
  | .svcChallenge slot => slot < 4
  | .svcUnlock slot => slot < 4
  | .bbErase slot => slot < 4
  | .windowNow slot _ _ => slot < 4
  | .windowPass slot _ _ => slot < 4
  | .laserDac slot _ => slot < 4
  | .coilSense slot _ => slot < 4
  | .motorSense slot _ => slot < 4
  | .adcTone slot _ => slot < 4
  | .shuttleLoop slot _ _ => slot < 4
  | .tempCross slot _ => slot < 4
  | .d2dLoop slot _ => slot < 4
  | .allAnalogue slot _ _ => slot < 4
  | .injD2dBreak slot => slot < 4
  | .injLeaseStop slot => slot < 4
  | .injBemfBlank slot => slot < 4
  | .injBemfSpurious slot => slot < 4
  | .injLaneError slot => slot < 4
  | .injLaneLoopFail slot => slot < 4
  | .injParityFlip slot => slot < 4
  | .injCheckerBreak slot => slot < 4
  | .injReedCorrupt slot => slot < 4
  | .injPoison slot => slot < 4
  | .injVerifyFail slot => slot < 4
  | .injEraseFrames slot => slot < 4
  | .injDefectFlag slot => slot < 4
  | .injTrainFail slot => slot < 4
  | .injPoolWrite slot => slot < 4
  | .servoTestStart => true
  | .nop _ _ => true
  | .fence _ _ => true
  | .abort _ _ => true
  | .poolRead _ _ => true
  | .poolAppend _ _ => true
  | .eventMark _ _ => true
  | .flush _ _ => true
  | .discDir _ _ => true
  | .exportBlock _ _ => true
  | .discRead _ _ => true
  | .cartridgeEject _ _ => true
  | .cartridgeLoad _ _ => true
  | .timeSet _ _ => true
  | .timeGet _ _ => true
  | .tallyRead _ _ => true
  | .cntConfig _ _ => true
  | .cntSnapshot _ _ => true
  | .bbRead _ _ => true
  | .fwStage _ _ => true
  | .holdupLockSet slot => slot < 4
  | .holdupUnlock slot => slot < 4
  | .ustepApply slot => slot < 4
  | .ustepTableActivate => true
  | .bqApply slot => slot < 4
  | .bqActivate loop => loop < 3
  | .calNow slot => slot < 4
  | .setDefaults slot => slot < 4
  | .gpioOutWrite writer slot _ => writer != .host || slot < 4
  | .gpioMaskedUpdate slot => slot < 4
  | .gpioLockKey slot => slot < 4
  | .canmapWrite slot => slot < 4
  | .tallySourceWrite slot => slot < 4
  | .rcvDataWrite slot => slot < 4
  | .rcvClose slot => slot < 4
  | .recoveryReboot => true
  | .dozeIdleExpiry => true
  | .napIdleExpiry => true
  | .napCommit => true
  | .hibIdleExpiry => true
  | .hibernateCommit => true
  | .wakeEvent source => source < 8
  | .wakeExitComplete => true
  | .rtcAlarmFire => true
  | .pfailAssert _ => true
  | .pfailSpinupTimeout => true
  | .pfailRelease _ => true
  | .slowCrystalStop => true
  | .wardenRcCalibrate _ _ => true
  | .crystalReturn => true
  | .referenceStartTimeout => true
  | .servoPllUnlock _ _ => true
  | .corePllLoss _ _ => true
  | .powerOnReset => true
  | .pwrMainEnRaise => true
  | .mainPgoodRise => true
  | .mainPgoodTimeout => true
  | .mainPgoodFall => true
  | .railLowVlasVana => true
  | .masterReset _ _ => true
  | .boot _ => true
  | .goodDelayExpiry => true
  | .d2dLinkLoss _ => true
  | .d2dRetrainDone _ ustepIndex => ustepIndex < 1024
  | .clusterVerifyVerdict _ => true
  | .leaseRenew bobbin => bobbin < 10
  | .leaseExpiry bobbin => bobbin < 10
  | .engineLoopbackDone bobbin _ => bobbin < 10
  | .engineLoopbackRetry bobbin => bobbin < 10
  | .crossbarAccess agent addr _ data => agent < 16 && oneLine addr data.length
  | .tailCommit agent bobbin _ => agent < 16 && bobbin < 10
  | .segCloseHeldAppend bobbin => bobbin < 10
  | .markRetire _ => true
  | .poolLoss channels => channels < 4
  | .poolRetrain failed => failed < 4
  | .mr4Poll _ _ => true
  | .camDatagram port _ => camPort port
  | .arpRequest port _ => camPort port
  | .gptpFrame port _ => camPort port
  | .syncTimer port => camPort port
  | .announceTimer port => camPort port
  | .pdelayTimer port => camPort port
  | .camLinkDown port => camPort port
  | .camLinkUp port _ _ => camPort port
  | .portTimeout port => 1 ≤ port && port ≤ 7
  | .serialDataFrame port _ => serialPort port
  | .serialHeartbeat port _ => serialPort port
  | .serialAnswer port _ => serialPort port
  | .serialGapDiscard port => serialPort port
  | .timeFrameTimer port _ => serialPort port
  | .canFrame frame => frame.data.length ≤ 64
  | .canBusOff => true
  | .canBusoffRecovery => true
  | .ppsEdge _ _ => true
  | .nmeaSentence _ => true
  | .ppsTimeout => true
  | .holdoverExpiry => true
  | .tallyEdgeDebounced edges _ => edges.all fun e => e.1 < 24
  | .tallyMaxOpen channel => channel < 8
  | .spinupRequest _ laneFails => laneFails.all (· < 5)
  | .senseEnd _ => true
  | .alignEnd => true
  | .rampTimeout => true
  | .shortRetryEnd => true
  | .bemfCrossing _ _ => true
  | .toothSynth => true
  | .commutation => true
  | .spindleStall => true
  | .stopRequest => true
  | .shortCycle _ => true
  | .spindleOvercurrent phase => phase < 3
  | .spindleFaultRetry => true
  | .spindleOpenPhase phase => phase < 3
  | .vmotLow => true
  | .vmotRecover => true
  | .spindleStageHot => true
  | .spindleStageCool => true
  | .sledSeekDemand _ => true
  | .sledMoveEnd => true
  | .holdDelayExpiry => true
  | .sledReenergiseEnd => true
  | .homeSwitchEdge _ => true
  | .sledStall => true
  | .homingSettle => true
  | .homingFail => true
  | .sledOvercurrent coil => coil < 2
  | .sledRehomeTimer => true
  | .sledOpenCoil coil => coil < 2
  | .sledStageHot => true
  | .sledStageCool => true
  | .coilRmsTrip coil => coil < 3
  | .coilOpenShort coil _ => coil < 3
  | .loaderEndSwitch _ _ => true
  | .loaderTimeout => true
  | .cartridgePull => true
  | .focusClose _ wedgeLayer _ wedgeTrack => wedgeLayer < 4 && wedgeTrack < 112500
  | .focusSweepEnd => true
  | .layerJumpTimeout => true
  | .trackLoss => true
  | .focusLoss => true
  | .settleComplete _ => true
  | .seekRequest layer track => layer < 4 && track < 112500
  | .seekDone _ => true
  | .writeGateTrip _ _ _ _ _ => true
  | .shockHoldClear => true
  | .accSample bytes _ => bytes.length == 6
  | .accTimeout => true
  | .accReinit => true
  | .defectFlagAssert => true
  | .defectFlagRelease => true
  | .defectHoldOverrun => true
  | .sampleMissed => true
  | .laneDisagree _ _ => true
  | .laneLoopbackDone lane _ => lane < 5
  | .shadowRotate => true
  | .readAttemptDone _ => true
  | .apcUpdate _ _ => true
  | .apcLockTimeout => true
  | .monitorDeviation => true
  | .laserOverpower => true
  | .scratchParity _ => true
  | .tempCheck _ => true
  | .readCalStart => true
  | .readCalDone f t _ _ _ _ => f.all (fun l => l.length == 11) && t.all fun l => l.length == 9
  | .opcRun _ _ => true
  | .ffFitWindow loop x y z demand => loop < 2 && [x, y, z, demand].all fun l => l.length == 4096
  | .tempSensorStale _ => true
  | .coreWatchdogExpiry core _ => core < 2
  | .securityWatchdogExpiry => true
  | .coreWrite core addr data => core < 2 && oneLine addr data.length
  | .mergeDrain => true
  | .deviceReadMatch agent _ => agent < 16 && !(agent == 10 || agent == 11)
  | .drainBarrier core => core < 2
  | .drainTimeout core _ => core < 2
  | .rangePreload _ count => lineCount count
  | .rangeInvalidate _ count => lineCount count
  | .rangeLock _ count => lineCount count
  | .rangeUnlock _ count => lineCount count
  | .rangeOpDone => true
  | .l2DataParity _ _ => true
  | .l2TagParity _ => true
  | .mergeParity _ => true
  | .parityError u _ => u.wf
  | .clusterEncode => true
  | .signatureDone _ => true
  | .entropyReady => true
  | .entropyHealthFail _ => true
  | .sramWindowTimer _ _ => true
  | .poolWindowTimer _ _ _ => true
  | .bbRecordWrite _ _ => true
  | .bbSuppressWindowClose _ _ => true
  | .gpioWakeEdge _ _ => true
  | .auxSample mv _ => mv.length == 6 && mv.all fun l => l.length == 8
  | .mbFieldWrite slot offset data byP8 => slot < 4 && (!byP8 || slot == 3) && offset + data.length ≤ 1024
  | .msixMaskWrite w => w.wf
  | .linkPowerStateChange _ => true
  | .supplyRemoved => true
  | .servoLoopSample _ _ _ _ _ => true
  | .dsHeartbeatTick => true
  | .jtagTapOperation _ _ => true

end Sys2Proof
end

