-- ==== Sys2Proof/Safety.lean ====
section
/-! DEFINITION. The terms the claims use: a step that does not stop, what a command leaves unchanged, and the
canonical form of the state. -/

namespace Sys2Proof.Machine

/-- A step that does not stop. -/
def Steps (s t : State) : Prop := step s = .next t

/-- A run of `n` steps none of which stops. -/
def Runs : Nat → State → State → Prop
  | 0, s, t => s = t
  | n + 1, s, t => ∃ u, Steps s u ∧ Runs n u t

/-- Every command waiting names only units the part has. -/
def Safe (s : State) : Prop := ∀ c ∈ s.pending, c.wf = true

/-- The registers that reports, notices and counted events move beside a command's own effect: the beads
(17 R731), NT_HEAD and NT_LOST (04 R151), BB_DROPPED (17 R738), FATAL and DS_FATAL_CODE (04 R173). -/
def bookRegs : List RegName :=
  [.BEAD_VALUE, .BEAD_CARRY, .NT_HEAD, .NT_LOST, .BB_DROPPED, .FATAL, .DS_FATAL_CODE]

/-- The beads alone. -/
def beadRegs : List RegName := [.BEAD_VALUE, .BEAD_CARRY]

/-- Every register outside `l` reads as before, at every entry. -/
def RegsKept (l : List RegName) (s t : State) : Prop := ∀ n i, n ∉ l → t.get n i = s.get n i

/-- Counter `n` has risen by one, holding at its largest value (04 R170, 17 R748). -/
abbrev Counted (n : RegName) (s t : State) : Prop := t.reg n = min (s.reg n + 1) (2 ^ n.info.width - 1)

/-- Run, with no state entry, no wake and no power failure under way and no rail fault, the link not in L2. -/
abbrev State.running (s : State) : Prop :=
  s.pw.mode = .run ∧ s.pw.entry = none ∧ s.pw.waking = none ∧ s.pw.pfail = none ∧ s.pw.railFault = false ∧
    s.reg .LINK_STATE ≠ 5

/-- The host's accesses reach the windows of a running K760. -/
abbrev State.hostUp (s : State) : Prop := s.running ∧ s.host.reset = none ∧ s.host.perst = false

/-- A side may write slot `n` of a running K760: the host any, P8 slot 3 alone; no host-side reset keeps the host away. -/
abbrev State.sideUp (s : State) (n : Nat) (byP8 : Bool) : Prop :=
  s.running ∧ n < 4 ∧ s.host.slots.length = 4 ∧ (byP8 = true → n = 3) ∧
    (byP8 = false → s.host.reset = none ∧ s.host.perst = false)

/-- The slots other than `n` are as before. -/
abbrev State.OthersKept (s t : State) (n : Nat) : Prop := ∀ m, m ≠ n → t.slot m = s.slot m

/-- `s` with its idle timers restarted (03 R97). -/
abbrev State.rested (s : State) : State := { s with pw.idleFrom := s.clock, pw.hibTried := false }

/-- Mailbox slot `n` holds a command of an opcode that the K760 acts on now and has not answered: no earlier command on
the same fields is still to be applied (04 R143). -/
abbrev State.mbxReady (s : State) (n opcode : Nat) (c : MbCopy) : Prop :=
  n < 4 ∧ (s.slot n).copy = some c ∧ (s.slot n).resp = none ∧ c.opcode = opcode ∧ s.awake = true ∧
    s.mailboxWaits c = false ∧ s.host.slots.length = 4

/-- Slot `n` holds the response `r` in `t`, and the other slots are as before. -/
abbrev State.Told (s t : State) (n : Nat) (r : MbResp) : Prop :=
  t.slot n = { s.slot n with resp := some r } ∧ s.OthersKept t n

/-- `t` is `s` but that slot `n` holds the response `r`. -/
abbrev State.Answered (s t : State) (n : Nat) (r : MbResp) : Prop :=
  s.Told t n r ∧ { t with host.slots := s.host.slots } = s

/-- The queue command of pair `qp` and tag `tag` is outstanding with an opcode, and the K760 acts on it now: it has had
its start turn, no fence holds it back, and its descriptor list, if any, is well formed (05 R202, R205, R229). -/
abbrev State.cmdReady (s : State) (qp tag opcode : Nat) (c : QCmd) : Prop :=
  s.cmd qp tag = some c ∧ c.opcode = opcode ∧ s.awake = true ∧ s.unfenced c = true ∧ c.granted = true ∧
    c.ended = none ∧ c.badDesc = none

/-- The staging command `c` acts now: no earlier FW_STAGE is outstanding and no activation accepted before its fetch is
to be carried out (06 R283, 19 R788). -/
abbrev State.stagesNow (s : State) (c : QCmd) : Prop :=
  s.q.cmds.any (fun d => d.opcode == 0x180 && decide (d.order < c.order)) = false ∧
    s.host.slots.any (fun m => m.resp.isNone &&
      m.copy.any fun d => d.opcode == 0x40 && decide (d.fetched ≤ c.order)) = false

/-- The activation `c` acts now: every FW_STAGE fetched before it was accepted has ended (06 R247, 19 R788). -/
abbrev State.activatesNow (s : State) (c : MbCopy) : Prop :=
  s.q.cmds.any (fun d => d.opcode == 0x180 && d.ended.isNone && decide (d.order < c.fetched)) = false

/-- Slot `n` holds a SELFTEST with TEST_ID `id` that has not answered (16 R700). -/
abbrev State.testReady (s : State) (n id : Nat) (c : MbCopy) : Prop := s.mbxReady n 0x30 c ∧ fieldAt c.args 0 2 = id

/-- A servo-affecting test can run at once: no other test has the turn, neither the servo nor a calibration runs, and
the command does not wait already (16 R704, R705). -/
abbrev State.servoReady (s : State) (n : Nat) : Prop :=
  s.st.granted = none ∧ s.servoBusy = false ∧ s.st.waiting.contains n = false

/-- A SELFTEST has passed: its verdict answered, the idle timers restarted, nothing else changed (16 R702, R708). -/
abbrev State.Passed (s t : State) (n id duration : Nat) : Prop :=
  s.Told t n (okResp ({ test := id, verdict := 0, duration := duration } : Verdict16).bytes) ∧ RegsKept beadRegs s t ∧
    { t with regs := s.regs, host := s.host } = s.rested

/-- A SELFTEST of the drive has failed: its verdict names the first failing unit and its value, and the disc leaves
service (16 R699). -/
abbrev State.FailedOut (s t : State) (n test unit : Nat) (value : Int) (duration : Nat) : Prop :=
  t.reg .DISC_SERVICE = 3 ∧ t.reg .OOS_CODE = Code.analogueFail ∧ t.bu.active = false ∧ t.bu.block = none ∧
    s.Told t n (okResp ({ test := test, verdict := 1, repairs := t.reg .REPAIRS - s.reg .REPAIRS, duration := duration,
                          unit := unit, value := value } : Verdict16).bytes)

/-- An injection can be made at once: from P8 with a current unlock, no test having the turn (16 R701). -/
abbrev State.injectReady (s : State) (n id : Nat) (c : MbCopy) : Prop :=
  s.testReady n id c ∧ s.st.granted = none ∧ c.byP8 = true ∧ s.host.unlocked = true

/-- An injection has been counted and its verdict answered, its duration open (16 R701, log entry 28). -/
abbrev State.Injected (s t : State) (n id : Nat) : Prop :=
  Counted .INJECTIONS s t ∧ ((t.slot n).resp.map fun r => (r.status, r.result.take 20)) =
    some (St.success, leBytes 8 0 ++ leBytes 2 id ++ [3, 0] ++ leBytes 8 0) ∧ s.OthersKept t n

/-- `sig` signs the challenge `v` and DEVICE_SERIAL under the Lueri service key (06 R251). -/
abbrev State.tokenOk (s : State) (v sig : Nat) : Bool :=
  ecdsaVerify Config.serviceKey (sha256 (leBytes 16 v ++ leBytes 16 (s.reg .DEVICE_SERIAL))) sig

/-- Pair `qp` is in service with context `p`, and its completion entries go straight to host memory: the function in
D0, the link up, bus mastering on, no message sent, no core write waiting to drain (14 R633). -/
abbrev State.plainPair (s : State) (qp : Nat) (p : QPair) : Prop :=
  Map.get s.q.pairs qp = some p ∧ p.halted = none ∧ s.canPost = true ∧ s.host.busMaster = true ∧
    s.host.msixOn = false ∧ s.ca.merge = []

/-- The heddle and the reed table both permit an access (07 R311, R314), the pool is up, and the agent holds no APPEND
entry there. -/
abbrev State.permits (s : State) (agent addr n : Nat) (write : Bool) : Prop :=
  s.poolUp = true ∧ s.heddleOk agent addr n write = true ∧ s.reedOk agent (addr / 4096) write = true ∧
    (s.heddleEntries agent (addr / 4096)).any (fun k => s.onAt .H_APPEND k) = false

/-- The host side of `t` is as a host-side reset leaves that of `s` (04 Tables 4.10, 4.11): pairs and commands gone, READY
and NT_TAIL 0, MSI-X off and empty, no bus mastering, D0, host memory as it was, the POWER hold ended; a busy slot kept
with its response to be discarded, an idle one cleared, an MBX_3 that P8 holds as it was. -/
abbrev State.HostCleared (s t : State) : Prop :=
  t.q = {} ∧ t.reg .READY = 0 ∧ t.reg .NT_TAIL = 0 ∧ t.host.msixOn = false ∧ t.host.msixFnMask = false ∧
    t.host.msix = [] ∧ t.host.msixPending = [] ∧ t.host.busMaster = false ∧ t.host.d3hot = false ∧
    t.host.mem = s.host.mem ∧ t.host.notices = s.host.notices ∧ t.pw = { s.pw with hold := false } ∧
    (∀ m, m < 3 → t.slot m = if (s.slot m).busy then { s.slot m with discard := true } else {}) ∧
    t.slot 3 = (if s.host.claim = 2 then s.slot 3
      else if (s.slot 3).busy then { s.slot 3 with discard := true } else {}) ∧
    t.host.reset.isSome = true ∧ { t with regs := s.regs, host := s.host, q := s.q, pw := s.pw, bu := s.bu } = s

/-- No cartridge is in the drive, so no burst can begin. -/
abbrev State.noDisc (s : State) : Prop :=
  s.reg .LD_STATE = 0 ∧ s.md.mounted = false ∧ s.md.mounting = false

/-- A record with an `n`-byte payload can be appended to bobbin `b`, sized and leased: one that holds when full has room
for it, one that wraps needs to free nothing for it (07 R300, R301). -/
abbrev State.roomFor (s : State) (b n : Nat) : Prop :=
  s.poolUp = true ∧ s.lm.lease.getD b none ≠ none ∧ s.lm.recs.length = 10 ∧ 0 < s.bobSize b ∧
    ((s.get .FULL_POLICY b = 0 ∧ 72 + (n + 7) / 8 * 8 ≤ s.freeSpace b) ∨
      (s.get .FULL_POLICY b = 1 ∧
        s.headNeeded b (s.get .TAIL_OFFSET b + 32 + (n + 7) / 8 * 8) ≤ s.get .HEAD_OFFSET b)) ∧
    s.get .TAIL_OFFSET b + 32 + (n + 7) / 8 * 8 < 2 ^ 64 ∧ s.get .RC_SEQ_NEXT b + 1 < 2 ^ 32

/-- A record with an `n`-byte payload can be appended to bobbin `b`, and no burst can begin. -/
abbrev State.takes (s : State) (b n : Nat) : Prop := s.noDisc ∧ s.roomFor b n

/-- Bobbin `b` has gained one record with an `n`-byte payload: at the old tail, with the next sequence, padded to 8
bytes; the other bobbins' tails and records are as before (07 R306, R307). -/
abbrev State.Gained (s t : State) (b n source flags time : Nat) : Prop :=
  t.get .TAIL_OFFSET b = s.get .TAIL_OFFSET b + 32 + (n + 7) / 8 * 8 ∧
  t.get .RC_SEQ_NEXT b = s.get .RC_SEQ_NEXT b + 1 ∧
  (t.recs b).getLast? = some { off := s.get .TAIL_OFFSET b, len := 32 + (n + 7) / 8 * 8, time := time,
                               seq := s.get .RC_SEQ_NEXT b, flags := flags, source := source } ∧
  ∀ k, k ≠ b → t.get .TAIL_OFFSET k = s.get .TAIL_OFFSET k ∧ t.recs k = s.recs k

/-- The completion entry of command `c` on pair `p` (05 Table 5.4), its time not COARSE. -/
abbrev cqeBytes (c : QCmd) (p : QPair) (status result : Nat) : List Byte :=
  leBytes 2 c.tag ++ leBytes 2 status ++ leBytes 2 p.sqHead ++ leBytes 2 (b2n p.phase) ++ leBytes 8 result

/-- Command `c` has ended in `t`: it is outstanding no more, and its completion entry stands in host memory at the
write position of pair `p`, laid out as 05 Table 5.4 says, which has moved on with the phase inverted at a wrap (05
R185, R186). -/
abbrev State.Ended (s t : State) (c : QCmd) (p : QPair) (status result : Nat) : Prop :=
  t.host.mem.readN (p.cqBase + 16 * p.cqWrite) 16 = cqeBytes c p status result ∧
  t.q.cmds = s.q.cmds.filter (fun d => !(d.qp == c.qp && d.tag == c.tag)) ∧
  (Map.get t.q.pairs c.qp).map (fun x => (x.cqWrite, x.phase)) =
    some (if p.cqWrite + 1 = p.cqDepth then (0, !p.phase) else (p.cqWrite + 1, p.phase))

/-- Command `c` has ended in `t` with `bytes` in its buffer, range after range as far as they reach, and host memory but
for these and its completion entry as before. -/
abbrev State.Delivered (s t : State) (c : QCmd) (p : QPair) (status result : Nat) (bytes : List Byte) : Prop :=
  s.Ended t c p status result ∧
  t.host.mem = (s.rangesWrite c.buf bytes).host.mem.writeN (p.cqBase + 16 * p.cqWrite) (cqeBytes c p status result)

/-- The register table is canonical: keys rising, every entry a register of the K760 within its width and away
from its reset value. -/
def State.regsOk (s : State) : Prop :=
  Map.wf s.regs = true ∧ ∀ e ∈ s.regs, ∃ n i, e.1 = regKey n i ∧ e.2 < 2 ^ n.info.width ∧ e.2 ≠ Reg.reset ⟨n, i⟩

/-- The pool and the host memory as written by the K760 are canonical, and there are four mailbox slots, each with
canonical bytes. -/
def State.memOk (s : State) : Prop :=
  Mem.wf s.lm.mem = true ∧ Mem.wf s.host.mem = true ∧ s.host.slots.length = 4 ∧
    ∀ m ∈ s.host.slots, Mem.wf m.mem = true

end Sys2Proof.Machine
end

