-- ==== Sys2Proof/Certificates/Slice0/Obligations.lean ====
section
/-! DEFINITION. The statements for the provers. A statement of a command says that it answers a next state, what that
state holds, and what stays: `RegsKept l s t` says that every register outside `l` reads as before, and an equation
`{ t with f := s.f } = s` that every field but those put back is as before. -/

open Sys2Proof Sys2Proof.Machine

/-- A step takes the command at the front of the queue and is exec of it with the queue's rest; on an empty queue
one microsecond passes (the model's choice, log entry 5). -/
def Obligations.StepRunsTheFrontCommand : Prop :=
  (∀ (c : Instr) (s : State) (rest : List Instr), s.pending = c :: rest →
    step s = exec c { s with pending := rest }) ∧
  (∀ s : State, s.pending = [] → ∃ t, step s = .next t ∧ t.clock = s.clock + 1 ∧ t.pending = [])

/-- A command completes exactly when its operands name units the K760 has; there is no other stop. -/
def Obligations.WellFormedCommandsNeverStop : Prop :=
  ∀ (c : Instr) (s : State), (c.wf = true → ∃ t, exec c s = .next t) ∧ (c.wf = false → exec c s = .fault .noSuchUnit)

/-- No command's effect touches the queue of waiting commands. -/
def Obligations.EffectsLeaveTheQueueAlone : Prop :=
  ∀ (c : Instr) (s t : State), exec c s = .next t → t.pending = s.pending

/-- Every step keeps the register table canonical: keys rising, every entry a register of the K760, within its
width, away from its reset value. So equal register contents are equal data, and no register ever exceeds its width.
-/
def Obligations.StepsKeepRegistersCanonical : Prop :=
  ∀ s t : State, s.regsOk → step s = .next t → t.regsOk

/-- Every step keeps the pool, the host memory and the mailbox slots' bytes canonical, and the four slots four. -/
def Obligations.StepsKeepMemoriesCanonical : Prop :=
  ∀ s t : State, s.memOk → step s = .next t → t.memOk

/-- The state after a power-on reset is canonical, waits for no command, and holds every register at the value of
its Reset column, but TIME_UNSET (03 R114) and SLOW_RC (20 Table 20.12), which read 1. A register with no stated
reset value reads 0, the model's choice (log entry 1). -/
def Obligations.ResetIsCanonical : Prop :=
  State.reset.regsOk ∧
  State.reset.memOk ∧
  State.reset.pending = [] ∧
  State.reset.reg .TIME_UNSET = 1 ∧
  State.reset.reg .SLOW_RC = 1 ∧
  (∀ n i, (n ≠ .TIME_UNSET ∧ n ≠ .SLOW_RC) → State.reset.get n i = Reg.reset ⟨n, i⟩) ∧
  State.reset.pw.mode = .boot ∧
  State.reset.reg .READY = 0

/-! ## Windows, mailboxes, the service port, notices and MSI-X (04) -/

/-- R133: an access of W0 or W2 of another size or alignment is discarded, a read of that kind returns 0, and either
case raises BAD_ACCESS, which holds at its largest value; so does such a write to a slot or a doorbell. An access that is
allowed is not counted: a read of W0 returns the bytes that stand there, one of W2 returns 0 (04 R158). -/
def Obligations.BadAccessIsCounted : Prop :=
  (∀ (s : State) (window offset size : Nat), (window = 0 ∨ window = 2) → offset + size ≤ windowSize window →
    (¬((size = 4 ∨ size = 8) ∧ offset % size = 0)) → ∃ t, exec (.w0BadAccess window offset size true) s = .next t ∧
    Counted .BAD_ACCESS s t ∧ RegsKept [.BAD_ACCESS] s t ∧ { t with regs := s.regs } = s) ∧
  (∀ (s : State) (window offset size : Nat), (window = 0 ∨ window = 2) → offset + size ≤ windowSize window →
    (¬((size = 4 ∨ size = 8) ∧ offset % size = 0)) → ∃ t, exec (.w0BadAccess window offset size false) s = .next t ∧
    Counted .BAD_ACCESS s t ∧ t.host.readValue = 0 ∧ RegsKept [.BAD_ACCESS] s t ∧
    { t with regs := s.regs, host.readValue := s.host.readValue } = s) ∧
  (∀ (s : State) (n o : Nat) (bs : List Byte), s.hostUp → n < 4 → o + bs.length ≤ 1024 →
    (¬((bs.length = 4 ∨ bs.length = 8) ∧ o % bs.length = 0)) → ∃ t, exec (.mbFieldWrite n o bs false) s = .next t ∧
    Counted .BAD_ACCESS s t ∧ RegsKept [.BAD_ACCESS] s t ∧ { t with regs := s.regs } = s) ∧
  (∀ (s : State) (o n v : Nat), s.hostUp → o + n ≤ windowSize 2 → (¬((n = 4 ∨ n = 8) ∧ o % n = 0)) →
    ∃ t, exec (.doorbellWrite o n v) s = .next t ∧ Counted .BAD_ACCESS s t ∧
    RegsKept [.BAD_ACCESS] s t ∧ { t with regs := s.regs } = s) ∧
  (∀ (s : State) (offset size : Nat), (size = 4 ∨ size = 8) → offset % size = 0 → offset + size ≤ 0x10000 →
    ∃ t, exec (.w0BadAccess 0 offset size false) s = .next t ∧ t.host.readValue = leNat ((List.range size).map (fun i
    => s.w0Byte (offset + i))) ∧ { t with host.readValue := s.host.readValue } = s) ∧
  (∀ (s : State) (offset size : Nat), (size = 4 ∨ size = 8) → offset % size = 0 → offset + size ≤ 0x80000 →
    ∃ t, exec (.w0BadAccess 2 offset size false) s = .next t ∧ t.host.readValue = 0 ∧
    { t with host.readValue := s.host.readValue } = s)

/-- R138, MB_GO accepted: with the slot free and the K760 taking commands, one step copies the command fields and
MC_DLEN bytes of MB_DATA, sets BUSY and clears GO. A command that its fields already condemn has its refusal at once
(R142, 06 R285). The other slots, and every register but the beads, stay. -/
def Obligations.GoIsAcceptedInOneStep : Prop :=
  ∀ (s : State) (n : Nat) (w : BitVec 32) (byP8 : Bool), s.sideUp n byP8 → s.holds n byP8 = true →
    s.on .READY = true → (s.slot n).go = false → (s.slot n).busy = false → (s.slot n).done = false →
    ∃ t, exec (.mbGo n w byP8) s = .next t ∧ (t.slot n).busy = true ∧ (t.slot n).go = false ∧
    (t.slot n).mem = (s.slot n).mem ∧ (t.slot n).seq = w.toNat / 256 % 256 ∧
    (t.slot n).copy.map (fun c => (c.opcode, c.flags, c.dlen, c.seq, c.args, c.data, c.byP8)) = some (leNat ((s.slot
    n).mem.readN 0x40 2), leNat ((s.slot n).mem.readN 0x42 2), leNat ((s.slot n).mem.readN 0x44 4), w.toNat / 256 %
    256, (s.slot n).mem.readN 0x48 56, (s.slot n).mem.readN 0x100 (min (leNat ((s.slot n).mem.readN 0x44 4)) 768),
    byP8) ∧ (s.reg .BOOT_MODE ≠ 2 → (t.slot n).resp = (t.slot n).copy.bind (fun c => c.reject s.host.unlocked
    s.bobbinAbsent)) ∧ s.OthersKept t n ∧ RegsKept beadRegs s t ∧ { t with regs := s.regs, host := s.host } = s.rested

/-- R140: a GO while BUSY or DONE is 1 is ignored and sets PROTO_ERR, and the command in flight and the bytes of the slot
stay; R145: so is a GO on MBX_3 from a side that does not hold it, the host's while P8 holds it being counted besides
(R146). A word whose bit 2 is 1 also clears DONE (00 R16), so DONE is stated for a word without it. -/
def Obligations.GoOutOfTurnIsAProtocolError : Prop :=
  (∀ (s : State) (n : Nat) (w : BitVec 32) (byP8 : Bool), s.sideUp n byP8 → s.holds n byP8 = true →
    ((s.slot n).busy = true ∨ (s.slot n).done = true) → ∃ t, exec (.mbGo n w byP8) s = .next t ∧
    (t.slot n).protoErr = true ∧ (t.slot n).busy = (s.slot n).busy ∧ (t.slot n).copy = (s.slot n).copy ∧
    (t.slot n).resp = (s.slot n).resp ∧ (t.slot n).mem = (s.slot n).mem ∧ (t.slot n).go = (s.slot n).go ∧
    (w.toNat / 4 % 2 = 0 → (t.slot n).done = (s.slot n).done) ∧ s.OthersKept t n ∧
    { t with host := s.host } = s.rested) ∧
  (∀ (s : State) (w : BitVec 32) (byP8 : Bool), s.sideUp 3 byP8 → s.host.claim = 0 →
    ∃ t, exec (.mbGo 3 w byP8) s = .next t ∧ (t.slot 3).protoErr = true ∧ (t.slot 3).busy = (s.slot 3).busy ∧
    (t.slot 3).copy = (s.slot 3).copy ∧ (t.slot 3).resp = (s.slot 3).resp ∧ (t.slot 3).mem = (s.slot 3).mem ∧
    (t.slot 3).go = (s.slot 3).go ∧ s.OthersKept t 3 ∧ { t with host := s.host } = s.rested) ∧
  (∀ (s : State) (w : BitVec 32), s.sideUp 3 false → s.host.claim = 2 →
    ∃ t, exec (.mbGo 3 w false) s = .next t ∧ t.slot 3 = { s.slot 3 with protoErr := true } ∧
    s.OthersKept t 3 ∧ Counted .BAD_ACCESS s t ∧ RegsKept [.BAD_ACCESS] s t ∧
    { t with regs := s.regs, host := s.host } = s.rested) ∧
  (∀ (s : State) (w : BitVec 32), s.sideUp 3 true → s.host.claim = 1 → ∃ t, exec (.mbGo 3 w true) s = .next t ∧
    t.slot 3 = { s.slot 3 with protoErr := true } ∧ s.OthersKept t 3 ∧ { t with host := s.host } = s.rested)

/-- MB_COMPLETE (R139): a ready response is written to the slot, BUSY is cleared and DONE set, and vector 0 is sent, here
seen as its pending bit while the function mask holds it (R155). A DRAIN goes before it (14 R633), which with no core write
waiting only counts. After a host-side reset the response is discarded and the slot cleared (Table 4.10); a release that
waited for BUSY frees MBX_3 (R147). MB_DONE_CLEAR (R137): a write of 1 to DONE, by the host or by P8, clears it and leaves
the bytes. -/
def Obligations.ResponsesAreWrittenThenFreed : Prop :=
  (∀ (s : State) (n : Nat) (c : MbCopy) (r : MbResp), n < 4 → s.host.slots.length = 4 →
    (s.slot n).copy = some c → (s.slot n).resp = some r → (s.slot n).discard = false →
    (n ≠ 3 ∨ s.host.releaseDue = false) → r.data.length ≤ 768 → ∃ t, exec (.mbComplete n) s = .next t ∧
    (t.slot n).busy = false ∧ (t.slot n).done = true ∧ (t.slot n).copy = none ∧ (t.slot n).resp = none ∧
    (t.slot n).mem.readN 0x80 2 = leBytes 2 r.status ∧ (t.slot n).mem.read 0x82 = BitVec.ofNat 8 c.seq ∧
    (t.slot n).mem.readN 0x84 4 = leBytes 4 r.data.length ∧ (t.slot n).mem.readN 0x88 24 = bytesAt r.result 0 24 ∧
    (∀ i, i < r.data.length → (t.slot n).mem.read (0x100 + i) = r.data.getD i 0) ∧ (∀ a, (a < 0x80 ∨ (0xA0 ≤ a ∧
    a < 0x100) ∨ 0x100 + r.data.length ≤ a) → (t.slot n).mem.read a = (s.slot n).mem.read a) ∧
    s.OthersKept t n ∧ (s.host.msixOn = true → s.host.msixFnMask = true → 0 ∈ t.host.msixPending) ∧
    (s.ca.merge = [] → RegsKept beadRegs s t ∧ { t with regs := s.regs, host := s.host } = s)) ∧
  (∀ (s : State) (n : Nat) (c : MbCopy) (r : MbResp), n < 4 → s.host.slots.length = 4 →
    (s.slot n).copy = some c → (s.slot n).resp = some r → (s.slot n).discard = true →
    (n ≠ 3 ∨ s.host.releaseDue = false) → ∃ t, exec (.mbComplete n) s = .next t ∧ t.slot n = {} ∧
    s.OthersKept t n ∧ t.host.mem = s.host.mem ∧ { t with host := s.host } = s) ∧
  (∀ (s : State) (c : MbCopy) (r : MbResp), s.host.slots.length = 4 → (s.slot 3).copy = some c →
    (s.slot 3).resp = some r → s.host.releaseDue = true → ∃ t, exec (.mbComplete 3) s = .next t ∧
    (t.slot 3).busy = false ∧ (t.slot 3).done = false ∧ (t.slot 3).resp = none ∧ t.host.claim = 0 ∧
    t.host.releaseDue = false ∧ s.OthersKept t 3 ∧ (s.ca.merge = [] →
    RegsKept beadRegs s t ∧ { t with regs := s.regs, host := s.host } = s)) ∧
  (∀ (s : State) (n : Nat) (byP8 : Bool), s.sideUp n byP8 → s.otherHolds n byP8 = false →
    ∃ t, exec (.mbDoneClear n byP8) s = .next t ∧ t.slot n =
    { s.slot n with done := false, seq := (s.slot n).seq % 256 } ∧ s.OthersKept t n ∧
    { t with host := s.host } = s.rested) ∧
  (∀ (s : State), s.sideUp 3 false → s.host.claim = 2 → ∃ t, exec (.mbDoneClear 3 false) s = .next t ∧
    t.host = s.host ∧ Counted .BAD_ACCESS s t ∧ RegsKept [.BAD_ACCESS] s t ∧ { t with regs := s.regs } = s.rested)

/-- The claim of MBX_3 (R146, R147): P8 wins a free slot from a host that claims it in the same cycle; a claim while
the other side holds it has no effect but BAD_ACCESS for the host; a release by the holder frees the slot and discards an
unread response, or waits for BUSY to clear; 5 s without P8 activity release a P8 claim. The service port (R148, R149,
R146): in Run, bytes written to the command fields and MB_DATA of MBX_3 are stored while P8 holds it and BUSY is 0, and
discarded while the host holds it; all four bytes of MB_CTRL act as MB_GO does; a read returns the slot's bytes from the
offset, wrapping at 0x400, and changes no slot, and in Hibernate returns 0 (R150); the status byte shows READY, P8's claim,
BUSY, DONE and PROTO_ERR. -/
def Obligations.SlotThreeAndTheServicePort : Prop :=
  (∀ (s : State) (byHost : Bool), s.running → s.host.claim = 0 →
    ∃ t, exec (.mbClaim byHost true) s = .next t ∧ t.host.claim = 2 ∧
    t.host.slots = s.host.slots ∧ { t with host := s.host } = s.rested) ∧
  (∀ (s : State), s.hostUp → s.host.claim = 0 → ∃ t, exec (.mbClaim true false) s = .next t ∧
    t.host.claim = 1 ∧ t.host.slots = s.host.slots ∧ { t with host := s.host } = s.rested) ∧
  (∀ (s : State), s.hostUp → s.host.claim = 2 → ∃ t, exec (.mbClaim true false) s = .next t ∧
    t.host = s.host ∧ Counted .BAD_ACCESS s t ∧ RegsKept [.BAD_ACCESS] s t ∧ { t with regs := s.regs } = s.rested) ∧
  (∀ (s : State) (byHost : Bool), s.running → s.host.claim = 1 →
    ∃ t, exec (.mbClaim byHost true) s = .next t ∧ t.host.claim = 1 ∧
    t.host.slots = s.host.slots ∧ { t with host := s.host } = s.rested) ∧
  (∀ (s : State) (byP8 : Bool), s.sideUp 3 byP8 → s.host.claim = (if byP8 then 2 else 1) → (s.slot 3).busy = false →
    ∃ t, exec (.mbRelease byP8) s = .next t ∧ t.host.claim = 0 ∧ t.slot 3 = { s.slot 3 with done := false } ∧
    (byP8 = true → t.host.unlocked = false ∧ t.host.challenge = none) ∧ s.OthersKept t 3 ∧
    { t with host := s.host } = s.rested) ∧
  (∀ (s : State) (byP8 : Bool), s.sideUp 3 byP8 → s.host.claim = (if byP8 then 2 else 1) → (s.slot 3).busy = true →
    ∃ t, exec (.mbRelease byP8) s = .next t ∧ t.host.claim = s.host.claim ∧ t.host.releaseDue = true ∧
    t.host.slots = s.host.slots ∧ { t with host := s.host } = s.rested) ∧
  (∀ (s : State), s.hostUp → s.host.claim = 2 → ∃ t, exec (.mbRelease false) s = .next t ∧ t.host = s.host ∧
    Counted .BAD_ACCESS s t ∧ RegsKept [.BAD_ACCESS] s t ∧ { t with regs := s.regs } = s.rested) ∧
  (∀ (s : State), s.host.claim = 2 → s.host.p8At + 5000000 ≤ s.clock → s.host.slots.length = 4 →
    (s.slot 3).busy = false → ∃ t, exec .p8ClaimTimeout s = .next t ∧ t.host.claim = 0 ∧
    t.slot 3 = { s.slot 3 with done := false } ∧ t.host.unlocked = false ∧
    s.OthersKept t 3 ∧ { t with host := s.host } = s) ∧
  (∀ (s : State), s.host.claim = 2 → s.host.p8At + 5000000 ≤ s.clock → (s.slot 3).busy = true →
    ∃ t, exec .p8ClaimTimeout s = .next t ∧ t = { s with host.releaseDue := true }) ∧
  (∀ (s : State) (o : Nat) (bs : List Byte), s.running → s.host.slots.length = 4 → s.host.claim = 2 →
    (s.slot 3).busy = false → ((0x40 ≤ o ∧ o + bs.length ≤ 0x80) ∨ (0x100 ≤ o ∧ o + bs.length ≤ 0x400)) →
    ∃ t, exec (.p8Write o bs) s = .next t ∧ t.slot 3 = { s.slot 3 with mem := (s.slot 3).mem.writeN o bs } ∧
    s.OthersKept t 3 ∧ { t with host := s.host } = s.rested) ∧
  (∀ (s : State) (o : Nat) (bs : List Byte), s.running → s.host.claim = 1 → 0x40 ≤ o → o + bs.length ≤ 0x400 →
    ∃ t, exec (.p8Write o bs) s = .next t ∧ t.host.slots = s.host.slots ∧ { t with host := s.host } = s.rested) ∧
  (∀ (s : State) (w : BitVec 32), w.toNat % 2 = 1 → exec (.p8Write 0 (leBytes 4 w.toNat)) s = exec (.mbGo 3 w true) s)
    ∧
  (∀ (s : State) (o n : Nat), s.running → ∃ t, exec (.p8Read o n) s = .next t ∧
    t.host.p8Out = (List.range n).map (fun i => if (o + i) % 1024 < 4 then (leBytes 4 (s.ctrlWord 3)).getD ((o + i) %
    1024) 0 else (s.slot 3).mem.read ((o + i) % 1024)) ∧ t.host.slots = s.host.slots ∧
    { t with host := s.host } = s) ∧
  (∀ (s : State) (o n : Nat), s.pw.mode = .hibernate → s.pw.refFailed = false →
    ∃ t, exec (.p8Read o n) s = .next t ∧ t.host.p8Out = List.replicate n 0) ∧
  (∀ (s : State), s.running → ∃ t, exec .p8Status s = .next t ∧
    t.host.p8Out = leBytes 1 (b2n (s.on .READY) + 2 * b2n (s.host.claim == 2) + 4 * b2n (s.slot 3).busy + 8 * b2n
    (s.slot 3).done + 16 * b2n (s.slot 3).protoErr) ∧ t.host.slots = s.host.slots ∧ { t with host := s.host } = s)

/-- Writes to a slot's command fields and MB_DATA (R141), to NT_TAIL (04 R151) and to the MSI-X enable, function mask and
table (R155): bytes are stored while BUSY is 0, and while it is 1 are discarded and set PROTO_ERR; a write of the host to an
MBX_3 that P8 holds is counted (R146); the tail takes the value written, cut to its width; masking sends no message, and a
pending message goes out when its vector is unmasked. -/
def Obligations.HostWritesToTheWindow : Prop :=
  (∀ (s : State) (n o : Nat) (bs : List Byte), s.hostUp → s.host.slots.length = 4 → (n < 3 ∨ n = 3 ∧
    s.host.claim ≠ 2) → accessOk o bs.length = true → ((0x40 ≤ o ∧ o + bs.length ≤ 0x80) ∨ (0x100 ≤ o ∧
    o + bs.length ≤ 0x400)) → (s.slot n).busy = false → ∃ t, exec (.mbFieldWrite n o bs false) s = .next t ∧
    t.slot n = { s.slot n with mem := (s.slot n).mem.writeN o bs } ∧ s.OthersKept t n ∧
    { t with host := s.host } = s.rested) ∧
  (∀ (s : State) (o : Nat) (bs : List Byte), s.running → s.host.slots.length = 4 → s.host.claim = 2 → ((0x40 ≤ o ∧
    o + bs.length ≤ 0x80) ∨ (0x100 ≤ o ∧ o + bs.length ≤ 0x400)) → (s.slot 3).busy = false →
    ∃ t, exec (.mbFieldWrite 3 o bs true) s = .next t ∧ t.slot 3 = { s.slot 3 with mem := (s.slot 3).mem.writeN o bs }
    ∧ s.OthersKept t 3 ∧ { t with host := s.host } = s.rested) ∧
  (∀ (s : State) (n o : Nat) (bs : List Byte), s.hostUp → s.host.slots.length = 4 → (n < 3 ∨ n = 3 ∧
    s.host.claim ≠ 2) → accessOk o bs.length = true → ((0x40 ≤ o ∧ o + bs.length ≤ 0x80) ∨ (0x100 ≤ o ∧
    o + bs.length ≤ 0x400)) → (s.slot n).busy = true → ∃ t, exec (.mbFieldWrite n o bs false) s = .next t ∧
    t.slot n = { s.slot n with protoErr := true } ∧ s.OthersKept t n ∧ { t with host := s.host } = s.rested) ∧
  (∀ (s : State) (o : Nat) (bs : List Byte), s.hostUp → s.host.claim = 2 → accessOk o bs.length = true → 8 ≤ o →
    o + bs.length ≤ 1024 → ∃ t, exec (.mbFieldWrite 3 o bs false) s = .next t ∧ t.host = s.host ∧
    Counted .BAD_ACCESS s t ∧ RegsKept [.BAD_ACCESS] s t ∧ { t with regs := s.regs } = s.rested) ∧
  (∀ (s : State) (v : Nat), s.hostUp → ∃ t, exec (.ntTailWrite v) s = .next t ∧ t.reg .NT_TAIL = v % 64 ∧
    RegsKept [.NT_TAIL] s t ∧ { t with regs := s.regs } = s) ∧
  (∀ (s : State), s.hostUp → s.host.msixOn = true → ∃ t, exec (.msixMaskWrite (.functionMask true)) s = .next t ∧
    t.host.msixFnMask = true ∧ t.host.mem = s.host.mem ∧ (∀ v ∈ s.host.msixPending, v ∈ t.host.msixPending) ∧
    { t with host := s.host } = s) ∧
  (∀ (s : State) (v addr data : Nat), s.hostUp → v < 1024 → s.host.msixOn = true →
    s.host.msixFnMask = false → s.host.d3hot = false → s.host.busMaster = true → s.host.msixPending = [v] →
    ∃ t, exec (.msixMaskWrite (.entry v addr data false)) s = .next t ∧
    Map.get t.host.msix v = some { addr := addr, data := data, masked := false } ∧
    t.host.msixPending = [] ∧ t.host.mem = s.host.mem.writeN addr (leBytes 4 data) ∧
    RegsKept beadRegs s t ∧ { t with regs := s.regs, host := s.host } = s) ∧
  (∀ (s : State) (v addr data : Nat), s.hostUp → v < 1024 → s.host.msixPending = [] →
    ∃ t, exec (.msixMaskWrite (.entry v addr data true)) s = .next t ∧
    Map.get t.host.msix v = some { addr := addr, data := data, masked := true } ∧ (∀ k, k ≠ v →
    Map.get t.host.msix k = Map.get s.host.msix k) ∧ { t with host.msix := s.host.msix } = s) ∧
  (∀ (s : State), s.hostUp → ∃ t, exec (.msixMaskWrite (.enable false)) s = .next t ∧
    t = { s with host.msixOn := false })

/-! ## The link, resets and the heartbeat (04); queue pairs (05) -/

/-- The four host-side resets (R164, R165, Tables 4.10 and 4.11) clear the host side, as `HostCleared` says, and keep
everything else but what a burst that only FLUSHes asked for still held; each is counted; PERST# takes the link down besides
(Table 4.14), and SUBSYS_VID and SUBSYS_ID take effect (Table 4.13); a link that left L0 counts as reset after 1 ms.
HOST_RESET_COMPLETE (R167, R168): the ring is emptied, the report is its entry 0 with its record's sequence, and READY
returns to 1. -/
def Obligations.HostSideResetsClearTheHostSideAndReport : Prop :=
  (∀ (s : State), s.host.perst = false → s.host.slots.length = 4 →
    ∃ t, exec .functionLevelReset s = .next t ∧ s.HostCleared t ∧ Counted .FLR_COUNT s t ∧
    t.host.perst = false ∧ RegsKept (([.READY, .NT_TAIL, .FLR_COUNT] : List RegName) ++ beadRegs) s t) ∧
  (∀ (s : State), s.host.perst = false → s.host.slots.length = 4 → ∃ t, exec .hotReset s = .next t ∧
    s.HostCleared t ∧ Counted .LINK_RESETS s t ∧ t.host.perst = false ∧
    RegsKept (([.READY, .NT_TAIL, .LINK_RESETS] : List RegName) ++ beadRegs) s t) ∧
  (∀ (s : State) (t0 : Nat), s.host.perst = false → s.host.linkOff = false → s.host.leftL0 = some t0 →
    t0 + 1000 ≤ s.clock → s.host.slots.length = 4 → ∃ t, exec .linkRetrainTimeout s = .next t ∧
    s.HostCleared t ∧ Counted .LINK_RESETS s t ∧ t.host.leftL0 = none ∧
    RegsKept (([.READY, .NT_TAIL, .LINK_RESETS] : List RegName) ++ beadRegs) s t) ∧
  (∀ (s : State) (t0 : Nat), s.host.leftL0 = some t0 → s.clock < t0 + 1000 →
    ∃ t, exec .linkRetrainTimeout s = .next t ∧ t = s) ∧
  (∀ (s : State), s.host.perst = false → s.host.slots.length = 4 → ∃ t, exec .perstAssert s = .next t ∧
    s.HostCleared t ∧ Counted .LINK_RESETS s t ∧ t.host.perst = true ∧ t.reg .LINK_STATE = 0 ∧
    t.reg .LINK_SPEED = 0 ∧ t.reg .LINK_WIDTH = 0 ∧ t.host.subsys = (s.reg .SUBSYS_VID, s.reg .SUBSYS_ID) ∧
    RegsKept (([.READY, .NT_TAIL, .LINK_RESETS, .LINK_STATE, .LINK_SPEED, .LINK_WIDTH] : List RegName) ++ beadRegs) s
    t) ∧
  (∀ (s : State), s.running → s.host.perst = false → s.host.reset ≠ none → s.bb.queue = [] →
    s.bb.stalled = [] → s.bb.windows = [] → s.ca.merge = [] → (List.range 4).all (fun n => !(s.slot n).go) = true →
    ∃ t, exec .hostResetComplete s = .next t ∧ t.host.reset = none ∧ t.reg .READY = 1 ∧ t.reg .NT_TAIL = 0 ∧
    t.reg .NT_HEAD = 1 ∧ (Map.get t.host.notices 0).map (fun n => (n.code, n.seq)) = some (Code.hostReset, s.reg
    .BB_NEXT_SEQ) ∧ t.q = s.q ∧ t.host.slots = s.host.slots ∧ t.lm = s.lm ∧ t.md = s.md ∧ t.sp = s.sp ∧
    t.sl = s.sl ∧ t.sv = s.sv ∧ t.sec = s.sec)

/-- The link registers follow the link into a state the K760 allows it (which of them: the model's reading, log entry 136);
a link that leaves L0 without PERST# has the time kept (R164). PERST# release trains it, at most at MAX_SPEED (Table 4.14).
D3hot holds completion entries and its end writes them (05 R226); the heartbeat counts (04 Table 4.5). -/
def Obligations.LinkStatesAndHeartbeat : Prop :=
  (∀ (s : State) (l : LinkState), s.running → s.host.perst = false → s.linkAllows l = true →
    s.q.held = [] → s.q.pairs.all (fun e => e.2.halted.isNone) = true →
    ∃ t, exec (.linkPowerStateChange l) s = .next t ∧ t.reg .LINK_STATE = linkCode l ∧
    (t.host.leftL0.isSome = true ↔ l = .down ∧ (s.p0Up = true ∨ s.host.leftL0.isSome = true)) ∧
    RegsKept [.LINK_STATE, .CLK_PCIE, .LINK_SPEED, .LINK_WIDTH] s t ∧ t.q = s.q ∧
    t.host.slots = s.host.slots ∧ { t with regs := s.regs, host := s.host } = s) ∧
  (∀ (s : State) (l : LinkState), s.running → s.host.perst = false → s.linkAllows l = false → s.linkGone = false →
    ∃ t, exec (.linkPowerStateChange l) s = .next t ∧ t = s) ∧
  (∀ (s : State) (speed width : Nat), s.running → s.pw.mainPgood = true → s.reg .BOOT_MODE ≠ 2 →
    s.host.perst = true → 1 ≤ speed → speed ≤ 3 → 1 ≤ width → width ≤ 2 → s.q.held = [] →
    s.q.pairs.all (fun e => e.2.halted.isNone) = true → ∃ t, exec (.perstRelease speed width) s = .next t ∧
    t.host.perst = false ∧ t.reg .LINK_STATE = 1 ∧ t.reg .LINK_SPEED = min speed (s.reg .MAX_SPEED) ∧
    t.reg .LINK_WIDTH = width ∧ t.q = s.q ∧ t.host.slots = s.host.slots ∧
    RegsKept [.LINK_STATE, .LINK_SPEED, .LINK_WIDTH, .CLK_PCIE] s t ∧ { t with regs := s.regs, host := s.host } = s) ∧
  (∀ (s : State), s.hostUp → ∃ t, exec .d3hotEntry s = .next t ∧ t = { s with host.d3hot := true }) ∧
  (∀ (s : State) (c : QCmd) (p : QPair) (st r : Nat), s.hostUp → s.host.d3hot = true →
    s.p0Up = true → s.host.busMaster = true → s.host.msixOn = false → s.ca.merge = [] →
    s.q.held = [{ qp := c.qp, tag := c.tag }] → s.cmd c.qp c.tag = some c → c.ended = some (st, r, false) →
    Map.get s.q.pairs c.qp = some p → s.q.pairs.all (fun e => e.2.halted.isNone) = true →
    ∃ t, exec .d0Return s = .next t ∧ t.host.d3hot = false ∧ t.q.held = [] ∧ s.Ended t c p st r ∧
    RegsKept beadRegs s t ∧ { t with regs := s.regs, host := s.host, q := s.q } = s) ∧
  (∀ (s : State), (s.pw.mode = .run ∨ s.pw.mode = .doze) → ∃ t, exec .dsHeartbeatTick s = .next t ∧
    t.reg .DS_HEARTBEAT = (s.reg .DS_HEARTBEAT + 1) % 2 ^ 32 ∧ RegsKept [.DS_HEARTBEAT] s t ∧
    { t with regs := s.regs } = s)

/-- DOORBELL_WRITE (R189-R194, 04 R158): the doorbell of pair q stands at 8q, its CQ head at 8q + 4; a tail or head within
its queue is taken, one outside halts the pair with reason 1 or 2 (Table 5.8), a stray doorbell is counted. SQ_FETCH
(R190-R204): the granted pair's next entry becomes a command; a tag in use or 0xFFFF halts the pair with reason 3, an
opcode of no row completes at once (06 R285). FENCED_START (R202, R205). -/
def Obligations.DoorbellsAndFetchesMoveTheQueues : Prop :=
  (∀ (s : State) (qp v : Nat) (p : QPair), s.hostUp → qp < 65536 → v < 2 ^ 32 → s.q.waiting = [] →
    s.q.blocked = [] → Map.get s.q.pairs qp = some p → p.halted = none → v < p.sqDepth →
    ∃ t, exec (.doorbellWrite (8 * qp) 4 v) s = .next t ∧ Map.get t.q.pairs qp = some { p with sqTail := v } ∧
    (∀ k, k ≠ qp → Map.get t.q.pairs k = Map.get s.q.pairs k) ∧ t.q.cmds = s.q.cmds ∧
    RegsKept beadRegs s t ∧ { t with regs := s.regs, q := s.q } = s.rested) ∧
  (∀ (s : State) (qp h : Nat) (p : QPair), s.hostUp → qp < 65536 → h < 2 ^ 32 → s.q.waiting = [] →
    s.q.blocked = [] → Map.get s.q.pairs qp = some p → p.halted = none → h < p.cqDepth →
    (h + p.cqDepth - p.cqHead) % p.cqDepth ≤ (p.cqWrite + p.cqDepth - p.cqHead) % p.cqDepth →
    ∃ t, exec (.doorbellWrite (8 * qp + 4) 4 h) s = .next t ∧ Map.get t.q.pairs qp = some { p with cqHead := h } ∧
    t.q.cmds = s.q.cmds ∧ RegsKept beadRegs s t ∧ { t with regs := s.regs, q := s.q } = s.rested) ∧
  (∀ (s : State) (qp v : Nat) (p : QPair), s.hostUp → qp < 65536 → v < 2 ^ 32 → s.q.waiting = [] →
    s.q.blocked = [] → s.ca.merge = [] → Map.get s.q.pairs qp = some p → p.halted = none →
    p.deleting = none → p.sqDepth ≤ v → ∃ t, exec (.doorbellWrite (8 * qp) 4 v) s = .next t ∧
    (Map.get t.q.pairs qp).map (·.halted) = some (some 1) ∧ t.lm = s.lm ∧ t.md = s.md ∧ t.host.slots = s.host.slots) ∧
  (∀ (s : State) (qp h : Nat) (p : QPair), s.hostUp → qp < 65536 → h < 2 ^ 32 → s.q.waiting = [] →
    s.q.blocked = [] → s.ca.merge = [] → Map.get s.q.pairs qp = some p → p.halted = none →
    p.deleting = none → p.cqDepth ≤ h → ∃ t, exec (.doorbellWrite (8 * qp + 4) 4 h) s = .next t ∧
    (Map.get t.q.pairs qp).map (·.halted) = some (some 2) ∧ t.lm = s.lm ∧ t.md = s.md ∧ t.host.slots = s.host.slots) ∧
  (∀ (s : State) (o n v : Nat), s.hostUp → accessOk o n = true → o + n ≤ windowSize 2 → s.q.waiting = [] →
    s.q.blocked = [] → Map.get s.q.pairs (o / 8) = none → ∃ t, exec (.doorbellWrite o n v) s = .next t ∧
    Counted .DB_STRAY s t ∧ RegsKept (.DB_STRAY :: beadRegs) s t ∧ { t with regs := s.regs } = s.rested) ∧
  (∀ (s : State) (qp k : Nat) (fresh : Bool) (p : QPair) (e input list : List Byte), qp < 65536 →
    e.length = 64 → s.serving = true → s.host.d3hot = false → s.host.reset = none → s.q.waiting = [] →
    s.q.blocked = [] → s.granted = some (qp, k, fresh) → s.fetchable qp = true →
    Map.get s.q.pairs qp = some p → fieldAt e 4 2 ≠ 0xFFFF → s.cmd qp (fieldAt e 4 2) = none →
    queueOpcodes.contains (fieldAt e 0 2) = true → ∃ t, exec (.sqFetch qp e input list) s = .next t ∧
    t.q.cmds.length = s.q.cmds.length + 1 ∧ t.q.cmds.take s.q.cmds.length = s.q.cmds ∧
    (t.cmd qp (fieldAt e 4 2)).map (fun c => (c.opcode, c.fence, c.granted, c.noWait, c.args)) = some (fieldAt e 0 2,
    (bit (fieldAt e 2 1) 0 || fieldAt e 0 2 == 0x101), !(bit (fieldAt e 2 1) 0 || fieldAt e 0 2 == 0x101), bit
    (fieldAt e 2 1) 1, bytesAt e 24 40) ∧ (bit (fieldAt e 2 1) 2 = false →
    (t.cmd qp (fieldAt e 4 2)).map (·.buf) = some [(fieldAt e 8 8, fieldAt e 16 4)]) ∧
    (Map.get t.q.pairs qp).map (·.sqHead) = some (if p.sqHead + 1 = p.sqDepth then 0 else p.sqHead + 1) ∧
    RegsKept beadRegs s t ∧ { t with regs := s.regs, q := s.q } = s) ∧
  (∀ (s : State) (qp k : Nat) (fresh : Bool) (p : QPair) (e input list : List Byte), qp < 65536 →
    e.length = 64 → s.serving = true → s.host.d3hot = false → s.host.reset = none → s.q.waiting = [] →
    s.q.blocked = [] → s.granted = some (qp, k, fresh) → s.fetchable qp = true →
    Map.get s.q.pairs qp = some p → p.deleting = none → (fieldAt e 4 2 = 0xFFFF ∨ (s.cmd qp (fieldAt e 4 2)).isSome =
    true) → ∃ t, exec (.sqFetch qp e input list) s = .next t ∧ (Map.get t.q.pairs qp).map (·.halted) = some (some 3) ∧
    t.md = s.md ∧ t.host.slots = s.host.slots) ∧
  (∀ (s : State) (qp k : Nat) (fresh : Bool) (p : QPair) (e input list : List Byte), qp < 65536 →
    e.length = 64 → s.serving = true → s.host.d3hot = false → s.host.reset = none → s.q.waiting = [] →
    s.q.blocked = [] → s.granted = some (qp, k, fresh) → s.fetchable qp = true → s.plainPair qp p →
    fieldAt e 4 2 ≠ 0xFFFF → s.cmd qp (fieldAt e 4 2) = none → queueOpcodes.contains (fieldAt e 0 2) = false →
    ∃ t, exec (.sqFetch qp e input list) s = .next t ∧ t.q.cmds = s.q.cmds ∧
    t.host.mem.readN (p.cqBase + 16 * p.cqWrite) 4 = leBytes 2 (fieldAt e 4 2) ++ leBytes 2 St.unknownCommand ∧
    RegsKept beadRegs s t ∧ { t with regs := s.regs, host := s.host, q := s.q } = s) ∧
  (∀ (s : State) (qp tag k : Nat) (c : QCmd) (fresh : Bool), s.cmd qp tag = some c →
    s.granted = some (qp, k, fresh) → s.awake = true → c.fence = true → c.granted = false →
    c.ended = none → s.unfenced c = true → ∃ t, exec (.fencedStart qp tag) s = .next t ∧
    (t.cmd qp tag) = some { c with granted := true } ∧ t.q.cmds.length = s.q.cmds.length ∧
    t.q.pairs = s.q.pairs ∧ { t with q := s.q } = s)

/-- NOP and FENCE (06 Table 6.3), HOST_READ_TIMEOUT (04 R171) and POISONED_TLP (R172; their
count in AER_UNCORR is PRESUMED, log entry 155): the completion entry of 05
Table 5.4 at the write position; a descriptor list given to a row without a buffer is malformed (05 R229). ABORT
(R214-R219): a target without a commit point reached is caught, one already ended was missed, an unknown one is answered
4, a NOP or FENCE is waited for. COAL_TIMER_EXPIRY (Table 5.2). -/
def Obligations.CommandsEndWithOneEntryAndInterrupts : Prop :=
  (∀ (s : State) (qp tag : Nat) (c : QCmd) (p : QPair), s.cmdReady qp tag 0x100 c → s.plainPair qp p →
    c.abortBy = [] → ∃ t, exec (.nop qp tag) s = .next t ∧ s.Ended t c p 0 0 ∧
    RegsKept beadRegs s t ∧ { t with regs := s.regs, host := s.host, q := s.q } = s) ∧
  (∀ (s : State) (qp tag : Nat) (c : QCmd) (p : QPair), s.cmdReady qp tag 0x101 c → s.plainPair qp p →
    c.abortBy = [] → ∃ t, exec (.fence qp tag) s = .next t ∧ s.Ended t c p 0 0 ∧
    RegsKept beadRegs s t ∧ { t with regs := s.regs, host := s.host, q := s.q } = s) ∧
  (∀ (s : State) (qp tag d : Nat) (c : QCmd) (p : QPair) (i : Instr), s.cmd qp tag = some c →
    s.awake = true → s.unfenced c = true → c.granted = true → c.ended = none → c.badDesc = some d →
    d < 2 ^ 32 → s.plainPair qp p → c.abortBy = [] → (i, c.opcode) ∈ [(Instr.nop qp tag, 0x100), (.fence qp tag,
    0x101), (.abort qp tag, 0x102), (.eventMark qp tag, 0x112), (.flush qp tag, 0x120), (.timeSet qp tag, 0x140),
    (.timeGet qp tag, 0x141), (.cntConfig qp tag, 0x160)] → ∃ t, exec i s = .next t ∧
    s.Ended t c p St.badLength (d * 2 ^ 32) ∧ RegsKept beadRegs s t ∧
    { t with regs := s.regs, host := s.host, q := s.q } = s) ∧
  (∀ (s : State) (qp tag : Nat) (c : QCmd) (p : QPair), qp < 65536 → s.cmd qp tag = some c →
    c.committed = false → c.ended = none → s.plainPair qp p → c.abortBy = [] →
    ∃ t, exec (.hostReadTimeout qp (some tag)) s = .next t ∧ s.Ended t c p St.hostTimeout (s.doneCount c % 2 ^ 32) ∧
    Counted .DMA_TIMEOUTS s t ∧ Counted .AER_UNCORR s t ∧ RegsKept (([.DMA_TIMEOUTS, .AER_UNCORR] : List RegName) ++
    bookRegs) s t ∧ { t with regs := s.regs, host := s.host, q := s.q, bb := s.bb } = s) ∧
  (∀ (s : State) (qp tag : Nat) (c : QCmd) (p : QPair), qp < 65536 → s.cmd qp tag = some c →
    c.committed = false → c.ended = none → s.plainPair qp p → c.abortBy = [] →
    ∃ t, exec (.poisonedTlp qp (some tag)) s = .next t ∧ s.Ended t c p St.poisonedInput (s.doneCount c % 2 ^ 32) ∧
    Counted .AER_UNCORR s t ∧ RegsKept (.AER_UNCORR :: bookRegs) s t ∧
    { t with regs := s.regs, host := s.host, q := s.q, bb := s.bb } = s) ∧
  (∀ (s : State) (qp : Nat) (p : QPair), qp < 65536 → Map.get s.q.pairs qp = some p → p.halted = none →
    p.deleting = none → ∃ t, exec (.hostReadTimeout qp none) s = .next t ∧
    (Map.get t.q.pairs qp).map (·.halted) = some (some 4) ∧ t.md = s.md ∧ t.host.slots = s.host.slots) ∧
  (∀ (s : State) (qp : Nat) (p : QPair), qp < 65536 → Map.get s.q.pairs qp = some p → p.halted = none →
    p.deleting = none → ∃ t, exec (.poisonedTlp qp none) s = .next t ∧
    (Map.get t.q.pairs qp).map (·.halted) = some (some 5) ∧ t.md = s.md ∧ t.host.slots = s.host.slots) ∧
  (∀ (s : State) (qp tag : Nat) (c d : QCmd) (p : QPair), s.cmdReady qp tag 0x102 c →
    s.q.cmds.all (fun x => x.abortBy.isEmpty) = true → s.abortWaits c = false →
    s.cmd (fieldAt c.args 0 2) (fieldAt c.args 2 2) = some d → d.opcode ≠ 0x100 → d.opcode ≠ 0x101 →
    d.opcode ≠ 0x102 → d.opcode ≠ 0x120 → d.committed = false → d.ended = none → s.plainPair qp p →
    ∃ t, exec (.abort qp tag) s = .next t ∧ t.q.cmds = s.q.cmds.filter (fun x => !(x.qp == c.qp && x.tag == c.tag) &&
    !(x.qp == d.qp && x.tag == d.tag)) ∧ (d.qp = qp → p.cqWrite + 2 ≤ p.cqDepth →
    t.host.mem.readN (p.cqBase + 16 * p.cqWrite) 4 = leBytes 2 d.tag ++ leBytes 2 St.aborted) ∧
    RegsKept beadRegs s t ∧ { t with regs := s.regs, host := s.host, q := s.q } = s) ∧
  (∀ (s : State) (qp tag : Nat) (c : QCmd) (p : QPair), s.cmdReady qp tag 0x102 c →
    s.q.cmds.all (fun x => x.abortBy.isEmpty) = true → s.abortWaits c = false →
    s.cmd (fieldAt c.args 0 2) (fieldAt c.args 2 2) = none → Map.get s.q.pairs (fieldAt c.args 0 2) = none →
    s.plainPair qp p → ∃ t, exec (.abort qp tag) s = .next t ∧ s.Ended t c p 0 4 ∧
    RegsKept beadRegs s t ∧ { t with regs := s.regs, host := s.host, q := s.q } = s) ∧
  (∀ (s : State) (qp tag : Nat) (c : QCmd) (p : QPair), s.cmdReady qp tag 0x102 c →
    s.q.cmds.all (fun x => x.abortBy.isEmpty) = true → s.abortWaits c = false → fieldAt c.args 0 2 = qp →
    s.cmd qp (fieldAt c.args 2 2) = none → p.lastTags.contains (fieldAt c.args 2 2) = true → s.plainPair qp p →
    ∃ t, exec (.abort qp tag) s = .next t ∧ s.Ended t c p 0 2 ∧
    RegsKept beadRegs s t ∧ { t with regs := s.regs, host := s.host, q := s.q } = s) ∧
  (∀ (s : State) (qp tag : Nat) (c d : QCmd), s.cmdReady qp tag 0x102 c →
    s.q.cmds.all (fun x => x.abortBy.isEmpty) = true → s.abortWaits c = false →
    s.cmd (fieldAt c.args 0 2) (fieldAt c.args 2 2) = some d → (d.opcode = 0x100 ∨ d.opcode = 0x101) →
    d.ended = none → fencedBehind c d = false → ∃ t, exec (.abort qp tag) s = .next t ∧
    (t.cmd d.qp d.tag).map (·.abortBy) = some [(qp, tag)] ∧ t.q.cmds.length = s.q.cmds.length ∧
    { t with q.cmds := s.q.cmds } = s) ∧
  (∀ (s : State) (qp : Nat) (p : QPair) (e : MsixEntry), qp < 65536 → Map.get s.q.pairs qp = some p →
    0 < p.coalPend → 0 < p.coalTime → p.coalSince + p.coalTime ≤ s.clock → p.irq = true →
    s.host.msixOn = true → s.host.msixFnMask = false → s.host.d3hot = false → s.host.busMaster = true →
    Map.get s.host.msix p.vector = some e → e.masked = false → ∃ t, exec (.coalTimerExpiry qp) s = .next t ∧
    t.host.mem = s.host.mem.writeN e.addr (leBytes 4 e.data) ∧ Map.get t.q.pairs qp = some { p with coalPend := 0 } ∧
    t.q.cmds = s.q.cmds ∧ RegsKept beadRegs s t ∧ { t with regs := s.regs, host := s.host, q := s.q } = s)

/-! ## Mailbox commands of queue pairs and of the service port (05, 06) -/

/-- QP_CREATE (R175-R179) and QP_DELETE (R180). -/
def Obligations.QueuePairsAreCreatedAndDeleted : Prop :=
  (∀ (s : State) (n : Nat) (c : MbCopy), s.mbxReady n 0x10 c → c.dlen = 0 → qpCreateFault c.args = none →
    s.poolLost = false → Map.get s.q.pairs (fieldAt c.args 0 2) = none → ∃ t, exec (.qpCreate n) s = .next t ∧
    Map.get t.q.pairs (fieldAt c.args 0 2) = some
    { cls := fieldAt c.args 2 1, irq := bit (fieldAt c.args 3 1) 0, sqDepth := fieldAt c.args 4 2, cqDepth := fieldAt
        c.args 6 2, sqBase := fieldAt c.args 8 8, cqBase := fieldAt c.args 16 8, vector := fieldAt c.args 24 2,
        coalCount := fieldAt c.args 26 1, coalTime := fieldAt c.args 28 2 } ∧ (∀ k, k ≠ fieldAt c.args 0 2 →
    Map.get t.q.pairs k = Map.get s.q.pairs k) ∧ s.Told t n okResp ∧
    { t with host := s.host, q.pairs := s.q.pairs } = s) ∧
  (∀ (s : State) (n : Nat) (c : MbCopy), s.mbxReady n 0x10 c → c.dlen ≠ 0 →
    ∃ t, exec (.qpCreate n) s = .next t ∧ s.Answered t n (failResp St.badLength 0xFFFFFFFF)) ∧
  (∀ (s : State) (n o : Nat) (c : MbCopy), s.mbxReady n 0x10 c → c.dlen = 0 → qpCreateFault c.args = some o →
    ∃ t, exec (.qpCreate n) s = .next t ∧ s.Answered t n (failResp St.outOfRange o)) ∧
  (∀ (s : State) (n : Nat) (c : MbCopy), s.mbxReady n 0x10 c → c.dlen = 0 → qpCreateFault c.args = none →
    s.poolLost = true → ∃ t, exec (.qpCreate n) s = .next t ∧ s.Answered t n (failResp St.poolLost Code.poolLost)) ∧
  (∀ (s : State) (n : Nat) (c : MbCopy), s.mbxReady n 0x10 c → c.dlen = 0 → qpCreateFault c.args = none →
    s.poolLost = false → Map.has s.q.pairs (fieldAt c.args 0 2) = true →
    ∃ t, exec (.qpCreate n) s = .next t ∧ s.Answered t n (failResp St.qpInUse 0)) ∧
  (∀ (s : State) (n qp : Nat) (c : MbCopy) (p : QPair), s.mbxReady n 0x11 c → qp = fieldAt c.args 0 2 →
    s.plainPair qp p → p.deleting = none → p.haltWritten = false → s.pinned qp = false →
    ∃ t, exec (.qpDelete n) s = .next t ∧ Map.get t.q.pairs qp = none ∧ (∀ k, k ≠ qp →
    Map.get t.q.pairs k = Map.get s.q.pairs k) ∧ s.Told t n okResp ∧
    t.host.mem.readN (p.cqBase + 16 * p.cqWrite) 4 = leBytes 2 0xFFFF ++ leBytes 2 St.qpHalted ∧
    t.q.cmds = s.q.cmds ∧ RegsKept beadRegs s t ∧ { t with regs := s.regs, host := s.host, q := s.q } = s) ∧
  (∀ (s : State) (n qp : Nat) (c : MbCopy) (p : QPair), s.mbxReady n 0x11 c → qp = fieldAt c.args 0 2 →
    Map.get s.q.pairs qp = some p → p.deleting = none → p.haltWritten = true →
    ∃ t, exec (.qpDelete n) s = .next t ∧ Map.get t.q.pairs qp = none ∧ (∀ k, k ≠ qp →
    Map.get t.q.pairs k = Map.get s.q.pairs k) ∧ s.Told t n okResp ∧
    t.q.cmds = s.q.cmds ∧ { t with host.slots := s.host.slots, q := s.q } = s) ∧
  (∀ (s : State) (n : Nat) (c : MbCopy), s.mbxReady n 0x11 c → Map.get s.q.pairs (fieldAt c.args 0 2) = none →
    ∃ t, exec (.qpDelete n) s = .next t ∧ s.Answered t n (failResp St.qpUnknown 0))

/-- SVC_CHALLENGE, SVC_UNLOCK and BB_ERASE (06 R250-R254, 17 R740): from P8 a challenge is fresh and spent once, by whatever
unlock is tried; a failed unlock is counted; an erase with a current unlock leaves its own record alone in both banks, and
no pin; the host may do none of them. -/
def Obligations.ServiceCommandsNeedTheServicePort : Prop :=
  (∀ (s : State) (n : Nat) (c : MbCopy), s.mbxReady n 0x60 c → c.byP8 = true → s.reg .ENTROPY_STATE = 1 →
    ∃ t, exec (.svcChallenge n) s = .next t ∧ t.host.challenge = some ((s.draw).1 % 2 ^ 128) ∧
    s.Told t n (okResp [] (leBytes 16 ((s.draw).1 % 2 ^ 128))) ∧ { t with host := s.host, free := s.free } = s) ∧
  (∀ (s : State) (n v : Nat) (c : MbCopy), s.mbxReady n 0x61 c → c.byP8 = true → c.dlen = 64 →
    s.host.challenge = some v → ∃ t, exec (.svcUnlock n) s = .next t ∧ t.host.challenge = none ∧
    t.host.unlocked = (s.host.unlocked || s.tokenOk v (beNat c.data)) ∧
    s.Told t n (if s.tokenOk v (beNat c.data) then okResp else failResp St.tokenRejected (s.host.failedUnlocks + 1)) ∧
    t.host.failedUnlocks = (if s.tokenOk v (beNat c.data) then s.host.failedUnlocks else s.host.failedUnlocks + 1) ∧
    { t with host := s.host } = s) ∧
  (∀ (s : State) (n : Nat) (c : MbCopy), s.mbxReady n 0x61 c → c.byP8 = true → c.dlen = 64 →
    s.host.challenge = none → ∃ t, exec (.svcUnlock n) s = .next t ∧ t.host.unlocked = s.host.unlocked ∧
    s.Told t n (failResp St.tokenRejected (s.host.failedUnlocks + 1)) ∧ { t with host := s.host } = s) ∧
  (∀ (s : State) (n : Nat) (c : MbCopy), s.mbxReady n 0x62 c → c.byP8 = true → s.host.unlocked = true →
    s.reg .BBS_BANK0_FAULT = 0 → s.reg .BBS_BANK1_FAULT = 0 → ∃ t, exec (.bbErase n) s = .next t ∧
    t.bb.bank0.map (fun e => (e.1, e.2.code, e.2.seq)) = [(ringSlot (s.reg .BB_NEXT_SEQ), Code.bbErased, s.reg
    .BB_NEXT_SEQ)] ∧ t.bb.bank1 = t.bb.bank0 ∧ t.bb.loose = [] ∧ t.reg .BB_OLDEST_SEQ = s.reg .BB_NEXT_SEQ ∧
    t.reg .LAST_ERASE_SEQ = s.reg .BB_NEXT_SEQ ∧ t.reg .PINNED = 0 ∧
    s.Told t n (okResp (leBytes 4 (s.reg .BB_NEXT_SEQ))) ∧
    { t with regs := s.regs, host.slots := s.host.slots, bb := s.bb } = s) ∧
  (∀ (s : State) (n : Nat) (c : MbCopy), s.mbxReady n 0x60 c → c.byP8 = false →
    ∃ t, exec (.svcChallenge n) s = .next t ∧ s.Answered t n (failResp St.notPermitted 0)) ∧
  (∀ (s : State) (n : Nat) (c : MbCopy), s.mbxReady n 0x61 c → c.byP8 = false →
    ∃ t, exec (.svcUnlock n) s = .next t ∧ s.Answered t n (failResp St.notPermitted 0)) ∧
  (∀ (s : State) (n : Nat) (c : MbCopy), s.mbxReady n 0x62 c → (c.byP8 = false ∨ s.host.unlocked = false) →
    ∃ t, exec (.bbErase n) s = .next t ∧ s.Answered t n (failResp St.notPermitted 0))

/-! ## Queue commands of the pool, evidence, time, tally, counters and the black box (06) -/

/-- POOL_READ (R255-R257): from a stream offset the bobbin still holds, the bytes up to the buffer's end, 16 MiB or the
tail, whichever comes first, through every range of the buffer, poisoned granules as zeros; it ends POISONED with the first
of them, or SUCCESS, and beyond the tail or below the head it ends without data; a row that moves a part leaves the command
under way. POOL_APPEND (R258-R260, 07 R300-R307): the records of its list join the bobbin in order; a row that applies a
part leaves it under way, past its commit point. -/
def Obligations.PoolReadsAndAppendsFollowTheStream : Prop :=
  (∀ (s : State) (qp tag a l b o : Nat) (c : QCmd) (p : QPair), s.cmdReady qp tag 0x110 c →
    s.plainPair qp p → c.abortBy = [] → c.buf = [(a, l)] → 0 < l → l ≤ 0x1000000 → c.count = 0 → c.poison = none →
    (a + l ≤ p.cqBase + 16 * p.cqWrite ∨ p.cqBase + 16 * p.cqWrite + 16 ≤ a) → b = fieldAt c.args 0 2 →
    o = fieldAt c.args 8 8 → s.bobbinAbsent b = false → s.poolLost = false → s.lm.allPoison = false →
    s.lm.poison = [] → s.get .HEAD_OFFSET b ≤ o → o < s.get .TAIL_OFFSET b →
    ∃ t, exec (.poolRead qp ⟨tag, none⟩) s = .next t ∧ t.host.mem.readN a (min l (s.get .TAIL_OFFSET b - o)) =
    (List.range (min l (s.get .TAIL_OFFSET b - o))).map (fun i => s.lm.mem.read (s.ringAddr b (o + i))) ∧
    s.Ended t c p St.success (min l (s.get .TAIL_OFFSET b - o)) ∧ t.lm = s.lm ∧
    RegsKept beadRegs s t ∧ { t with regs := s.regs, host := s.host, q := s.q } = s) ∧
  (∀ (s : State) (qp tag b o n : Nat) (c : QCmd) (p : QPair), s.cmdReady qp tag 0x110 c → s.plainPair qp p →
    c.abortBy = [] → c.lengthFault 1 (some 0x1000000) = none → c.count = 0 → c.poison = none →
    b = fieldAt c.args 0 2 → o = fieldAt c.args 8 8 → s.bobbinAbsent b = false → s.poolLost = false →
    s.get .HEAD_OFFSET b ≤ o → o < s.get .TAIL_OFFSET b → n = min (min c.room 0x1000000) (s.get .TAIL_OFFSET b - o) →
    ∃ t, exec (.poolRead qp ⟨tag, none⟩) s = .next t ∧ (s.firstPoison b o n = none →
    s.Delivered t c p St.success n (s.ringRead b o n)) ∧ (∀ i, s.firstPoison b o n = some i →
    s.Delivered t c p St.poisoned (n + i % 2 ^ 32 * 2 ^ 32) (s.ringRead b o n)) ∧
    RegsKept beadRegs s t ∧ { t with regs := s.regs, host := s.host, q := s.q } = s) ∧
  (∀ (s : State) (qp tag b o k n : Nat) (c : QCmd), s.cmdReady qp tag 0x110 c →
    c.lengthFault 1 (some 0x1000000) = none → b = fieldAt c.args 0 2 →
    o = fieldAt c.args 8 8 + c.count → s.bobbinAbsent b = false → s.poolLost = false →
    s.get .HEAD_OFFSET b ≤ o → (c.started = true ∨ fieldAt c.args 8 8 < s.get .TAIL_OFFSET b) →
    n = min (min c.room 0x1000000 - c.count) (s.get .TAIL_OFFSET b - o) → k < n →
    ∃ t, exec (.poolRead qp ⟨tag, some k⟩) s = .next t ∧ (t.cmd qp tag).map (fun d => (d.started, d.count,
    d.committed, d.ended)) = some (true, c.count + k, c.committed, none) ∧
    t.host = (s.rangesWrite (dropRanges c.count c.buf) (s.ringRead b o k)).host ∧
    t.q.pairs = s.q.pairs ∧ t.q.cmds.length = s.q.cmds.length ∧ { t with host := s.host, q := s.q } = s) ∧
  (∀ (s : State) (qp tag : Nat) (part : Option Nat) (c : QCmd) (p : QPair) (b o : Nat), s.cmdReady qp tag 0x110 c →
    s.plainPair qp p → c.abortBy = [] → c.lengthFault 1 (some 0x1000000) = none → c.started = false →
    b = fieldAt c.args 0 2 → o = fieldAt c.args 8 8 → s.bobbinAbsent b = false → s.poolLost = false →
    s.get .TAIL_OFFSET b ≤ o → ∃ t, exec (.poolRead qp ⟨tag, part⟩) s = .next t ∧
    s.Ended t c p St.rangeBeyond 0 ∧ RegsKept beadRegs s t ∧ { t with regs := s.regs, host := s.host, q := s.q } = s)
    ∧
  (∀ (s : State) (qp tag : Nat) (part : Option Nat) (c : QCmd) (p : QPair) (b o : Nat), s.cmdReady qp tag 0x110 c →
    s.plainPair qp p → c.abortBy = [] → c.lengthFault 1 (some 0x1000000) = none → b = fieldAt c.args 0 2 →
    o = fieldAt c.args 8 8 → s.bobbinAbsent b = false → s.poolLost = false → o < s.get .TAIL_OFFSET b →
    o + c.count < s.get .HEAD_OFFSET b → ∃ t, exec (.poolRead qp ⟨tag, part⟩) s = .next t ∧
    s.Ended t c p St.rangeGone (c.count % 2 ^ 32) ∧ RegsKept beadRegs s t ∧
    { t with regs := s.regs, host := s.host, q := s.q } = s) ∧
  (∀ (s : State) (qp tag : Nat) (part : Option Nat) (c : QCmd) (p : QPair), s.cmdReady qp tag 0x110 c →
    s.plainPair qp p → c.abortBy = [] → c.lengthFault 1 (some 0x1000000) = none →
    s.bobbinAbsent (fieldAt c.args 0 2) = true → ∃ t, exec (.poolRead qp ⟨tag, part⟩) s = .next t ∧
    s.Ended t c p St.bobbinUnknown 0 ∧ RegsKept beadRegs s t ∧ { t with regs := s.regs, host := s.host, q := s.q } =
    s) ∧
  (∀ (s : State) (qp tag b : Nat) (c : QCmd) (p : QPair) (r : List Byte), s.cmdReady qp tag 0x111 c →
    s.plainPair qp p → c.abortBy = [] → s.appendWaits c = false → c.count = 0 →
    recordList 0 (c.input.length + 1) c.input = .ok [r] → b = fieldAt c.args 0 2 →
    s.bobbinAbsent b = false → s.poolLost = false → s.hostAppends b = true → s.takes b r.length →
    ∃ t, exec (.poolAppend qp ⟨tag, none⟩) s = .next t ∧ s.Gained t b r.length 0 (b2n s.coarse) s.now ∧
    t.host.mem.readN (p.cqBase + 16 * p.cqWrite) 16 = cqeBytes c p St.success 1 ∧ t.cmd qp tag = none ∧
    t.lm.lease = s.lm.lease ∧ t.md = s.md ∧ t.sp = s.sp ∧ t.sec = s.sec) ∧
  (∀ (s : State) (qp tag b : Nat) (c : QCmd) (r q : List Byte), s.cmdReady qp tag 0x111 c →
    s.appendWaits c = false → c.count = 0 → recordList 0 (c.input.length + 1) c.input = .ok [r, q] →
    b = fieldAt c.args 0 2 → s.bobbinAbsent b = false → s.poolLost = false → s.hostAppends b = true →
    s.takes b r.length → ∃ t, exec (.poolAppend qp ⟨tag, some 1⟩) s = .next t ∧
    s.Gained t b r.length 0 (b2n s.coarse) s.now ∧ (t.cmd qp tag).map (fun d => (d.started, d.committed, d.count)) =
    some (true, true, 1) ∧ t.host = s.host ∧ t.md = s.md ∧ t.sp = s.sp ∧ t.sec = s.sec) ∧
  (∀ (s : State) (qp tag o : Nat) (part : Option Nat) (c : QCmd) (p : QPair), s.cmdReady qp tag 0x111 c →
    s.plainPair qp p → c.abortBy = [] → s.appendWaits c = false →
    recordList 0 (c.input.length + 1) c.input = .error o → ∃ t, exec (.poolAppend qp ⟨tag, part⟩) s = .next t ∧
    s.Ended t c p St.badLength (o % 2 ^ 32 * 2 ^ 32) ∧ RegsKept beadRegs s t ∧
    { t with regs := s.regs, host := s.host, q := s.q } = s) ∧
  (∀ (s : State) (qp tag : Nat) (part : Option Nat) (c : QCmd) (p : QPair) (l : List (List Byte)), s.cmdReady qp tag
    0x111 c → s.plainPair qp p → c.abortBy = [] → s.appendWaits c = false →
    recordList 0 (c.input.length + 1) c.input = .ok l → s.bobbinAbsent (fieldAt c.args 0 2) = false →
    s.poolLost = false → s.hostAppends (fieldAt c.args 0 2) = false →
    ∃ t, exec (.poolAppend qp ⟨tag, part⟩) s = .next t ∧ s.Ended t c p St.noRights (c.count % 2 ^ 32) ∧
    RegsKept beadRegs s t ∧ { t with regs := s.regs, host := s.host, q := s.q } = s)

/-- EVENT_MARK (R261-R263): the mark of its interval joins the table under the next MARK_ID, for one bobbin or all ten, and
the result gives the MARK_ID and whether the mark was cut short. FLUSH (R264, R265): it ends once everything up to the tails
it saw is flushed, starts a burst where something is not, and fails where there is no medium. -/
def Obligations.EventMarksAndFlushes : Prop :=
  (∀ (s : State) (qp tag b start stop : Nat) (c : QCmd) (p : QPair), s.cmdReady qp tag 0x112 c →
    s.plainPair qp p → c.abortBy = [] → s.noDisc → b = fieldAt c.args 0 2 → s.bobbinBad b = false →
    start = fieldAt c.args 8 8 → stop = (if fieldAt c.args 16 8 = 0 then c.fetchTime else fieldAt c.args 16 8) →
    start ≤ stop → stop ≤ c.fetchTime → s.poolLost = false → s.on .COMMISSIONED = true → s.lm.marks.length < 4096 →
    ∃ t, exec (.eventMark qp tag) s = .next t ∧ t.lm.marks = s.lm.marks ++
    [{ id := s.lm.markNext, bobbins := if b = 0xFFFF then List.range 10 else [b], start := start, stop := stop, fetch
         := c.fetchTime, reason := fieldAt c.args 2 2 }] ∧ t.lm.markNext = (s.lm.markNext + 1) % 2 ^ 32 ∧
    t.host.mem.readN (p.cqBase + 16 * p.cqWrite) 16 = cqeBytes c p St.success (s.lm.markNext % 2 ^ 32 + b2n
    (s.truncated (namedBobbins b) start) * 2 ^ 32) ∧ t.cmd qp tag = none ∧ t.lm.mem = s.lm.mem ∧
    t.lm.recs = s.lm.recs ∧ t.md = s.md ∧ t.sec = s.sec ∧ RegsKept (([.BOB_FULL, .BOB_HOLDING, .BOB_MARKED_PENDING] :
    List RegName) ++ beadRegs) s t) ∧
  (∀ (s : State) (qp tag stop : Nat) (c : QCmd) (p : QPair), s.cmdReady qp tag 0x112 c → s.plainPair qp p →
    c.abortBy = [] → s.bobbinBad (fieldAt c.args 0 2) = false →
    stop = (if fieldAt c.args 16 8 = 0 then c.fetchTime else fieldAt c.args 16 8) → stop < fieldAt c.args 8 8 →
    ∃ t, exec (.eventMark qp tag) s = .next t ∧ s.Ended t c p St.outOfRange (8 * 2 ^ 32) ∧
    RegsKept beadRegs s t ∧ { t with regs := s.regs, host := s.host, q := s.q } = s) ∧
  (∀ (s : State) (qp tag : Nat) (c : QCmd) (p : QPair), s.cmdReady qp tag 0x112 c → s.plainPair qp p →
    c.abortBy = [] → s.bobbinBad (fieldAt c.args 0 2) = false → fieldAt c.args 8 8 ≤ fieldAt c.args 16 8 →
    fieldAt c.args 16 8 ≠ 0 → c.fetchTime < fieldAt c.args 16 8 → ∃ t, exec (.eventMark qp tag) s = .next t ∧
    s.Ended t c p St.outOfRange (16 * 2 ^ 32) ∧ RegsKept beadRegs s t ∧
    { t with regs := s.regs, host := s.host, q := s.q } = s) ∧
  (∀ (s : State) (qp tag : Nat) (c : QCmd) (p : QPair), s.cmdReady qp tag 0x120 c → s.plainPair qp p →
    c.abortBy = [] → c.started = false → s.bobbinBad (fieldAt c.args 0 2) = false →
    s.discChanging = false → s.flushFault = none → c.tails.all (fun x => x.2 ≤ s.get .FLUSHED_OFFSET x.1) = true →
    s.q.cmds = [c] → ∃ t, exec (.flush qp tag) s = .next t ∧ s.Ended t c p St.success 0 ∧
    RegsKept beadRegs s t ∧ { t with regs := s.regs, host := s.host, q := s.q } = s) ∧
  (∀ (s : State) (qp tag b z : Nat) (c : QCmd) (r : Rec), s.cmdReady qp tag 0x120 c → c.started = false →
    s.running → b = fieldAt c.args 0 2 → s.bobbinBad b = false → s.discChanging = false →
    s.flushFault = none → s.q.cmds = [c] → c.tails = [(b, z)] → s.get .FLUSHED_OFFSET b < z → s.lm.marks = [] →
    s.recs b = [r] → s.recGood b r = true → s.get .FLUSHED_OFFSET b ≤ r.off →
    r.off + r.len = s.get .TAIL_OFFSET b → r.len ≤ clusterBytes → s.md.headless = [] →
    (s.chainHead b).isSome = true → s.bu = {} → s.reg .SP_STATE = 0 → s.on .DISC_TURNING = false →
    s.burstAllowed = true → ∃ t, exec (.flush qp tag) s = .next t ∧
    (t.cmd qp tag).map (·.started) = some true ∧ t.bu.active = true ∧ t.bu.turning = true ∧
    t.bu.flushes = [(qp, tag)] ∧ t.bu.block.map (fun k => (k.kind, k.bobbin, k.start, k.stop)) = some (.data, b,
    r.off, r.off + r.len) ∧ t.lm = s.lm ∧ t.host.mem = s.host.mem ∧ t.sec = s.sec) ∧
  (∀ (s : State) (qp tag : Nat) (c : QCmd) (p : QPair), s.cmdReady qp tag 0x120 c → s.plainPair qp p →
    c.abortBy = [] → c.started = false → s.bobbinBad (fieldAt c.args 0 2) = false → s.poolLost = false →
    s.noDisc → s.md.ejecting = false → ∃ t, exec (.flush qp tag) s = .next t ∧ s.Ended t c p St.noMedium 0 ∧
    RegsKept beadRegs s t ∧ { t with regs := s.regs, host := s.host, q := s.q } = s)

/-! ## The archive, time, tally, counters and the black box as queue commands (06) -/

/-- DISC_DIR (R266): the entries from an index on, as far as the buffer holds them. EXPORT (R267, R268) and DISC_READ (R269):
the job of the block's or range's clusters begins; once all are settled the entry and the matrices, or the user bytes, are
delivered with the outcome of the checks. CARTRIDGE (R271, R272, 10 R477): an eject drives the loader out once nothing holds
the disc, a load drives it in; what the drive holds already, or does not hold, is said at once. -/
def Obligations.ArchiveAndCartridgeCommandsServeTheDisc : Prop :=
  (∀ (s : State) (qp tag : Nat) (c : QCmd) (p : QPair) (es : List DirEntry), s.cmdReady qp tag 0x130 c →
    s.plainPair qp p → c.abortBy = [] → c.lengthFault 64 none = none → s.discChanging = false →
    s.md.mounted = true → es = (s.md.dir.drop (fieldAt c.args 0 4)).take (c.room / 64) →
    ∃ t, exec (.discDir qp tag) s = .next t ∧ s.Delivered t c p St.success (es.length % 2 ^ 32 + s.md.dir.length % 2 ^
    32 * 2 ^ 32) (es.flatMap dirEntryBytes) ∧ RegsKept beadRegs s t ∧
    { t with regs := s.regs, host := s.host, q := s.q } = s) ∧
  (∀ (s : State) (qp tag a l : Nat) (c : QCmd) (p : QPair) (es : List DirEntry), s.cmdReady qp tag 0x130 c →
    s.plainPair qp p → c.abortBy = [] → c.buf = [(a, l)] → 64 ≤ l →
    (a + l ≤ p.cqBase + 16 * p.cqWrite ∨ p.cqBase + 16 * p.cqWrite + 16 ≤ a) → s.discChanging = false →
    s.md.mounted = true → es = (s.md.dir.drop (fieldAt c.args 0 4)).take (l / 64) →
    ∃ t, exec (.discDir qp tag) s = .next t ∧ t.host.mem.readN a (64 * es.length) = es.flatMap dirEntryBytes) ∧
  (∀ (s : State) (qp tag : Nat) (c : QCmd) (e : DirEntry), s.cmdReady qp tag 0x131 c → c.started = false →
    s.running → s.discChanging = false → s.discFault = none → s.md.dir.find? (fun e => e.type == 1 && e.blockId ==
    fieldAt c.args 8 8) = some e → c.lengthFault (64 + e.clCount * 67584) (some (64 + e.clCount * 67584)) = none →
    (c.noWait = false ∨ s.on .DISC_TURNING = true) → s.rd = [] → s.blockAddresses e ≠ [] → s.reg .SV_STATE ≠ 3 →
    ∃ t, exec (.exportBlock qp tag) s = .next t ∧ (t.cmd qp tag).map (·.started) = some true ∧
    t.rd.map (fun j => (j.qp, j.tag, j.entry)) = [(qp, tag, some e)] ∧
    t.rd.map (fun j => j.parts.map (fun x => (x.home, x.addr))) = [s.blockAddresses e] ∧
    { t with q := s.q, rd := s.rd } = s) ∧
  (∀ (s : State) (qp tag : Nat) (c : QCmd) (p : QPair) (j : ReadJob) (e : DirEntry) (bytes : List Byte), s.cmdReady qp
    tag 0x131 c → s.plainPair qp p → c.abortBy = [] → c.started = true → s.rd = [j] → j.qp = qp →
    j.tag = tag → j.entry = some e → j.cursor = none → s.md.realloc = none →
    bytes = dirEntryBytes e ++ (j.parts.zip j.states).flatMap (fun x => if x.2.isDone then matrixBytes x.1.addr
    (s.partCluster x.1) else List.replicate 67584 0) → ∃ t, exec (.exportBlock qp tag) s = .next t ∧
    t.cmd qp tag = none ∧ t.rd = [] ∧ (∀ i, (j.parts.zip j.states).findIdx? (fun x => !x.2.isDone) = some i →
    s.Delivered t c p St.uncorrectable (bytes.length % 2 ^ 32 + i % 2 ^ 32 * 2 ^ 32) bytes) ∧
    ((j.parts.zip j.states).findIdx? (fun x => !x.2.isDone) = none →
    s.integrity e.blockId (headBefore (s.md.dir.takeWhile (fun d => !(d.type == 1 && d.blockId == e.blockId)))
    e.stream) (j.parts.map s.partCluster) = none → s.Delivered t c p St.success (bytes.length % 2 ^ 32 + s.readFlags j
    % 2 ^ 32 * 2 ^ 32) bytes) ∧ RegsKept (([.LAST_INTEG_REASON, .LAST_INTEG_BLOCK, .INTEG_UNVERIFIABLE] : List
    RegName) ++ bookRegs) s t ∧ { t with regs := s.regs, host := s.host, q := s.q, rd := s.rd, bb := s.bb } = s) ∧
  (∀ (s : State) (qp tag : Nat) (c : QCmd) (p : QPair), s.cmdReady qp tag 0x131 c → s.plainPair qp p →
    c.abortBy = [] → c.started = false → s.discChanging = false →
    s.md.dir.find? (fun e => e.type == 1 && e.blockId == fieldAt c.args 8 8) = none →
    ∃ t, exec (.exportBlock qp tag) s = .next t ∧ s.Ended t c p St.blockUnknown 0 ∧
    RegsKept beadRegs s t ∧ { t with regs := s.regs, host := s.host, q := s.q } = s) ∧
  (∀ (s : State) (qp tag : Nat) (c : QCmd) (ps : List ReadPart), s.cmdReady qp tag 0x132 c →
    c.started = false → s.running → c.lengthFault 1 (some 0x1000000) = none → s.discChanging = false →
    s.discFault = none → s.bobbinAbsent (fieldAt c.args 0 2) = false →
    ps = s.readPlan (fieldAt c.args 0 2) (fieldAt c.args 8 8) (fieldAt c.args 8 8 + min c.room 0x1000000)
    (s.md.dir.length + 1) → ps ≠ [] → (c.noWait = false ∨ s.on .DISC_TURNING = true) → s.rd = [] →
    s.reg .SV_STATE ≠ 3 → ∃ t, exec (.discRead qp tag) s = .next t ∧
    (t.cmd qp tag).map (·.started) = some true ∧ t.rd.map (fun j => (j.qp, j.tag, j.parts)) = [(qp, tag, ps)] ∧
    { t with q := s.q, rd := s.rd } = s) ∧
  (∀ (s : State) (qp tag : Nat) (c : QCmd) (p : QPair) (j : ReadJob) (ps : List (ReadPart × PartState)) (bytes : List
    Byte), s.cmdReady qp tag 0x132 c → s.plainPair qp p → c.abortBy = [] → c.started = true → s.rd = [j] →
    j.qp = qp → j.tag = tag → j.entry = none → j.cursor = none → s.md.realloc = none →
    ps = (j.parts.zip j.states).takeWhile (fun x => x.2.isDone) →
    bytes = ps.flatMap (fun x => bytesAt (bodyBytes (s.partCluster x.1).body) x.1.from' x.1.len) →
    ∃ t, exec (.discRead qp tag) s = .next t ∧ t.cmd qp tag = none ∧ t.rd = [] ∧
    (ps.length < j.parts.length → s.Delivered t c p St.uncorrectable (bytes.length % 2 ^ 32 + bytes.length % 2 ^ 32 *
    2 ^ 32) bytes) ∧ (ps.length = j.parts.length → j.parts.find? s.misplaced = none →
    s.Delivered t c p St.success (bytes.length % 2 ^ 32 + s.readFlags j % 2 ^ 32 * 2 ^ 32) bytes) ∧
    RegsKept (([.LAST_INTEG_REASON, .LAST_INTEG_BLOCK, .INTEG_UNVERIFIABLE] : List RegName) ++ bookRegs) s t ∧
    { t with regs := s.regs, host := s.host, q := s.q, rd := s.rd, bb := s.bb } = s) ∧
  (∀ (s : State) (qp tag : Nat) (c : QCmd) (p : QPair), s.cmdReady qp tag 0x132 c → s.plainPair qp p →
    c.abortBy = [] → c.started = false → c.lengthFault 1 (some 0x1000000) = none →
    s.bobbinAbsent (fieldAt c.args 0 2) = false → s.noDisc → s.md.ejecting = false →
    ∃ t, exec (.discRead qp tag) s = .next t ∧ s.Ended t c p St.noMedium 0 ∧
    RegsKept beadRegs s t ∧ { t with regs := s.regs, host := s.host, q := s.q } = s) ∧
  (∀ (s : State) (qp tag : Nat) (c : QCmd) (p : QPair), s.cmdReady qp tag 0x130 c → s.plainPair qp p →
    c.abortBy = [] → c.lengthFault 64 none = none → s.noDisc → s.md.ejecting = false →
    ∃ t, exec (.discDir qp tag) s = .next t ∧ s.Ended t c p St.noMedium 0 ∧
    RegsKept beadRegs s t ∧ { t with regs := s.regs, host := s.host, q := s.q } = s) ∧
  (∀ (s : State) (qp tag : Nat) (c : QCmd), s.cmdReady qp tag 0x133 c → s.running → c.started = false →
    fieldAt c.args 0 1 = 0 → s.reg .LD_STATE = 2 → s.md.ejecting = false → s.md.mounting = false →
    s.md.session = none → s.bu.active = false → s.bu.turning = false → s.bu.block = none →
    s.bu.redo = none → s.readsWaiting = false → s.loaderFree = true →
    ∃ t, exec (.cartridgeEject qp tag) s = .next t ∧ t.reg .LD_STATE = 3 ∧ t.reg .IN_SW = 0 ∧
    t.reg .OUT_SW = 0 ∧ (t.cmd qp tag).map (fun d => (d.started, d.committed)) = some (true, true) ∧
    t.md.ejecting = true ∧ t.md.cart = s.md.cart ∧ RegsKept [.LD_STATE, .IN_SW, .OUT_SW] s t ∧
    { t with regs := s.regs, q := s.q, md := s.md, sl := s.sl } = s) ∧
  (∀ (s : State) (qp tag : Nat) (c : QCmd), s.cmdReady qp tag 0x133 c → s.running → c.started = false →
    fieldAt c.args 0 1 = 1 → (s.reg .LD_STATE = 0 ∨ s.reg .LD_STATE = 4) → s.md.ejecting = false →
    s.loaderFree = true → ∃ t, exec (.cartridgeLoad qp tag) s = .next t ∧ t.reg .LD_STATE = 1 ∧
    t.reg .IN_SW = 0 ∧ t.reg .OUT_SW = 0 ∧ (t.cmd qp tag).map (fun d => (d.started, d.committed)) = some (true, true)
    ∧ RegsKept [.LD_STATE, .IN_SW, .OUT_SW] s t ∧ { t with regs := s.regs, q := s.q, sl := s.sl } = s) ∧
  (∀ (s : State) (qp tag : Nat) (c : QCmd) (p : QPair), s.cmdReady qp tag 0x133 c → s.plainPair qp p →
    c.abortBy = [] → c.started = false → fieldAt c.args 0 1 = 0 → s.reg .LD_STATE = 0 →
    ∃ t, exec (.cartridgeEject qp tag) s = .next t ∧ s.Ended t c p St.noMedium 0 ∧
    RegsKept beadRegs s t ∧ { t with regs := s.regs, host := s.host, q := s.q } = s) ∧
  (∀ (s : State) (qp tag : Nat) (c : QCmd) (p : QPair), s.cmdReady qp tag 0x133 c → s.plainPair qp p →
    c.abortBy = [] → c.started = false → fieldAt c.args 0 1 = 1 → s.reg .LD_STATE = 2 →
    s.md.mounted = true → s.md.mounting = false → s.md.ejecting = false →
    ∃ t, exec (.cartridgeLoad qp tag) s = .next t ∧ s.Ended t c p St.success ((if s.md.readOnly then 2 else 1) * 2 ^
    32) ∧ RegsKept beadRegs s t ∧ { t with regs := s.regs, host := s.host, q := s.q } = s)

/-- TIME_SET (R273-R275, 08 R378): unset, the host's time is taken and recorded; while a source holds the time it is refused
(holdover counts as held while it lasts: log entry 57); set before, it is taken forward only under FORCE. TIME_GET (06
Table 6.3, 03 R111). -/
def Obligations.TimeIsSetAndRead : Prop :=
  (∀ (s : State) (qp tag : Nat) (c : QCmd) (p : QPair), s.cmdReady qp tag 0x140 c → s.plainPair qp p →
    c.abortBy = [] → s.noDisc → s.on .TIME_UNSET = true → s.reg .TIME_STATE ≠ 2 → s.reg .TIME_STATE ≠ 3 →
    ∃ t, exec (.timeSet qp tag) s = .next t ∧ t.time = fieldAt c.args 0 8 ∧ t.reg .TIME_UNSET = 0 ∧
    t.reg .TIME_STATE = (if s.reg .TIME_STATE = 0 then 1 else s.reg .TIME_STATE) ∧
    t.tb = { s.tb with slew := 0 } ∧ t.host.mem.readN (p.cqBase + 16 * p.cqWrite) 4 = leBytes 2 c.tag ++ leBytes 2
    St.success ∧ t.cmd qp tag = none ∧ t.md = s.md ∧ t.sec = s.sec ∧ t.sp = s.sp) ∧
  (∀ (s : State) (qp tag : Nat) (c : QCmd) (p : QPair), s.cmdReady qp tag 0x140 c → s.plainPair qp p →
    c.abortBy = [] → s.noDisc → s.on .TIME_UNSET = false → s.reg .TIME_STATE ≠ 2 → s.reg .TIME_STATE ≠ 3 →
    bit (fieldAt c.args 8 1) 0 = true → s.now < fieldAt c.args 0 8 → ∃ t, exec (.timeSet qp tag) s = .next t ∧
    t.time = fieldAt c.args 0 8 ∧ t.reg .TIME_UNSET = 0 ∧ t.host.mem.readN (p.cqBase + 16 * p.cqWrite) 4 = leBytes 2
    c.tag ++ leBytes 2 St.success ∧ t.cmd qp tag = none ∧ t.md = s.md ∧ t.sec = s.sec ∧ t.sp = s.sp) ∧
  (∀ (s : State) (qp tag : Nat) (c : QCmd) (p : QPair), s.cmdReady qp tag 0x140 c → s.plainPair qp p →
    c.abortBy = [] → (s.reg .TIME_STATE = 2 ∨ s.reg .TIME_STATE = 3 ∨ s.on .TIME_UNSET = false ∧
    (bit (fieldAt c.args 8 1) 0 = false ∨ fieldAt c.args 0 8 ≤ s.now)) →
    ∃ t, exec (.timeSet qp tag) s = .next t ∧ s.Ended t c p St.timeRefused 0 ∧
    RegsKept beadRegs s t ∧ { t with regs := s.regs, host := s.host, q := s.q } = s) ∧
  (∀ (s : State) (qp tag : Nat) (c : QCmd) (p : QPair), s.cmdReady qp tag 0x141 c → s.plainPair qp p →
    c.abortBy = [] → ∃ t, exec (.timeGet qp tag) s = .next t ∧ t.host.mem.readN (p.cqBase + 16 * p.cqWrite) 4 =
    leBytes 2 c.tag ++ leBytes 2 St.success ∧ t.host.mem.readN (p.cqBase + 16 * p.cqWrite + 6) 2 = leBytes 2 (b2n
    p.phase + 2 * b2n s.coarse) ∧ t.host.mem.readN (p.cqBase + 16 * p.cqWrite + 8) 8 = leBytes 8 s.now ∧
    t.cmd qp tag = none ∧ RegsKept beadRegs s t ∧ { t with regs := s.regs, host := s.host, q := s.q } = s)

/-- TALLY_READ and BB_READ (R279, 17 R742): the records held from a sequence on, oldest first, as far as the buffer holds
them, with their count and the highest sequence held; CNT_CONFIG (R276, R277) sets a bead, and CNT_SNAPSHOT (R278, 17 R733)
copies all 32 and, if asked, clears them. -/
def Obligations.LogsAndBeadsAreRead : Prop :=
  (∀ (s : State) (qp tag n : Nat) (c : QCmd) (p : QPair) (rs : List (List Byte)), s.cmdReady qp tag 0x150 c →
    s.plainPair qp p → c.abortBy = [] → c.lengthFault 32 none = none → s.poolLost = false →
    rs = (s.tallies.filter (fun r => decide (fieldAt c.args 0 4 ≤ fieldAt r 0 4))).take (c.room / 32) →
    (s.tallies.map (fun r => fieldAt r 0 4)).getLast? = some n →
    ∃ t, exec (.tallyRead qp tag) s = .next t ∧ s.Delivered t c p St.success (rs.length % 2 ^ 32 + n % 2 ^ 32 * 2 ^
    32) rs.flatten ∧ RegsKept beadRegs s t ∧ { t with regs := s.regs, host := s.host, q := s.q } = s) ∧
  (∀ (s : State) (qp tag a l : Nat) (c : QCmd) (p : QPair) (rs : List (List Byte)), s.cmdReady qp tag 0x150 c →
    s.plainPair qp p → c.abortBy = [] → c.buf = [(a, l)] → 32 ≤ l →
    (a + l ≤ p.cqBase + 16 * p.cqWrite ∨ p.cqBase + 16 * p.cqWrite + 16 ≤ a) → s.poolLost = false →
    rs = (s.tallies.filter (fun r => decide (fieldAt c.args 0 4 ≤ fieldAt r 0 4))).take (l / 32) →
    ∃ t, exec (.tallyRead qp tag) s = .next t ∧ t.host.mem.readN (p.cqBase + 16 * p.cqWrite) 4 = leBytes 2 c.tag ++
    leBytes 2 St.success ∧ t.host.mem.readN (p.cqBase + 16 * p.cqWrite + 8) 4 = leBytes 4 rs.length ∧
    t.host.mem.readN a (32 * rs.length) = rs.flatten ∧ t.cmd qp tag = none ∧
    RegsKept beadRegs s t ∧ { t with regs := s.regs, host := s.host, q := s.q, free := s.free } = s) ∧
  (∀ (s : State) (qp tag n : Nat) (c : QCmd) (p : QPair) (rs : List BbRecord), s.cmdReady qp tag 0x170 c →
    s.plainPair qp p → c.abortBy = [] → c.lengthFault 64 none = none →
    rs = (s.bbList (fieldAt c.args 0 4)).take (c.room / 64) → ((s.bbList 0).map (·.seq)).getLast? = some n →
    ∃ t, exec (.bbRead qp tag) s = .next t ∧ s.Delivered t c p St.success (rs.length % 2 ^ 32 + n % 2 ^ 32 * 2 ^ 32)
    (rs.flatMap recordBytes) ∧ RegsKept beadRegs s t ∧ { t with regs := s.regs, host := s.host, q := s.q } = s) ∧
  (∀ (s : State) (qp tag a l : Nat) (c : QCmd) (p : QPair) (rs : List BbRecord), s.cmdReady qp tag 0x170 c →
    s.plainPair qp p → c.abortBy = [] → c.buf = [(a, l)] → 64 ≤ l →
    (a + l ≤ p.cqBase + 16 * p.cqWrite ∨ p.cqBase + 16 * p.cqWrite + 16 ≤ a) →
    rs = (s.bbList (fieldAt c.args 0 4)).take (l / 64) → ∃ t, exec (.bbRead qp tag) s = .next t ∧
    t.host.mem.readN (p.cqBase + 16 * p.cqWrite) 4 = leBytes 2 c.tag ++ leBytes 2 St.success ∧
    t.host.mem.readN (p.cqBase + 16 * p.cqWrite + 8) 4 = leBytes 4 rs.length ∧
    t.host.mem.readN a (64 * rs.length) = rs.flatMap recordBytes ∧ t.cmd qp tag = none ∧
    RegsKept beadRegs s t ∧ { t with regs := s.regs, host := s.host, q := s.q, free := s.free } = s) ∧
  (∀ (s : State) (qp tag : Nat) (c : QCmd) (p : QPair) (i : Nat), s.cmdReady qp tag 0x160 c →
    s.plainPair qp p → c.abortBy = [] → cntFault c.args = none → i = fieldAt c.args 0 1 →
    ∃ t, exec (.cntConfig qp tag) s = .next t ∧ t.get .CNT_EVENT i = fieldAt c.args 1 1 ∧
    t.get .CNT_MODE i = fieldAt c.args 2 1 ∧ (∀ k, k ≠ i → t.get .CNT_EVENT k = s.get .CNT_EVENT k ∧
    t.get .CNT_MODE k = s.get .CNT_MODE k) ∧ (bit (fieldAt c.args 3 1) 0 = true ∧ fieldAt c.args 2 1 % 2 = 0 →
    t.get .BEAD_VALUE i = 0 ∧ t.get .BEAD_CARRY i = 0) ∧ t.host.mem.readN (p.cqBase + 16 * p.cqWrite) 4 = leBytes 2
    c.tag ++ leBytes 2 St.success ∧ t.cmd qp tag = none ∧ RegsKept (([.CNT_EVENT, .CNT_MODE] : List RegName) ++
    beadRegs) s t ∧ { t with regs := s.regs, host := s.host, q := s.q, bead := s.bead, bo.current := s.bo.current } =
    s) ∧
  (∀ (s : State) (qp tag : Nat) (c : QCmd) (p : QPair) (o : Nat), s.cmdReady qp tag 0x160 c →
    s.plainPair qp p → c.abortBy = [] → cntFault c.args = some o → ∃ t, exec (.cntConfig qp tag) s = .next t ∧
    s.Ended t c p St.outOfRange (o % 2 ^ 32 * 2 ^ 32) ∧ RegsKept beadRegs s t ∧
    { t with regs := s.regs, host := s.host, q := s.q } = s) ∧
  (∀ (s : State) (qp tag : Nat) (c : QCmd) (p : QPair), s.cmdReady qp tag 0x161 c → s.plainPair qp p →
    c.abortBy = [] → c.lengthFault 256 (some 256) = none → s.coarse = false →
    ∃ t, exec (.cntSnapshot qp tag) s = .next t ∧ s.Delivered t c p St.success (s.now % 2 ^ 64) ((List.range
    32).flatMap (fun i => leBytes 8 (s.get .BEAD_VALUE i + 2 ^ 48 * s.get .BEAD_CARRY i))) ∧
    t.reg .LAST_SNAPSHOT_TIME = s.now % 2 ^ 64 ∧ (bit (fieldAt c.args 0 1) 0 = true → ∀ i, i < 32 →
    s.get .CNT_MODE i % 2 = 0 → t.get .BEAD_VALUE i = 0 ∧ t.get .BEAD_CARRY i = 0) ∧
    RegsKept (.LAST_SNAPSHOT_TIME :: beadRegs) s t ∧ { t with regs := s.regs, host := s.host, q := s.q } = s)

/-! ## Firmware, commissioning and keys (06, 15, 19) -/

/-- FW_STAGE (R280-R283, 19 R787, R788): a chunk 0 that verifies starts its slot anew, a later chunk in turn that verifies
joins it, one that does not leaves it; the running slot, a chunk out of turn, a wrong length and a slot the part has not
are refused. FW_ACTIVATE (R247, 19 R789): a complete slot is next, an incomplete one or none is refused. -/
def Obligations.FirmwareIsStagedAndActivated : Prop :=
  (∀ (s : State) (qp tag : Nat) (c : QCmd) (p : QPair) (k : Nat), s.cmdReady qp tag 0x180 c →
    s.plainPair qp p → c.abortBy = [] → s.stagesNow c → k = fieldAt c.args 0 1 → k ≤ 1 → k ≠ s.reg .RUN_SLOT →
    fieldAt c.args 4 4 = 0 → c.input.length = 4096 → s.bo.slots.length = 2 →
    ∃ t, exec (.fwStage qp tag) s = .next t ∧ (headerOk c.input = true → s.Ended t c p St.success 1 ∧
    t.staged k = 1 ∧ t.slotComplete k = false ∧ t.slotBytes k 0 4096 = c.input ∧ (s.reg .NEXT_SLOT = k →
    t.reg .NEXT_SLOT = s.reg .RUN_SLOT)) ∧ (headerOk c.input = false →
    s.Ended t c p St.fwBadSignature (s.staged k % 2 ^ 32) ∧ t.bo = s.bo ∧ RegsKept beadRegs s t) ∧
    (∀ j, j ≠ k → t.bo.slots.getD j [] = s.bo.slots.getD j []) ∧
    RegsKept (([.STAGED_A, .STAGED_B, .A_COMPLETE, .B_COMPLETE, .A_GOOD, .B_GOOD, .FW_VERSION_A, .FW_VERSION_B,
    .NEXT_SLOT, .ATTEMPTS] : List RegName) ++ beadRegs) s t ∧
    { t with regs := s.regs, host := s.host, q := s.q, bo := s.bo } = s) ∧
  (∀ (s : State) (qp tag : Nat) (c : QCmd) (p : QPair) (k i : Nat), s.cmdReady qp tag 0x180 c →
    s.plainPair qp p → c.abortBy = [] → s.stagesNow c → k = fieldAt c.args 0 1 → k ≤ 1 → k ≠ s.reg .RUN_SLOT →
    i = fieldAt c.args 4 4 → 1 ≤ i → i = s.staged k → s.slotComplete k = false →
    s.chunkLengthOk k i c.input.length = true → ∃ t, exec (.fwStage qp tag) s = .next t ∧
    (chunkOk (s.slotHeader k) i c.input = true → t.staged k = (i + 1) % 16 ∧
    (i = headerChunks (t.slotHeader k) → t.slotComplete k = true)) ∧
    (chunkOk (s.slotHeader k) i c.input = false → s.Ended t c p St.fwBadSignature (i % 2 ^ 32 + i % 2 ^ 32 * 2 ^ 32) ∧
    t.bo = s.bo ∧ RegsKept beadRegs s t) ∧ RegsKept (([.STAGED_A, .STAGED_B, .A_COMPLETE, .B_COMPLETE, .A_GOOD,
    .B_GOOD, .FW_VERSION_A, .FW_VERSION_B, .NEXT_SLOT, .ATTEMPTS] : List RegName) ++ beadRegs) s t ∧
    { t with regs := s.regs, host := s.host, q := s.q, bo := s.bo } = s) ∧
  (∀ (s : State) (qp tag : Nat) (c : QCmd) (p : QPair), s.cmdReady qp tag 0x180 c → s.plainPair qp p →
    c.abortBy = [] → s.stagesNow c → fieldAt c.args 4 4 = 0 → c.input.length = 4096 → fieldAt c.args 0 1 ≤ 1 →
    fieldAt c.args 0 1 = s.reg .RUN_SLOT → ∃ t, exec (.fwStage qp tag) s = .next t ∧
    s.Ended t c p St.fwSlotActive (s.staged (fieldAt c.args 0 1) % 2 ^ 32) ∧
    RegsKept beadRegs s t ∧ { t with regs := s.regs, host := s.host, q := s.q } = s) ∧
  (∀ (s : State) (qp tag : Nat) (c : QCmd) (p : QPair) (n : Nat), s.cmdReady qp tag 0x180 c →
    s.plainPair qp p → c.abortBy = [] → s.stagesNow c → fieldAt c.args 0 1 ≤ 1 →
    fieldAt c.args 0 1 ≠ s.reg .RUN_SLOT → s.chunkLengthOk (fieldAt c.args 0 1) (fieldAt c.args 4 4) c.input.length =
    true → n = s.staged (fieldAt c.args 0 1) → n < 2 ^ 32 → fieldAt c.args 4 4 ≠ 0 → fieldAt c.args 4 4 ≠ n →
    ∃ t, exec (.fwStage qp tag) s = .next t ∧ s.Ended t c p St.fwSequence (n + n * 2 ^ 32) ∧
    RegsKept beadRegs s t ∧ { t with regs := s.regs, host := s.host, q := s.q } = s) ∧
  (∀ (s : State) (qp tag : Nat) (c : QCmd) (p : QPair), s.cmdReady qp tag 0x180 c → s.plainPair qp p →
    c.abortBy = [] → s.stagesNow c → 1 < fieldAt c.args 0 1 → s.chunkLengthOk (fieldAt c.args 0 1) (fieldAt c.args 4
    4) c.input.length = true → ∃ t, exec (.fwStage qp tag) s = .next t ∧ s.Ended t c p St.outOfRange 0 ∧
    RegsKept beadRegs s t ∧ { t with regs := s.regs, host := s.host, q := s.q } = s) ∧
  (∀ (s : State) (qp tag : Nat) (c : QCmd) (p : QPair), s.cmdReady qp tag 0x180 c → s.plainPair qp p →
    c.abortBy = [] → s.stagesNow c → s.chunkLengthOk (fieldAt c.args 0 1) (fieldAt c.args 4 4) c.input.length = false
    → ∃ t, exec (.fwStage qp tag) s = .next t ∧ s.Ended t c p St.badLength (s.staged (fieldAt c.args 0 1) % 2 ^ 32 +
    0xFFFFFFFF * 2 ^ 32) ∧ RegsKept beadRegs s t ∧ { t with regs := s.regs, host := s.host, q := s.q } = s) ∧
  (∀ (s : State) (n : Nat) (c : MbCopy) (k : Nat), s.mbxReady n 0x40 c → s.activatesNow c → k = fieldAt c.args 0 1 →
    k ≤ 1 → s.slotComplete k = true → ∃ t, exec (.fwActivate n) s = .next t ∧ t.reg .NEXT_SLOT = k ∧
    (k = s.reg .RUN_SLOT → RegsKept [.NEXT_SLOT] s t) ∧ s.Told t n (okResp (leBytes 1 k)) ∧
    RegsKept (([.NEXT_SLOT, .ATTEMPTS] : List RegName) ++ bookRegs) s t ∧
    t.bo.slots = s.bo.slots ∧ { t with regs := s.regs, host := s.host, bo := s.bo, bb := s.bb } = s) ∧
  (∀ (s : State) (n : Nat) (c : MbCopy), s.mbxReady n 0x40 c → s.activatesNow c →
    fieldAt c.args 0 1 ≤ 1 → s.slotComplete (fieldAt c.args 0 1) = false →
    ∃ t, exec (.fwActivate n) s = .next t ∧ s.Answered t n (failResp St.fwIncomplete 0)) ∧
  (∀ (s : State) (n : Nat) (c : MbCopy), s.mbxReady n 0x40 c → s.activatesNow c → 1 < fieldAt c.args 0 1 →
    ∃ t, exec (.fwActivate n) s = .next t ∧ s.Answered t n (failResp St.outOfRange 0))

/-- COMMISSION (R248, 15 R667, R668): once, it makes the device's key and answers KEY_ID and the public point. KEY_READ
(R249): these again. STREAM_KEY (R249, 15 R662-R669): a key comes into force with the next epoch and a fresh count, or
encryption stops; no key comes where none can. The keys drawn are free values (log entry 9). -/
def Obligations.KeysAreMadeOnceAndKeptInside : Prop :=
  (∀ (s : State) (n : Nat) (c : MbCopy), s.mbxReady n 0x50 c → s.on .COMMISSIONED = false →
    s.reg .ENTROPY_STATE = 1 → ∃ t, exec (.commission n) s = .next t ∧ t.reg .COMMISSIONED = 1 ∧
    t.reg .PFAIL_COUNT = 0 ∧ t.sec.devKey.isSome = true ∧ t.sec.devKey.map publicKey = some t.sec.pub ∧
    s.Told t n (okResp ((beBytes 32 (sha256 (4 :: beBytes 64 t.sec.pub))).take 16) (beBytes 64 t.sec.pub)) ∧
    RegsKept (([.COMMISSIONED, .PFAIL_COUNT, .SEC_KEY_ID, .WRAP_IV_COUNT] : List RegName) ++ bookRegs) s t ∧
    t.sec.streamKeys = s.sec.streamKeys ∧
    { t with regs := s.regs, host := s.host, sec := s.sec, bb := s.bb, free := s.free } = s) ∧
  (∀ (s : State) (n : Nat) (c : MbCopy), s.mbxReady n 0x50 c → s.on .COMMISSIONED = true →
    ∃ t, exec (.commission n) s = .next t ∧ s.Answered t n (failResp St.alreadyCommissioned 0)) ∧
  (∀ (s : State) (n : Nat) (c : MbCopy), s.mbxReady n 0x51 c → ∃ t, exec (.keyRead n) s = .next t ∧
    s.Answered t n (if s.on .COMMISSIONED = true then okResp [] (beBytes 64 s.sec.pub ++ beBytes 32 s.keyId) else
    failResp St.notCommissioned 0)) ∧
  (∀ (s : State) (n : Nat) (c : MbCopy) (b : Nat), s.mbxReady n 0x52 c → fieldAt c.args 2 1 = 0 →
    b = fieldAt c.args 0 2 → s.bobbinAbsent b = false → ∃ t, exec (.streamKeyOff n) s = .next t ∧
    Map.get t.sec.streamKeys b = none ∧ bit (t.reg .ENC_MASK) b = false ∧ (∀ k, k < 10 → k ≠ b →
    Map.get t.sec.streamKeys k = Map.get s.sec.streamKeys k ∧ bit (t.reg .ENC_MASK) k = bit (s.reg .ENC_MASK) k) ∧
    s.Told t n (okResp (leBytes 4 (s.get .KEY_EPOCH b))) ∧ RegsKept [.ENC_MASK] s t ∧
    { t with regs := s.regs, host := s.host, sec := s.sec } = s) ∧
  (∀ (s : State) (n : Nat) (c : MbCopy) (b : Nat), s.mbxReady n 0x52 c → fieldAt c.args 2 1 = 1 → c.dlen = 32 →
    b = fieldAt c.args 0 2 → s.bobbinAbsent b = false → s.get .KEY_EPOCH b < 0xFFFFFFFE →
    ∃ t, exec (.streamKeyHost n) s = .next t ∧ Map.get t.sec.streamKeys b = some (beNat c.data) ∧
    t.get .KEY_EPOCH b = s.get .KEY_EPOCH b + 1 ∧ t.get .GCM_COUNT b = 0 ∧ bit (t.reg .ENC_MASK) b = true ∧
    (∀ k, k < 10 → k ≠ b → t.get .KEY_EPOCH k = s.get .KEY_EPOCH k ∧ t.get .GCM_COUNT k = s.get .GCM_COUNT k ∧
    bit (t.reg .ENC_MASK) k = bit (s.reg .ENC_MASK) k ∧ Map.get t.sec.streamKeys k = Map.get s.sec.streamKeys k) ∧
    s.Told t n (okResp (leBytes 4 (s.get .KEY_EPOCH b + 1))) ∧ RegsKept [.KEY_EPOCH, .GCM_COUNT, .WRAP_IV_COUNT,
    .ENC_MASK] s t ∧ { t with regs := s.regs, host := s.host, sec := s.sec } = s) ∧
  (∀ (s : State) (n : Nat) (c : MbCopy) (b : Nat), s.mbxReady n 0x52 c → fieldAt c.args 2 1 = 2 →
    b = fieldAt c.args 0 2 → s.bobbinAbsent b = false → s.get .KEY_EPOCH b < 0xFFFFFFFE → s.reg .ENTROPY_STATE = 1 →
    ∃ t, exec (.streamKeyDevice n) s = .next t ∧ (Map.get t.sec.streamKeys b).isSome = true ∧
    (t.slot n).resp = (Map.get t.sec.streamKeys b).map (fun k => okResp (leBytes 4 (s.get .KEY_EPOCH b + 1)) (beBytes
    32 k)) ∧ t.get .KEY_EPOCH b = s.get .KEY_EPOCH b + 1 ∧ t.get .GCM_COUNT b = 0 ∧
    bit (t.reg .ENC_MASK) b = true ∧ (∀ k, k < 10 → k ≠ b → t.get .KEY_EPOCH k = s.get .KEY_EPOCH k ∧
    t.get .GCM_COUNT k = s.get .GCM_COUNT k ∧ bit (t.reg .ENC_MASK) k = bit (s.reg .ENC_MASK) k ∧
    Map.get t.sec.streamKeys k = Map.get s.sec.streamKeys k) ∧ s.OthersKept t n ∧
    RegsKept [.KEY_EPOCH, .GCM_COUNT, .WRAP_IV_COUNT, .ENC_MASK] s t ∧
    { t with regs := s.regs, host := s.host, sec := s.sec, free := s.free } = s) ∧
  (∀ (s : State) (n : Nat) (c : MbCopy) (b : Nat), s.mbxReady n 0x52 c → b = fieldAt c.args 0 2 →
    s.bobbinAbsent b = true → (fieldAt c.args 2 1 = 0 → ∃ t, exec (.streamKeyOff n) s = .next t ∧
    s.Answered t n (failResp St.bobbinUnknown 0)) ∧ (fieldAt c.args 2 1 = 1 → c.dlen = 32 →
    ∃ t, exec (.streamKeyHost n) s = .next t ∧ s.Answered t n (failResp St.bobbinUnknown 0)) ∧
    (fieldAt c.args 2 1 = 2 → ∃ t, exec (.streamKeyDevice n) s = .next t ∧
    s.Answered t n (failResp St.bobbinUnknown 0))) ∧
  (∀ (s : State) (n : Nat) (c : MbCopy), s.mbxReady n 0x52 c → fieldAt c.args 2 1 = 1 → c.dlen ≠ 32 →
    ∃ t, exec (.streamKeyHost n) s = .next t ∧ s.Answered t n (failResp St.badLength 0xFFFFFFFF)) ∧
  (∀ (s : State) (n : Nat) (c : MbCopy) (b : Nat), s.mbxReady n 0x52 c → b = fieldAt c.args 0 2 →
    s.bobbinAbsent b = false → 0xFFFFFFFE ≤ s.get .KEY_EPOCH b → fieldAt c.args 2 1 = 2 →
    ∃ t, exec (.streamKeyDevice n) s = .next t ∧ ((t.slot n).resp.map (·.status)) = some St.outOfRange ∧
    s.OthersKept t n ∧ { t with host := s.host, free := s.free } = s)

/-! ## Power states, wakes, power failure and clocks (03, 06, 20) -/

/-- POWER (R243-R246): the hold brings Run and keeps it, its release answers the state; Doze, Nap and Hibernate are
entered through the commit points, answered 1, 2 and 3 (2 where the part must stay in Nap), and refused while the hold
stands, DEEPEST_STATE is higher, or Hibernate is barred. -/
def Obligations.PowerCommandsMoveBetweenStates : Prop :=
  (∀ (s : State) (n : Nat) (c : MbCopy), s.mbxReady n 0x20 c → fieldAt c.args 0 1 = 0 →
    ∃ t, exec (.powerHoldRun n) s = .next t ∧ t.pw =
    { s.pw with hold := true, waking := if s.pw.mode = .doze then some .doze else s.pw.waking } ∧
    s.Told t n (okResp [0]) ∧ t.regs = s.regs ∧ { t with host := s.host, pw := s.pw } = s) ∧
  (∀ (s : State) (n : Nat) (c : MbCopy), s.mbxReady n 0x20 c → fieldAt c.args 0 1 = 4 →
    ∃ t, exec (.powerReleaseHold n) s = .next t ∧ t.pw = { s.pw with hold := false } ∧
    s.Told t n (okResp (leBytes 1 s.pw.mode.code)) ∧ t.regs = s.regs ∧ { t with host := s.host, pw := s.pw } = s) ∧
  (∀ (s : State) (n : Nat) (c : MbCopy), s.mbxReady n 0x20 c → fieldAt c.args 0 1 = 1 →
    s.pw.entry = none → s.powerRefused 1 = false → s.dozeReady = true →
    ∃ t, exec (.powerDoze n) s = .next t ∧ t.pw.mode = .doze ∧ t.pw.entry = none ∧ t.reg .CORE_MHZ = 300 ∧
    t.reg .ENTRY_BUSY = 0 ∧ s.Told t n (okResp [1]) ∧ RegsKept (([.CORE_MHZ, .ENTRY_BUSY] : List RegName) ++
    ([.H_BASE, .H_LIMIT, .H_READ, .H_WRITE, .H_APPEND, .H_VALID, .H_BOBBIN, .H_LEASE, .H_GEN, .BB_HOLDER] : List
    RegName)) s t ∧ t.q = s.q ∧ { t with regs := s.regs, host := s.host, pw := s.pw } = s) ∧
  (∀ (s : State) (n : Nat) (c : MbCopy), s.mbxReady n 0x20 c → fieldAt c.args 0 1 = 2 → s.pw.mode = .doze →
    s.pw.entry = none → s.powerRefused 2 = false → s.pw.pfail = none →
    ∃ t, exec (.powerNap n) s = .next t ∧ t.pw.entry = some { target := .nap, cmd := some n } ∧
    t.reg .ENTRY_BUSY = 1 ∧ t.pw.mode = .doze ∧ t.host = s.host ∧
    RegsKept [.ENTRY_BUSY] s t ∧ { t with regs := s.regs, pw.entry := none } = s) ∧
  (∀ (s : State) (n : Nat) (c : MbCopy), s.mbxReady n 0x20 c → fieldAt c.args 0 1 = 3 → s.pw.mode = .doze →
    s.pw.entry = none → s.powerRefused 3 = false → s.pw.pfail = none → s.hibBarred = false →
    (s.staysNap = false ∨ bit c.flags 1 = true) → s.pendingBytes = 0 →
    ∃ t, exec (.powerHibernate n) s = .next t ∧ t.pw.entry = some
    { target := .hibernate, cmd := some n, force := bit c.flags 1 } ∧ t.reg .ENTRY_BUSY = 1 ∧
    t.host = s.host ∧ RegsKept [.ENTRY_BUSY] s t ∧ { t with regs := s.regs, pw.entry := none } = s) ∧
  (∀ (s : State) (n : Nat) (c : MbCopy) (e : Entry), s.mbxReady n 0x20 c → fieldAt c.args 0 1 = 3 →
    s.pw.mode = .doze → s.pw.waking = none → s.pw.entry = some e → e.cmd = some n → e.answered = none →
    ∃ t, exec (.powerHibernate n) s = .next t ∧ (t.slot n).resp = some (okResp [if s.staysNapAfter = true ∧
    e.force = false then 2 else 3]) ∧ (t.pw.entry.map (·.answered)) = some (some s.clock) ∧ (∀ m, m ≠ n →
    t.slot m = s.slot m) ∧ t.regs = s.regs ∧ { t with host := s.host, pw := s.pw } = s) ∧
  (∀ (s : State) (n : Nat) (c : MbCopy), s.mbxReady n 0x20 c → fieldAt c.args 0 1 = 2 →
    s.pw.entry = none → s.powerRefused 2 = false → s.pw.pfail = none → s.dozeReady = true →
    ∃ t, exec (.powerNap n) s = .next t ∧ t.pw.mode = .doze ∧ t.pw.entry = some { target := .nap, cmd := some n } ∧
    t.reg .CORE_MHZ = 300 ∧ t.reg .ENTRY_BUSY = 1 ∧ t.host = s.host ∧ t.q = s.q ∧ t.lm.mem = s.lm.mem ∧ t.md = s.md) ∧
  (∀ (s : State) (n : Nat) (c : MbCopy), s.mbxReady n 0x20 c → s.pw.entry = none →
    (fieldAt c.args 0 1 = 2 → s.powerRefused 2 = true → ∃ t, exec (.powerNap n) s = .next t ∧
    s.Answered t n (failResp St.stateRefused 0)) ∧ (fieldAt c.args 0 1 = 3 →
    (s.powerRefused 3 = true ∨ s.hibBarred = true ∨ (s.staysNap = true ∧ bit c.flags 1 = false)) →
    ∃ t, exec (.powerHibernate n) s = .next t ∧ s.Answered t n (failResp St.stateRefused 0))) ∧
  (∀ (s : State) (n : Nat) (c : MbCopy), s.mbxReady n 0x20 c → fieldAt c.args 0 1 = 1 → s.pw.entry = none →
    (s.pw.hold = true ∨ s.reg .DEEPEST_STATE < 1) → ∃ t, exec (.powerDoze n) s = .next t ∧
    s.Answered t n (failResp St.stateRefused 0))

/-- The idle timers (R96-R98), the Nap commit point (R99) and the Hibernate commit point (R101-R104, 20 R821). -/
def Obligations.IdleTimersAndCommitPointsLowerTheState : Prop :=
  (∀ (s : State), s.idleMay 1 = true → s.dozeReady = true → 0 < s.reg .DOZE_IDLE_MS →
    max s.pw.idleFrom s.sp.restAt + 1000 * s.reg .DOZE_IDLE_MS ≤ s.clock →
    ∃ t, exec .dozeIdleExpiry s = .next t ∧ t.pw.mode = .doze ∧ t.reg .CORE_MHZ = 300 ∧
    RegsKept (.CORE_MHZ :: [.H_BASE, .H_LIMIT, .H_READ, .H_WRITE, .H_APPEND, .H_VALID, .H_BOBBIN, .H_LEASE, .H_GEN,
    .BB_HOLDER]) s t ∧ { t with regs := s.regs, pw := s.pw } = s) ∧
  (∀ (s : State), s.idleMay 2 = true → s.pw.mode = .doze → 0 < s.reg .NAP_IDLE_S →
    s.pw.idleFrom + 1000000 * s.reg .NAP_IDLE_S ≤ s.clock → ∃ t, exec .napIdleExpiry s = .next t ∧
    t.pw.entry = some { target := .nap } ∧ t.reg .ENTRY_BUSY = 1 ∧
    RegsKept [.ENTRY_BUSY] s t ∧ { t with regs := s.regs, pw.entry := s.pw.entry } = s) ∧
  (∀ (s : State) (e : Entry), s.pw.entry = some e → e.target = .nap → e.cmd = none → s.napReady none = true →
    ∃ t, exec .napCommit s = .next t ∧ t.pw.mode = .nap ∧ t.pw.entry = none ∧ t.pw.driveDie = false ∧
    t.reg .CLK_CORE = 0 ∧ t.reg .CLK_MEMORY = 0 ∧ t.reg .CORE_MHZ = 0 ∧ t.reg .ENTRY_BUSY = 0 ∧ t.lm = s.lm ∧
    t.q = s.q ∧ t.md = s.md) ∧
  (∀ (s : State) (n : Nat) (e : Entry), n < 4 → s.pw.entry = some e → e.target = .nap → e.cmd = some n →
    e.answered = none → s.napReady (some n) = true → ∃ t, exec .napCommit s = .next t ∧
    (t.slot n).resp = some (okResp [2]) ∧ t.pw.entry = some { e with answered := some s.clock } ∧
    t.pw.mode = .doze ∧ (∀ m, m ≠ n → t.slot m = s.slot m) ∧ t.regs = s.regs ∧
    { t with host := s.host, pw := s.pw } = s) ∧
  (∀ (s : State), s.idleMay 3 = true → s.pw.mode = .nap → s.pw.hibTried = false →
    0 < s.reg .HIB_IDLE_S → s.pw.idleFrom + 1000000 * s.reg .HIB_IDLE_S ≤ s.clock →
    s.hibBarred = false → s.pendingBytes = 0 → ∃ t, exec .hibIdleExpiry s = .next t ∧ (s.staysNap = true →
    t = { s with pw.hibTried := true }) ∧ (s.staysNap = false → t.pw.entry = some { target := .hibernate } ∧
    t.reg .ENTRY_BUSY = 1) ∧ RegsKept [.ENTRY_BUSY] s t ∧ { t with regs := s.regs, pw := s.pw } = s) ∧
  (∀ (s : State) (e : Entry), s.pw.mode = .nap → s.pw.entry = some e → e.target = .hibernate → e.cmd = none →
    e.force = false → s.hibBarred = false → s.on .GOOD_PENDING = false → s.pw.pfail = none → s.pw.waking = none →
    ∃ t, exec .hibernateCommit s = .next t ∧ t.pw.mode = .hibernate ∧ t.pw.entry = none ∧
    t.pw.pwrMainEn = false ∧ t.pw.ddrResetN = false ∧ t.reg .POOL_STATE = 0 ∧ t.reg .ENTRY_BUSY = 0 ∧
    t.q = {} ∧ t.lm.mem = [] ∧ t.lm.lease = List.replicate 10 none ∧ t.md.cart = s.md.cart ∧
    t.sec.devKey = s.sec.devKey ∧ t.bb = s.bb)

/-- WAKE_EVENT (R106-R110, Table 3.5), RTC_ALARM_FIRE (R124) and WAKE_EXIT_COMPLETE (R99, R107). -/
def Obligations.WakeSourcesBringTheK760BackToRun : Prop :=
  (∀ (s : State) (source : Nat), source < 8 → (s.pw.mode = .doze ∨ s.pw.mode = .nap) → (s.pw.mode = .doze →
    source ≠ 4) → s.pw.entry = none → s.pw.waking = none → s.wakeEnabled source = true →
    ∃ t, exec (.wakeEvent source) s = .next t ∧ t.pw.waking = some s.pw.mode ∧ t.pw.mode = s.pw.mode ∧
    t.reg .WAKE_CAUSE = source ∧ t.reg .WAKE_FROM = s.pw.mode.code ∧
    RegsKept (([.WAKE_CAUSE, .WAKE_FROM] : List RegName) ++ beadRegs) s t ∧
    { t with regs := s.regs, pw.waking := none, host.wakeN := s.host.wakeN } = s) ∧
  (∀ (s : State) (source : Nat), source < 8 → (s.pw.mode = .doze ∨ s.pw.mode = .nap) → (s.pw.mode = .doze →
    source ≠ 4) → s.pw.entry = none → s.wakeEnabled source = false → ∃ t, exec (.wakeEvent source) s = .next t ∧
    bit (t.reg .WAKE_PENDING) source = true ∧ (∀ k, k < 8 → k ≠ source →
    bit (t.reg .WAKE_PENDING) k = bit (s.reg .WAKE_PENDING) k) ∧
    RegsKept [.WAKE_PENDING] s t ∧ { t with regs := s.regs } = s) ∧
  (∀ (s : State), s.pw.mode = .nap → s.pw.wardenUp = true → s.pw.entry = none → s.pw.waking = none →
    s.pw.alarmFired = false → s.reg .RTC_ALARM ≠ 0 → s.reg .RTC_ALARM ≤ s.now → s.wakeEnabled 1 = true →
    ∃ t, exec .rtcAlarmFire s = .next t ∧ t.pw.alarmFired = true ∧ t.pw.waking = some .nap ∧
    t.reg .WAKE_CAUSE = 1 ∧ t.reg .WAKE_FROM = 2 ∧ RegsKept (([.WAKE_CAUSE, .WAKE_FROM] : List RegName) ++ beadRegs) s
    t) ∧
  (∀ (s : State) (m : PowerMode), s.pw.mode = m → (m = .doze ∨ m = .nap) → s.pw.waking.isSome = true →
    s.pw.entry = none → s.noDisc → s.bu.active = false → s.bu.block = none →
    ∃ t, exec .wakeExitComplete s = .next t ∧ t.pw.mode = .run ∧ t.pw.waking = none ∧ t.pw.driveDie = true ∧
    t.reg .CORE_MHZ = 1200 ∧ (m = .nap → t.reg .CLK_CORE = 1 ∧ t.reg .CLK_MEMORY = 1) ∧ t.q = s.q ∧
    t.md = s.md ∧ t.sec = s.sec)

/-- PFAIL_ASSERT (R115-R120), PFAIL_SPINUP_TIMEOUT (R120) and PFAIL_RELEASE (R121). -/
def Obligations.PowerFailureShutsDownAndReturns : Prop :=
  (∀ (s : State) (tRem : Nat), s.pw.wardenUp = true → s.pw.pfail = none → s.pw.pwrMainEn = true →
    ∃ t, exec (.pfailAssert tRem) s = .next t ∧ t.reg .PFAIL_ACTIVE = 1 ∧
    t.reg .PFAIL_COUNT = min (s.reg .PFAIL_COUNT + 1) (2 ^ 32 - 1) ∧ t.pw.pfail.isSome = true ∧
    t.md.cart.isSome = s.md.cart.isSome ∧ t.time = s.time ∧ t.sec.devKey = s.sec.devKey) ∧
  (∀ (s : State) (tRem : Nat), s.pw.wardenUp = true → s.pw.pfail = none → s.pw.pwrMainEn = false →
    ∃ t, exec (.pfailAssert tRem) s = .next t ∧ t.reg .PFAIL_ACTIVE = 1 ∧ Counted .PFAIL_COUNT s t ∧
    t.reg .PFAIL_OUTCOME = 3 ∧ t.pw = { s.pw with pfail := some { since := s.clock, shut := true } } ∧
    RegsKept [.PFAIL_ACTIVE, .PFAIL_COUNT, .PFAIL_OUTCOME] s t ∧ { t with regs := s.regs, pw := s.pw } = s) ∧
  (∀ (s : State) (p : PFail) (by' : Nat), s.pw.pfail = some p → p.shut = false → p.spinupBy = some by' →
    by' ≤ s.clock → s.on .SP_LOCKED = false → ∃ t, exec .pfailSpinupTimeout s = .next t ∧
    t.bu.active = false ∧ t.bu.block = none ∧ t.pw.pfail.map (·.shut) = some true ∧
    t.reg .PFAIL_OUTCOME = (if p.abandoned = true then 2 else if p.flushed ≠ 0 then 1 else 3) ∧
    t.time = s.time ∧ t.md.cart = s.md.cart ∧ t.q = s.q) ∧
  (∀ (s : State) (p : PFail), s.pw.pfail = some p → s.pw.wakeLater = none →
    ∃ t, exec (.pfailRelease true) s = .next t ∧ t.reg .PFAIL_ACTIVE = 0 ∧ t.pw.pfail = none ∧ t.time = s.time ∧
    t.sec = s.sec) ∧
  (∀ (s : State), s.pw.pfail.isSome = true → ∃ t, exec (.pfailRelease false) s = .next t ∧ t = s)

/-- SLOW_CRYSTAL_STOP, WARDEN_RC_CALIBRATE and CRYSTAL_RETURN (R125), REFERENCE_START_TIMEOUT (R126),
SERVO_PLL_UNLOCK (R127) and CORE_PLL_LOSS (R128). -/
def Obligations.ClocksAreWatched : Prop :=
  (∀ (s : State), s.pw.wardenUp = true → s.on .SLOW_RC = false → ∃ t, exec .slowCrystalStop s = .next t ∧
    t.reg .SLOW_RC = 1 ∧ t.reg .TIME_UNSET = 1 ∧ t.reg .TIME_STATE = 0 ∧ t.reg .CLK_XTAL32 = 0 ∧
    t.time = s.time ∧ RegsKept (([.SLOW_RC, .TIME_UNSET, .TIME_STATE, .CLK_XTAL32] : List RegName) ++ bookRegs) s t ∧
    { t with regs := s.regs, host := s.host, pw := s.pw, tb := s.tb, bb := s.bb } = s) ∧
  (∀ (s : State) (good : Bool) (ppm : Int), s.on .CLK_REF25 = true →
    s.pw.rcAt.all (fun t => decide (t + 1000000 ≤ s.clock)) = true →
    ∃ t, exec (.wardenRcCalibrate good ppm) s = .next t ∧ t =
    { s with pw := { s.pw with rcCorrection := ppm, rcAt := some s.clock, xtalGood := if good then s.pw.xtalGood + 1
                                 else 0 } }) ∧
  (∀ (s : State), s.pw.wardenUp = true → s.on .SLOW_RC = true → (s.pw.xtalStart = true ∨ 10 ≤ s.pw.xtalGood) →
    ∃ t, exec .crystalReturn s = .next t ∧ t.reg .SLOW_RC = 0 ∧ t.reg .CLK_XTAL32 = 1 ∧
    t.pw = { s.pw with xtalStart := false } ∧ RegsKept [.SLOW_RC, .CLK_XTAL32] s t ∧
    { t with regs := s.regs, pw := s.pw } = s) ∧
  (∀ (s : State), s.pw.mode = .boot → s.pw.mainPgood = true → s.pw.railAt + 20000 ≤ s.clock →
    ∃ t, exec .referenceStartTimeout s = .next t ∧ t.pw.pwrMainEn = false ∧ t.pw.mainPgood = false ∧
    t.pw.refTries = s.pw.refTries + 1 ∧ t.reg .CLK_REF25 = 0 ∧ t.pw.mode = (if s.bo.source = .hibernate then
    .hibernate else .boot) ∧ (3 ≤ s.pw.refTries + 1 → t.pw.refFailed = true) ∧
    RegsKept (.CLK_REF25 :: bookRegs) s t ∧ { t with regs := s.regs, host := s.host, pw := s.pw, bb := s.bb } = s) ∧
  (∀ (s : State) (ch : Bool), (if ch then s.channelOn else s.on .CLK_SERVO) = true → s.bu.block = none →
    s.bu.redo = none → s.md.realloc = none → s.md.session = none →
    ∃ t, exec (.servoPllUnlock ch true) s = .next t ∧ t.bu.gate = false ∧
    t.reg .CLK_SERVO = s.reg .CLK_SERVO ∧ RegsKept bookRegs s t ∧
    { t with regs := s.regs, host := s.host, bb := s.bb, bu.gate := s.bu.gate } = s) ∧
  (∀ (s : State) (ch : Bool), (if ch then s.channelOn else s.on .CLK_SERVO) = true →
    ∃ t, exec (.servoPllUnlock ch false) s = .next t ∧ t.bu.gate = false ∧ t.bu.active = false ∧
    t.reg .DISC_SERVICE = 3 ∧ t.reg .OOS_CODE = Code.fastPllUnlock ∧ t.reg .FOCUS_LOCK = 0 ∧
    t.reg .TRACK_LOCK = 0 ∧ (ch = false → t.reg .CLK_SERVO = 0)) ∧
  (∀ (s : State) (mem : Bool) (fl : List Nat), (s.pw.mode = .run ∨ s.pw.mode = .doze) →
    ∃ t, exec (.corePllLoss mem fl) s = .next t ∧ t.pw.mode = .boot ∧ t.reg .READY = 0 ∧ t.q = {} ∧
    t.bo.source = .master ∧ t.bu = {} ∧ t.md.cart.isSome = s.md.cart.isSome ∧ t.sec.devKey = s.sec.devKey ∧
    t.time = s.time)

/-! ## Supply, rails, resets, the boot and the die-to-die link (01, 07, 14, 19, 20) -/

/-- SUPPLY_REMOVED, POWER_ON_RESET (R817), PWR_MAIN_EN and MAIN_PGOOD (R817-R819, R841), RAIL_LOW_VLAS_VANA (R844).
How far the warden comes with a record when the supply goes is the model's choice, log entry 156 (17 R741, R743). -/
def Obligations.SupplyAndRailsBringTheDieUpAndDown : Prop :=
  (∀ (s : State), ∃ t, exec .supplyRemoved s = .next t ∧ t.pw.mode = .off ∧ t.pw.wardenUp = false ∧
    (∀ n i, n.isKept = true → n ≠ .PINNED ∧ n ≠ .BBS_PINS_FULL ∨ s.bb.queue = [] → t.get n i = s.get n i) ∧
    (∀ n i, n.isKept = false → t.get n i = Reg.reset ⟨n, i⟩) ∧ (s.bb.queue = [] → t.bb.bank0 = s.bb.bank0 ∧
    t.bb.bank1 = s.bb.bank1 ∧ t.bb.torn = s.bb.torn) ∧ (∀ k, k ≠ ringSlot (s.reg .BB_NEXT_SEQ) →
    k ≠ s.reg .PINNED → Map.get t.bb.bank0 k = Map.get s.bb.bank0 k ∧
    Map.get t.bb.bank1 k = Map.get s.bb.bank1 k) ∧ t.bo.slots = s.bo.slots ∧
    t.bo.current = s.bo.current ∧ t.sec.devKey = s.sec.devKey ∧ t.md.heads = s.md.heads ∧ t.q = {} ∧
    t.lm = {} ∧ t.md.cart.isSome = s.md.cart.isSome) ∧
  (∀ (s : State), ∃ t, exec .powerOnReset s = .next t ∧ t.pw.mode = .boot ∧ t.pw.wardenUp = true ∧
    t.reg .TIME_UNSET = 1 ∧ t.reg .SLOW_RC = 1 ∧ t.reg .READY = 0 ∧ t.bo.slots = s.bo.slots ∧
    t.bo.current = s.bo.current ∧ t.sec.devKey = s.sec.devKey ∧ t.md.heads = s.md.heads ∧ t.q = {} ∧
    t.lm = {} ∧ t.md.cart.isSome = s.md.cart.isSome ∧ t.bb.torn = [] ∧ (s.bb.queue = [] → s.bb.torn = [] →
    s.bb.bank1 = s.bb.bank0 → t.bb.bank0 = s.bb.bank0 ∧ t.bb.bank1 = s.bb.bank0)) ∧
  (∀ (s : State), s.pw.wardenUp = true → s.pw.mode = .boot → s.pw.pwrMainEn = false →
    s.pw.pfail = none → s.pw.refFailed = false → ∃ t, exec .pwrMainEnRaise s = .next t ∧
    t = { s with pw := { s.pw with pwrMainEn := true, railAt := s.clock } }) ∧
  (∀ (s : State), s.pw.pwrMainEn = true → s.pw.mainPgood = false →
    ∃ t, exec .mainPgoodRise s = .next t ∧ t.pw.mainPgood = true ∧ t.pw.ddrResetN = false ∧
    t.pw.railFault = false ∧ t.reg .CLK_REF25 = 1 ∧ t.pw.mode = (if s.pw.mode = .hibernate then .boot else s.pw.mode)
    ∧ RegsKept [.CLK_REF25] s t ∧ { t with regs := s.regs, pw := s.pw, bo.source := s.bo.source } = s) ∧
  (∀ (s : State), s.pw.pwrMainEn = true → s.pw.mainPgood = false → s.pw.railAt + 20000 ≤ s.clock →
    ∃ t, exec .mainPgoodTimeout s = .next t ∧ t.pw.pwrMainEn = false ∧ t.pw.refTries = s.pw.refTries + 1 ∧
    t.reg .CLK_REF25 = 0 ∧ RegsKept (.CLK_REF25 :: bookRegs) s t ∧
    { t with regs := s.regs, host := s.host, pw := s.pw, bb := s.bb } = s) ∧
  (∀ (s : State), s.pw.mainPgood = true → s.pw.pwrMainEn = true → s.pw.mode ≠ .boot →
    ∃ t, exec .mainPgoodFall s = .next t ∧ t.pw.mainPgood = false ∧ t.pw.railFault = true ∧ t.pw.mode = .boot ∧
    t.reg .READY = 0 ∧ t.q = {} ∧ t.bu = {} ∧ t.bo.source = .master ∧ t.lm.mem = s.lm.mem ∧ t.lm.recs = s.lm.recs ∧
    (∀ b, t.get .TAIL_OFFSET b = s.get .TAIL_OFFSET b ∧ t.get .HEAD_OFFSET b = s.get .HEAD_OFFSET b) ∧
    t.md.cart.isSome = s.md.cart.isSome ∧ t.sec.devKey = s.sec.devKey ∧ t.time = s.time) ∧
  (∀ (s : State), s.pw.mainPgood = true → s.pw.pwrMainEn = false → ∃ t, exec .mainPgoodFall s = .next t ∧
    t = { s with pw := { s.pw with mainPgood := false } }) ∧
  (∀ (s : State), ∃ t, exec .railLowVlasVana s = .next t ∧ t.reg .LAS_I_BIAS = 0 ∧ t.reg .LAS_I_COOL = 0 ∧
    t.reg .LAS_I_PEAK = 0 ∧ t.reg .LAS_I_OD = 0 ∧ t.reg .APC_LOCK = 0 ∧ (∀ k, k < 3 →
    t.get .CL_DEMAND k = 0) ∧ t.bu.gate = false ∧ t.time = s.time)

/-- MASTER_RESET (07 R329), CORE_WATCHDOG_EXPIRY (R621), SECURITY_WATCHDOG_EXPIRY (R623), BOOT (19 R781-R786),
GOOD_DELAY_EXPIRY (R785), RECOVERY_REBOOT (R797). -/
def Obligations.ResetsAndBootsRestartTheFirmware : Prop :=
  (∀ (s : State) (cause : ResetCause) (fl : List Nat), (s.pw.mode = .run ∨ s.pw.mode = .doze ∨ s.pw.mode = .nap) →
    ∃ t, exec (.masterReset cause fl) s = .next t ∧ t.pw.mode = .boot ∧ t.reg .READY = 0 ∧ t.q = {} ∧
    t.bu = {} ∧ t.bo.source = .master ∧ t.lm.mem = s.lm.mem ∧ t.lm.recs = s.lm.recs ∧
    (∀ b, t.get .TAIL_OFFSET b = s.get .TAIL_OFFSET b ∧ t.get .HEAD_OFFSET b = s.get .HEAD_OFFSET b) ∧
    t.md.cart.isSome = s.md.cart.isSome ∧ t.sec.devKey = s.sec.devKey ∧ t.time = s.time) ∧
  (∀ (s : State) (core : Nat) (fl : List Nat), core < 2 → (s.pw.mode = .run ∨ s.pw.mode = .doze) →
    ∃ t, exec (.coreWatchdogExpiry core fl) s = .next t ∧ t.pw.mode = .boot ∧ t.reg .READY = 0 ∧ t.q = {} ∧
    t.bu = {} ∧ t.bo.source = .master ∧ t.lm.mem = s.lm.mem ∧ t.lm.recs = s.lm.recs ∧
    (∀ b, t.get .TAIL_OFFSET b = s.get .TAIL_OFFSET b ∧ t.get .HEAD_OFFSET b = s.get .HEAD_OFFSET b) ∧
    t.md.cart.isSome = s.md.cart.isSome ∧ t.sec.devKey = s.sec.devKey ∧ t.time = s.time) ∧
  (∀ (s : State), (s.pw.mode = .run ∨ s.pw.mode = .doze) → ∃ t, exec .securityWatchdogExpiry s = .next t ∧
    t.sec = { s.sec with coreDown := true } ∧ t.reg .ENTROPY_STATE = (if s.reg .ENTROPY_STATE = 2 then 2 else 0) ∧
    RegsKept (.ENTROPY_STATE :: bookRegs) s t ∧ { t with regs := s.regs, host := s.host, sec := s.sec, bb := s.bb } =
    s) ∧
  (∀ (s : State) (inp : BootInputs), s.pw.mode = .boot → s.pw.mainPgood = true → s.pw.refFailed = false →
    s.reg .BOOT_MODE ≠ 2 → ∃ t, exec (.boot inp) s = .next t ∧ t.reg .BOOTS = min (s.reg .BOOTS + 1) (2 ^ 32 - 1) ∧
    ((t.pw.mode = .run ∧ t.reg .RUN_SLOT < 2) ∨ (t.reg .BOOT_MODE = 2 ∧ t.reg .RUN_SLOT = 0xFF)) ∧
    t.md.cart.isSome = s.md.cart.isSome) ∧
  (∀ (s : State) (inp : BootInputs) (n : Nat), s.pw.mode = .boot → s.pw.mainPgood = true →
    s.pw.refFailed = false → s.reg .BOOT_MODE ≠ 2 → s.pw.pfail = none → s.host.reset = none →
    32 ≤ inp.sfdpMib.getD 0 → inp.controlOk = (true, true) → n = s.reg .NEXT_SLOT → n < 2 →
    s.slotComplete n = true → s.slotGood n = true → (if n = 0 then inp.slotOk.1 else inp.slotOk.2) = true →
    ∃ t, exec (.boot inp) s = .next t ∧ t.pw.mode = .run ∧ t.reg .RUN_SLOT = n ∧ t.reg .FELL_BACK = 0 ∧
    t.reg .READY = 1 ∧ t.reg .CORE_MHZ = 1200) ∧
  (∀ (s : State) (inp : BootInputs) (n : Nat), s.pw.mode = .boot → s.pw.mainPgood = true →
    s.pw.refFailed = false → s.reg .BOOT_MODE ≠ 2 → 32 ≤ inp.sfdpMib.getD 0 → inp.controlOk = (true, true) →
    n = s.reg .NEXT_SLOT → n < 2 → (if n = 0 then inp.slotOk.1 else inp.slotOk.2) = false →
    s.slotComplete (1 - n) = true → s.slotGood (1 - n) = true →
    (if n = 0 then inp.slotOk.2 else inp.slotOk.1) = true → ∃ t, exec (.boot inp) s = .next t ∧
    t.pw.mode = .run ∧ t.reg .RUN_SLOT = 1 - n ∧ t.reg .FELL_BACK = 1 ∧
    t.reg .NEXT_SLOT = (if s.slotGood n then n else 1 - n)) ∧
  (∀ (s : State) (inp : BootInputs), s.pw.mode = .boot → s.pw.mainPgood = true → s.pw.refFailed = false →
    s.reg .BOOT_MODE ≠ 2 → 32 ≤ inp.sfdpMib.getD 0 → inp.slotOk = (false, false) →
    ∃ t, exec (.boot inp) s = .next t ∧ t.reg .BOOT_MODE = 2 ∧ t.reg .RUN_SLOT = 0xFF ∧ t.pw.mode = .boot) ∧
  (∀ (s : State) (inp : BootInputs), s.pw.mode = .boot → s.pw.mainPgood = true → s.pw.refFailed = false →
    s.reg .BOOT_MODE ≠ 2 → inp.sfdpMib.getD 0 < 32 → ∃ t, exec (.boot inp) s = .next t ∧ t.reg .BOOT_MODE = 2 ∧
    t.reg .RUN_SLOT = 0xFF ∧ t.reg .DISC_SERVICE = 3 ∧ t.reg .LINK_STATE = 0 ∧ t.pw.mode = .boot) ∧
  (∀ (s : State), s.on .GOOD_PENDING = true → s.reg .RUN_SLOT < 2 →
    s.bo.readyAt.any (fun t => decide (t + 1000000 * s.reg .GOOD_DELAY_S ≤ s.clock)) = true →
    ∃ t, exec .goodDelayExpiry s = .next t ∧ t.slotGood (s.reg .RUN_SLOT) = true ∧
    t.reg .GOOD_PENDING = 0 ∧ t.bo.attempts = s.bo.attempts.set (s.reg .RUN_SLOT) 0 ∧
    RegsKept (([.A_GOOD, .B_GOOD, .GOOD_PENDING, .ATTEMPTS] : List RegName) ++ bookRegs) s t ∧
    { t with regs := s.regs, host := s.host, bo := s.bo, bb := s.bb } = s) ∧
  (∀ (s : State), s.reg .BOOT_MODE = 2 → s.pw.mode = .boot → s.bo.rcvDone = true →
    s.host.claim ≠ 2 → s.host.releasedAt + 1000000 ≤ s.clock → ∃ t, exec .recoveryReboot s = .next t ∧
    t.reg .BOOT_MODE = 0 ∧ t.pw = s.pw ∧ t.bo = { s.bo with rcvDone := false } ∧ t.pw.mode = .boot ∧
    t.lm = s.lm ∧ t.host = s.host)

/-- D2D_LINK_LOSS (R42, R43) and D2D_RETRAIN_DONE (R44, R45, 07 R338). -/
def Obligations.TheDieToDieLinkFailsSafe : Prop :=
  (∀ (s : State) (fl : List Nat), (s.pw.mode = .run ∨ s.pw.mode = .doze) → s.pw.d2dDown = false →
    ∃ t, exec (.d2dLinkLoss fl) s = .next t ∧ t.pw.d2dDown = true ∧ t.bu.gate = false ∧ t.reg .LAS_I_BIAS = 0 ∧
    t.reg .LAS_I_COOL = 0 ∧ t.reg .LAS_I_PEAK = 0 ∧ t.reg .LAS_I_OD = 0 ∧ (∀ k, k < 3 →
    t.get .CL_DEMAND k = 0) ∧ t.reg .FOCUS_LOCK = 0 ∧ t.reg .TRACK_LOCK = 0 ∧
    t.reg .POOL_STATE = (if s.reg .POOL_STATE = 1 then 2 else s.reg .POOL_STATE)) ∧
  (∀ (s : State) (u : Nat), u < 1024 → s.pw.d2dDown = true → s.pw.d2dFailed = false → s.d2dHeld = false →
    ∃ t, exec (.d2dRetrainDone true u) s = .next t ∧ t.pw = { s.pw with d2dDown := false } ∧
    t.st.d2dUntil = none ∧ t.reg .POOL_STATE = (if s.reg .POOL_STATE = 2 then 1 else s.reg .POOL_STATE) ∧
    (u = s.ustepIndex → t.reg .SL_POS_VALID = s.reg .SL_POS_VALID) ∧ (u ≠ s.ustepIndex →
    t.on .SL_POS_VALID = false) ∧ RegsKept (([.POOL_STATE, .SL_POS_VALID, .SL_STATE, .SL_PROVISIONAL, .RETAIN_POS,
    .RETAIN_VALID, .POS_SLIPS] : List RegName) ++ bookRegs) s t) ∧
  (∀ (s : State) (ok : Bool) (u : Nat), u < 1024 → s.pw.d2dDown = true → s.pw.d2dFailed = false →
    (ok = false ∨ s.d2dHeld = true) → ∃ t, exec (.d2dRetrainDone ok u) s = .next t ∧ t.pw.d2dFailed = true ∧
    t.reg .DISC_SERVICE = 3 ∧ t.reg .OOS_CODE = Code.d2dFailed ∧ t.bu.active = false ∧
    t.bu.block = none ∧ t.md.cart.isSome = s.md.cart.isSome ∧ t.sec = s.sec)

/-! ## Parameter pages, and the rows of PARAM_SET with a behaviour of their own (06; 03, 08, 10, 11, 13, 18, 19) -/

/-- PARAM_GET (R238, R239) and PARAM_SET (R240-R242). -/
def Obligations.ParameterPagesAreReadAndWritten : Prop :=
  (∀ (s : State) (n : Nat) (c : MbCopy), s.mbxReady n 1 c → s.pageBarred c.pset.page false = false →
    rangeFault c.pset.page c.pset.off c.pset.len false = none → ∃ t, exec (.paramGet n) s = .next t ∧
    s.Answered t n (okResp [] (bytesAt (s.pageBytes c.pset.page) c.pset.off c.pset.len))) ∧
  (∀ (s : State) (n : Nat) (c : MbCopy) (st d : Nat), s.mbxReady n 1 c →
    s.pageBarred c.pset.page false = false → rangeFault c.pset.page c.pset.off c.pset.len false = some (st, d) →
    ∃ t, exec (.paramGet n) s = .next t ∧ s.Answered t n (failResp st d)) ∧
  (∀ (s : State) (n : Nat) (c : MbCopy), s.mbxReady n 2 c → s.pw.entry = none → s.setFault c s.draw.1 = none →
    c.sets .RCV_CLOSE = false → ∃ t, exec (.paramSet n) s = .next t ∧
    (∀ x ∈ c.pset.writes, x.1.name.info.access = .rw ∧ x.1.name ≠ .GPIO_OUT → t.get x.1.name x.1.idx = x.2) ∧
    (∀ n i, n.info.access = .rw → n ≠ .GPIO_OUT → (∀ x ∈ c.pset.writes, x.1.name = n → x.1.idx ≠ i) →
    t.get n i = s.get n i) ∧ s.Told t n (okResp (leBytes 1 (b2n (c.pset.writes.any s.defers))))) ∧
  (∀ (s : State) (n : Nat) (c : MbCopy) (st d : Nat), s.mbxReady n 2 c → c.pset.page ≠ 0x810 →
    s.setFault c s.draw.1 = some (st, d) → ∃ t, exec (.paramSet n) s = .next t ∧ s.Told t n (failResp st d) ∧
    RegsKept [.USTEP_BAD_INDEX, .BQ_BAD_SECTION] s t ∧ { t with regs := s.regs, host := s.host } = s)

/-- HOLDUP_LOCK_SET, HOLDUP_UNLOCK (03 R123), USTEP_APPLY (10 R443-R445), BQ_APPLY (11 R495-R497), CAL_NOW (13
R589), SET_DEFAULTS (19 R793). -/
def Obligations.LocksAndDeferredEffectsOfParameterWrites : Prop :=
  (∀ (s : State) (n : Nat) (c : MbCopy), s.mbxReady n 2 c → s.pw.entry = none → s.setFault c s.draw.1 = none →
    c.sets .HOLDUP_LOCK = true → ∃ t, exec (.holdupLockSet n) s = .next t ∧ t.reg .HOLDUP_LOCK = 1 ∧
    (s.on .HOLDUP_LOCK = false → t.reg .HOLDUP_MRAM = t.reg .HOLDUP_MS % 2 ^ 32) ∧
    s.Told t n (okResp (leBytes 1 (b2n (c.pset.writes.any s.defers))))) ∧
  (∀ (s : State) (n : Nat) (c : MbCopy), s.mbxReady n 2 c → s.pw.entry = none → s.setFault c s.draw.1 = none →
    c.sets .HOLDUP_UNLOCK = true → c.sets .HOLDUP_LOCK = false → s.on .HOLDUP_LOCK = true →
    ∃ t, exec (.holdupUnlock n) s = .next t ∧ t.reg .HOLDUP_LOCK = 0 ∧
    s.Told t n (okResp (leBytes 1 (b2n (c.pset.writes.any s.defers))))) ∧
  (∀ (s : State) (n : Nat) (c : MbCopy), s.mbxReady n 2 c → s.pw.entry = none →
    s.setFault c s.draw.1 = none → c.pset.page = 0x110 → c.sets .USTEP_APPLY = true → s.sl.target = none →
    s.sl.homing = none → ∃ t, exec (.ustepApply n) s = .next t ∧ (∀ i, i < 256 →
    t.get .USTEP_ACTIVE i = s.get .USTEP_T i % 1024) ∧ t.reg .SL_TABLE_PENDING = 0 ∧ t.reg .USTEP_APPLY = 0 ∧
    t.reg .USTEP_BAD_INDEX = 0xFFFF ∧ t.sl = { s.sl with tableWaits := false } ∧
    s.Told t n (okResp (leBytes 1 (b2n (c.pset.writes.any s.defers))))) ∧
  (∀ (s : State), s.sl.tableWaits = true → ∃ t, exec .ustepTableActivate s = .next t ∧ (∀ i, i < 256 →
    t.get .USTEP_ACTIVE i = s.get .USTEP_T i % 1024) ∧ t.reg .SL_TABLE_PENDING = 0 ∧ t.reg .USTEP_APPLY = 0 ∧
    t.sl = { s.sl with tableWaits := false } ∧ RegsKept [.USTEP_ACTIVE, .SL_TABLE_PENDING, .USTEP_APPLY] s t ∧
    { t with regs := s.regs, sl := s.sl } = s) ∧
  (∀ (s : State) (n : Nat) (c : MbCopy) (k : Nat), s.mbxReady n 2 c → s.pw.entry = none →
    s.setFault c s.draw.1 = none → k < 3 → c.pset.page = 0x228 + k → c.sets .BQ_APPLY = true →
    ∃ t, exec (.bqApply n) s = .next t ∧ t.reg .BQ_PENDING = 1 ∧ t.sv.bqWaiting.contains k = true ∧
    t.get .BQ_APPLY k = 1 ∧ (∀ i, t.get .BQ_ACTIVE i = s.get .BQ_ACTIVE i) ∧
    s.Told t n (okResp (leBytes 1 (b2n (c.pset.writes.any s.defers))))) ∧
  (∀ (s : State) (k : Nat), k < 3 → s.sv.bqWaiting.contains k = true →
    (s.loopClosed k = false ∨ (s.bu.gate = false ∧ s.reg .SV_STATE ≠ 4 ∧ s.reg .SV_STATE ≠ 5)) →
    ∃ t, exec (.bqActivate k) s = .next t ∧ (∀ i, i < 20 → t.get .BQ_ACTIVE (20 * k + i) = s.get .BQ_COEF (20 * k + i)
    % 2 ^ 24) ∧ t.get .BQ_APPLY k = 0 ∧ t.sv.bqWaiting = s.sv.bqWaiting.erase k ∧
    t.reg .BQ_PENDING = b2n (!t.sv.bqWaiting.isEmpty) ∧ RegsKept [.BQ_ACTIVE, .BQ_APPLY, .BQ_PENDING] s t ∧
    { t with regs := s.regs, sv := s.sv } = s) ∧
  (∀ (s : State) (n : Nat) (c : MbCopy) (m : Nat), s.mbxReady n 2 c → s.pw.entry = none →
    s.setFault c s.draw.1 = none → c.sets .CAL_NOW = true → wrote1 c.pset.writes .CAL_NOW = some m →
    ∃ t, exec (.calNow n) s = .next t ∧ t.reg .CAL_DUE % 256 = (s.reg .CAL_DUE ||| (m + 16 * m)) % 256 ∧
    t.reg .CAL_NOW = (s.reg .CAL_NOW ||| m) % 16 ∧ s.Told t n (okResp (leBytes 1 (b2n (c.pset.writes.any s.defers)))))
    ∧
  (∀ (s : State) (n : Nat) (c : MbCopy), s.mbxReady n 2 c → s.pw.entry = none → s.setFault c s.draw.1 = none →
    c.sets .SET_DEFAULTS = true → c.pset.page = 0x800 → ∃ t, exec (.setDefaults n) s = .next t ∧
    t.reg .SET_DEFAULTS = 1 ∧ s.Told t n (okResp [1]))

/-- GPIO_OUT_WRITE, GPIO_MASKED_UPDATE (18 R762-R764), GPIO_LOCK_KEY (R767-R769), CANMAP_WRITE (08 R371),
TALLY_SOURCE_WRITE (R386), RCV_DATA_WRITE, RCV_CLOSE (19 R796, R797). -/
def Obligations.PinsSignalMapAndRecoveryWrites : Prop :=
  (∀ (s : State) (n : Nat) (c : MbCopy) (v : Nat), s.mbxReady n 2 c → s.pw.entry = none →
    s.setFault c s.draw.1 = none → wrote1 c.pset.writes .GPIO_OUT = some v → c.sets .GPIO_UPD_MASK true = false →
    ∃ t, exec (.gpioOutWrite .host n 0) s = .next t ∧ (∀ p, p < 24 →
    bit (t.reg .GPIO_OUT) p = if s.pinOwner p = 0 then bit v p else bit s.gpioOutNow p) ∧
    s.Told t n (okResp (leBytes 1 (b2n (c.pset.writes.any s.defers))))) ∧
  (∀ (s : State) (w : PinOwner) (n : Nat) (v : BitVec 24), w ≠ .host → w ≠ .warden →
    (s.pw.mode = .run ∨ s.pw.mode = .doze) → ∃ t, exec (.gpioOutWrite w n v) s = .next t ∧ (∀ p, p < 24 →
    bit (t.reg .GPIO_OUT) p = if s.pinOwner p = ownerCode w then bit v.toNat p else bit s.gpioOutNow p) ∧
    RegsKept (([.GPIO_OUT, .GP_VIOLATIONS] : List RegName) ++ bookRegs) s t ∧
    { t with regs := s.regs, host := s.host, bb := s.bb } = s) ∧
  (∀ (s : State) (n : Nat) (c : MbCopy) (m v : Nat), s.mbxReady n 2 c → s.pw.entry = none →
    s.setFault c s.draw.1 = none → wrote1 c.pset.writes .GPIO_UPD_MASK = some m →
    wrote1 c.pset.writes .GPIO_UPD_VALUE = some v → c.sets .GPIO_OUT true = false →
    ∃ t, exec (.gpioMaskedUpdate n) s = .next t ∧ (∀ p, p < 24 → bit (t.reg .GPIO_OUT) p = if s.pinOwner p = 0 ∧
    bit m p = true then bit v p else bit s.gpioOutNow p) ∧ s.Told t n (okResp (leBytes 1 (b2n (c.pset.writes.any
    s.defers))))) ∧
  (∀ (s : State) (n : Nat) (c : MbCopy) (m : Nat), s.mbxReady n 2 c → s.pw.entry = none →
    s.setFault c s.draw.1 = none → wrote1 c.pset.writes .GPIO_LOCK_KEY = some m → s.reg .LOCK_STEP = 0 →
    ∃ t, exec (.gpioLockKey n) s = .next t ∧ t.reg .LOCK_STEP = 1 ∧
    t.gp = { s.gp with lockMask := m, lockAt := s.clock } ∧ t.reg .GPIO_LOCKED = s.reg .GPIO_LOCKED ∧
    s.Told t n (okResp (leBytes 1 (b2n (c.pset.writes.any s.defers))))) ∧
  (∀ (s : State) (n : Nat) (c : MbCopy) (m : Nat), s.mbxReady n 2 c → s.pw.entry = none →
    s.setFault c s.draw.1 = none → wrote1 c.pset.writes .GPIO_LOCK_KEY = some m → s.reg .LOCK_STEP = 2 →
    s.clock ≤ s.gp.lockAt + 100000 → s.gp.lockMask = m → ∃ t, exec (.gpioLockKey n) s = .next t ∧
    t.reg .LOCK_STEP = 0 ∧ (∀ p, p < 24 → bit (t.reg .GPIO_LOCKED) p = (bit m p || bit (s.reg .GPIO_LOCKED) p)) ∧
    s.Told t n (okResp (leBytes 1 (b2n (c.pset.writes.any s.defers))))) ∧
  (∀ (s : State) (n : Nat) (c : MbCopy), s.mbxReady n 2 c → s.pw.entry = none → s.setFault c s.draw.1 = none →
    0x330 ≤ c.pset.page → c.pset.page ≤ 0x337 → ∃ t, exec (.canmapWrite n) s = .next t ∧
    (∀ x ∈ c.pset.writes, t.get x.1.name x.1.idx = x.2 ∧ (x.2 ≠ s.get x.1.name x.1.idx →
    t.get .CANVAL x.1.idx = 0)) ∧ s.Told t n (okResp (leBytes 1 (b2n (c.pset.writes.any s.defers))))) ∧
  (∀ (s : State) (n : Nat) (c : MbCopy) (k v : Nat), s.mbxReady n 2 c → s.pw.entry = none →
    s.setFault c s.draw.1 = none → c.pset.page = 0x328 → k < 8 → wrote c.pset.writes .TL_START k = some v →
    ∃ t, exec (.tallySourceWrite n) s = .next t ∧ t.get .TL_START k = v ∧ Map.get t.tally k = none ∧
    s.Told t n (okResp (leBytes 1 (b2n (c.pset.writes.any s.defers))))) ∧
  (∀ (s : State) (n : Nat) (c : MbCopy) (o l : Nat), s.mbxReady n 2 c → s.pw.entry = none →
    s.setFault c s.draw.1 = none → c.pset.page = 0x810 → c.pset.off = 0 → c.pset.len = 256 →
    c.sets .RCV_CLOSE = false → c.data.length = 256 → o = fieldAt c.data 4 4 →
    l = fieldAt c.data 2 2 → s.bo.slots.length = 2 → ∃ t, exec (.rcvDataWrite n) s = .next t ∧
    t.reg .RCV_WRITTEN = o + l ∧ t.reg .RCV_STATE = 1 ∧ t.slotBytes (t.reg .RCV_SLOT) o l = (c.data.drop 16).take l ∧
    t.reg .RCV_SLOT = fieldAt c.data 0 1 ∧ s.Told t n (okResp (leBytes 1 (b2n (c.pset.writes.any s.defers))))) ∧
  (∀ (s : State) (n : Nat) (c : MbCopy) (k : Nat), s.mbxReady n 2 c → s.pw.entry = none →
    s.setFault c s.draw.1 = none → c.pset.page = 0x810 → c.sets .RCV_CLOSE = true → c.pset.off = 8 →
    k = s.reg .RCV_SLOT → k ≤ 1 → ∃ t, exec (.rcvClose n) s = .next t ∧ (s.badChunk k = none →
    t.reg .RCV_STATE = 3 ∧ t.reg .NEXT_SLOT = k ∧ t.slotComplete k = true ∧ t.bo.rcvDone = true ∧
    (t.slot n).resp = some okResp) ∧ (∀ j, s.badChunk k = some j → t.reg .RCV_STATE = 4 ∧ t.bo = s.bo ∧
    (t.slot n).resp = some (failResp St.fwBadSignature j)) ∧ t.reg .RCV_CLOSE = 0 ∧ (∀ m, m ≠ n →
    t.slot m = s.slot m) ∧ t.bo.slots = s.bo.slots)

/-! ## Self tests and injections (16) -/

/-- WINDOW_NOW and WINDOW_PASS answer the verdict of a window over a region or granule, or over all of a macro's, in the
turn of its structure; a failing granule is poisoned and counted (R690-R697, R702, R703, R707). SRAM_WINDOW_TIMER and
POOL_WINDOW_TIMER open the next window when their turn is due; it counts when it closes. With the windows disabled a
WINDOW_NOW runs at once (log entry 150). -/
def Obligations.MemoryWindowsAnswerTheirVerdict : Prop :=
  (∀ (s : State) (n : Nat) (c : MbCopy) (d : Nat), s.testReady n 0x10 c → fieldAt c.args 2 1 < 96 →
    fieldAt c.args 4 8 < 65536 → s.st.windowsOff = false → s.st.granted ≠ some n → s.st.window = none →
    s.windowTurn (fieldAt c.args 2 1) = true → ∃ t, exec (.windowNow n [] d) s = .next t ∧
    s.Told t n (okResp ({ test := 0x10, verdict := 0, duration := d } : Verdict16).bytes) ∧
    Counted .WINDOWS_RUN s t ∧ RegsKept (.WINDOWS_RUN :: beadRegs) s t ∧
    t.st = (s.takeTurn (fieldAt c.args 2 1)).st ∧ { t with regs := s.regs, host := s.host, st := s.st } = s.rested) ∧
  (∀ (s : State) (n : Nat) (c : MbCopy) (cells : FailCells) (d g : Nat), s.testReady n 0x10 c →
    fieldAt c.args 2 1 = 0xFF → fieldAt c.args 4 8 < s.granules → s.poolUp = true →
    s.st.windowsOff = false → s.st.granted ≠ some n → s.st.window = none → s.windowTurn 0xFF = true →
    s.windowFrom (fieldAt c.args 4 8) s.granules = some g → ∃ t, exec (.windowNow n cells d) s = .next t ∧
    (t.poisoned g = (!cells.isEmpty || s.poisoned g)) ∧ (cells = [] →
    s.Told t n (okResp ({ test := 0x10, verdict := 0, duration := d } : Verdict16).bytes)) ∧ (cells ≠ [] →
    ((t.slot n).resp.map fun r => (r.status, r.result.take 16)) = some (St.success, leBytes 8 0 ++ leBytes 2 0x10 ++
    [1, 0] ++ leBytes 4 g) ∧ Counted .POOL_WIN_FAILS s t) ∧ s.OthersKept t n ∧ Counted .WINDOWS_RUN s t ∧
    t.lm.mem = s.lm.mem ∧ t.pw = s.rested.pw ∧ t.md = s.md ∧ t.q = s.q) ∧
  (∀ (s : State) (n : Nat) (c : MbCopy) (cells : FailCells) (d o : Nat), s.testReady n 0x10 c →
    s.windowArgs (fieldAt c.args 2 1) (fieldAt c.args 4 8) false = some o →
    ∃ t, exec (.windowNow n cells d) s = .next t ∧ s.Told t n (failResp St.outOfRange o) ∧
    t.regs = s.regs ∧ { t with host := s.host } = s.rested) ∧
  (∀ (s : State) (n : Nat) (c : MbCopy) (cells : FailCells) (d : Nat), s.testReady n 0x10 c →
    fieldAt c.args 2 1 < 96 → fieldAt c.args 4 8 < 65536 → s.st.windowsOff = true →
    s.st.granted ≠ some n → s.st.window = none → ∃ t, exec (.windowNow n cells d) s = .next t ∧
    s.Told t n (okResp ({ test := 0x10, verdict := 2, duration := d } : Verdict16).bytes) ∧ t.regs = s.regs) ∧
  (∀ (s : State) (n : Nat) (c : MbCopy) (cells : FailCells) (d : Nat), s.testReady n 0x10 c →
    fieldAt c.args 2 1 < 96 → fieldAt c.args 4 8 < 65536 → s.st.windowsOff = false →
    s.windowTurn (fieldAt c.args 2 1) = false → ∃ t, exec (.windowNow n cells d) s = .next t ∧ t = s) ∧
  (∀ (s : State) (n : Nat) (c : MbCopy) (fails : List (Nat × FailCells)) (d : Nat), s.testReady n 0x11 c →
    fieldAt c.args 2 1 < 96 → s.st.windowsOff = true → s.st.granted ≠ some n → s.st.window = none →
    ∃ t, exec (.windowPass n fails d) s = .next t ∧ s.Told t n (okResp ({ test := 0x11, verdict := 2, duration := d }
    : Verdict16).bytes) ∧ t.regs = s.regs ∧ { t with host := s.host } = s.rested) ∧
  (∀ (s : State) (n : Nat) (c : MbCopy) (d : Nat), s.testReady n 0x11 c → fieldAt c.args 2 1 < 96 →
    s.st.windowsOff = false → s.st.granted ≠ some n → s.st.window = none →
    ∃ t, exec (.windowPass n [] d) s = .next t ∧ s.Told t n (okResp ({ test := 0x11, verdict := 0, duration := d } :
    Verdict16).bytes) ∧ t.reg .WINDOWS_RUN = min (s.reg .WINDOWS_RUN + 16) (2 ^ 32 - 1) ∧
    RegsKept (.WINDOWS_RUN :: beadRegs) s t ∧ { t with regs := s.regs, host := s.host } = s.rested) ∧
  (∀ (s : State) (n : Nat) (c : MbCopy) (fails : List (Nat × FailCells)) (d : Nat), s.testReady n 0x11 c →
    96 ≤ fieldAt c.args 2 1 → fieldAt c.args 2 1 ≠ 0xFF → s.st.window = none →
    ∃ t, exec (.windowPass n fails d) s = .next t ∧ s.Told t n (failResp St.outOfRange 2) ∧
    t.regs = s.regs ∧ { t with host := s.host } = s.rested) ∧
  (∀ (s : State) (cells : FailCells) (p : Bool), (s.pw.mode = .run ∨ s.pw.mode = .doze) →
    s.on .WIN_SRAM_ENABLE = true → s.st.windowsOff = false → s.sramDue = true →
    s.windowAsked (some s.st.nextStruct) = false → s.st.window = none →
    ∃ t, exec (.sramWindowTimer cells p) s = .next t ∧ t.st =
    { s.nextRegion.2.st with sramAt := s.clock, window := some
                               { region := some s.nextRegion.1, cells := cells, saveParity := p, openAt := s.clock } }
    ∧ { t with st := s.st } = s) ∧
  (∀ (s : State) (w : TestWindow) (x : Nat × Nat), (s.pw.mode = .run ∨ s.pw.mode = .doze) →
    s.on .WIN_SRAM_ENABLE = true → s.st.windowsOff = false → s.sramDue = true →
    s.windowAsked (some s.st.nextStruct) = false → s.st.window = some w → w.region = some x →
    w.cells = [] → w.saveParity = false → w.stalled = [] → s.ca.stalled = [] →
    ∃ t, exec (.sramWindowTimer [] false) s = .next t ∧ Counted .WINDOWS_RUN s t ∧
    t.st.window = some { region := some s.nextRegion.1, openAt := s.clock } ∧
    RegsKept (.WINDOWS_RUN :: beadRegs) s t ∧ { t with regs := s.regs, st := s.st } = s) ∧
  (∀ (s : State) (f p o : Bool) (g : Nat), (s.pw.mode = .run ∨ s.pw.mode = .doze) →
    s.on .WIN_POOL_ENABLE = true → s.st.windowsOff = false → s.poolUp = true → s.poolDue = true →
    s.windowAsked none = false → s.st.window = none → s.windowFrom s.st.nextGranule s.granules = some g →
    ∃ t, exec (.poolWindowTimer f p o) s = .next t ∧ t.st =
    { s.st with poolAt := s.clock, nextGranule := g + 1, window := some
                  { region := none, granule := g, saved := s.lm.mem.readN (4096 * g) 4096, fail := f, saveParity := p,
                      otherPoison := o, openAt := s.clock } } ∧ { t with st := s.st } = s) ∧
  (∀ (s : State) (w : TestWindow), (s.pw.mode = .run ∨ s.pw.mode = .doze) →
    s.on .WIN_POOL_ENABLE = true → s.st.windowsOff = false → s.poolUp = true → s.poolDue = true →
    s.windowAsked none = false → s.st.window = some w → w.region = none → w.stalled = [] → s.ca.stalled = [] →
    ∃ t, exec (.poolWindowTimer false false false) s = .next t ∧ Counted .WINDOWS_RUN s t ∧ (w.fail = true →
    Counted .POOL_WIN_FAILS s t) ∧ t.poisoned w.granule = (w.fail || w.saveParity || w.otherPoison || s.poisoned
    w.granule) ∧ t.lm.mem = s.lm.mem ∧ t.q = s.q ∧ t.md = s.md)

/-- LASER_DAC, COIL_SENSE, MOTOR_SENSE, ADC_TONE, SHUTTLE_LOOP, TEMP_CROSS, D2D_LOOP and ALL_ANALOGUE (Table 16.3):
readings within their limits pass; the first that is not is answered with its unit and value, and the disc leaves
service, the lane retires, the sensor has failed or the die-to-die link is down (R699, 12 R561-R563). A test that
affects the servo waits while it runs, or answers BUSY_SERVO (R704), and SERVO_TEST_START gives it its turn (R705). -/
def Obligations.AnalogueTestsAnswerTheirVerdict : Prop :=
  (∀ (s : State) (n : Nat) (c : MbCopy) (codes : List Int) (d : Nat), s.testReady n 0x20 c →
    s.servoReady n → analogueFault 0x20 codes = none → ∃ t, exec (.laserDac n ⟨codes, d⟩) s = .next t ∧
    s.Passed t n 0x20 d) ∧
  (∀ (s : State) (n : Nat) (c : MbCopy) (codes : List Int) (d u : Nat) (v : Int), s.testReady n 0x20 c →
    s.servoReady n → analogueFault 0x20 codes = some (u, v) → ∃ t, exec (.laserDac n ⟨codes, d⟩) s = .next t ∧
    s.FailedOut t n 0x20 u v d) ∧
  (∀ (s : State) (n : Nat) (c : MbCopy) (ma : List Int) (d : Nat), s.testReady n 0x21 c →
    s.servoReady n → analogueFault 0x21 ma = none → ∃ t, exec (.coilSense n ⟨ma, d⟩) s = .next t ∧
    s.Passed t n 0x21 d) ∧
  (∀ (s : State) (n : Nat) (c : MbCopy) (ma : List Int) (d u : Nat) (v : Int), s.testReady n 0x21 c →
    s.servoReady n → analogueFault 0x21 ma = some (u, v) → ∃ t, exec (.coilSense n ⟨ma, d⟩) s = .next t ∧
    s.FailedOut t n 0x21 u v d) ∧
  (∀ (s : State) (n : Nat) (c : MbCopy) (ma : List Int) (d : Nat), s.testReady n 0x22 c →
    s.servoReady n → analogueFault 0x22 ma = none → ∃ t, exec (.motorSense n ⟨ma, d⟩) s = .next t ∧
    s.Passed t n 0x22 d) ∧
  (∀ (s : State) (n : Nat) (c : MbCopy) (ma : List Int) (d u : Nat) (v : Int), s.testReady n 0x22 c →
    s.servoReady n → analogueFault 0x22 ma = some (u, v) → ∃ t, exec (.motorSense n ⟨ma, d⟩) s = .next t ∧
    s.FailedOut t n 0x22 u v d) ∧
  (∀ (s : State) (n : Nat) (c : MbCopy) (snr : List Int) (d : Nat), s.testReady n 0x23 c →
    s.servoReady n → analogueFault 0x23 snr = none → ∃ t, exec (.adcTone n ⟨snr, d⟩) s = .next t ∧
    s.Passed t n 0x23 d) ∧
  (∀ (s : State) (n : Nat) (c : MbCopy) (snr : List Int) (d u : Nat) (v : Int), s.testReady n 0x23 c →
    s.servoReady n → analogueFault 0x23 snr = some (u, v) → ∃ t, exec (.adcTone n ⟨snr, d⟩) s = .next t ∧
    s.FailedOut t n 0x23 u v d) ∧
  (∀ (s : State) (n : Nat) (c : MbCopy) (temps : List Int) (d : Nat), s.testReady n 0x25 c →
    s.st.granted = none → analogueFault 0x25 temps = none → ∃ t, exec (.tempCross n ⟨temps, d⟩) s = .next t ∧
    s.Passed t n 0x25 d) ∧
  (∀ (s : State) (n : Nat) (c : MbCopy) (temps : List Int) (d u : Nat) (v : Int), s.testReady n 0x25 c →
    s.st.granted = none → analogueFault 0x25 temps = some (u, v) →
    ∃ t, exec (.tempCross n ⟨temps, d⟩) s = .next t ∧ t.cal.sensors.contains u = true ∧
    Counted .ANALOGUE_FAILS s t ∧ s.Told t n (okResp
    ({ test := 0x25, verdict := 1, duration := d, unit := u, value := v } : Verdict16).bytes) ∧
    RegsKept (.ANALOGUE_FAILS :: bookRegs) s t) ∧
  (∀ (s : State) (n : Nat) (c : MbCopy) (d : Nat), s.testReady n 0x26 c → s.st.granted = none →
    ∃ t, exec (.d2dLoop n ⟨0, d⟩) s = .next t ∧ s.Passed t n 0x26 d) ∧
  (∀ (s : State) (n : Nat) (c : MbCopy) (e d : Nat), s.testReady n 0x26 c → s.st.granted = none → 0 < e →
    (s.pw.mode = .run ∨ s.pw.mode = .doze) → ∃ t, exec (.d2dLoop n ⟨e, d⟩) s = .next t ∧ t.pw.d2dDown = true ∧
    s.Told t n (okResp ({ test := 0x26, verdict := 1, repairs := t.reg .REPAIRS - s.reg .REPAIRS, duration := d, unit
                            := 0, value := e } : Verdict16).bytes)) ∧
  (∀ (s : State) (n : Nat) (c : MbCopy) (failed : List Nat) (d : Nat), s.testReady n 0x24 c →
    s.servoReady n → s.st.laneLoopFail = [] → ∃ t, exec (.shuttleLoop n failed d) s = .next t ∧
    (∀ k ∈ failed, k < 5 → t.get .SH_STATE k = 3) ∧ (failed.all (fun k => decide (5 ≤ k)) = true →
    s.Passed t n 0x24 d) ∧ ((t.slot n).resp.map (·.status)) = some St.success ∧ s.OthersKept t n ∧
    t.pw = s.rested.pw) ∧
  (∀ (s : State) (n : Nat) (c : MbCopy) (readings : List (List Int)) (d : Nat), s.testReady n 0x2F c →
    s.servoReady n → s.st.laneLoopFail = [] → analogueFirst [0x20, 0x21, 0x22, 0x23] readings = none →
    analogueFirst [0x25, 0x26] (readings.drop 4) = none → ∃ t, exec (.allAnalogue n [] ⟨readings, d⟩) s = .next t ∧
    s.Passed t n 0x2F d) ∧
  (∀ (s : State) (n : Nat) (c : MbCopy) (readings : List (List Int)) (failed : List Nat) (d id u : Nat) (v : Int),
    s.testReady n 0x2F c → s.servoReady n → analogueFirst [0x20, 0x21, 0x22, 0x23] readings = some (id, u, v) →
    ∃ t, exec (.allAnalogue n failed ⟨readings, d⟩) s = .next t ∧ s.FailedOut t n 0x2F u v d) ∧
  (∀ (s : State) (n : Nat) (c : MbCopy) (r : List Int) (d : Nat), s.testReady n 0x20 c →
    s.st.granted = none → s.servoBusy = true → s.st.waiting.contains n = false →
    ∃ t, exec (.laserDac n ⟨r, d⟩) s = .next t ∧ (bit c.flags 0 = true →
    s.Told t n (failResp St.busyServo 0) ∧ { t with host := s.host } = s.rested) ∧ (bit c.flags 0 = false →
    t = { s with st.waiting := s.st.waiting ++ [n] })) ∧
  (∀ (s : State) (k : Nat) (rest : List Nat), s.reg .SP_STATE = 0 → s.st.granted = none →
    s.discWanted = false → s.pw.pfail = none → s.st.waiting.filter s.testPending = k :: rest →
    ∃ t, exec .servoTestStart s = .next t ∧ t = { s with st.granted := some k, st.waiting := rest })

/-- The injections of Table 16.4 (R701): from P8 with a current unlock, each is counted, its verdict is INJECTED, and its
effect real; from elsewhere each answers NOT_PERMITTED, and an argument out of range its offset. -/
def Obligations.InjectionsAreCountedAndReal : Prop :=
  (∀ (s : State) (n : Nat) (c : MbCopy), s.injectReady n 0x100 c → ∃ t, exec (.injD2dBreak n) s = .next t ∧
    t.st = { s.st with d2dUntil := some (s.clock + fieldAt c.args 4 4) } ∧ s.Injected t n 0x100 ∧
    RegsKept (.INJECTIONS :: bookRegs) s t ∧
    { t with regs := s.regs, host := s.host, pw := s.pw, st := s.st, bb := s.bb, free := s.free } = s) ∧
  (∀ (s : State) (n : Nat) (c : MbCopy), s.injectReady n 0x101 c → 1 ≤ fieldAt c.args 2 1 → fieldAt c.args 2 1 ≤ 7 →
    ∃ t, exec (.injLeaseStop n) s = .next t ∧ t.st =
    { s.st with leaseStop := insertSorted (fieldAt c.args 2 1) s.st.leaseStop } ∧ s.Injected t n 0x101 ∧
    RegsKept (.INJECTIONS :: bookRegs) s t ∧
    { t with regs := s.regs, host := s.host, pw := s.pw, st := s.st, bb := s.bb, free := s.free } = s) ∧
  (∀ (s : State) (n : Nat) (c : MbCopy), s.injectReady n 0x102 c → ∃ t, exec (.injBemfBlank n) s = .next t ∧
    t.st = { s.st with blankUntil := some (s.clock + fieldAt c.args 4 4) } ∧ s.Injected t n 0x102 ∧
    RegsKept (.INJECTIONS :: bookRegs) s t ∧
    { t with regs := s.regs, host := s.host, pw := s.pw, st := s.st, bb := s.bb, free := s.free } = s) ∧
  (∀ (s : State) (n : Nat) (c : MbCopy), s.injectReady n 0x103 c → ∃ t, exec (.injBemfSpurious n) s = .next t ∧
    t.st = { s.st with spurious := s.st.spurious + fieldAt c.args 2 1 } ∧ s.Injected t n 0x103 ∧
    RegsKept (.INJECTIONS :: bookRegs) s t ∧
    { t with regs := s.regs, host := s.host, pw := s.pw, st := s.st, bb := s.bb, free := s.free } = s) ∧
  (∀ (s : State) (n : Nat) (c : MbCopy), s.injectReady n 0x104 c → fieldAt c.args 2 1 < 5 →
    ∃ t, exec (.injLaneError n) s = .next t ∧ t.st = { s.st with laneError := s.st.laneError ++ [fieldAt c.args 2 1] }
    ∧ s.Injected t n 0x104 ∧ RegsKept (.INJECTIONS :: bookRegs) s t ∧
    { t with regs := s.regs, host := s.host, pw := s.pw, st := s.st, bb := s.bb, free := s.free } = s) ∧
  (∀ (s : State) (n : Nat) (c : MbCopy), s.injectReady n 0x105 c → fieldAt c.args 2 1 < 5 →
    ∃ t, exec (.injLaneLoopFail n) s = .next t ∧ t.st =
    { s.st with laneLoopFail := insertSorted (fieldAt c.args 2 1) s.st.laneLoopFail } ∧
    s.Injected t n 0x105 ∧ RegsKept (.INJECTIONS :: bookRegs) s t ∧
    { t with regs := s.regs, host := s.host, pw := s.pw, st := s.st, bb := s.bb, free := s.free } = s) ∧
  (∀ (s : State) (n : Nat) (c : MbCopy), s.injectReady n 0x106 c → 32 ≤ fieldAt c.args 2 1 →
    fieldAt c.args 2 1 < 96 → fieldAt c.args 4 4 < 65536 → ∃ t, exec (.injParityFlip n) s = .next t ∧
    t.st = { s.st with flips := s.st.flips ++ [(fieldAt c.args 2 1, fieldAt c.args 4 4, bit (fieldAt c.args 8 1) 0,
                         fieldAt c.args 8 1 / 2 % 8)] } ∧ s.Injected t n 0x106 ∧
    RegsKept (.INJECTIONS :: bookRegs) s t ∧
    { t with regs := s.regs, host := s.host, pw := s.pw, st := s.st, bb := s.bb, free := s.free } = s) ∧
  (∀ (s : State) (n : Nat) (c : MbCopy) (k : Nat) (l : CacheLine), s.injectReady n 0x106 c →
    fieldAt c.args 2 1 < 32 → fieldAt c.args 4 4 < 65536 → k = 16 * (fieldAt c.args 2 1 % 2 * 1024 + fieldAt c.args 4
    4 / 64) + fieldAt c.args 2 1 / 2 → Map.get s.ca.l2 k = some l → bit (fieldAt c.args 8 1) 0 = true →
    ∃ t, exec (.injParityFlip n) s = .next t ∧ Map.get t.ca.l2 k = some
    { l with par := l.par.modify (fieldAt c.args 4 4 % 64) (!·) } ∧ (∀ j, j ≠ k →
    Map.get t.ca.l2 j = Map.get s.ca.l2 j) ∧ s.Injected t n 0x106 ∧ t.st = s.st ∧ t.lm = s.lm) ∧
  (∀ (s : State) (n : Nat) (c : MbCopy), s.injectReady n 0x107 c → fieldAt c.args 2 1 < 10 →
    ∃ t, exec (.injCheckerBreak n) s = .next t ∧ t.st =
    { s.st with checkerBreaks := s.st.checkerBreaks ++ [(fieldAt c.args 2 1, fieldAt c.args 3 1)] } ∧
    s.Injected t n 0x107 ∧ RegsKept (.INJECTIONS :: bookRegs) s t ∧
    { t with regs := s.regs, host := s.host, pw := s.pw, st := s.st, bb := s.bb, free := s.free } = s) ∧
  (∀ (s : State) (n : Nat) (c : MbCopy) (k : Nat), s.injectReady n 0x108 c → k = fieldAt c.args 2 1 →
    ∃ t, exec (.injReedCorrupt n) s = .next t ∧ t.get .RD_BASE k = fieldAt c.args 4 4 % 2 ^ 21 ∧
    t.get .RD_LIMIT k = fieldAt c.args 8 4 % 2 ^ 21 ∧ t.get .RD_READ_MASK k = fieldAt c.args 12 2 ∧
    t.get .RD_WRITE_MASK k = fieldAt c.args 14 2 ∧ t.get .RD_VALID k = fieldAt c.args 16 1 % 2 ∧
    (∀ n i, i ≠ fieldAt c.args 2 1 → n ∉ RegName.INJECTIONS :: bookRegs → t.get n i = s.get n i) ∧ t.lm = s.lm ∧
    t.st = s.st ∧ s.Injected t n 0x108) ∧
  (∀ (s : State) (n : Nat) (c : MbCopy) (g : Nat), s.injectReady n 0x109 c → g = fieldAt c.args 4 8 →
    g < s.granules → ∃ t, exec (.injPoison n) s = .next t ∧ t.poisoned g = true ∧ (∀ h, h ≠ g →
    t.poisoned h = s.poisoned h) ∧ t.lm.mem = s.lm.mem ∧ t.st = s.st ∧ s.Injected t n 0x109) ∧
  (∀ (s : State) (n : Nat) (c : MbCopy), s.injectReady n 0x10A c → ∃ t, exec (.injVerifyFail n) s = .next t ∧
    t.st = { s.st with verifyFail := s.st.verifyFail + fieldAt c.args 2 1 } ∧ s.Injected t n 0x10A ∧
    RegsKept (.INJECTIONS :: bookRegs) s t ∧
    { t with regs := s.regs, host := s.host, pw := s.pw, st := s.st, bb := s.bb, free := s.free } = s) ∧
  (∀ (s : State) (n : Nat) (c : MbCopy), s.injectReady n 0x10B c → ∃ t, exec (.injEraseFrames n) s = .next t ∧
    t.st = { s.st with eraseFrames := fieldAt c.args 2 1 } ∧ s.Injected t n 0x10B ∧
    RegsKept (.INJECTIONS :: bookRegs) s t ∧
    { t with regs := s.regs, host := s.host, pw := s.pw, st := s.st, bb := s.bb, free := s.free } = s) ∧
  (∀ (s : State) (n : Nat) (c : MbCopy), s.injectReady n 0x10C c → ∃ t, exec (.injDefectFlag n) s = .next t ∧
    t.reg .DEFECT = 1 ∧ t.st = { s.st with defectUntil := some (s.clock + fieldAt c.args 4 4) } ∧
    (s.on .DEFECT = false → t.reg .DEFECT_HOLD = 1 ∧ t.sv.defectAt = some s.clock ∧
    Counted .DEFECT_HOLDS s t) ∧ RegsKept (([.INJECTIONS, .DEFECT, .DEFECT_HOLD, .DEFECT_HOLDS] : List RegName) ++
    bookRegs) s t ∧ s.Injected t n 0x10C) ∧
  (∀ (s : State) (n : Nat) (c : MbCopy), s.injectReady n 0x10D c → fieldAt c.args 2 1 < 2 →
    ∃ t, exec (.injTrainFail n) s = .next t ∧ t.st =
    { s.st with trainFail := insertSorted (fieldAt c.args 2 1) s.st.trainFail } ∧ s.Injected t n 0x10D ∧
    RegsKept (.INJECTIONS :: bookRegs) s t ∧
    { t with regs := s.regs, host := s.host, pw := s.pw, st := s.st, bb := s.bb, free := s.free } = s) ∧
  (∀ (s : State) (n : Nat) (c : MbCopy) (a : Nat), s.injectReady n 0x10E c → a = fieldAt c.args 4 8 / 64 →
    fieldAt c.args 12 4 = 1 → s.permits 11 (a * 64) 64 true → s.ca.merge = [] → s.ca.stalled = [] →
    0 < s.mergeRoom → ∃ t, exec (.injPoolWrite n) s = .next t ∧
    t.coreLine a = (List.replicate 8 (bytesAt c.args 16 8)).flatten ∧
    t.ca.merge.map (fun e => (e.line, e.core, e.closed)) = [(a, 1, true)] ∧ t.lm.mem = s.lm.mem ∧
    s.Injected t n 0x10E) ∧
  (∀ (s : State) (n : Nat) (c : MbCopy) (x : Nat × Instr), x ∈ [(0x100, Instr.injD2dBreak n), (0x101,
    Instr.injLeaseStop n), (0x102, Instr.injBemfBlank n), (0x103, Instr.injBemfSpurious n), (0x104, Instr.injLaneError
    n), (0x105, Instr.injLaneLoopFail n), (0x106, Instr.injParityFlip n), (0x107, Instr.injCheckerBreak n), (0x108,
    Instr.injReedCorrupt n), (0x109, Instr.injPoison n), (0x10A, Instr.injVerifyFail n), (0x10B, Instr.injEraseFrames
    n), (0x10C, Instr.injDefectFlag n), (0x10D, Instr.injTrainFail n), (0x10E, Instr.injPoolWrite n)] →
    s.testReady n x.1 c → s.st.granted = none → (c.byP8 = false ∨ s.host.unlocked = false) →
    ∃ t, exec x.2 s = .next t ∧ s.Told t n (failResp St.notPermitted 0) ∧ t.regs = s.regs ∧
    { t with host := s.host } = s.rested) ∧
  (∀ (s : State) (n : Nat) (c : MbCopy) (x : Nat × Instr), x ∈ [(0x101, Instr.injLeaseStop n), (0x104,
    Instr.injLaneError n), (0x105, Instr.injLaneLoopFail n), (0x106, Instr.injParityFlip n), (0x107,
    Instr.injCheckerBreak n), (0x10D, Instr.injTrainFail n)] → s.injectReady n x.1 c → 96 ≤ fieldAt c.args 2 1 →
    ∃ t, exec x.2 s = .next t ∧ s.Told t n (failResp St.outOfRange 2) ∧ t.regs = s.regs ∧
    { t with host := s.host } = s.rested) ∧
  (∀ (s : State) (n : Nat) (c : MbCopy), s.injectReady n 0x109 c → s.granules ≤ fieldAt c.args 4 8 →
    ∃ t, exec (.injPoison n) s = .next t ∧ s.Told t n (failResp St.outOfRange 4) ∧
    t.regs = s.regs ∧ { t with host := s.host } = s.rested)

/-! ## Leases, commits, crossbar accesses and the pool (07) -/

/-- LEASE_RENEW, LEASE_EXPIRY (R318-R323), ENGINE_LOOPBACK_DONE and _RETRY (R323, 08 R393), SEG_CLOSE_HELD_APPEND
(R308). -/
def Obligations.LeasesAreRenewedRevokedAndGranted : Prop :=
  (∀ (s : State) (b e : Nat), b < 10 → s.lm.lease.getD b none = some e → s.clock < e →
    s.st.leaseStop.contains b = false → ∃ t, exec (.leaseRenew b) s = .next t ∧
    t = { s with lm.lease := s.lm.lease.set b (some (s.clock + s.get .LEASE_MS b * 1000)) }) ∧
  (∀ (s : State) (b e : Nat), b < 10 → s.lm.lease.getD b none = some e → e ≤ s.clock → s.lm.engine.length = 10 →
    ∃ t, exec (.leaseRenew b) s = .next t ∧ t.lm.lease.getD b none = none ∧
    t.get .REVOKES b = min (s.get .REVOKES b + 1) (2 ^ 32 - 1) ∧ t.get .BB_HOLDER b = 0xFFFF ∧
    t.get .BB_STATE b = 3 ∧ t.lm.engine.getD b .ok = .reset ∧ (∀ k, k ≠ b →
    t.lm.lease.getD k none = s.lm.lease.getD k none ∧ t.get .TAIL_OFFSET k = s.get .TAIL_OFFSET k) ∧ t.q = s.q ∧
    t.md = s.md ∧ t.reg .LEASE_EXPIRED = min (s.reg .LEASE_EXPIRED + 1) (2 ^ 32 - 1)) ∧
  (∀ (s : State) (b e : Nat), b < 10 → s.lm.lease.getD b none = some e → e ≤ s.clock → s.lm.engine.length = 10 →
    ∃ t, exec (.leaseExpiry b) s = .next t ∧ t.lm.lease.getD b none = none ∧
    t.get .REVOKES b = min (s.get .REVOKES b + 1) (2 ^ 32 - 1) ∧ t.get .BB_HOLDER b = 0xFFFF ∧
    t.get .BB_STATE b = 3 ∧ t.lm.engine.getD b .ok = .reset ∧ (∀ k, k ≠ b →
    t.lm.lease.getD k none = s.lm.lease.getD k none ∧ t.get .TAIL_OFFSET k = s.get .TAIL_OFFSET k) ∧ t.q = s.q ∧
    t.md = s.md ∧ t.reg .LEASE_EXPIRED = min (s.reg .LEASE_EXPIRED + 1) (2 ^ 32 - 1) ∧
    t.st = { s.st with leaseStop := s.st.leaseStop.erase b }) ∧
  (∀ (s : State) (b e : Nat), b < 10 → s.lm.lease.getD b none = some e → s.clock < e →
    ∃ t, exec (.leaseExpiry b) s = .next t ∧ t = s) ∧
  (∀ (s : State) (b : Nat), b < 10 → s.lm.engine.getD b .ok = .reset → s.lm.segHeld.getD b none = none →
    0 < s.bobSize b → s.poolUp = true → s.lm.lease.length = 10 →
    ∃ t, exec (.engineLoopbackDone b true) s = .next t ∧ t.lm.lease = s.lm.lease.set b (some (s.clock + s.get
    .LEASE_MS b * 1000)) ∧ t.lm.engine = s.lm.engine.set b .ok ∧
    t.get .LEASE_SERIAL b = (s.get .LEASE_SERIAL b + 1) % 2 ^ 32 ∧ t.get .BB_STATE b = 1 ∧
    t.get .BB_HOLDER b = s.holderOf b ∧ t.get .H_APPEND (appendEntry (s.holderOf b) b) = 1 ∧
    t.lm.mem = s.lm.mem ∧ { t with regs := s.regs, lm := s.lm } = s) ∧
  (∀ (s : State) (b : Nat), b < 10 → s.lm.engine.getD b .ok = .reset →
    ∃ t, exec (.engineLoopbackDone b false) s = .next t ∧ t.lm =
    { s.lm with engine := s.lm.engine.set b (.failed s.clock) } ∧
    RegsKept bookRegs s t ∧ { t with regs := s.regs, lm := s.lm, host := s.host, bb := s.bb } = s) ∧
  (∀ (s : State) (b c : Nat), b < 10 → s.lm.engine.getD b .ok = .failed c → c + 1000000 ≤ s.clock →
    ∃ t, exec (.engineLoopbackRetry b) s = .next t ∧ t = { s with lm.engine := s.lm.engine.set b .reset }) ∧
  (∀ (s : State) (b r : Nat), b < 10 → s.lm.segHeld.getD b none = some r → s.takes b 4 →
    (s.lm.engine.getD b .ok).isPassed = false → ∃ t, exec (.segCloseHeldAppend b) s = .next t ∧
    s.Gained t b 4 0xFF (8 + b2n s.coarse) s.now ∧ t.lm.segHeld.getD b none = none ∧
    t.get .SEG_COUNT b = min (s.get .SEG_COUNT b + 1) (2 ^ 32 - 1) ∧ t.lm.lease = s.lm.lease ∧ t.q = s.q ∧
    t.md = s.md)

/-- TAIL_COMMIT (R307, R313), CROSSBAR_ACCESS (R311-R317, R326), MARK_RETIRE (R303). -/
def Obligations.CommitsAndAccessesObeyTheTables : Prop :=
  (∀ (s : State) (a b e : Nat), a < 16 → b < 10 → s.noDisc → s.poolUp = true → 0 < s.bobSize b →
    s.commitOk a b e = true → e < 2 ^ 64 → s.lm.recs.length = 10 → ∃ t, exec (.tailCommit a b e) s = .next t ∧
    t.get .TAIL_OFFSET b = e ∧ ((t.recs b).getLast?).map (fun r => (r.off, r.len, r.seq)) = some (s.get .TAIL_OFFSET
    b, e - s.get .TAIL_OFFSET b, fieldAt (s.ringRead b (s.get .TAIL_OFFSET b) 32) 16 4) ∧
    t.lm.mem = s.lm.mem ∧ t.lm.lease = s.lm.lease ∧ (∀ k, k ≠ b → t.get .TAIL_OFFSET k = s.get .TAIL_OFFSET k ∧
    t.recs k = s.recs k) ∧ t.pw.idleFrom = s.clock ∧ t.q = s.q) ∧
  (∀ (s : State) (a b e : Nat), a < 16 → b < 10 → s.commitOk a b e = false → s.get .BB_HOLDER b ≠ a →
    ∃ t, exec (.tailCommit a b e) s = .next t ∧ t = s) ∧
  (∀ (s : State) (a addr : Nat) (l : List Byte), a < 16 → isCore a = false → inLine addr l.length = true →
    s.permits a addr l.length true → ∃ t, exec (.crossbarAccess a addr true l) s = .next t ∧
    (s.underTest (addr / 4096) = false → t = { s with lm.mem := s.lm.mem.writeN addr l }) ∧
    (∀ w, s.st.window = some w → s.underTest (addr / 4096) = true →
    t = { s with st.window := some { w with stalled := w.stalled ++ [(a, addr, l)] } })) ∧
  (∀ (s : State) (a addr : Nat) (l : List Byte), a < 16 → isCore a = false → inLine addr l.length = true →
    s.permits a addr l.length false → s.entriesOf (addr / 64) = [] →
    ∃ t, exec (.crossbarAccess a addr false l) s = .next t ∧ t = s.readReturns (if s.poisoned (addr / 4096) = true
    then List.replicate l.length 0 else s.shown addr (if s.underTest (addr / 4096) = true then s.fromSave addr
    l.length else s.lm.mem.readN addr l.length)) (s.poisoned (addr / 4096))) ∧
  (∀ (s : State) (a addr : Nat) (w : Bool) (l : List Byte), a < 16 → inLine addr l.length = true →
    s.poolUp = true → s.heddleEntries a (addr / 4096) = [] → (∀ b, b < 10 → s.get .BB_HOLDER b ≠ a) →
    ∃ t, exec (.crossbarAccess a addr w l) s = .next t ∧ Counted .HEDDLE_DENY s t ∧ (w = true → t.lm = s.lm) ∧
    (w = false → t.lm.readPoison = true ∧ t.lm.readOut = List.replicate l.length 0 ∧ t.lm.mem = s.lm.mem) ∧
    RegsKept (.HEDDLE_DENY :: beadRegs) s t ∧ { t with regs := s.regs, lm := s.lm } = s) ∧
  (∀ (s : State) (id : Nat) (m : Mark), s.lm.marks.find? (fun x => x.id == id) = some m →
    max m.stop m.fetch + 1000000 ≤ s.time → s.markDone m = true → ∃ t, exec (.markRetire id) s = .next t ∧
    t.lm = { s.lm with marks := s.lm.marks.filter fun x => x.id != id } ∧
    RegsKept [.BOB_FULL, .BOB_HOLDING, .BOB_MARKED_PENDING] s t ∧ { t with regs := s.regs, lm := s.lm } = s) ∧
  (∀ (s : State) (id : Nat) (m : Mark), s.lm.marks.find? (fun x => x.id == id) = some m →
    (s.time < max m.stop m.fetch + 1000000 ∨ s.markDone m = false) → ∃ t, exec (.markRetire id) s = .next t ∧ t = s)

/-- POOL_LOSS (R336), POOL_RETRAIN (R337, R856), MR4_POLL (R338). -/
def Obligations.ThePoolIsLostAndTrainedAgain : Prop :=
  (∀ (s : State) (m : Nat), m < 4 → s.poolUp = true → ∃ t, exec (.poolLoss m) s = .next t ∧
    t.reg .POOL_STATE = 3 ∧ t.lm.allPoison = true ∧ t.lm.lostAt = some s.clock ∧ Counted .POOL_LOST_COUNT s t ∧
    (∀ b, b < 10 → t.lm.lease.getD b none = none) ∧ t.lm.warden = s.lm.warden ∧ t.sec.devKey = s.sec.devKey ∧
    t.time = s.time ∧ (bit m 0 = true → t.reg .POOL_CH0_TRAINED = 0) ∧ (bit m 1 = true →
    t.reg .POOL_CH1_TRAINED = 0)) ∧
  (∀ (s : State) (a b : Bool), s.reg .POOL_STATE = 2 → (a && b) = false → ∃ t, exec (.mr4Poll a b) s = .next t ∧
    t.reg .POOL_STATE = 3 ∧ t.lm.allPoison = true ∧ t.lm.lostAt = some s.clock ∧ Counted .POOL_LOST_COUNT s t ∧
    (∀ b, b < 10 → t.lm.lease.getD b none = none) ∧ t.lm.warden = s.lm.warden ∧ t.sec.devKey = s.sec.devKey ∧
    t.time = s.time) ∧
  (∀ (s : State) (a b : Bool), (s.reg .POOL_STATE ≠ 2 ∨ (a && b) = true) → ∃ t, exec (.mr4Poll a b) s = .next t ∧
    t = s) ∧
  (∀ (s : State) (e : Nat), s.lm.lostAt = some e → e + 10000 ≤ s.clock → s.poolLost = true →
    s.st.trainFail = [] → s.noDisc → ∃ t, exec (.poolRetrain 0) s = .next t ∧ t.reg .POOL_STATE = 1 ∧
    t.reg .POOL_CH0_TRAINED = 1 ∧ t.reg .POOL_CH1_TRAINED = 1 ∧ t.lm.lostAt = none ∧
    t.lm.allPoison = false ∧ t.lm.poison = [] ∧ t.lm.lease.length = 10 ∧ (∀ b, b < 10 →
    0 < s.bobSize b → t.lm.lease.getD b none ≠ none) ∧ t.time = s.time ∧ t.sec = s.sec) ∧
  (∀ (s : State) (f e : Nat), 0 < f → f < 4 → s.lm.lostAt = some e → e + 10000 ≤ s.clock → s.poolLost = true →
    ∃ t, exec (.poolRetrain f) s = .next t ∧ t.reg .POOL_STATE = 3 ∧ t.lm = { s.lm with lostAt := none } ∧
    t.reg .POOL_CH0_TRAINED = b2n (!(bit f 0 || s.st.trainFail.contains 0)) ∧
    t.reg .POOL_CH1_TRAINED = b2n (!(bit f 1 || s.st.trainFail.contains 1)) ∧
    t.st = { s.st with trainFail := [] } ∧ RegsKept [.POOL_CH0_TRAINED, .POOL_CH1_TRAINED] s t)

/-! ## Partner ports (08) -/

/-- CAM_DATAGRAM (R342-R348) and ARP_REQUEST (R343). -/
def Obligations.CameraDatagramsBecomeRecords : Prop :=
  (∀ (s : State) (p : Nat) (f : CamFrame) (b q : Nat), isCam p = true → s.pw.mode = .run →
    s.pw.entry = none → s.portOn p = true → s.pt.linkUp.getD p false = true → s.camDrop p f = none →
    s.camKind p f.payload = some (some (b, q)) → s.portStale p = false → s.pt.gap.contains p = false →
    s.takes p f.payload.length → ∃ t, exec (.camDatagram p f) s = .next t ∧
    s.Gained t p f.payload.length (p + 256 * b) 0 s.time ∧ t.get .DGRAM_OK p = min (s.get .DGRAM_OK p + 1) (2 ^ 32 -
    1) ∧ t.get .CAM_LAST_RX_TIME p = s.time % 2 ^ 64 ∧ t.pt =
    { s.pt with lastIn := s.pt.lastIn.set p (some s.clock), krs := Map.put s.pt.krs (16 * p + b) q } ∧
    t.get .SEQ_GAPS p = (if (Map.get s.pt.krs (16 * p + b)).any (fun l => (l + 1) % 2 ^ 32 != q) = true then min
    (s.get .SEQ_GAPS p + 1) (2 ^ 32 - 1) else s.get .SEQ_GAPS p) ∧ t.q = s.q ∧ t.md = s.md) ∧
  (∀ (s : State) (p : Nat) (f : CamFrame), isCam p = true → s.pw.mode = .run → s.pw.entry = none →
    s.portOn p = true → s.pt.linkUp.getD p false = true → s.camDrop p f = none →
    s.camKind p f.payload = some none → s.portStale p = false → s.pt.gap.contains p = false →
    s.takes p f.payload.length → ∃ t, exec (.camDatagram p f) s = .next t ∧
    s.Gained t p f.payload.length (p + 256 * 0xFF) 2 s.time ∧ t.get .DGRAM_OK p = min (s.get .DGRAM_OK p + 1) (2 ^ 32
    - 1) ∧ t.pt = { s.pt with lastIn := s.pt.lastIn.set p (some s.clock) } ∧ t.q = s.q ∧ t.md = s.md) ∧
  (∀ (s : State) (p : Nat) (f : CamFrame) (x : Bool), isCam p = true → s.pw.mode = .run → s.pw.entry = none →
    s.portOn p = true → s.pt.linkUp.getD p false = true → s.camDrop p f = some x →
    ∃ t, exec (.camDatagram p f) s = .next t ∧ (x = true → t.get .DROP_FILTER p = min (s.get .DROP_FILTER p + 1) (2 ^
    32 - 1) ∧ RegsKept [.DROP_FILTER] s t) ∧ (x = false → t.get .DROP_RANGE p = min (s.get .DROP_RANGE p + 1) (2 ^ 32
    - 1) ∧ RegsKept [.DROP_RANGE] s t) ∧ { t with regs := s.regs } = s) ∧
  (∀ (s : State) (p : Nat) (f : CamFrame), isCam p = true → s.pw.mode = .run → s.pw.entry = none →
    s.portOn p = true → s.pt.linkUp.getD p false = true → s.camDrop p f = none → s.camKind p f.payload = none →
    ∃ t, exec (.camDatagram p f) s = .next t ∧ t.get .DROP_RANGE p = min (s.get .DROP_RANGE p + 1) (2 ^ 32 - 1) ∧
    RegsKept [.DROP_RANGE] s t ∧ { t with regs := s.regs } = s) ∧
  (∀ (s : State) (p : Nat) (a : Nat), isCam p = true → s.pw.mode = .run → s.pw.entry = none →
    s.portOn p = true → s.pt.linkUp.getD p false = true → a ≠ 0 → ∃ t, exec (.arpRequest p a) s = .next t ∧
    t = (if a = s.get .IP_ADDR p then { s with pt.sent := Map.put s.pt.sent p [.arpReply a] } else s))

/-- GPTP_FRAME, SYNC_TIMER, ANNOUNCE_TIMER, PDELAY_TIMER (R349-R351), CAM_LINK_DOWN, CAM_LINK_UP (R341),
PORT_TIMEOUT (R391). -/
def Obligations.CamerasAreTimedAndWatched : Prop :=
  (∀ (s : State) (p : Nat) (q : Nat), isCam p = true → s.gptpOut p = true → s.on .TIME_UNSET = false →
    q = (Map.get s.pt.seqs (4 * p)).getD 0 → ∃ t, exec (.syncTimer p) s = .next t ∧
    t = { s with pt.seqs := Map.put s.pt.seqs (4 * p) ((q + 1) % 65536), pt.sent := Map.put s.pt.sent p [.sync q,
                   .followUp q (s.ptpTime s.now)] }) ∧
  (∀ (s : State) (p : Nat) (q : Nat), isCam p = true → s.gptpOut p = true →
    q = (Map.get s.pt.seqs (4 * p + 1)).getD 0 → ∃ t, exec (.announceTimer p) s = .next t ∧
    t = { s with pt.seqs := Map.put s.pt.seqs (4 * p + 1) ((q + 1) % 65536), pt.sent := Map.put s.pt.sent p [.announce
                   q (if s.reg .TIME_STATE = 2 then 6 else if s.reg .TIME_STATE = 3 then 7 else 248) (s.reg
                   .UTC_OFFSET_S)] }) ∧
  (∀ (s : State) (p : Nat) (q : Nat), isCam p = true → s.gptpOut p = true →
    q = (Map.get s.pt.seqs (4 * p + 2)).getD 0 → ∃ t, exec (.pdelayTimer p) s = .next t ∧
    t = { s with pt.seqs := Map.put s.pt.seqs (4 * p + 2) ((q + 1) % 65536), pt.pdelay := Map.put s.pt.pdelay p (q,
                   s.ptpTime s.now), pt.sent := Map.put s.pt.sent p [.pdelayReq q] }) ∧
  (∀ (s : State) (p : Nat), isCam p = true → s.pw.mode = .run → s.pw.entry = none →
    s.portOn p = true → s.pt.linkUp.getD p false = true → s.onAt .CAM_GPTP_ENABLE p = true →
    ∃ t, exec (.gptpFrame p .announce) s = .next t ∧ t.get .ANNOUNCE_IGNORED p = min (s.get .ANNOUNCE_IGNORED p + 1)
    (2 ^ 32 - 1) ∧ RegsKept [.ANNOUNCE_IGNORED] s t ∧ { t with regs := s.regs } = s) ∧
  (∀ (s : State) (p : Nat) (q : Nat), isCam p = true → s.pw.mode = .run → s.pw.entry = none →
    s.portOn p = true → s.pt.linkUp.getD p false = true → s.onAt .CAM_GPTP_ENABLE p = true →
    ∃ t, exec (.gptpFrame p (.pdelayReq q)) s = .next t ∧ t =
    { s with free := s.free + 1, pt.sent := Map.put s.pt.sent p [.pdelayResp q (s.ptpTime s.time), .pdelayRespFollowUp
               q s.draw.1] }) ∧
  (∀ (s : State) (p : Nat) (q a b c d : Nat), isCam p = true → s.pw.mode = .run → s.pw.entry = none →
    s.portOn p = true → s.pt.linkUp.getD p false = true → s.onAt .CAM_GPTP_ENABLE p = true →
    Map.get s.pt.pdelay p = some (q, a) → Map.get s.pt.pdelayT p = some (q, b) → a ≤ d → c - b ≤ d - a → b ≤ c →
    d < 2 ^ 32 → ∃ t, exec (.gptpFrame p (.pdelayRespFollowUp q c d)) s = .next t ∧
    t.get .GPTP_PDELAY_NS p = ((d - a) - (c - b)) / 2 ∧ RegsKept [.GPTP_PDELAY_NS] s t ∧
    { t with regs := s.regs } = s) ∧
  (∀ (s : State) (p : Nat) (m : GptpMsg), isCam p = true → s.pw.mode = .run → s.pw.entry = none →
    s.portOn p = true → s.pt.linkUp.getD p false = true → s.onAt .CAM_GPTP_ENABLE p = false →
    ∃ t, exec (.gptpFrame p m) s = .next t ∧ t.get .DROP_FILTER p = min (s.get .DROP_FILTER p + 1) (2 ^ 32 - 1) ∧
    RegsKept [.DROP_FILTER] s t ∧ { t with regs := s.regs } = s) ∧
  (∀ (s : State) (p : Nat), isCam p = true → s.linksSeen = true → s.pt.linkUp.getD p false = true →
    s.portOn p = true → s.portStale p = false → ∃ t, exec (.camLinkDown p) s = .next t ∧
    t.pt.linkUp = s.pt.linkUp.set p false ∧ t.get .CAM_STATE p = 3 ∧
    t.get .CAM_STALE_COUNT p = min (s.get .CAM_STALE_COUNT p + 1) (2 ^ 32 - 1) ∧ t.pt.gap.contains p = true ∧
    t.get .BB_STATE p = (if s.get .BB_STATE p = 1 then 2 else s.get .BB_STATE p) ∧
    RegsKept (([.CAM_STATE, .CAM_STALE_COUNT, .BB_STATE] : List RegName) ++ bookRegs) s t) ∧
  (∀ (s : State) (p : Nat), isCam p = true → s.linksSeen = true → s.portOn p = true → s.portStale p = false →
    ∃ t, exec (.camLinkUp p 1000 true) s = .next t ∧ t.pt = { s.pt with linkUp := s.pt.linkUp.set p true } ∧
    t.get .CAM_STATE p = 2 ∧ RegsKept [.CAM_STATE] s t) ∧
  (∀ (s : State) (p : Nat) (v : Nat) (d : Bool), isCam p = true → s.linksSeen = true →
    (v ≠ 1000 ∨ d = false) → s.pt.linkUp.getD p false = true → s.portOn p = true → s.portStale p = false →
    ∃ t, exec (.camLinkUp p v d) s = .next t ∧ t.pt.linkUp = s.pt.linkUp.set p false ∧ t.get .CAM_STATE p = 3 ∧
    t.get .CAM_STALE_COUNT p = min (s.get .CAM_STALE_COUNT p + 1) (2 ^ 32 - 1)) ∧
  (∀ (s : State) (p : Nat) (e : Nat), 1 ≤ p → p ≤ 7 → s.pt.lastIn.getD p none = some e → s.linksSeen = true →
    s.portOn p = true → s.portStale p = false → e + s.portTimeout p ≤ s.clock →
    ∃ t, exec (.portTimeout p) s = .next t ∧ t.portStale p = true ∧ t.pt.gap.contains p = true ∧
    t.get .BB_STATE p = (if s.get .BB_STATE p = 1 then 2 else s.get .BB_STATE p) ∧
    RegsKept (([.CAM_STATE, .SER_STATE, .CAN_STATE, .CAM_STALE_COUNT, .SER_STALE_COUNT, .CAN_STALE_COUNT, .BB_STATE] :
    List RegName) ++ bookRegs) s t ∧ t.lm = s.lm) ∧
  (∀ (s : State) (p : Nat) (e : Nat), 1 ≤ p → p ≤ 7 → s.pt.lastIn.getD p none = some e →
    s.clock < e + s.portTimeout p → ∃ t, exec (.portTimeout p) s = .next t ∧ t = s)

/-- SERIAL_DATA_FRAME, SERIAL_HEARTBEAT, SERIAL_ANSWER, SERIAL_GAP_DISCARD, TIME_FRAME_TIMER (R355-R362), CAN_FRAME
(R364-R370), CAN_BUS_OFF, CAN_BUSOFF_RECOVERY (R396). -/
def Obligations.SerialAndCanFramesAreTaken : Prop :=
  (∀ (s : State) (p : Nat) (f : SerialFrame) (q k x : Nat), isSer p = true → s.pw.mode = .run →
    s.pw.entry = none → s.portOn p = true → f.broken = false → serialOk f.bytes = true → q = fieldAt f.bytes 5 1 →
    k = fieldAt f.bytes 2 2 → x = fieldAt f.bytes (6 + k) 4 → fieldAt f.bytes 4 1 = 1 →
    Map.get s.pt.serLast p ≠ some (q, x) → s.portStale p = false → s.pt.gap.contains p = false → s.takes p k →
    ∃ t, exec (.serialDataFrame p f) s = .next t ∧ s.Gained t p k p 0 s.time ∧
    t.get .SER_FRAMES_OK p = min (s.get .SER_FRAMES_OK p + 1) (2 ^ 32 - 1) ∧
    t.pt = { s.pt with lastIn := s.pt.lastIn.set p (some s.clock), answers := Map.put s.pt.answers p
                         { seq := q, nak := none, from' := some s.clock }, lineAt := s.pt.lineAt.set p s.clock,
                         serLast := Map.put s.pt.serLast p (q, x) } ∧ t.q = s.q ∧ t.md = s.md) ∧
  (∀ (s : State) (p : Nat) (f : SerialFrame) (q k x : Nat), isSer p = true → s.pw.mode = .run →
    s.pw.entry = none → s.portOn p = true → f.broken = false → serialOk f.bytes = true → q = fieldAt f.bytes 5 1 →
    k = fieldAt f.bytes 2 2 → x = fieldAt f.bytes (6 + k) 4 → fieldAt f.bytes 4 1 = 1 →
    Map.get s.pt.serLast p = some (q, x) → s.portStale p = false → s.poolLost = false →
    ∃ t, exec (.serialDataFrame p f) s = .next t ∧ t.get .DUPLICATES p = min (s.get .DUPLICATES p + 1) (2 ^ 32 - 1) ∧
    t.pt = { s.pt with lastIn := s.pt.lastIn.set p (some s.clock), answers := Map.put s.pt.answers p
                         { seq := q, nak := none, from' := some s.clock }, lineAt := s.pt.lineAt.set p s.clock } ∧
    RegsKept (.DUPLICATES :: beadRegs) s t ∧ t.lm = s.lm) ∧
  (∀ (s : State) (p : Nat) (f : SerialFrame) (q k x : Nat), isSer p = true → s.pw.mode = .run →
    s.pw.entry = none → s.portOn p = true → f.broken = false → serialOk f.bytes = true → q = fieldAt f.bytes 5 1 →
    k = fieldAt f.bytes 2 2 → x = fieldAt f.bytes (6 + k) 4 → fieldAt f.bytes 4 1 = 1 →
    Map.get s.pt.serLast p ≠ some (q, x) → s.portStale p = false → s.pt.gap.contains p = false →
    s.poolLost = false → s.lm.lease.getD p none = none → ∃ t, exec (.serialDataFrame p f) s = .next t ∧
    t.get .REC_DROPPED p = min (s.get .REC_DROPPED p + 1) (2 ^ 32 - 1) ∧
    t.pt = { s.pt with lastIn := s.pt.lastIn.set p (some s.clock), answers := Map.put s.pt.answers p
                         { seq := q, nak := some 2, from' := some s.clock }, lineAt := s.pt.lineAt.set p s.clock } ∧
    RegsKept [.REC_DROPPED] s t ∧ t.lm = s.lm) ∧
  (∀ (s : State) (p : Nat) (f : SerialFrame) (q : Nat), isSer p = true → s.pw.mode = .run →
    s.pw.entry = none → s.portOn p = true → f.broken = false → serialOk f.bytes = true →
    q = fieldAt f.bytes 5 1 → fieldAt f.bytes 4 1 = 2 → s.portStale p = false → s.poolLost = false →
    ∃ t, exec (.serialHeartbeat p f) s = .next t ∧ t.regs = s.regs ∧
    t.pt = { s.pt with lastIn := s.pt.lastIn.set p (some s.clock), answers := Map.put s.pt.answers p
                         { seq := q, nak := none, from' := some s.clock }, lineAt := s.pt.lineAt.set p s.clock } ∧
    t.lm = s.lm) ∧
  (∀ (s : State) (p : Nat) (f : SerialFrame), isSer p = true → s.pw.mode = .run → s.pw.entry = none →
    s.portOn p = true → (f.broken = true ∨ serialOk f.bytes = false) →
    ∃ t, exec (.serialDataFrame p f) s = .next t ∧ t.get .SER_RX_DROPPED p = min (s.get .SER_RX_DROPPED p + 1) (2 ^ 32
    - 1) ∧ RegsKept (.SER_RX_DROPPED :: beadRegs) s t ∧ t.pt = { s.pt with lineAt := s.pt.lineAt.set p s.clock } ∧
    t.lm = s.lm) ∧
  (∀ (s : State) (p : Nat) (a : SerAnswer), isSer p = true → s.serialOut p = true →
    Map.get s.pt.answers p = some a → s.answerReady p a = true → s.poisoned (outboxGranule p) = false →
    ∃ t, exec (.serialAnswer p false) s = .next t ∧ t = (if a.nak = none ∧
    s.pt.timeDue.contains p = true then { s with pt.answers := Map.erase s.pt.answers p, pt.timeDue :=
                                                   s.pt.timeDue.erase p, pt.lineAt := s.pt.lineAt.set p s.clock,
                                                   pt.sent := Map.put s.pt.sent p [.serial (answerFrame a), .serial
                                                   s.timeFrame] } else
    { s with pt.answers := Map.erase s.pt.answers p, pt.lineAt := s.pt.lineAt.set p s.clock, pt.sent := Map.put
               s.pt.sent p [.serial (answerFrame a)] })) ∧
  (∀ (s : State) (p : Nat) (a : SerAnswer), isSer p = true → s.serialOut p = true →
    Map.get s.pt.answers p = some a → s.answerReady p a = true → ∃ t, exec (.serialAnswer p true) s = .next t ∧
    t.get .COLLISIONS p = min (s.get .COLLISIONS p + 1) (2 ^ 32 - 1) ∧
    t.pt = { s.pt with answers := Map.erase s.pt.answers p } ∧ RegsKept (.COLLISIONS :: beadRegs) s t) ∧
  (∀ (s : State) (p : Nat) (a : SerAnswer) (x : Bool), isSer p = true → s.serialOut p = true →
    Map.get s.pt.answers p = some a → s.answerReady p a = false → ∃ t, exec (.serialAnswer p x) s = .next t ∧ t = s) ∧
  (∀ (s : State) (p : Nat), isSer p = true → s.linksSeen = true → s.portOn p = true →
    ∃ t, exec (.serialGapDiscard p) s = .next t ∧ t.get .SER_RX_DROPPED p = min (s.get .SER_RX_DROPPED p + 1) (2 ^ 32
    - 1) ∧ RegsKept (.SER_RX_DROPPED :: beadRegs) s t ∧ { t with regs := s.regs } = s) ∧
  (∀ (s : State) (p : Nat), isSer p = true → s.serialOut p = true → s.onAt .SER_TIME_FRAMES p = true →
    Map.has s.pt.answers p = false → s.pt.lineAt.getD p 0 + 10000 ≤ s.clock → s.poisoned (outboxGranule p) = false →
    ∃ t, exec (.timeFrameTimer p false) s = .next t ∧ t =
    { s with pt.timeDue := s.pt.timeDue.erase p, pt.lineAt := s.pt.lineAt.set p s.clock, pt.sent := Map.put s.pt.sent
               p [.serial s.timeFrame] }) ∧
  (∀ (s : State) (p : Nat) (x : Bool), isSer p = true → s.serialOut p = true → s.onAt .SER_TIME_FRAMES p = true →
    (x = true ∨ Map.has s.pt.answers p = true ∨ s.clock < s.pt.lineAt.getD p 0 + 10000) →
    ∃ t, exec (.timeFrameTimer p x) s = .next t ∧ t.pt = { s.pt with timeDue := insertSorted p s.pt.timeDue } ∧
    RegsKept (.COLLISIONS :: beadRegs) s t) ∧
  (∀ (s : State) (f : CanFrame) (j : Nat) (js : List Nat), f.data.length ≤ 64 → s.pw.mode = .run →
    s.pw.entry = none → s.portOn 7 = true → s.pt.busOff = false → f.remote = false → f.ok = true →
    (f.fdf = false ∨ s.on .CAN_FD_ENABLE = true) → (List.range 64).filter (fun i => s.canMatch f i) = j :: js →
    s.pt.canStale = false → s.pt.gap.contains 7 = false → Map.get s.pt.canLast (2 * f.id + b2n f.ide) = none →
    (∀ k, k < 8 → s.get .TL_START k = 0 ∧ s.get .TL_STOP k = 0) → s.takes 7 (canBytes f).length →
    ∃ t, exec (.canFrame f) s = .next t ∧ s.Gained t 7 (canBytes f).length (7 + 256 * j) 0 s.time ∧
    Counted .CAN_FRAMES_OK s t ∧ t.reg .CAN_LAST_RX_TIME = s.time % 2 ^ 64 ∧ (∀ i, i < 64 →
    t.get .CANVAL i = if (j :: js).contains i = true ∧ s.canInRange i (s.canRaw f i) = true then s.canValue i
    (s.canRaw f i) else s.get .CANVAL i) ∧ t.q = s.q ∧ t.md = s.md) ∧
  (∀ (s : State) (f : CanFrame), f.data.length ≤ 64 → s.pw.mode = .run → s.pw.entry = none →
    s.portOn 7 = true → s.pt.busOff = false → f.remote = false → f.ok = true →
    (f.fdf = false ∨ s.on .CAN_FD_ENABLE = true) → (List.range 64).filter (fun i => s.canMatch f i) = [] →
    ∃ t, exec (.canFrame f) s = .next t ∧ Counted .FRAMES_UNMAPPED s t ∧
    t.reg .REC = min 127 (s.reg .REC - 1) ∧ RegsKept [.FRAMES_UNMAPPED, .REC, .CAN_STATE] s t ∧
    { t with regs := s.regs } = s) ∧
  (∀ (s : State) (f : CanFrame), f.data.length ≤ 64 → s.linksSeen = true → s.portOn 7 = true →
    s.pt.busOff = false → (f.ok = false ∨ (f.fdf = true ∧ s.on .CAN_FD_ENABLE = false)) →
    ∃ t, exec (.canFrame f) s = .next t ∧ t.reg .REC = min 255 (s.reg .REC + 1) ∧
    (s.reg .CAN_STATE = 1 ∨ s.reg .CAN_STATE = 2 → t.reg .CAN_STATE = if 127 < t.reg .REC then 2 else 1) ∧
    RegsKept [.REC, .CAN_STATE] s t ∧ { t with regs := s.regs } = s) ∧
  (∀ (s : State), s.linksSeen = true → s.portOn 7 = true → s.pt.busOff = false →
    ∃ t, exec .canBusOff s = .next t ∧ t.pt = { s.pt with busOff := true } ∧ t.reg .CAN_STATE = 3 ∧
    Counted .BUSOFF_COUNT s t ∧ RegsKept (([.CAN_STATE, .BUSOFF_COUNT] : List RegName) ++ bookRegs) s t ∧
    t.lm = s.lm) ∧
  (∀ (s : State), s.pt.busOff = true → ∃ t, exec .canBusoffRecovery s = .next t ∧
    t.pt = { s.pt with busOff := false } ∧ t.reg .CAN_STATE = (if s.pt.canStale = true then 4 else 1) ∧
    t.reg .TEC = 0 ∧ t.reg .REC = 0 ∧ RegsKept [.CAN_STATE, .TEC, .REC] s t ∧
    { t with regs := s.regs, pt := s.pt } = s)

/-! ## Time and tally (08) -/

/-- PPS_EDGE, NMEA_SENTENCE, PPS_TIMEOUT, HOLDOVER_EXPIRY (R374-R381). -/
def Obligations.TheTimeBaseFollowsPpsAndNmea : Prop :=
  (∀ (s : State) (w : Nat), s.timeUp = true → s.on .PPS_ENABLE = true → s.pinHas 1 = true → 1000 ≤ w →
    s.tb.edge.all (fun e => decide (e.2 + 999000 ≤ s.clock) && decide (s.clock ≤ e.2 + 1001000)) = true →
    ∃ t, exec (.ppsEdge (s.on .PPS_FALLING) w) s = .next t ∧ t.reg .LAST_PPS_TIME = s.now % 2 ^ 64 ∧
    Counted .PPS_COUNT s t ∧ t.tb =
    { s.tb with edge := some (s.now, s.clock), labelled := false, run := if s.tb.edge.isSome = true ∧ s.tb.labelled =
                  false then 0 else s.tb.run } ∧ RegsKept (([.LAST_PPS_TIME, .PPS_COUNT] : List RegName) ++ beadRegs)
    s t ∧ { t with regs := s.regs, tb := s.tb } = s) ∧
  (∀ (s : State) (w : Nat), s.timeUp = true → s.on .PPS_ENABLE = true → s.pinHas 1 = true →
    (w < 1000 ∨ s.tb.edge.all (fun e => decide (e.2 + 999000 ≤ s.clock) && decide (s.clock ≤ e.2 + 1001000)) = false)
    → ∃ t, exec (.ppsEdge (s.on .PPS_FALLING) w) s = .next t ∧ Counted .PPS_REJECTED s t ∧
    RegsKept [.PPS_REJECTED] s t ∧ { t with regs := s.regs } = s) ∧
  (∀ (s : State) (n : Nmea) (e c l : Nat), s.timeUp = true → s.on .NMEA_ENABLE = true → s.pinHas 2 = true →
    ((n.rmc && n.statusA) || n.zda) = true → n.good = true → s.tb.edge = some (e, c) → c + 100000 ≤ s.clock →
    s.clock ≤ c + 900000 → s.tb.labelled = false → l = n.second * 1000000 → s.reg .TIME_STATE ≠ 2 →
    (if s.tb.label = some (l - 1000000) ∧ 1000000 ≤ l then s.tb.run + 1 else 1) < 4 →
    ∃ t, exec (.nmeaSentence n) s = .next t ∧ t.reg .LAST_OFFSET_NS = sat32 (((e : Int) - l) * 1000) ∧
    t.tb = { s.tb with labelled := true, label := some l, run := (if s.tb.label = some (l - 1000000) ∧ 1000000 ≤ l
                         then s.tb.run + 1 else 1), bad := 0 } ∧
    RegsKept [.LAST_OFFSET_NS] s t ∧ { t with regs := s.regs, tb := s.tb } = s) ∧
  (∀ (s : State) (n : Nmea) (e c l : Nat), s.timeUp = true → s.on .NMEA_ENABLE = true → s.pinHas 2 = true →
    ((n.rmc && n.statusA) || n.zda) = true → n.good = true → s.tb.edge = some (e, c) → c + 100000 ≤ s.clock →
    s.clock ≤ c + 900000 → s.tb.labelled = false → l = n.second * 1000000 → s.reg .TIME_STATE ≠ 2 →
    4 ≤ (if s.tb.label = some (l - 1000000) ∧ 1000000 ≤ l then s.tb.run + 1 else 1) →
    s.on .TIME_UNSET = true → s.noDisc → ∃ t, exec (.nmeaSentence n) s = .next t ∧ t.reg .TIME_STATE = 2 ∧
    t.reg .TIME_UNSET = 0 ∧ t.time = s.time + l - e ∧ Counted .TIME_STEPS s t ∧ t.tb.slew = 0 ∧
    t.clock = s.clock ∧ t.q = s.q ∧ t.md = s.md) ∧
  (∀ (s : State) (n : Nmea) (e c l : Nat), s.timeUp = true → s.on .NMEA_ENABLE = true → s.pinHas 2 = true →
    ((n.rmc && n.statusA) || n.zda) = true → n.good = true → s.tb.edge = some (e, c) → c + 100000 ≤ s.clock →
    s.clock ≤ c + 900000 → s.tb.labelled = false → l = n.second * 1000000 → s.reg .TIME_STATE = 2 → l ≤ e + 1000 →
    e ≤ l + 500000 → ∃ t, exec (.nmeaSentence n) s = .next t ∧ t.reg .TIME_STATE = 2 ∧
    t.reg .LAST_OFFSET_NS = sat32 (((e : Int) - l) * 1000) ∧ t.tb.slew = ((e : Int) - l) * 1000 ∧
    t.tb.slewFull = decide (l + 1000 < e) ∧ t.time = s.time ∧ RegsKept [.LAST_OFFSET_NS] s t ∧
    { t with regs := s.regs, tb := s.tb } = s) ∧
  (∀ (s : State) (n : Nmea) (e c l : Nat), s.timeUp = true → s.on .NMEA_ENABLE = true → s.pinHas 2 = true →
    ((n.rmc && n.statusA) || n.zda) = true → n.good = true → s.tb.edge = some (e, c) → c + 100000 ≤ s.clock →
    s.clock ≤ c + 900000 → s.tb.labelled = false → l = n.second * 1000000 → s.reg .TIME_STATE = 2 →
    (e + 500000 < l ∨ l + 500000 < e) → ∃ t, exec (.nmeaSentence n) s = .next t ∧
    Counted .NMEA_REJECTED s t ∧ (s.tb.bad + 1 < 4 → t.tb =
    { s.tb with labelled := true, bad := s.tb.bad + 1, run := 0, label := none } ∧ t.reg .TIME_STATE = 2) ∧
    (4 ≤ s.tb.bad + 1 → t.reg .TIME_STATE = (if s.on .TIME_UNSET = true then 0 else 1)) ∧ t.time = s.time) ∧
  (∀ (s : State) (n : Nmea), s.timeUp = true → s.on .NMEA_ENABLE = true → s.pinHas 2 = true →
    ((n.rmc && n.statusA) || n.zda) = true → (s.tb.edge = none ∨ n.good = false ∨ s.tb.edge.any (fun e => decide
    (s.clock < e.2 + 100000) || decide (e.2 + 900000 < s.clock)) = true) →
    ∃ t, exec (.nmeaSentence n) s = .next t ∧ Counted .NMEA_REJECTED s t ∧
    RegsKept [.NMEA_REJECTED] s t ∧ { t with regs := s.regs } = s) ∧
  (∀ (s : State) (e c : Nat), s.tb.edge = some (e, c) → c + 1500000 ≤ s.clock →
    ∃ t, exec .ppsTimeout s = .next t ∧ t.tb.edge = none ∧ t.tb.run = 0 ∧
    t.reg .TIME_STATE = (if s.reg .TIME_STATE = 2 then 3 else s.reg .TIME_STATE) ∧
    (s.reg .TIME_STATE = 2 → t.tb.holdoverAt = s.clock) ∧ (s.reg .TIME_STATE ≠ 2 → t.regs = s.regs) ∧
    t.time = s.time) ∧
  (∀ (s : State), s.reg .TIME_STATE = 3 → s.tb.holdoverAt + 600000000 ≤ s.clock →
    ∃ t, exec .holdoverExpiry s = .next t ∧ t.reg .TIME_STATE = (if s.on .TIME_UNSET = true then 0 else 1) ∧
    t.time = s.time ∧ t.tb = s.tb)

/-- TALLY_EDGE_DEBOUNCED (R383-R388) and TALLY_MAX_OPEN (Table 8.16, last row). -/
def Obligations.TallyIntervalsOpenAndClose : Prop :=
  (∀ (s : State) (p : Nat × Bool) (a : Nat), p.1 < 24 → s.pw.mode = .run → s.pw.entry = none → s.noDisc →
    s.get .GP_FUNC p.1 ≠ 8 → ∃ t, exec (.tallyEdgeDebounced [p] a) s = .next t ∧ (∀ k, k < 8 →
    Map.get t.tally k = if s.get .TL_START k = edgeCode p then (if s.get .TL_STOP k = edgeCode p ∧
    Map.get s.tally k = none then none else some
    { start := s.tickTime a, coarse := s.wardenTook a, odo := s.odometer, since := s.clock }) else if s.get .TL_STOP k
    = edgeCode p then none else Map.get s.tally k) ∧ (∀ k, k < 8 →
    t.get .TL_INTERVALS k = if s.get .TL_STOP k = edgeCode p ∨ (s.get .TL_START k = edgeCode p ∧
    Map.get s.tally k ≠ none) then min (s.get .TL_INTERVALS k + 1) (2 ^ 32 - 1) else s.get .TL_INTERVALS k) ∧
    t.gp = (s.pinLevel p).gp ∧ t.q = s.q ∧ t.md = s.md ∧ t.sp = s.sp) ∧
  (∀ (s : State) (p : Nat × Bool) (a k : Nat) (o : TallyOpen), p.1 < 24 → k < 8 → s.pw.mode = .run →
    s.pw.entry = none → s.get .GP_FUNC p.1 ≠ 8 → s.takes 8 32 → Map.get s.tally k = some o →
    s.get .TL_STOP k = edgeCode p → s.get .TL_START k ≠ edgeCode p → (∀ j, j < 8 → j ≠ k →
    s.get .TL_START j ≠ edgeCode p ∧ s.get .TL_STOP j ≠ edgeCode p) →
    ∃ t, exec (.tallyEdgeDebounced [p] a) s = .next t ∧ s.Gained t 8 32 0xFF (b2n (o.coarse || s.wardenTook a))
    (s.tickTime a) ∧ Map.get t.tally k = none ∧ t.get .TL_STATE k = 0 ∧
    t.reg .TALLY_NEXT_SEQ = (s.reg .TALLY_NEXT_SEQ + 1) % 2 ^ 32 ∧ t.lm.lease = s.lm.lease) ∧
  (∀ (s : State) (k m : Nat) (o : TallyOpen), k < 8 → s.pw.mode = .run → s.pw.entry = none → s.takes 8 32 →
    Map.get s.tally k = some o → m = s.get .TL_MAX_OPEN_S k → m ≠ 0 → o.start + m * 1000000 ≤ s.time →
    ∃ t, exec (.tallyMaxOpen k) s = .next t ∧ s.Gained t 8 32 0xFF (b2n o.coarse) (o.start + m * 1000000) ∧
    Map.get t.tally k = none ∧ t.get .TL_STATE k = 0 ∧ t.reg .TALLY_NEXT_SEQ = (s.reg .TALLY_NEXT_SEQ + 1) % 2 ^ 32 ∧
    t.get .TL_INTERVALS k = min (s.get .TL_INTERVALS k + 1) (2 ^ 32 - 1)) ∧
  (∀ (s : State) (k : Nat) (o : TallyOpen), k < 8 → Map.get s.tally k = some o →
    (s.get .TL_MAX_OPEN_S k = 0 ∨ s.time < o.start + s.get .TL_MAX_OPEN_S k * 1000000) →
    ∃ t, exec (.tallyMaxOpen k) s = .next t ∧ t = s)

/-! ## The spindle (09) -/

/-- SPINUP_REQUEST, SENSE_END, ALIGN_END, RAMP_TIMEOUT, SHORT_RETRY_END, STOP_REQUEST, SHORT_CYCLE,
SPINDLE_FAULT_RETRY (R410-R416, R432). -/
def Obligations.TheSpindleStartsAndStops : Prop :=
  (∀ (s : State) (rs : List (List Int)), (s.reg .SP_STATE = 0 ∨ s.reg .SP_STATE = 5 ∨ (s.reg .SP_STATE = 6 ∧
    s.sp.why = .stop)) → s.discWanted = true → s.spindleBarred = false → s.pw.mode = .run →
    s.pw.waking = none → s.st.d2dUntil = none → s.pw.d2dDown = false → s.st.laneLoopFail = [] →
    analogueFirst [0x20, 0x21, 0x22, 0x23] rs = none → ∃ t, exec (.spinupRequest rs []) s = .next t ∧
    t.reg .SP_STATE = 1 ∧ t.reg .DISC_TURNING = 1 ∧ t.reg .CLK_SERVO = 1 ∧ t.channelOn = false ∧
    t.reg .SP_DEMAND_MA = 0 ∧ t.sp.starting = true ∧ t.sp.requestedAt = s.clock ∧ t.sp.attempts = 0 ∧
    t.md = { s.md with session := s.md.session.map (Session.spunUp s.now) } ∧ t.q = s.q ∧ t.lm = s.lm) ∧
  (∀ (s : State) (rs : List (List Int)) (k u : Nat) (v : Int), (s.reg .SP_STATE = 0 ∨ s.reg .SP_STATE = 5 ∨ (s.reg
    .SP_STATE = 6 ∧ s.sp.why = .stop)) → s.discWanted = true → s.spindleBarred = false →
    s.pw.mode = .run → s.pw.waking = none → s.st.d2dUntil = none → s.pw.d2dDown = false →
    analogueFirst [0x20, 0x21, 0x22, 0x23] rs = some (k, u, v) → ∃ t, exec (.spinupRequest rs []) s = .next t ∧
    t.reg .DISC_SERVICE = 3 ∧ t.reg .OOS_CODE = Code.analogueFail ∧ t.reg .SP_STATE = s.reg .SP_STATE ∧
    t.bu.active = false ∧ t.bu.block = none ∧ Counted .ANALOGUE_FAILS s t) ∧
  (∀ (s : State), s.reg .SP_STATE = 1 → 20000 ≤ s.spFor → ∃ t, exec (.senseEnd []) s = .next t ∧
    t.reg .SP_STATE = 2 ∧ t.reg .SP_DEMAND_MA = s.reg .ALIGN_MA % 2 ^ 16 ∧ Counted .COLD_STARTS s t ∧
    t.reg .SP_SPEED_OK = 0 ∧ RegsKept (([.SP_STATE, .SP_SPEED_OK, .SP_DEMAND_MA, .COLD_STARTS] : List RegName) ++
    beadRegs) s t ∧ { t with regs := s.regs, sp := s.sp } = s) ∧
  (∀ (s : State) (l : List (Nat × Bool)), s.reg .SP_STATE = 1 → 20000 ≤ s.spFor → l.any (fun c => !c.2) = true →
    ∃ t, exec (.senseEnd l) s = .next t ∧ t.reg .SP_STATE = 6 ∧ t.sp.why = .start ∧ Counted .REVERSES s t ∧
    t.reg .SP_DEMAND_MA = 0 ∧ RegsKept ((.REVERSES :: [.SP_STATE, .SP_SPEED_OK, .SP_LOCKED, .SP_DEMAND_MA] : List
    RegName) ++ bookRegs) s t ∧ { t with regs := s.regs, sp := s.sp, host := s.host, bb := s.bb } = s) ∧
  (∀ (s : State) (l : List (Nat × Bool)), s.reg .SP_STATE = 1 → 20000 ≤ s.spFor →
    l.any (fun c => !c.2) = false → catchable l = true → s.on .CATCH_ENABLE = true →
    ∃ t, exec (.senseEnd l) s = .next t ∧ t.reg .SP_STATE = 4 ∧ t.reg .SP_LOCKED = 1 ∧
    Counted .CATCHES s t ∧ t.sp.periods = ((l.reverse.take 6).map (·.1)).filter (· ≠ 0) ∧
    t.reg .SP_SPEED_OK = 0 ∧ RegsKept ((.CATCHES :: [.SP_STATE, .SP_SPEED_OK, .SP_LOCKED, .SP_DEMAND_MA] : List
    RegName) ++ ([.SP_TARGET_RPM, .SP_CLV_ZONE, .SP_TOOTH_NS, .SP_RPM] : List RegName) ++ beadRegs) s t ∧
    { t with regs := s.regs, sp := s.sp } = s) ∧
  (∀ (s : State) (l : List (Nat × Bool)), s.reg .SP_STATE = 1 → 20000 ≤ s.spFor → l ≠ [] →
    l.any (fun c => !c.2) = false → (catchable l && s.on .CATCH_ENABLE) = false →
    ∃ t, exec (.senseEnd l) s = .next t ∧ t.reg .SP_STATE = 6 ∧ t.sp.why = .start ∧
    RegsKept [.SP_STATE, .SP_SPEED_OK, .SP_LOCKED, .SP_DEMAND_MA] s t ∧ { t with regs := s.regs, sp := s.sp } = s) ∧
  (∀ (s : State), s.reg .SP_STATE = 2 → 1000 * s.coldLatch 1 ≤ s.spFor → ∃ t, exec .alignEnd s = .next t ∧
    t.reg .SP_STATE = 3 ∧ t.sp = { s.sp with at' := s.clock, good := 0 } ∧
    RegsKept [.SP_STATE, .SP_SPEED_OK] s t ∧ { t with regs := s.regs, sp := s.sp } = s) ∧
  (∀ (s : State), s.reg .SP_STATE = 3 → 1200000000 ≤ s.coldLatch 2 * s.spFor → s.sp.attempts + 1 < 3 →
    ∃ t, exec .rampTimeout s = .next t ∧ t.reg .SP_STATE = 6 ∧ t.sp.why = .retry ∧
    t.sp.attempts = s.sp.attempts + 1 ∧ t.reg .SP_LOCKED = 0 ∧ RegsKept [.SP_STATE, .SP_SPEED_OK, .SP_LOCKED,
    .SP_DEMAND_MA] s t ∧ { t with regs := s.regs, sp := s.sp } = s) ∧
  (∀ (s : State), s.reg .SP_STATE = 3 → 1200000000 ≤ s.coldLatch 2 * s.spFor → 3 ≤ s.sp.attempts + 1 →
    ∃ t, exec .rampTimeout s = .next t ∧ t.reg .SP_STATE = 6 ∧ t.sp.why = .stop ∧ t.sp.attempts = 0 ∧
    Counted .START_FAILS s t ∧ t.reg .DISC_SERVICE = 3 ∧ t.reg .OOS_CODE = Code.spinupFailed ∧ t.bu.active = false) ∧
  (∀ (s : State), s.reg .SP_STATE = 6 → s.sp.why = .retry → 500000 ≤ s.spFor →
    ∃ t, exec .shortRetryEnd s = .next t ∧ t.reg .SP_STATE = 1 ∧ t.sp.starting = true ∧
    RegsKept [.SP_STATE, .SP_SPEED_OK, .SP_LOCKED, .SP_DEMAND_MA] s t ∧ { t with regs := s.regs, sp := s.sp } = s) ∧
  (∀ (s : State), s.reg .SP_STATE = 4 → s.discWanted = false → ∃ t, exec .stopRequest s = .next t ∧
    t = { s with sp.stopAsked := true }) ∧
  (∀ (s : State), ((s.reg .SP_STATE = 6 ∧ s.sp.why = .stop ∧ 150000 ≤ s.spFor) ∨ (s.reg .SP_STATE = 0 ∧
    s.on .DISC_TURNING = true)) → ∃ t, exec (.shortCycle false) s = .next t ∧ t.reg .SP_STATE = 0 ∧
    t.reg .DISC_TURNING = 0 ∧ t.reg .CLK_SERVO = 0 ∧ t.channelOn = false ∧ t.sp.restAt = s.clock ∧ t.md = s.md ∧
    t.q = s.q ∧ t.lm = s.lm) ∧
  (∀ (s : State), s.reg .SP_STATE = 6 → s.sp.why = .start → 150000 ≤ s.spFor →
    ∃ t, exec (.shortCycle false) s = .next t ∧ t.reg .SP_STATE = 2 ∧ Counted .COLD_STARTS s t ∧
    t.reg .SP_DEMAND_MA = s.reg .ALIGN_MA % 2 ^ 16) ∧
  (∀ (s : State), s.reg .SP_STATE = 6 → (s.sp.why = .stop ∨ s.sp.why = .start) → 150000 ≤ s.spFor →
    ∃ t, exec (.shortCycle true) s = .next t ∧ t = { s with sp.at' := s.clock }) ∧
  (∀ (s : State) (x : Bool), s.reg .SP_STATE = 6 → s.spFor < 150000 → ∃ t, exec (.shortCycle x) s = .next t ∧ t = s) ∧
  (∀ (s : State), s.reg .SP_STATE = 7 → 100000 ≤ s.spFor → ∃ t, exec .spindleFaultRetry s = .next t ∧
    t.reg .SPF_OVERCURRENT = 0 ∧ t.reg .SP_STATE = (if s.reg .DISC_SERVICE = 3 then 0 else 1) ∧
    RegsKept (.SPF_OVERCURRENT :: [.SP_STATE, .SP_SPEED_OK, .SP_LOCKED, .SP_DEMAND_MA]) s t ∧
    { t with regs := s.regs, sp := s.sp } = s)

/-- BEMF_CROSSING, TOOTH_SYNTH, COMMUTATION (R399-R402, R417-R425), SPINDLE_STALL (R424, R426), SPINDLE_OVERCURRENT,
SPINDLE_OPEN_PHASE, VMOT_LOW, VMOT_RECOVER, SPINDLE_STAGE_HOT, SPINDLE_STAGE_COOL (R432-R435). -/
def Obligations.TheSpindleRunsAndMeetsFaults : Prop :=
  (∀ (s : State) (p : Nat), s.reg .SP_STATE = 4 → s.sp.stopAsked = false → s.sp.deferred = [] →
    (s.expected = 0 ∨ (3 * s.expected ≤ 4 * p ∧ 4 * p ≤ 5 * s.expected)) → s.bemfBlanked = false →
    s.st.spurious = 0 → ∃ t, exec (.bemfCrossing p true) s = .next t ∧
    t.sp.periods = (p :: s.sp.periods).take 6 ∧ t.sp.tooth = (s.sp.tooth + 1) % 36 ∧
    t.reg .SP_STATE = 4 ∧ (targetPeriod s.trackNow < 50 * (if p < targetPeriod s.trackNow then targetPeriod s.trackNow
    - p else p - targetPeriod s.trackNow) → t.reg .SP_SPEED_OK = 0) ∧
    (100 * (if p < targetPeriod s.trackNow then targetPeriod s.trackNow - p else p - targetPeriod s.trackNow) ≤
    targetPeriod s.trackNow ∧ 36 ≤ s.sp.good + 1 → t.on .SP_SPEED_OK = true) ∧
    t.reg .TOOTH_REJECTS = s.reg .TOOTH_REJECTS ∧ t.md = s.md ∧ t.q = s.q) ∧
  (∀ (s : State) (p : Nat) (f : Bool), (s.reg .SP_STATE = 3 ∨ s.reg .SP_STATE = 4 ∨ s.reg .SP_STATE = 5) →
    s.bemfBlanked = false → s.st.spurious = 0 → (f = false ∨ ¬(s.expected = 0 ∨ (3 * s.expected ≤ 4 * p ∧
    4 * p ≤ 5 * s.expected))) → (f = true ∨ s.sp.prevReversed = false) →
    ∃ t, exec (.bemfCrossing p f) s = .next t ∧ Counted .TOOTH_REJECTS s t ∧
    t.sp = { s.sp with rejects := s.sp.rejects + 1, prevReversed := !f } ∧
    RegsKept (.TOOTH_REJECTS :: beadRegs) s t ∧ { t with regs := s.regs, sp := s.sp } = s) ∧
  (∀ (s : State) (p : Nat), s.reg .SP_STATE = 4 → s.bemfBlanked = false → s.st.spurious = 0 →
    s.sp.prevReversed = true → ∃ t, exec (.bemfCrossing p false) s = .next t ∧ Counted .TOOTH_REJECTS s t ∧
    Counted .REVERSES s t ∧ t.reg .SP_STATE = 6 ∧ t.bu.gate = false ∧ t.reg .LAS_I_BIAS = 0 ∧
    (2 ≤ (s.sp.stalls.filter (fun c => s.clock < c + 60000000)).length → t.reg .DISC_SERVICE = 3)) ∧
  (∀ (s : State), s.reg .SP_STATE = 4 → s.sp.stopAsked = false → s.sp.deferred = [] → s.sp.periods ≠ [] →
    ∃ t, exec .toothSynth s = .next t ∧ t.reg .TOOTH_SYNTH = min (s.reg .TOOTH_SYNTH + 1) (2 ^ 32 - 1) ∧
    t.sp.tooth = (s.sp.tooth + 1) % 36 ∧ t.sp.periods = s.sp.periods ∧ t.reg .SP_STATE = 4 ∧
    t.reg .SP_SPEED_OK = s.reg .SP_SPEED_OK ∧ t.md = s.md ∧ t.bu = s.bu) ∧
  (∀ (s : State), (s.reg .SP_STATE = 3 ∨ s.reg .SP_STATE = 4 ∨ s.reg .SP_STATE = 5) →
    ∃ t, exec .commutation s = .next t ∧ t =
    { s with sp := { s.sp with step := (s.sp.step + 1) % 6, commutateIn := 0, commutatedAt := some s.clock, latched :=
                                 [s.reg .SLEW_US, s.reg .ADVANCE_DEG, s.reg .ILIM_MA, s.reg .BRAKE_MA, s.reg .SPD_KP,
                                 s.reg .SPD_KI] } }) ∧
  (∀ (s : State) (p : Nat) (f : Bool), s.bemfBlanked = true → ∃ t, exec (.bemfCrossing p f) s = .next t ∧ t = s) ∧
  (∀ (s : State), s.stalled = false → ∃ t, exec .spindleStall s = .next t ∧ t = s) ∧
  (∀ (s : State) (k : Nat), k < 3 → s.reg .SP_DEMAND_MA ≠ 0 → s.reg .SP_STATE = 4 →
    s.sp.braking = false → (s.slewDone.2 = 0 ∨ s.slewDone.1 = s.slewDone.2) →
    s.phaseCurrent k = 1000 * s.reg .SP_DEMAND_MA * phasePart s.sp.step k) ∧
  (∀ (s : State), s.reg .SP_STATE = 4 → s.stalled = true → s.sp.starting = false →
    (s.sp.stalls.filter (fun c => s.clock < c + 60000000)).length < 2 → ∃ t, exec .spindleStall s = .next t ∧
    Counted .STALLS s t ∧ t.reg .SP_STATE = (if t.reg .DISC_SERVICE = 3 then 0 else 1) ∧ t.bu.gate = false ∧
    t.reg .LAS_I_BIAS = 0 ∧ t.sec = s.sec ∧ t.time = s.time) ∧
  (∀ (s : State), s.reg .SP_STATE = 4 → s.stalled = true → 2 ≤ (s.sp.stalls.filter (fun c => s.clock < c +
    60000000)).length → ∃ t, exec .spindleStall s = .next t ∧ Counted .STALLS s t ∧ t.reg .SP_STATE = 0 ∧
    t.reg .DISC_SERVICE = 3 ∧ t.reg .OOS_CODE = Code.spindleStall ∧ t.bu.gate = false ∧ t.bu.active = false) ∧
  (∀ (s : State) (k : Nat), k < 3 → (s.reg .SP_STATE = 2 ∨ s.reg .SP_STATE = 3 ∨ s.reg .SP_STATE = 4 ∨ s.reg .SP_STATE
    = 5 ∨ s.reg .SP_STATE = 6) → ∃ t, exec (.spindleOvercurrent k) s = .next t ∧ t.reg .SP_STATE = 7 ∧
    t.reg .SPF_OVERCURRENT = 1 ∧ Counted .STALLS s t ∧ t.sp.overcurrentAt = some s.clock ∧
    t.reg .SP_DEMAND_MA = 0 ∧ (s.sp.overcurrentAt.any (fun c => decide (s.clock < c + 10000000)) = true →
    t.reg .DISC_SERVICE = 3 ∧ t.reg .OOS_CODE = Code.spindleOvercurrent)) ∧
  (∀ (s : State) (k : Nat), k < 3 → s.reg .SP_STATE = 2 → 5000 ≤ s.spFor →
    ∃ t, exec (.spindleOpenPhase k) s = .next t ∧ t.reg .SP_STATE = 0 ∧ t.reg .SPF_OPEN_PHASE = 1 ∧
    t.reg .DISC_SERVICE = 3 ∧ t.reg .OOS_CODE = Code.spindleOpenPhase) ∧
  (∀ (s : State), s.on .SPF_VMOT_LOW = false → ∃ t, exec .vmotLow s = .next t ∧ t.reg .SPF_VMOT_LOW = 1 ∧
    (s.reg .SP_STATE = 0 ∨ 5 ≤ s.reg .SP_STATE → t.reg .SP_STATE = s.reg .SP_STATE) ∧ (1 ≤ s.reg .SP_STATE ∧
    s.reg .SP_STATE ≤ 4 → t.reg .SP_STATE = 0 ∧ t.reg .SP_DEMAND_MA = 0) ∧ t.sec = s.sec ∧ t.time = s.time) ∧
  (∀ (s : State), s.on .SPF_STAGE_HOT = false → ∃ t, exec .spindleStageHot s = .next t ∧
    t.reg .SPF_STAGE_HOT = 1 ∧ (s.reg .SP_STATE = 0 ∨ 5 ≤ s.reg .SP_STATE → t.reg .SP_STATE = s.reg .SP_STATE) ∧
    (1 ≤ s.reg .SP_STATE ∧ s.reg .SP_STATE ≤ 4 → t.reg .SP_STATE = 0 ∧ t.reg .SP_DEMAND_MA = 0) ∧
    t.sec = s.sec ∧ t.time = s.time) ∧
  (∀ (s : State), s.on .SPF_VMOT_LOW = true → ∃ t, exec .vmotRecover s = .next t ∧ t.reg .SPF_VMOT_LOW = 0 ∧
    t.reg .SP_STATE = (if s.reg .SP_STATE = 0 ∧ s.on .SPF_STAGE_HOT = false ∧ s.st.granted = none ∧
    s.discWanted = true ∧ s.pw.mode = .run then 1 else s.reg .SP_STATE) ∧
    RegsKept (.SPF_VMOT_LOW :: .DISC_TURNING :: [.SP_STATE, .SP_SPEED_OK, .SP_LOCKED, .SP_DEMAND_MA]) s t ∧
    { t with regs := s.regs, sp := s.sp } = s) ∧
  (∀ (s : State), s.on .SPF_STAGE_HOT = true → ∃ t, exec .spindleStageCool s = .next t ∧
    t.reg .SPF_STAGE_HOT = 0 ∧ t.reg .SP_STATE = (if s.reg .SP_STATE = 0 ∧ s.on .SPF_VMOT_LOW = false ∧
    s.st.granted = none ∧ s.discWanted = true ∧ s.pw.mode = .run then 1 else s.reg .SP_STATE) ∧
    RegsKept (.SPF_STAGE_HOT :: .DISC_TURNING :: [.SP_STATE, .SP_SPEED_OK, .SP_LOCKED, .SP_DEMAND_MA]) s t ∧
    { t with regs := s.regs, sp := s.sp } = s)

/-! ## The sled, the coils and the loader (10) -/

/-- SLED_SEEK_DEMAND, SLED_MOVE_END, HOLD_DELAY_EXPIRY, SLED_REENERGISE_END, HOME_SWITCH_EDGE, SLED_STALL,
HOMING_SETTLE, HOMING_FAIL (R440-R470). -/
def Obligations.TheSledMovesAndHomes : Prop :=
  (∀ (s : State) (u c : Int), s.on .SLF_STAGE_HOT = false → s.sl.homing = none →
    s.sl.reenergise = false → (s.sl.standing = false ∨ (s.standMode = 0 ∧ s.sl.loose = false)) →
    (s.reg .DISC_SERVICE ≠ 3 ∨ s.reg .SL_STATE ≠ 4) → c = s.sledClamp u → c ≠ s.sledPos →
    s.on .SL_POS_VALID = true → (s.on .SL_PROVISIONAL = false ∨ s.reg .LD_STATE = 2) →
    ∃ t, exec (.sledSeekDemand u) s = .next t ∧ t.sl =
    { s.sl with target := some c, after := none, standing := false, freed := false } ∧ t.reg .SL_STATE = 1 ∧
    (c ≠ u → Counted .SLED_CLAMPS s t) ∧ (c = u → t.reg .SLED_CLAMPS = s.reg .SLED_CLAMPS) ∧
    RegsKept (([.SL_STATE, .SL_STALL_SENSE_ACTIVE, .SLED_CLAMPS] : List RegName) ++ bookRegs) s t ∧ t.bu = s.bu) ∧
  (∀ (s : State) (u c : Int), s.on .SLF_STAGE_HOT = false → s.sl.homing = none →
    s.sl.reenergise = false → (s.sl.standing = false ∨ (s.standMode = 0 ∧ s.sl.loose = false)) →
    (s.reg .DISC_SERVICE ≠ 3 ∨ s.reg .SL_STATE ≠ 4) → c = s.sledClamp u → s.on .SL_POS_VALID = false →
    ∃ t, exec (.sledSeekDemand u) s = .next t ∧ t.sl.after = some c ∧
    (t.sl.homing = some (if s.reg .HOME_MODE = 1 then .outward else if s.on .SL_HOME_SW = true then .release else
    .inward)) ∧ t.reg .SL_STATE = 2 ∧ (c ≠ u → Counted .SLED_CLAMPS s t) ∧ (c = u →
    t.reg .SLED_CLAMPS = s.reg .SLED_CLAMPS) ∧ RegsKept (([.SL_STATE, .SL_STALL_SENSE_ACTIVE, .SLED_CLAMPS] : List
    RegName) ++ bookRegs) s t) ∧
  (∀ (s : State) (u c : Int), c = s.sledClamp u → (s.reg .DISC_SERVICE ≠ 3 ∨ s.reg .SL_STATE ≠ 4) →
    (s.on .SLF_STAGE_HOT = true ∨ s.sl.homing.isSome = true ∨ s.sl.reenergise = true) →
    ∃ t, exec (.sledSeekDemand u) s = .next t ∧ t.sl = { s.sl with after := some c } ∧ (c ≠ u →
    Counted .SLED_CLAMPS s t) ∧ (c = u → t.reg .SLED_CLAMPS = s.reg .SLED_CLAMPS) ∧
    RegsKept (([.SL_STATE, .SL_STALL_SENSE_ACTIVE, .SLED_CLAMPS] : List RegName) ++ bookRegs) s t) ∧
  (∀ (s : State) (u c : Int), c = s.sledClamp u → (s.reg .DISC_SERVICE ≠ 3 ∨ s.reg .SL_STATE ≠ 4) →
    s.on .SLF_STAGE_HOT = false → s.sl.homing = none → s.sl.reenergise = false → s.sl.standing = true →
    (s.standMode ≠ 0 ∨ s.sl.loose = true) → ∃ t, exec (.sledSeekDemand u) s = .next t ∧
    t.sl = { s.sl with after := some c, reenergise := true, standing := false, freed := false, loose := false, phaseAt
                         := s.clock } ∧ RegsKept (.SLED_CLAMPS :: bookRegs) s t) ∧
  (∀ (s : State) (u c : Int), c = s.sledClamp u → s.reg .DISC_SERVICE = 3 → s.reg .SL_STATE = 4 →
    ∃ t, exec (.sledSeekDemand u) s = .next t ∧ t.sl = s.sl ∧ RegsKept (.SLED_CLAMPS :: bookRegs) s t) ∧
  (∀ (s : State) (u : Int), s.sl.homing = none → s.sl.target = some u → ∃ t, exec .sledMoveEnd s = .next t ∧
    t.reg .SLED_POS = toBits 32 u ∧ t.reg .SL_STATE = 0 ∧ t.reg .SL_STALL_SENSE_ACTIVE = 0 ∧
    t.sl.target = none ∧ t.sl.standAt = s.clock ∧ t.reg .SL_POS_VALID = s.reg .SL_POS_VALID ∧ t.sp = s.sp) ∧
  (∀ (s : State) (u : Int), s.sl.homing = some .toMin → s.sl.target = some u → s.sl.after = none →
    ∃ t, exec .sledMoveEnd s = .next t ∧ t.reg .SLED_POS = toBits 32 u ∧ t.reg .SL_STATE = 0 ∧
    t.reg .SL_POS_VALID = 1 ∧ t.reg .SL_PROVISIONAL = 0 ∧ Counted .HOMINGS s t ∧ t.sl.homing = none ∧
    t.sl.target = none ∧ t.sl.tries = 0 ∧ t.bu = s.bu) ∧
  (∀ (s : State), s.sl.homing = some .outward → ∃ t, exec .sledMoveEnd s = .next t ∧
    t = { s with sl := { s.sl with homing := some .inward, vel := 0, frac := 0, homeTo := s.sledPos - 71680 } }) ∧
  (∀ (s : State), (s.reg .SL_STATE = 0 ∨ s.reg .SL_STATE = 3) → s.sl.standing = false →
    s.sl.reenergise = false → s.sl.standAt + 1000 * s.reg .HOLD_DELAY_MS ≤ s.clock →
    ∃ t, exec .holdDelayExpiry s = .next t ∧ t.sl.standing = true ∧
    t.sl.mode = s.reg .STANDSTILL ∧ { t.sl with standing := s.sl.standing, mode := s.sl.mode, loose := s.sl.loose } =
    s.sl ∧ (s.sl.memory = 0 → t.reg .RETAIN_POS = s.reg .SLED_POS % 2 ^ 32 ∧
    t.reg .RETAIN_VALID = s.reg .SL_POS_VALID % 2) ∧ (s.sl.memory ≠ 0 → t.regs = s.regs) ∧
    RegsKept [.RETAIN_POS, .RETAIN_VALID] s t ∧ { t with regs := s.regs, sl := s.sl } = s) ∧
  (∀ (s : State), s.sl.reenergise = true → s.sl.after = none → s.sl.phaseAt + 20000 ≤ s.clock →
    ∃ t, exec .sledReenergiseEnd s = .next t ∧ t.sl = { s.sl with reenergise := false } ∧
    t.reg .SL_PROVISIONAL = 1 ∧ RegsKept [.SL_PROVISIONAL] s t ∧ { t with regs := s.regs, sl := s.sl } = s) ∧
  (∀ (s : State), s.sl.homing = some .release → ∃ t, exec (.homeSwitchEdge false) s = .next t ∧
    t.sl = { s.sl with homing := some .outward, homeTo := s.sledPos + 1024 } ∧ t.reg .SL_HOME_SW = 0 ∧
    RegsKept [.SL_HOME_SW] s t ∧ { t with regs := s.regs, sl := s.sl } = s) ∧
  (∀ (s : State), s.sl.homing = some .inward → s.reg .HOME_MODE = 0 →
    ∃ t, exec (.homeSwitchEdge true) s = .next t ∧ t.sl =
    { s.sl with homing := some .settle, vel := 0, frac := 0, phaseAt := s.clock } ∧ t.reg .SLED_POS = 0 ∧
    t.reg .SL_HOME_SW = 1 ∧ RegsKept [.SL_HOME_SW, .SLED_POS, .SL_STALL_SENSE_ACTIVE] s t ∧
    { t with regs := s.regs, sl := s.sl } = s) ∧
  (∀ (s : State) (a : Bool), s.sl.homing = none → ∃ t, exec (.homeSwitchEdge a) s = .next t ∧
    t.reg .SL_HOME_SW = b2n a ∧ (s.on .SL_POS_VALID = true ∧ 1024 < s.sledPos.natAbs →
    t.reg .SL_POS_VALID = 0 ∧ Counted .POS_SLIPS s t) ∧ (s.on .SL_POS_VALID = false ∨ s.sledPos.natAbs ≤ 1024 →
    RegsKept [.SL_HOME_SW] s t) ∧ t.sl = s.sl) ∧
  (∀ (s : State) (u : Int), s.sl.homing = none → s.sl.target = some u → s.on .SL_STALL_SENSE_ACTIVE = true →
    ∃ t, exec .sledStall s = .next t ∧ t.reg .SL_POS_VALID = 0 ∧ Counted .SL_STALLS s t ∧
    Counted .POS_SLIPS s t ∧ t.sl.target = none ∧ ((s.sl.stalls.filter (fun x => s.clock < x + 60000000)).length < 2 →
    (t.sl.homing = some (if s.reg .HOME_MODE = 1 then .outward else if s.on .SL_HOME_SW = true then .release else
    .inward)) ∧ t.sl.after = some u ∧ t.reg .SL_STATE = 2) ∧ (2 ≤ (s.sl.stalls.filter (fun x => s.clock < x +
    60000000)).length → t.reg .DISC_SERVICE = 3 ∧ t.reg .OOS_CODE = Code.sledStall ∧ t.sl.after = none)) ∧
  (∀ (s : State), s.sl.homing = some .inward → s.reg .HOME_MODE = 1 → s.on .SL_STALL_SENSE_ACTIVE = true →
    ∃ t, exec .sledStall s = .next t ∧ t.sl =
    { s.sl with homing := some .settle, vel := 0, frac := 0, phaseAt := s.clock } ∧ t.reg .SLED_POS = 0 ∧
    s.reg .STALL_DEG < t.reg .LOAD_ANGLE_DEG ∧ RegsKept [.SLED_POS, .SL_STALL_SENSE_ACTIVE, .LOAD_ANGLE_DEG] s t) ∧
  (∀ (s : State), s.sl.homing = some .settle → s.sl.phaseAt + 10000 ≤ s.clock →
    ∃ t, exec .homingSettle s = .next t ∧ t =
    { s with sl := { s.sl with homing := some .toMin, target := some (s.reg .SL_MIN_USTEP) } }) ∧
  (∀ (s : State), s.sl.homing = some .inward → ∃ t, exec .homingFail s = .next t ∧ t.reg .SLF_HOME_FAIL = 1 ∧
    Counted .HOME_FAILS s t ∧ (s.sl.tries + 1 < 2 → (t.sl.homing = some (if s.reg .HOME_MODE = 1 then .outward else if
    s.on .SL_HOME_SW = true then .release else .inward)) ∧ t.sl.tries = s.sl.tries + 1 ∧ t.reg .SL_STATE = 2) ∧
    (2 ≤ s.sl.tries + 1 → t.sl.homing = none ∧ t.reg .SL_STATE = 4 ∧ t.reg .DISC_SERVICE = 3 ∧
    t.reg .OOS_CODE = Code.homeFail))

/-- SLED_OVERCURRENT, SLED_REHOME_TIMER, SLED_OPEN_COIL, SLED_STAGE_HOT, SLED_STAGE_COOL (R485-R487), COIL_RMS_TRIP,
COIL_OPEN_SHORT (R473, R474), LOADER_END_SWITCH, LOADER_TIMEOUT, CARTRIDGE_PULL (R477-R480). -/
def Obligations.SledCoilAndLoaderFaults : Prop :=
  (∀ (s : State) (k : Nat), k < 2 → ∃ t, exec (.sledOvercurrent k) s = .next t ∧ t.reg .SLF_OVERCURRENT = 1 ∧
    t.reg .SL_STATE = 4 ∧ t.reg .SL_POS_VALID = 0 ∧ Counted .POS_SLIPS s t ∧ t.sl.homing = none ∧
    (s.sl.homing = none → s.sl.target = none → t.sl.target = none) ∧
    ((s.sl.target.isSome = true ∨ s.sl.homing.isSome = true) → t.sl.target = none) ∧
    t.sl.overcurrentAt = some s.clock ∧ (s.sl.overcurrentAt.any (fun x => decide (s.clock < x + 10000000)) = true →
    t.reg .DISC_SERVICE = 3 ∧ t.reg .OOS_CODE = Code.sledOvercurrent ∧ t.sl.after = none) ∧
    (s.sl.overcurrentAt.any (fun x => decide (s.clock < x + 10000000)) = false →
    t.sl.after = (if s.sl.homing.isSome = true then s.sl.after else s.sl.target.or s.sl.after) ∧
    t.reg .DISC_SERVICE = s.reg .DISC_SERVICE)) ∧
  (∀ (s : State), s.reg .SL_STATE = 4 → s.on .SLF_OVERCURRENT = true →
    s.reg .DISC_SERVICE ≠ 3 → s.sl.overcurrentAt.all (· + 100000 ≤ s.clock) = true →
    ∃ t, exec .sledRehomeTimer s = .next t ∧ t.reg .SLF_OVERCURRENT = 0 ∧ t.reg .SL_STATE = 2 ∧
    (t.sl.homing = some (if s.reg .HOME_MODE = 1 then .outward else if s.on .SL_HOME_SW = true then .release else
    .inward)) ∧ RegsKept [.SLF_OVERCURRENT, .SL_STATE, .SL_STALL_SENSE_ACTIVE] s t ∧
    { t with regs := s.regs, sl := s.sl } = s) ∧
  (∀ (s : State) (k : Nat), k < 2 → (s.sl.target.isSome = true ∨ s.sl.homing.isSome = true ∨ s.sl.reenergise = true) →
    ∃ t, exec (.sledOpenCoil k) s = .next t ∧ t.reg .SLF_OPEN_COIL = 1 ∧ t.reg .SL_STATE = 4 ∧
    t.sl.target = none ∧ t.sl.homing = none ∧ t.sl.after = none ∧ t.reg .DISC_SERVICE = 3 ∧
    t.reg .OOS_CODE = Code.sledOpenCoil) ∧
  (∀ (s : State), s.on .SLF_STAGE_HOT = false → ∃ t, exec .sledStageHot s = .next t ∧
    t.reg .SLF_STAGE_HOT = 1 ∧ t.sl.after = (if s.sl.homing.isSome = true then s.sl.after else s.sl.target.or
    s.sl.after) ∧ t.sl.homing = none ∧ ((s.sl.target.isSome = true ∨ s.sl.homing.isSome = true) →
    t.sl.target = none ∧ t.reg .SL_STATE = 0) ∧ RegsKept (([.SLF_STAGE_HOT, .SL_STATE, .SLED_POS,
    .SL_STALL_SENSE_ACTIVE] : List RegName) ++ bookRegs) s t ∧ t.bu = s.bu) ∧
  (∀ (s : State), s.on .SLF_STAGE_HOT = true → s.sl.after = none → ∃ t, exec .sledStageCool s = .next t ∧
    t.reg .SLF_STAGE_HOT = 0 ∧ RegsKept [.SLF_STAGE_HOT] s t ∧ { t with regs := s.regs } = s) ∧
  (∀ (s : State) (k : Nat), k < 3 → ∃ t, exec (.coilRmsTrip k) s = .next t ∧ t.onAt .CL_RMS_TRIP k = true ∧
    Counted .RMS_TRIPS s t ∧ t.bu.gate = false ∧ (∀ j, j < 3 → t.get .CL_DEMAND j = 0) ∧
    (s.on .FOCUS_LOCK = true → t.reg .FOCUS_LOCK = 0 ∧ t.reg .SV_STATE = 1) ∧
    (2 ≤ (s.sl.rmsTrips.filter (fun x => s.clock < x + 60000000)).length → t.reg .DISC_SERVICE = 3 ∧
    t.reg .OOS_CODE = Code.coilRmsTrip)) ∧
  (∀ (s : State) (k : Nat) (b : Bool), k < 3 → ∃ t, exec (.coilOpenShort k b) s = .next t ∧ (b = true →
    t.onAt .CL_OPEN k = true) ∧ (b = false → t.onAt .CL_SHORT k = true) ∧ t.reg .DISC_SERVICE = 3 ∧
    t.reg .OOS_CODE = Code.coilOpenShort ∧ t.bu.active = false ∧ t.bu.block = none) ∧
  (∀ (s : State) (d : Option Disc), s.reg .LD_STATE = 1 → s.sl.back = false →
    ∃ t, exec (.loaderEndSwitch true d) s = .next t ∧ t.reg .LD_STATE = 2 ∧ t.reg .IN_SW = 1 ∧
    t.reg .OUT_SW = 0 ∧ Counted .LOADS s t ∧ t.reg .CAL_DUE = 0xFF ∧ (∀ l, l < 4 → t.get .READ_VALID l = 0 ∧
    t.get .OPC_VALID l = 0) ∧ t.md = { s.md with cart := d } ∧ RegsKept (([.LD_STATE, .IN_SW, .OUT_SW, .LOADS,
    .CAL_DUE, .READ_VALID, .OPC_VALID] : List RegName) ++ beadRegs) s t) ∧
  (∀ (s : State) (d : Option Disc), s.reg .LD_STATE = 3 → s.sl.back = false →
    ∃ t, exec (.loaderEndSwitch false d) s = .next t ∧ t.reg .LD_STATE = 0 ∧ t.reg .IN_SW = 0 ∧
    t.reg .OUT_SW = 1 ∧ Counted .EJECTS s t ∧ t.reg .DISC_SERVICE = 0 ∧
    t.md = { ({} : MediumS) with heads := s.md.heads } ∧ t.bu.active = false ∧ t.bu.block = none) ∧
  (∀ (s : State) (a : Bool) (d : Option Disc), ((s.reg .LD_STATE = 1 ∧ a = false) ∨ (s.reg .LD_STATE = 3 ∧
    a = true)) → s.sl.back = true → ∃ t, exec (.loaderEndSwitch a d) s = .next t ∧
    t.sl = { s.sl with back := false, loaderAt := s.clock } ∧ t.md = s.md ∧ RegsKept [.IN_SW, .OUT_SW] s t) ∧
  (∀ (s : State), (s.reg .LD_STATE = 1 ∨ s.reg .LD_STATE = 3) →
    s.sl.loaderAt + 1000 * s.reg .LD_TIMEOUT_MS ≤ s.clock → s.sl.retry = false →
    ∃ t, exec .loaderTimeout s = .next t ∧ t = { s with sl.retry := true, sl.back := true, sl.loaderAt := s.clock }) ∧
  (∀ (s : State), (s.reg .LD_STATE = 1 ∨ s.reg .LD_STATE = 3) →
    s.sl.loaderAt + 1000 * s.reg .LD_TIMEOUT_MS ≤ s.clock → s.sl.retry = true →
    ∃ t, exec .loaderTimeout s = .next t ∧ t.reg .LD_STATE = 4 ∧ Counted .JAMS s t ∧
    t.sl = { s.sl with retry := false, back := false } ∧ t.md = { s.md with ejecting := false }) ∧
  (∀ (s : State), s.reg .LD_STATE = 2 → ∃ t, exec .cartridgePull s = .next t ∧ t.reg .LD_STATE = 0 ∧
    t.reg .IN_SW = 0 ∧ Counted .CART_PULLS s t ∧ t.bu.gate = false ∧ t.bu.block = none ∧ t.bu.active = false ∧
    t.md = { ({} : MediumS) with heads := s.md.heads } ∧ t.reg .DISC_SERVICE = 0 ∧ (s.on .DISC_TURNING = true →
    t.reg .SP_STATE = 0) ∧ t.reg .LAS_I_BIAS = 0 ∧ t.reg .LAS_I_PEAK = 0 ∧ (∀ k, k < 3 → t.get .CL_DEMAND k = 0))

/-! ## The servo (11) -/

/-- FOCUS_CLOSE, FOCUS_SWEEP_END, LAYER_JUMP_TIMEOUT, TRACK_LOSS, FOCUS_LOSS, SETTLE_COMPLETE, SEEK_REQUEST,
SEEK_DONE (R499-R510, R528). -/
def Obligations.FocusTrackAndSeekFollowTheSequencer : Prop :=
  (∀ (s : State) (n l k : Nat) (o : Int), l < 4 → k < 112500 → s.reg .SV_STATE = 1 → n + s.sv.layer = 4 →
    ∃ t, exec (.focusClose n l o k) s = .next t ∧ Counted .FOCUS_ACQS s t ∧ t.reg .SL_PROVISIONAL = 0 ∧
    t.reg .SV_TRACK = k ∧ (l = s.sv.layer → t.reg .SV_STATE = 6 ∧ t.reg .FOCUS_LOCK = 1 ∧ t.reg .SV_LAYER = l ∧
    t.reg .APC_LOCK = 1) ∧ (l ≠ s.sv.layer → t.reg .SV_STATE = 5 ∧ Counted .LAYER_JUMPS s t) ∧ (∀ c, c < 3 →
    t.get .CL_RMS_TRIP c = 0) ∧ t.sv.sweeps = 0 ∧ t.lm = s.lm) ∧
  (∀ (s : State) (n l k : Nat) (o : Int), l < 4 → k < 112500 → s.reg .SV_STATE = 1 → n + s.sv.layer ≠ 4 →
    ∃ t, exec (.focusClose n l o k) s = .next t ∧ t = s) ∧
  (∀ (s : State) (n l k : Nat) (o : Int), l < 4 → k < 112500 → s.reg .SV_STATE = 5 → l = s.sv.layer →
    s.sv.jumpTo = l → ∃ t, exec (.focusClose n l o k) s = .next t ∧ t.reg .SV_STATE = 6 ∧
    t.reg .FOCUS_LOCK = 1 ∧ t.reg .SV_LAYER = l ∧ t.reg .SV_TRACK = k ∧ t.reg .APC_LOCK = 1 ∧ (∀ c, c < 3 →
    t.get .CL_RMS_TRIP c = 0) ∧ t.sv.sweeps = 0) ∧
  (∀ (s : State) (n l k : Nat) (o : Int), l < 4 → k < 112500 → s.reg .SV_STATE = 5 → l ≠ s.sv.layer →
    ∃ t, exec (.focusClose n l o k) s = .next t ∧ t.reg .SV_STATE = 1 ∧ t.reg .FOCUS_LOCK = 0 ∧
    t.reg .TRACK_LOCK = 0 ∧ t.reg .SV_LAYER = 0xFF ∧ Counted .JUMP_FAILS s t ∧ t.sv.layer = s.sv.layer ∧
    t.sv.waiting = s.sv.seek.or s.sv.waiting) ∧
  (∀ (s : State), s.reg .SV_STATE = 1 → s.sv.sweepAt + 1000 * s.reg .FA_SWEEP_MS ≤ s.clock → s.sv.sweeps < 2 →
    ∃ t, exec .focusSweepEnd s = .next t ∧ t = { s with sv.sweeps := s.sv.sweeps + 1, sv.sweepAt := s.clock }) ∧
  (∀ (s : State), s.reg .SV_STATE = 1 → s.sv.sweepAt + 1000 * s.reg .FA_SWEEP_MS ≤ s.clock → 2 ≤ s.sv.sweeps →
    ∃ t, exec .focusSweepEnd s = .next t ∧ t.reg .SV_STATE = 7 ∧ Counted .FOCUS_FAILS s t ∧ (∀ c, c < 3 →
    t.get .CL_DEMAND c = 0) ∧ t.reg .DISC_SERVICE = 3 ∧ t.reg .OOS_CODE = Code.focusFail) ∧
  (∀ (s : State), s.reg .SV_STATE = 5 → s.sv.jumpAt + 2000 ≤ s.clock → ∃ t, exec .layerJumpTimeout s = .next t ∧
    t.reg .SV_STATE = 1 ∧ t.reg .FOCUS_LOCK = 0 ∧ t.reg .TRACK_LOCK = 0 ∧ t.reg .SV_LAYER = 0xFF ∧
    Counted .JUMP_FAILS s t ∧ t.sv.layer = s.sv.layer ∧ t.sv.waiting = s.sv.seek.or s.sv.waiting) ∧
  (∀ (s : State), s.reg .SV_STATE = 3 → ∃ t, exec .trackLoss s = .next t ∧ t.reg .SV_STATE = 6 ∧
    t.reg .TRACK_LOCK = 0 ∧ Counted .TRACK_LOSSES s t ∧ t.bu.gate = false ∧ t.sv.goal = none) ∧
  (∀ (s : State), s.on .FOCUS_LOCK = true → ∃ t, exec .focusLoss s = .next t ∧ t.reg .SV_STATE = 1 ∧
    t.reg .FOCUS_LOCK = 0 ∧ t.reg .TRACK_LOCK = 0 ∧ t.reg .SV_LAYER = 0xFF ∧ Counted .FOCUS_LOSSES s t ∧
    t.reg .SHOCK_HOLD = 1 ∧ t.bu.gate = false ∧ t.sv.layer = (if s.reg .SV_LAYER < 4 then s.reg .SV_LAYER else
    s.sv.layer)) ∧
  (∀ (s : State) (k : Nat), s.reg .SV_STATE = 6 → (s.sv.goal = none ∨ s.sv.goal = some k) →
    s.sv.seek = none → s.sv.waiting = none → ∃ t, exec (.settleComplete k) s = .next t ∧ t.reg .SV_STATE = 3 ∧
    t.reg .TRACK_LOCK = 1 ∧ t.reg .SV_TRACK = k % 2 ^ 32 ∧ t.sv.goal = none ∧ t.sv.attempts = 0) ∧
  (∀ (s : State) (k g : Nat), s.reg .SV_STATE = 6 → s.sv.goal = some g → g ≠ k →
    ∃ t, exec (.settleComplete k) s = .next t ∧ t.reg .SV_TRACK = k % 2 ^ 32 ∧ (s.sv.attempts < 4 →
    t.reg .SV_STATE = 4 ∧ t.sv.attempts = s.sv.attempts + 1 ∧ Counted .SEEK_RETRIES s t) ∧ (4 ≤ s.sv.attempts →
    t.reg .DISC_SERVICE = 3 ∧ t.reg .OOS_CODE = Code.seekFail)) ∧
  (∀ (s : State) (l k : Nat), l < 4 → k < 112500 → s.reg .SV_STATE = 3 → s.seekWaits = false →
    ∃ t, exec (.seekRequest l k) s = .next t ∧ Counted .SEEKS s t ∧ t.reg .TRACK_LOCK = 0 ∧ t.sv.waiting = none ∧
    (l = s.reg .SV_LAYER → t.reg .SV_STATE = 4 ∧ t.sv.goal = some k) ∧ (l ≠ s.reg .SV_LAYER →
    t.reg .SV_STATE = 5 ∧ t.sv.seek = some (l, k) ∧ Counted .LAYER_JUMPS s t)) ∧
  (∀ (s : State) (l k : Nat), l < 4 → k < 112500 → s.reg .SV_STATE ≠ 0 → s.reg .SV_STATE ≠ 7 →
    s.reg .SV_STATE ≠ 4 → s.seekWaits = true → ∃ t, exec (.seekRequest l k) s = .next t ∧
    t = { s with sv.waiting := some (l, k) }) ∧
  (∀ (s : State) (l k : Nat), l < 4 → k < 112500 → (s.reg .SV_STATE = 0 ∨ s.reg .SV_STATE = 7) →
    ∃ t, exec (.seekRequest l k) s = .next t ∧ t = s) ∧
  (∀ (s : State) (l k : Nat), l < 4 → k < 112500 → s.reg .SV_STATE = 4 → s.on .SHOCK_HOLD = false →
    ∃ t, exec (.seekRequest l k) s = .next t ∧ t.reg .SV_STATE = 4 ∧ (l = s.reg .SV_LAYER → t.sv.goal = some k) ∧
    (l ≠ s.reg .SV_LAYER → t = { s with sv := { s.sv with goal := none, seek := none, waiting := some (l, k) } })) ∧
  (∀ (s : State) (n l k : Nat) (o : Int), l < 4 → k < 112500 → s.reg .SV_STATE = 5 → l = s.sv.layer →
    s.sv.jumpTo < 4 → s.sv.jumpTo ≠ l → ∃ t, exec (.focusClose n l o k) s = .next t ∧ t.reg .SV_STATE = 5 ∧
    t.reg .FOCUS_LOCK = 0 ∧ Counted .LAYER_JUMPS s t ∧ t.sv.jumpTo = s.sv.jumpTo ∧ t.sv.jumpAt = s.clock ∧
    t.sv.layer = (if l < s.sv.jumpTo then l + 1 else l - 1)) ∧
  (∀ (s : State) (k : Nat), s.reg .SV_STATE = 4 → ∃ t, exec (.seekDone k) s = .next t ∧ t.reg .SV_STATE = 6 ∧
    t.reg .SV_TRACK = k % 2 ^ 32 ∧ RegsKept (([.SV_STATE, .SV_TRACK] : List RegName) ++ ([.SP_TARGET_RPM,
    .SP_CLV_ZONE, .SP_TOOTH_NS, .SP_RPM] : List RegName)) s t ∧ { t with regs := s.regs } = s)

/-- WRITE_GATE_TRIP, SHOCK_HOLD_CLEAR (R517-R522), ACC_SAMPLE, ACC_TIMEOUT, ACC_REINIT (R511-R515),
DEFECT_FLAG_ASSERT, _RELEASE, DEFECT_HOLD_OVERRUN (R523, R524), SERVO_LOOP_SAMPLE (R489-R494), SAMPLE_MISSED (14
R622). -/
def Obligations.TheGateTripsAndTheSampleRuns : Prop :=
  (∀ (s : State) (te fe acc : Bool) (a b : Nat), (te || fe || (acc && (s.on .ACC_TRIP && s.reg .ACC_STATE == 1))) =
    true → ∃ t, exec (.writeGateTrip te fe acc a b) s = .next t ∧ t.reg .SHOCK_HOLD = 1 ∧
    t.bu.gate = false ∧ t.sv.shock.isSome = true ∧ t.sv.tripAt = s.clock ∧
    t.reg .WG_TRIPS_TE = (if te = true then min (s.reg .WG_TRIPS_TE + 1) (2 ^ 32 - 1) else s.reg .WG_TRIPS_TE) ∧
    t.reg .WG_TRIPS_FE = (if fe = true then min (s.reg .WG_TRIPS_FE + 1) (2 ^ 32 - 1) else s.reg .WG_TRIPS_FE) ∧
    t.reg .WG_TRIPS_ACC = (if (acc && (s.on .ACC_TRIP && s.reg .ACC_STATE == 1)) = true then min (s.reg .WG_TRIPS_ACC
    + 1) (2 ^ 32 - 1) else s.reg .WG_TRIPS_ACC)) ∧
  (∀ (s : State) (acc : Bool) (a b : Nat), (acc && (s.on .ACC_TRIP && s.reg .ACC_STATE == 1)) = false →
    ∃ t, exec (.writeGateTrip false false acc a b) s = .next t ∧ t = s) ∧
  (∀ (s : State), s.on .SHOCK_HOLD = true → s.reg .SV_STATE = 3 → s.sv.overs.any (· == true) = false →
    max s.sv.tripAt s.sv.followAt + s.quiet ≤ s.clock → ∃ t, exec .shockHoldClear s = .next t ∧
    t.reg .SHOCK_HOLD = 0 ∧ t.sv.shock = none ∧ t.reg .SHOCK_EVENTS = (if s.sv.shock.isSome = true then min (s.reg
    .SHOCK_EVENTS + 1) (2 ^ 32 - 1) else s.reg .SHOCK_EVENTS)) ∧
  (∀ (s : State), (s.on .SHOCK_HOLD = false ∨ s.reg .SV_STATE ≠ 3 ∨ s.sv.overs.any (· == true) = true ∨ s.clock < max
    s.sv.tripAt s.sv.followAt + s.quiet) → ∃ t, exec .shockHoldClear s = .next t ∧ t = s) ∧
  (∀ (s : State) (b : List Byte), b.length = 6 → s.on .ACC_ENABLE = true → s.on .CLK_SERVO = true →
    b.all (· == 0) = false → b.all (· == 255) = false → ∃ t, exec (.accSample b true) s = .next t ∧
    t.reg .ACC_X_MG = toBits 16 (axisMg (fieldAt b 0 2) (s.reg .ACC_LSB_UG)) ∧
    t.reg .ACC_Y_MG = toBits 16 (axisMg (fieldAt b 2 2) (s.reg .ACC_LSB_UG)) ∧
    t.reg .ACC_Z_MG = toBits 16 (axisMg (fieldAt b 4 2) (s.reg .ACC_LSB_UG)) ∧
    Counted .ACC_SAMPLES s t ∧ t.sv.accErrors = 0 ∧ t.sv.accAt = s.clock ∧ (s.reg .ACC_STATE = 0 →
    t.reg .ACC_STATE = 1)) ∧
  (∀ (s : State) (b : List Byte) (ok : Bool), b.length = 6 → s.on .ACC_ENABLE = true → s.on .CLK_SERVO = true →
    (ok = false ∨ b.all (· == 0) = true ∨ b.all (· == 255) = true) → ∃ t, exec (.accSample b ok) s = .next t ∧
    Counted .ACC_ERRORS s t ∧ t.sv.accErrors = s.sv.accErrors + 1 ∧ (7 ≤ s.sv.accErrors →
    t.reg .ACC_STATE = 2) ∧ (s.sv.accErrors < 7 → RegsKept [.ACC_ERRORS] s t)) ∧
  (∀ (s : State), s.on .ACC_ENABLE = true → s.on .CLK_SERVO = true → s.sv.accAt + 1000 ≤ s.clock →
    ∃ t, exec .accTimeout s = .next t ∧ t.reg .ACC_STATE = 2 ∧ RegsKept (.ACC_STATE :: bookRegs) s t ∧ t.bu = s.bu) ∧
  (∀ (s : State), s.reg .ACC_STATE = 2 → s.on .CLK_SERVO = true → s.sv.accInitAt + 1000000 ≤ s.clock →
    ∃ t, exec .accReinit s = .next t ∧ t =
    { s with sv := { s.sv with accLatched := (s.reg .ACC_READ_CMD, s.reg .ACC_SPI_MHZ, (List.range (s.reg
                                 .ACC_INIT_COUNT)).map fun k => s.get .ACC_INIT k), accErrors := 0, accRun := 0, accAt
                                 := s.clock, accInitAt := s.clock } }) ∧
  (∀ (s : State), s.on .DEFECT = false → ∃ t, exec .defectFlagAssert s = .next t ∧ t.reg .DEFECT = 1 ∧
    t.reg .DEFECT_HOLD = 1 ∧ Counted .DEFECT_HOLDS s t ∧ t.sv = { s.sv with defectAt := some s.clock } ∧
    RegsKept (([.DEFECT, .DEFECT_HOLD, .DEFECT_HOLDS] : List RegName) ++ beadRegs) s t ∧
    { t with regs := s.regs, sv := s.sv } = s) ∧
  (∀ (s : State), ∃ t, exec .defectFlagRelease s = .next t ∧ (s.st.defectUntil.any (fun e => decide (s.clock < e)) =
    true → t = s) ∧ (s.st.defectUntil.any (fun e => decide (s.clock < e)) = false → t.reg .DEFECT = 0 ∧
    t.reg .DEFECT_HOLD = 0 ∧ t.sv.defectAt = none) ∧ RegsKept [.DEFECT, .DEFECT_HOLD] s t) ∧
  (∀ (s : State), s.on .DEFECT = true → s.on .DEFECT_HOLD = true →
    s.sv.defectAt.all (fun x => decide (x + s.reg .DEF_HOLD_US < s.clock)) = true →
    ∃ t, exec .defectHoldOverrun s = .next t ∧ t.reg .DEFECT_HOLD = 0 ∧ t.reg .DEFECT = s.reg .DEFECT ∧
    Counted .DEFECT_OVERRUNS s t ∧ RegsKept (([.DEFECT_HOLD, .DEFECT_OVERRUNS] : List RegName) ++ bookRegs) s t) ∧
  (∀ (s : State) (ac bd : Int × Int) (e f : Int) (w : Option Nat), (s.reg .SP_STATE ≠ 4 ∨ s.on .CLK_SERVO = false) →
    ∃ t, exec (.servoLoopSample ac bd e f w) s = .next t ∧ (∀ k, k < 3 → t.get .CL_DEMAND k = 0) ∧
    RegsKept [.CL_DEMAND] s t ∧ { t with regs := s.regs } = s) ∧
  (∀ (s : State) (a b c d e f fe : Int) (w : Option Nat), s.reg .SP_STATE = 4 → s.on .CLK_SERVO = true →
    s.on .DEFECT_HOLD = false → s.sv.rampLeft = 0 → s.sv.coilRamp = none →
    fe = (s.spotFe a b c d).1 - s.sv.inForce.getD 0 0 → ∃ t, exec (.servoLoopSample (a, c) (b, d) e f w) s = .next t ∧
    (s.spotSum a b c d ≠ 0 → fe = ((a + c) - (b + d)) * 1024 / s.spotSum a b c d - s.sv.inForce.getD 0 0) ∧
    t.reg .FE_NM = toBits 16 (clip16 fe) ∧ (s.reg .SV_STATE = 0 ∨ s.reg .SV_STATE = 7 → ∀ k, k < 3 →
    t.get .CL_DEMAND k = 0) ∧ (s.on .FOCUS_LOCK = true ∧ s.reg .WG_FE_NM < fe.natAbs ∧
    s.sv.overs.getD 1 false = false → t.reg .SHOCK_HOLD = 1 ∧ t.bu.gate = false)) ∧
  (∀ (s : State), s.on .CLK_SERVO = true → ∃ t, exec .sampleMissed s = .next t ∧ t.bu.gate = false ∧
    (∀ k, k < 3 → t.get .CL_DEMAND k = 0) ∧ (s.reg .SP_STATE = 4 ∧ s.reg .SV_STATE ≠ 0 ∧ s.reg .SV_STATE ≠ 7 →
    t.reg .SV_STATE = 1) ∧ t.reg .FOCUS_LOCK = 0 ∧ t.reg .TRACK_LOCK = 0)

/-! ## Writing, reading and the laser (12, 15) -/

/-- CLUSTER_ENCODE, SIGNATURE_DONE (15 R653-R661), CLUSTER_VERIFY_VERDICT (12 R549-R552, R583). -/
def Obligations.ClustersAreEncodedSignedAndVerified : Prop :=
  (∀ (s : State) (k : Block) (i : Nat), s.bu.block = some k → k.enc = none → k.writing = none → i = k.index →
    i < k.clusters.length → k.trailers.length = i → k.nextAca ≠ noAca → s.canSign = true →
    s.sec.coreDown = false → s.gateAllowed = false → ∃ t, exec .clusterEncode s = .next t ∧
    (t.bu.block.bind (·.enc)).map (fun e => (e.index, e.aca, e.ready)) = some (i, k.nextAca, decide (i + 1 ≠
    k.clusters.length)) ∧ (t.bu.block.bind (·.enc)).map (fun e => (e.trailer.homeAca, e.trailer.clIndex,
    e.trailer.blockId, e.trailer.writeTime)) = some (k.nextAca, i, k.id, s.now) ∧
    (t.bu.block.bind (·.enc)).map (fun e => (e.trailer.clHash, e.trailer.chainPrev)) = some (clHash (k.clusters.getD i
    { body := .test, md := noMetadata }).body (k.clusters.getD i { body := .test, md := noMetadata }).md, if i = 0
    then k.chainPrev else (k.trailers.getD (i - 1) noTrailer).chainVal) ∧
    (t.bu.block.bind (·.enc)).map (fun e => decide (e.trailer.chainVal = chainVal { e.trailer with chainVal := 0 })) =
    some true ∧ t.regs = s.regs ∧ t.md = s.md) ∧
  (∀ (s : State) (k : Block) (e : Encoded) (d : Nat), s.bu.block = some k → k.enc = some e →
    e.ready = false → s.sec.devKey = some d → s.gateAllowed = false →
    ∃ t, exec (.signatureDone true) s = .next t ∧ t.bu.block = some
    { k with enc := some { e with ready := true, trailer := { e.trailer
                                                                with sig := ecdsaSign d (sha256 (beBytes 32
                                                                       e.trailer.chainVal)) } } } ∧
    Counted .SIGNATURES s t ∧ RegsKept (.SIGNATURES :: beadRegs) s t ∧ t.md = s.md) ∧
  (∀ (s : State) (k : Block) (e : Encoded), s.bu.block = some k → k.enc = some e → e.ready = false →
    s.sec.devKey ≠ none → e.sigFails = 0 → ∃ t, exec (.signatureDone false) s = .next t ∧
    t.bu.block = some { k with enc := some { e with sigFails := 1 } } ∧ Counted .SIG_SELF_FAILS s t ∧
    RegsKept (.SIG_SELF_FAILS :: bookRegs) s t ∧ t.md = s.md) ∧
  (∀ (s : State) (k : Block) (e : Encoded), s.bu.block = some k → k.enc = some e → e.ready = false →
    s.sec.devKey ≠ none → e.sigFails ≠ 0 → ∃ t, exec (.signatureDone false) s = .next t ∧
    Counted .SIG_SELF_FAILS s t ∧ t.reg .ENTROPY_STATE = (if s.reg .ENTROPY_STATE = 2 then 2 else 0) ∧
    (2 ≤ (s.bu.sigAbandons.filter (fun x => s.clock < x + 3600000000)).length →
    t.reg .SIGNING_HALTED = 1 ∧ t.bu.active = false)) ∧
  (∀ (s : State) (k : Block) (a : Nat) (v : Verdict) (rs : List FrameResult), s.bu.block = some k →
    k.writing = some a → s.rd = [] → s.pw.pfail = none → s.md.cart.isSome = true →
    rs = (s.verifyFrames v).2 → s.verdictPasses k v.cs rs = true →
    ∃ t, exec (.clusterVerifyVerdict v) s = .next t ∧ t.clusterAt a = some (k.cluster k.trailer true) ∧
    Counted .CL_WRITTEN s t ∧ t.bu.tcl = v.tcl ∧ t.reg .VFY_FAILS = s.reg .VFY_FAILS) ∧
  (∀ (s : State) (k : Block) (a : Nat) (v : Verdict) (rs : List FrameResult), s.bu.block = some k →
    k.writing = some a → s.rd = [] → s.pw.pfail = none → s.md.cart.isSome = true →
    rs = (s.verifyFrames v).2 → s.verdictPasses k v.cs rs = false →
    ∃ t, exec (.clusterVerifyVerdict v) s = .next t ∧ t.clusterAt a = some (k.cluster k.trailer false) ∧
    Counted .VFY_FAILS s t ∧ t.bu.tcl = v.tcl ∧ t.reg .CL_WRITTEN = s.reg .CL_WRITTEN ∧
    (noSync 0 rs = false ∧ k.attempts + 1 ≤ s.reg .SLIP_MAX → t.reg .SLIP_EXHAUSTED = s.reg .SLIP_EXHAUSTED) ∧
    (noSync 0 rs = false ∧ s.reg .SLIP_MAX < k.attempts + 1 → Counted .SLIP_EXHAUSTED s t) ∧ (noSync 0 rs = true ∧
    1 ≤ s.bu.noFs → t.reg .VFY_FAULT = 1 ∧ t.reg .DISC_SERVICE = 3 ∧ t.reg .OOS_CODE = Code.verifyLost))

/-- READ_ATTEMPT_DONE (R566-R572), SCRATCH_PARITY (R584), APC_UPDATE (R537, R538), APC_LOCK_TIMEOUT,
MONITOR_DEVIATION, LASER_OVERPOWER (R581, R582). -/
def Obligations.ReadsAreCountedAndTheLaserIsGuarded : Prop :=
  (∀ (s : State) (j : ReadJob) (i : Nat) (p : ReadPart) (r : ReadOutcome), s.job = some j →
    j.cursor = some i → j.parts[i]? = some p → j.reading = true → j.states.getD i .todo = .todo →
    r.cut = false → r.parity = false → j.parity = false → ∃ t, exec (.readAttemptDone r) s = .next t ∧
    Counted .CL_READ s t ∧ t.reg .ERASED_ROWS = min (s.reg .ERASED_ROWS + (384 - (RowSet.join {} (s.readFrames false
    r).2 s.st.eraseFrames).good.length)) (2 ^ 32 - 1) ∧ t.st.eraseFrames = 0 ∧
    t.reg .ATTEMPTS_LOST = s.reg .ATTEMPTS_LOST) ∧
  (∀ (s : State) (j : ReadJob) (i : Nat) (p : ReadPart) (r : ReadOutcome), s.job = some j →
    j.cursor = some i → j.parts[i]? = some p → j.reading = true → r.cut = true →
    ∃ t, exec (.readAttemptDone r) s = .next t ∧ Counted .ATTEMPTS_LOST s t ∧ t.reg .CL_READ = s.reg .CL_READ ∧
    t.reg .CL_UNCORRECTABLE = (if 7 ≤ j.cuts then min (s.reg .CL_UNCORRECTABLE + 1) (2 ^ 32 - 1) else s.reg
    .CL_UNCORRECTABLE)) ∧
  (∀ (s : State) (w : Bool), ∃ t, exec (.scratchParity w) s = .next t ∧ Counted .SCRATCH_PARITY s t ∧
    Counted .PAR_ERRORS s t ∧ t.get .PAR_ERR 3 = min (s.get .PAR_ERR 3 + 1) (2 ^ 32 - 1) ∧
    t.bu.block = (if w = true then s.bu.block.map (fun k => { k with mustFail := true }) else s.bu.block) ∧
    t.md = s.md ∧ RegsKept (([.SCRATCH_PARITY, .PAR_ERRORS, .PAR_ERR] : List RegName) ++ bookRegs) s t) ∧
  (∀ (s : State) (e h : Nat), s.bu.gate = true → s.writingAca ≠ noAca → s.reg .LAS_STATE = 1 →
    ∃ t, exec (.apcUpdate e h) s = .next t ∧ t.reg .SLOPE_UW_MA = e % 2 ^ 16 ∧ t.reg .ITH_DMA = h % 2 ^ 16 ∧
    (e % 2 ^ 16 ≠ 0 → t.las.levels = [s.las.strategy.pBias, scaledPower s.las.strategy.pCool s.trackNow, scaledPower
    s.las.strategy.pPeak s.trackNow, scaledPower s.las.strategy.pOd s.trackNow].map fun p => min (10 * s.reg
    .LAS_I_MAX_MA) (h % 2 ^ 16 + 100 * p / (e % 2 ^ 16))) ∧ t.bu = s.bu ∧ t.md = s.md) ∧
  (∀ (s : State), s.reg .LAS_STATE = 1 → s.on .APC_LOCK = false → s.las.onAt + 2000 ≤ s.clock →
    ∃ t, exec .apcLockTimeout s = .next t ∧ t.reg .MON_FAULT = 1 ∧ t.bu.gate = false ∧ (s.las.apcTries = 0 →
    t.reg .SV_STATE = 1 ∧ t.las.apcTries = 1) ∧ (s.las.apcTries ≠ 0 → t.reg .LAS_STATE = 3 ∧
    t.reg .DISC_SERVICE = 3 ∧ t.reg .OOS_CODE = Code.laserMonitor)) ∧
  (∀ (s : State), s.reg .LAS_STATE = 1 → ∃ t, exec .monitorDeviation s = .next t ∧ t.reg .MON_FAULT = 1 ∧
    t.bu.gate = false ∧ (s.las.apcTries = 0 → t.reg .SV_STATE = 1 ∧ t.las.apcTries = 1) ∧ (s.las.apcTries ≠ 0 →
    t.reg .LAS_STATE = 3 ∧ t.reg .DISC_SERVICE = 3 ∧ t.reg .OOS_CODE = Code.laserMonitor)) ∧
  (∀ (s : State), s.reg .LAS_STATE = 1 → ∃ t, exec .laserOverpower s = .next t ∧ t.reg .LAS_STATE = 3 ∧
    t.reg .OVERPOWER = 1 ∧ t.reg .LAS_I_BIAS = 0 ∧ t.reg .LAS_I_COOL = 0 ∧ t.reg .LAS_I_PEAK = 0 ∧
    t.reg .LAS_I_OD = 0 ∧ t.reg .DISC_SERVICE = 3 ∧ t.reg .OOS_CODE = Code.laserOverpower ∧ t.bu.block = none)

/-! ## Lanes and calibration (12, 13) -/

/-- LANE_DISAGREE, LANE_LOOPBACK_DONE, SHADOW_ROTATE (12 R559-R562), TEMP_CHECK, TEMP_SENSOR_STALE, READ_CAL_START,
READ_CAL_DONE, OPC_RUN, FF_FIT_WINDOW (13). -/
def Obligations.LanesSwapAndCalibrationRuns : Prop :=
  (∀ (s : State) (k j : Nat) (a b : Option Nat), k = s.reg .SHADOWED_LANE → k < 5 → j < 5 → j ≠ k →
    s.get .SH_STATE j = 1 → (∀ i, i < 5 → i ≠ j → s.get .SH_STATE i ≠ 1) →
    ∃ t, exec (.laneDisagree a b) s = .next t ∧ t.get .SH_STATE j = 0 ∧ t.get .SH_STATE k = 2 ∧
    t.reg .SHADOWED_LANE = 0xFF ∧ t.reg .SPARE_AVAILABLE = 0 ∧ Counted .SH_DISAGREE s t ∧
    t.las.testing = some k ∧ t.bu = s.bu ∧ t.md = s.md) ∧
  (∀ (s : State) (l : Nat), l < 5 → s.las.testing = some l → s.st.laneLoopFail.contains l = false →
    (s.las.disagree.getD l []).length < 3 → ∃ t, exec (.laneLoopbackDone l true) s = .next t ∧
    t.get .SH_STATE l = 1 ∧ t.reg .SPARE_AVAILABLE = 1 ∧ t.las.testing = none ∧ t.bu = s.bu) ∧
  (∀ (s : State) (l : Nat) (p : Bool), l < 5 → s.las.testing = some l → s.get .SH_STATE l ≠ 3 →
    (p = false ∨ s.st.laneLoopFail.contains l = true ∨ 3 ≤ (s.las.disagree.getD l []).length) →
    ∃ t, exec (.laneLoopbackDone l p) s = .next t ∧ t.get .SH_STATE l = 3 ∧ Counted .SH_RETIRED s t ∧
    t.las.testing = none) ∧
  (∀ (s : State) (k : Nat), k = s.reg .SHADOWED_LANE → k < 5 → ∃ t, exec .shadowRotate s = .next t ∧
    t.las = { s.las with rotations := s.las.rotations + 1, frames := (s.las.frames / 2 ^ 20 + 1) * 2 ^ 20 } ∧
    (s.get .SH_STATE ((k + 1) % 5) = 0 → t.reg .SHADOWED_LANE = (k + 1) % 5) ∧
    (s.get .SH_STATE (t.reg .SHADOWED_LANE) = 0 ∨ t.reg .SHADOWED_LANE = k) ∧ RegsKept [.SHADOWED_LANE] s t) ∧
  (∀ (s : State) (v : Int), -500 ≤ v → v ≤ 1600 → s.cal.sensors = [] → ∃ t, exec (.tempCheck v) s = .next t ∧
    t.reg .TEMP_NOW_DC = toBits 16 v ∧ (s.on .TEMP_TRIGGER = true →
    t.reg .CAL_DUE % 256 = (s.reg .CAL_DUE ||| s.tempMask v) % 256) ∧ (s.on .TEMP_TRIGGER = false →
    t.reg .CAL_DUE = s.reg .CAL_DUE) ∧ RegsKept [.TEMP_NOW_DC, .CAL_DUE, .CAL_DEFERRED] s t) ∧
  (∀ (s : State) (v : Int), (v < -500 ∨ 1600 < v) → ∃ t, exec (.tempCheck v) s = .next t ∧
    t.cal.sensors.contains 0 = true) ∧
  (∀ (s : State) (k : Nat), s.cal.sensors.contains k = false → ∃ t, exec (.tempSensorStale k) s = .next t ∧
    t.cal = { s.cal with sensors := s.cal.sensors ++ [k], staleUs := 0 } ∧ RegsKept bookRegs s t ∧ t.bu = s.bu) ∧
  (∀ (s : State) (l : Nat), l = s.reg .SV_LAYER → l < 4 → s.calDue l false = true → s.canCalibrate l = true →
    ∃ t, exec .readCalStart s = .next t ∧ t =
    { s with cal := { s.cal with running := some (l, false), deferred := false } }) ∧
  (∀ (s : State) (l : Nat) (f g : Option (List Nat)) (h : Option Balance) (o : Option Int) (se : Option (List Int))
    (ga : List Nat), s.cal.running = some (l, false) → l < 4 → f.all (fun x => x.length == 11) = true →
    g.all (fun x => x.length == 9) = true → ∃ t, exec (.readCalDone f g h o se ga) s = .next t ∧
    t.cal.running = none ∧ t.get .READ_VALID l = 1 ∧ Counted .CAL_RUNS s t ∧ bit (t.reg .CAL_DUE) l = false ∧
    t.get .LC_FOCUS_OFS_NM l = ((f.bind (sweepFit (-80) 16)).map (toBits 16)).getD (s.get .LC_FOCUS_OFS_NM l) ∧
    t.get .LC_TILT_MDEG l = ((g.bind (sweepFit (-400) 100)).map (toBits 16)).getD (s.get .LC_TILT_MDEG l) ∧
    t.get .LC_TRACK_OFS_NM l = (o.map (toBits 16)).getD (s.get .LC_TRACK_OFS_NM l) ∧
    t.get .LC_TE_K l = ((h.bind balanceFit).map (toBits 16)).getD (s.get .LC_TE_K l) ∧
    t.get .LC_CAL_TEMP_DC l = s.reg .TEMP_NOW_DC % 2 ^ 16 ∧ ((f.bind (sweepFit (-80) 16)).isSome = true ∧
    (g.bind (sweepFit (-400) 100)).isSome = true ∧ (h.bind balanceFit).isSome = true ∧ o.isSome = true ∧
    se.isSome = true → t.reg .FIT_REJECTS = s.reg .FIT_REJECTS)) ∧
  (∀ (s : State) (l : Nat) (sc : List (Option Nat)) (f : Bool), s.opcLayer = some l → l < 4 →
    s.get .LC_NEXT_TEST l = noAca → ∃ t, exec (.opcRun sc f) s = .next t ∧ t.get .OPC_EXHAUSTED l = 1 ∧
    bit (t.reg .CAL_DUE) (l + 4) = false ∧ t.cal.running = none ∧ t.get .P_PEAK l = s.get .P_PEAK l) ∧
  (∀ (s : State) (l : Nat) (sc : List (Option Nat)) (k : Nat) (p : Nat × Nat × Nat × Nat), s.opcLayer = some l →
    l < 4 → s.get .LC_NEXT_TEST l ≠ noAca → opcStep (s.reg .OPC_SYM_MAX) (opcScores sc) = some k →
    p = s.opcPowers l (scaleRound (s.opcCentre l * (70 + 4 * k)) (100 + s.reg .OPC_MARGIN_PCT) 10000) →
    powersOk p = true → ∃ t, exec (.opcRun sc true) s = .next t ∧ t.get .P_BIAS l = p.1 ∧
    t.get .P_COOL l = p.2.1 ∧ t.get .P_PEAK l = p.2.2.1 ∧ t.get .P_OD l = p.2.2.2 ∧ t.get .OPC_VALID l = 1 ∧
    Counted .OPC_RUNS s t ∧ bit (t.reg .CAL_DUE) (l + 4) = false ∧ t.cal.running = none) ∧
  (∀ (s : State) (l : Nat) (sc : List (Option Nat)), s.opcLayer = some l → l < 4 → s.get .LC_NEXT_TEST l ≠ noAca →
    ∃ t, exec (.opcRun sc false) s = .next t ∧ t.get .P_PEAK l = s.get .P_PEAK l ∧
    (s.cal.second = none → t.cal.running = some (l, true) ∧ t.cal.second = some (scaleRound (s.opcCentre l) 130 100))
    ∧ (s.cal.second ≠ none → Counted .OPC_FAILS s t ∧ t.cal.running = none ∧ bit (t.reg .CAL_DUE) (l + 4) = false)) ∧
  (∀ (s : State) (n d : Nat) (u v w y a : List Int) (g : Int), n < 2 → u.length = 4096 → v.length = 4096 →
    w.length = 4096 → y.length = 4096 → a = s.ffAccel n u v w → s.on .FF_FIT = true → s.reg .SV_STATE = 3 →
    s.reg .ACC_STATE = 1 → 1000 ≤ (a.filter (fun x => decide (100 < x.natAbs))).length →
    ffFit a y = (d, g, true) → g.natAbs ≤ 30000 → ∃ t, exec (.ffFitWindow n u v w y) s = .next t ∧ (n = 0 →
    t.reg .FF_GAIN_F = toBits 16 g ∧ t.reg .FF_DELAY_F_US = d) ∧ (n = 1 → t.reg .FF_GAIN_T = toBits 16 g ∧
    t.reg .FF_DELAY_T_US = d) ∧ Counted .FF_FITS s t ∧ t.reg .FIT_REJECTS = s.reg .FIT_REJECTS ∧ t.bu = s.bu) ∧
  (∀ (s : State) (n d : Nat) (u v w y a : List Int) (g : Int) (b : Bool), n < 2 → u.length = 4096 →
    v.length = 4096 → w.length = 4096 → y.length = 4096 → a = s.ffAccel n u v w → s.on .FF_FIT = true →
    s.reg .SV_STATE = 3 → s.reg .ACC_STATE = 1 → 1000 ≤ (a.filter (fun x => decide (100 < x.natAbs))).length →
    ffFit a y = (d, g, b) → (b = false ∨ 30000 < g.natAbs) → ∃ t, exec (.ffFitWindow n u v w y) s = .next t ∧
    Counted .FIT_REJECTS s t ∧ RegsKept [.FIT_REJECTS] s t ∧ { t with regs := s.regs } = s)

/-! ## Shared memory, self-integrity, black box, pins (14, 15, 17, 18) -/

/-- CORE_WRITE (14 R625-R628), MERGE_DRAIN (R626, R643), DEVICE_READ_MATCH (R631), DRAIN_BARRIER (R629),
DRAIN_TIMEOUT (R645). -/
def Obligations.TheMergingBufferTakesAndDrainsWrites : Prop :=
  (∀ (s : State) (core addr : Nat) (l : List Byte), core < 2 → inLine addr l.length = true →
    s.coresRun = true → s.un.cores.contains (10 + core) = false →
    s.permits (10 + core) addr l.length true → s.ca.stalled = [] →
    (s.l2Find (addr / 64)).any s.placeTested = false → s.ca.merge.find? (fun e => e.line == addr / 64 && !e.closed) =
    none → s.ca.merge.length < s.mergeRoom → ∃ t, exec (.coreWrite core addr l) s = .next t ∧
    t.ca.merge = s.ca.merge ++ [{ id := s.ca.nextId, line := addr / 64, bytes := bytesFrom (addr % 64) [] l, par :=
                                    parityFrom [] (bytesFrom (addr % 64) [] l), core := core, closed := l.length == 64
                                    }] ∧ bytesAt (t.coreLine (addr / 64)) (addr % 64) l.length = l ∧
    { t with ca := s.ca } = s) ∧
  (∀ (s : State) (core addr : Nat) (l : List Byte) (e : MergeEntry), core < 2 →
    inLine addr l.length = true → s.coresRun = true → s.un.cores.contains (10 + core) = false →
    s.permits (10 + core) addr l.length true → s.ca.stalled = [] →
    (s.l2Find (addr / 64)).any s.placeTested = false → s.ca.merge.find? (fun e => e.line == addr / 64 && !e.closed) =
    some e → ∃ t, exec (.coreWrite core addr l) s = .next t ∧ (t.ca.merge.find? (fun x => x.id == e.id)).map (fun x =>
    (x.line, x.bytes, x.par, x.core)) = some (addr / 64, bytesFrom (addr % 64) e.bytes l, parityFrom e.par (bytesFrom
    (addr % 64) [] l), core) ∧ t.ca.merge.length = s.ca.merge.length ∧ { t with ca := s.ca } = s) ∧
  (∀ (s : State) (core addr : Nat) (l : List Byte), core < 2 → inLine addr l.length = true →
    s.coresRun = true → s.un.cores.contains (10 + core) = false →
    s.permits (10 + core) addr l.length true → s.ca.stalled = [] →
    (s.l2Find (addr / 64)).any s.placeTested = false → s.ca.merge.find? (fun e => e.line == addr / 64 && !e.closed) =
    none → s.mergeRoom ≤ s.ca.merge.length → ∃ t, exec (.coreWrite core addr l) s = .next t ∧
    t = { s with ca.stalled := [(core, addr, l)] }) ∧
  (∀ (s : State) (e : MergeEntry) (rest : List MergeEntry), s.ca.merge = e :: rest →
    s.underTest (e.line / 64) = false → s.poolUp = true → s.ca.stalled = [] → s.ca.range = none →
    e.bad = false → Map.wf e.bytes = true → ∃ t, exec .mergeDrain s = .next t ∧ t.ca.merge = rest ∧
    (∀ b ∈ e.bytes, t.lm.mem.read (64 * e.line + b.1) = b.2) ∧ (∀ a, (∀ b ∈ e.bytes, a ≠ 64 * e.line + b.1) →
    t.lm.mem.read a = s.lm.mem.read a) ∧ ((∀ d ∈ s.ca.drains, d.ids = [e.id]) → t.ca.drains = []) ∧
    (∀ r ∈ t.ca.reads, r.id ≠ e.id) ∧ t.ca.l2 = s.ca.l2 ∧ { t with ca := s.ca, lm := s.lm } = s) ∧
  (∀ (s : State) (e : MergeEntry) (rest : List MergeEntry), s.ca.merge = e :: rest →
    s.underTest (e.line / 64) = false → s.poolUp = true → s.ca.stalled = [] → s.ca.range = none → e.bad = true →
    ∃ t, exec .mergeDrain s = .next t ∧ t.ca.merge = rest ∧ t.poisoned (e.line / 64) = true ∧
    (∀ g, g ≠ e.line / 64 → t.poisoned g = s.poisoned g) ∧ (s.poisoned (e.line / 64) = false →
    Counted .POISON_SET s t) ∧ RegsKept (.POISON_SET :: beadRegs) s t) ∧
  (∀ (s : State) (e : MergeEntry) (rest : List MergeEntry), s.ca.merge = e :: rest →
    s.underTest (e.line / 64) = true → ∃ t, exec .mergeDrain s = .next t ∧ t = s) ∧
  (∀ (s : State) (a addr : Nat) (e : MergeEntry), a < 16 → isCore a = false →
    s.permits a (addr / 64 * 64) 64 false → (s.entriesOf (addr / 64)).getLast? = some e →
    ∃ t, exec (.deviceReadMatch a addr) s = .next t ∧ t.ca.reads = s.ca.reads ++
    [{ agent := a, addr := addr / 64 * 64, len := 64, id := e.id }] ∧
    t.ca.merge = s.ca.merge.map (fun x => if x.line = addr / 64 then { x with closed := true } else x) ∧
    t.lm = s.lm ∧ RegsKept beadRegs s t) ∧
  (∀ (s : State) (a addr : Nat), a < 16 → isCore a = false → s.entriesOf (addr / 64) = [] →
    ∃ t, exec (.deviceReadMatch a addr) s = .next t ∧ t = s) ∧
  (∀ (s : State) (core : Nat), core < 2 → s.coresRun = true → ∃ t, exec (.drainBarrier core) s = .next t ∧
    t.ca = { s.ca with drains := if s.ca.merge = [] then s.ca.drains else s.ca.drains ++
                         [{ core := core, ids := s.ca.merge.map (·.id), since := s.clock }] } ∧
    RegsKept beadRegs s t ∧ { t with regs := s.regs, ca := s.ca } = s) ∧
  (∀ (s : State) (core : Nat) (fl : List Nat), core < 2 → (s.pw.mode = .run ∨ s.pw.mode = .doze) →
    s.ca.drains.any (fun d => d.core == core && decide (d.since + 1000 ≤ s.clock)) = true →
    ∃ t, exec (.drainTimeout core fl) s = .next t ∧ t.pw.mode = .boot ∧ t.reg .READY = 0 ∧ t.q = {} ∧
    t.bu = {} ∧ t.bo.source = .master ∧ t.lm.mem = s.lm.mem ∧ t.lm.recs = s.lm.recs ∧
    (∀ b, t.get .TAIL_OFFSET b = s.get .TAIL_OFFSET b ∧ t.get .HEAD_OFFSET b = s.get .HEAD_OFFSET b) ∧
    t.md.cart.isSome = s.md.cart.isSome ∧ t.sec.devKey = s.sec.devKey ∧ t.time = s.time) ∧
  (∀ (s : State) (core : Nat) (fl : List Nat), core < 2 → s.ca.drains.any (fun d => d.core == core && decide (d.since
    + 1000 ≤ s.clock)) = false → ∃ t, exec (.drainTimeout core fl) s = .next t ∧ t = s)

/-- The range engine (14 R634-R636), L2_DATA_PARITY (R640), L2_TAG_PARITY (R641), MERGE_PARITY (R643). -/
def Obligations.TheL2ObeysTheRangeEngineAndOutlivesItsParity : Prop :=
  (∀ (s : State) (a n : Nat), 1 ≤ n → n ≤ 131072 → s.coresRun = true → s.ca.range = none →
    ∃ t, exec (.rangePreload a n) s = .next t ∧ t.ca.range.map (fun r => (r.kind, r.line, r.count)) = some (.preload,
    a, n) ∧ t.ca.locks = locksAfter .preload a n s.ca.locks ∧ t.ca.merge = s.ca.merge ∧ t.lm = s.lm ∧
    RegsKept beadRegs s t) ∧
  (∀ (s : State) (a k : Nat), s.coresRun = true → s.ca.range = none → s.l2On = true → s.l2Find a = none →
    s.entriesOf a = [] → (s.l2Places a).find? (fun k => !Map.has s.ca.l2 k) = some k →
    ∃ t, exec (.rangePreload a 1) s = .next t ∧ t.ca.l2 = Map.put s.ca.l2 k (.of a (s.dramLine a) false)) ∧
  (∀ (s : State) (a n : Nat), 1 ≤ n → n ≤ 131072 → s.coresRun = true → s.ca.range = none →
    ∃ t, exec (.rangeInvalidate a n) s = .next t ∧ t.ca.range.map (fun r => (r.kind, r.line, r.count)) = some
    (.invalidate, a, n) ∧ t.ca.locks = locksAfter .invalidate a n s.ca.locks ∧ t.ca.merge = s.ca.merge ∧
    t.lm = s.lm ∧ RegsKept beadRegs s t ∧ (∀ k, (Map.get s.ca.l2 k).all (fun c => decide (c.line < a ∨ a + n ≤
    c.line)) = true → Map.get t.ca.l2 k = Map.get s.ca.l2 k)) ∧
  (∀ (s : State) (a k : Nat) (c : CacheLine), s.coresRun = true → s.ca.range = none → s.l2Find a = some k →
    Map.get s.ca.l2 k = some c → (c.locked = false ∨ s.entriesOf a = []) →
    ∃ t, exec (.rangeInvalidate a 1) s = .next t ∧ Map.get t.ca.l2 k = (if c.locked = true then some (.of a
    (s.dramLine a) true) else none)) ∧
  (∀ (s : State) (a n : Nat), 1 ≤ n → n ≤ 131072 → s.coresRun = true → s.ca.range = none →
    ∃ t, exec (.rangeLock a n) s = .next t ∧ t.ca.range.map (fun r => (r.kind, r.line, r.count)) = some (.lock, a, n)
    ∧ t.ca.locks = locksAfter .lock a n s.ca.locks ∧ t.ca.merge = s.ca.merge ∧ t.lm = s.lm ∧
    RegsKept beadRegs s t ∧ (∀ k, (Map.get s.ca.l2 k).all (fun c => decide (c.line < a ∨ a + n ≤ c.line)) = true →
    Map.get t.ca.l2 k = Map.get s.ca.l2 k)) ∧
  (∀ (s : State) (a k : Nat) (c : CacheLine), s.coresRun = true → s.ca.range = none → s.l2Find a = some k →
    Map.get s.ca.l2 k = some c → c.locked = false → ∃ t, exec (.rangeLock a 1) s = .next t ∧
    Map.get t.ca.l2 k = some { c with locked := decide (s.lockedIn a < s.lockLimit) } ∧
    t.ca.range.map (·.skipped) = some (if s.lockedIn a < s.lockLimit then 0 else 1)) ∧
  (∀ (s : State) (a : Nat), s.coresRun = true → s.ca.range = none → s.l2Find a = none →
    ∃ t, exec (.rangeLock a 1) s = .next t ∧ t.ca.l2 = s.ca.l2 ∧ t.ca.range.map (·.skipped) = some 1) ∧
  (∀ (s : State) (a n : Nat), 1 ≤ n → n ≤ 131072 → s.coresRun = true → s.ca.range = none →
    ∃ t, exec (.rangeUnlock a n) s = .next t ∧ t.ca.range.map (fun r => (r.kind, r.line, r.count)) = some (.unlock, a,
    n) ∧ t.ca.locks = locksAfter .unlock a n s.ca.locks ∧ t.ca.merge = s.ca.merge ∧ t.lm = s.lm ∧
    RegsKept beadRegs s t ∧ (∀ k, (Map.get s.ca.l2 k).all (fun c => decide (c.line < a ∨ a + n ≤ c.line)) = true →
    Map.get t.ca.l2 k = Map.get s.ca.l2 k) ∧ (∀ i, i < n → t.isLocked (a + i) = false)) ∧
  (∀ (s : State) (r : RangeOp), s.ca.range = some r → ∃ t, exec .rangeOpDone s = .next t ∧
    t = (if r.fills = [] then { s with ca.range := none, ca.skipped := r.skipped } else s)) ∧
  (∀ (s : State) (a k : Nat) (c : CacheLine) (same : Bool), s.l2Find a = some k → Map.get s.ca.l2 k = some c →
    Map.get s.ca.hits k = none → ∃ t, exec (.l2DataParity a same) s = .next t ∧
    Map.get t.ca.l2 k = some (.of a ((s.entriesOf a).foldl (fun l e => overlay l e.bytes) (s.dramLine a)) c.locked) ∧
    t.isLocked a = c.locked ∧ Counted .PAR_ERRORS s t ∧ t.get .PAR_ERR 0 = min (s.get .PAR_ERR 0 + 1) (2 ^ 32 - 1) ∧
    (same = false → t.reg .CHECKBIT_SUSPECT = s.reg .CHECKBIT_SUSPECT) ∧ t.ca.merge = s.ca.merge ∧
    t.lm = s.lm ∧ RegsKept (([.PAR_ERRORS, .PAR_ERR, .CHECKBIT_SUSPECT] : List RegName) ++ bookRegs) s t) ∧
  (∀ (s : State) (a k : Nat) (c : CacheLine) (same : Bool), s.l2Find a = some k → Map.get s.ca.l2 k = some c →
    2 ≤ (((Map.get s.ca.hits k).getD []).filter (fun x => s.clock < x + 60000000)).length →
    ∃ t, exec (.l2DataParity a same) s = .next t ∧ Map.get t.ca.hits k = none ∧ Counted .PAR_ERRORS s t ∧
    ((k ∈ t.ca.shut ∧ Map.get t.ca.l2 k = none) ∨ (t.ca.shut = s.ca.shut ∧ t.reg .MAP_USED = s.reg .MAP_USED + 1))) ∧
  (∀ (s : State) (a k : Nat), s.l2Find a = some k → Map.get s.ca.hits k = none →
    s.ca.locks.any (fun r => decide (r.1 ≤ a) && decide (a < r.1 + r.2)) = false →
    ∃ t, exec (.l2TagParity a) s = .next t ∧ t.ca.l2 = Map.erase s.ca.l2 k ∧ Counted .PAR_ERRORS s t ∧
    t.get .PAR_ERR 0 = min (s.get .PAR_ERR 0 + 1) (2 ^ 32 - 1) ∧ t.ca.merge = s.ca.merge ∧ t.lm = s.lm ∧
    RegsKept (([.PAR_ERRORS, .PAR_ERR, .CHECKBIT_SUSPECT] : List RegName) ++ bookRegs) s t) ∧
  (∀ (s : State) (a k : Nat), s.l2Find a = some k → Map.get s.ca.hits k = none →
    s.ca.locks.any (fun r => decide (r.1 ≤ a) && decide (a < r.1 + r.2)) = true → s.l2On = true →
    (s.l2Drop k).l2Find a = none → (s.l2Places a).contains k = true → (s.l2Drop k).lockedIn a < s.lockLimit →
    ∃ t, exec (.l2TagParity a) s = .next t ∧ t.isLocked a = true ∧
    t.coreLine a = (s.entriesOf a).foldl (fun l e => overlay l e.bytes) (s.dramLine a) ∧
    Counted .PAR_ERRORS s t ∧ t.lm = s.lm) ∧
  (∀ (s : State) (i : Nat) (e : MergeEntry), s.ca.merge[i]? = some e → ∃ t, exec (.mergeParity i) s = .next t ∧
    t.ca = { s.ca with merge := s.ca.merge.map (fun x => if x.id = e.id then
                         { x with bad := true, par := (x.par.take 1).map (fun p => (p.1, !p.2)) ++ x.par.drop 1 } else
                         x), fault := some (10 + e.core) } ∧ Counted .PAR_ERRORS s t ∧
    t.get .PAR_ERR 0 = min (s.get .PAR_ERR 0 + 1) (2 ^ 32 - 1) ∧ t.lm = s.lm ∧
    RegsKept (([.PAR_ERRORS, .PAR_ERR, .CHECKBIT_SUSPECT] : List RegName) ++ bookRegs) s t)

/-- PARITY_ERROR (15 R647, R648, Table 15.2), ENTROPY_READY (R675, R684), ENTROPY_HEALTH_FAIL (R676, R677). -/
def Obligations.ParityErrorsAndTheEntropySourceAreWatched : Prop :=
  (∀ (s : State) (same : Bool), s.coresRun = true → ∃ t, exec (.parityError .coreCode same) s = .next t ∧
    Counted .PAR_ERRORS s t ∧ t.get .PAR_ERR 4 = min (s.get .PAR_ERR 4 + 1) (2 ^ 32 - 1) ∧ (same = true →
    Counted .CHECKBIT_SUSPECT s t) ∧ (same = false → t.reg .CHECKBIT_SUSPECT = s.reg .CHECKBIT_SUSPECT) ∧
    RegsKept (([.PAR_ERRORS, .PAR_ERR, .CHECKBIT_SUSPECT] : List RegName) ++ bookRegs) s t ∧
    { t with regs := s.regs, bb := s.bb, host := s.host, st := s.st } = s) ∧
  (∀ (s : State) (same : Bool), s.coresRun = true → ∃ t, exec (.parityError .securityMemory same) s = .next t ∧
    Counted .PAR_ERRORS s t ∧ t.get .PAR_ERR 7 = min (s.get .PAR_ERR 7 + 1) (2 ^ 32 - 1) ∧ (same = true →
    Counted .CHECKBIT_SUSPECT s t) ∧ (same = false → t.reg .CHECKBIT_SUSPECT = s.reg .CHECKBIT_SUSPECT) ∧
    RegsKept (([.PAR_ERRORS, .PAR_ERR, .CHECKBIT_SUSPECT] : List RegName) ++ bookRegs) s t ∧
    { t with regs := s.regs, bb := s.bb, host := s.host, st := s.st } = s) ∧
  (∀ (s : State) (same : Bool), s.coresRun = true → ∃ t, exec (.parityError .mram same) s = .next t ∧
    Counted .PAR_ERRORS s t ∧ t.get .PAR_ERR 8 = min (s.get .PAR_ERR 8 + 1) (2 ^ 32 - 1) ∧ (same = true →
    Counted .CHECKBIT_SUSPECT s t) ∧ (same = false → t.reg .CHECKBIT_SUSPECT = s.reg .CHECKBIT_SUSPECT) ∧
    RegsKept (([.PAR_ERRORS, .PAR_ERR, .CHECKBIT_SUSPECT] : List RegName) ++ bookRegs) s t ∧
    { t with regs := s.regs, bb := s.bb, host := s.host, st := s.st } = s) ∧
  (∀ (s : State) (same : Bool) (q : Nat), s.coresRun = true → q < 65536 → s.q.cache.contains q = true →
    s.poisoned (contextGranule q) = false → ∃ t, exec (.parityError (.contextCache q false) same) s = .next t ∧
    Counted .PAR_ERRORS s t ∧ t.get .PAR_ERR 1 = min (s.get .PAR_ERR 1 + 1) (2 ^ 32 - 1) ∧ (same = true →
    Counted .CHECKBIT_SUSPECT s t) ∧ (same = false → t.reg .CHECKBIT_SUSPECT = s.reg .CHECKBIT_SUSPECT) ∧
    RegsKept (([.PAR_ERRORS, .PAR_ERR, .CHECKBIT_SUSPECT] : List RegName) ++ bookRegs) s t ∧
    { t with regs := s.regs, bb := s.bb, host := s.host, st := s.st } = s) ∧
  (∀ (s : State) (same : Bool) (q : Nat) (p : QPair), s.coresRun = true → q < 65536 →
    s.q.cache.contains q = true → Map.get s.q.pairs q = some p → p.halted = none →
    ∃ t, exec (.parityError (.contextCache q true) same) s = .next t ∧ Counted .PAR_ERRORS s t ∧
    t.get .PAR_ERR 1 = min (s.get .PAR_ERR 1 + 1) (2 ^ 32 - 1) ∧
    (Map.get t.q.pairs q).all (fun x => x.halted == some 7) = true) ∧
  (∀ (s : State) (same : Bool) (q : Nat) (b : Bool), s.coresRun = true → q < 65536 → s.q.cache.contains q = false →
    ∃ t, exec (.parityError (.contextCache q b) same) s = .next t ∧ t = s) ∧
  (∀ (s : State) (same : Bool) (b : Nat), s.coresRun = true → b < 262144 → s.lm.allPoison = false →
    ∃ t, exec (.parityError (.poisonBitmap b false) same) s = .next t ∧ Counted .PAR_ERRORS s t ∧
    t.get .PAR_ERR 2 = min (s.get .PAR_ERR 2 + 1) (2 ^ 32 - 1) ∧ (same = true → Counted .CHECKBIT_SUSPECT s t) ∧
    (same = false → t.reg .CHECKBIT_SUSPECT = s.reg .CHECKBIT_SUSPECT) ∧
    (∀ g, t.poisoned g = if g / 8 = b then s.lm.ledger.contains g else s.poisoned g) ∧
    RegsKept (([.PAR_ERRORS, .PAR_ERR, .CHECKBIT_SUSPECT] : List RegName) ++ bookRegs) s t) ∧
  (∀ (s : State) (same : Bool) (b : Nat), s.coresRun = true → b < 262144 →
    ∃ t, exec (.parityError (.poisonBitmap b true) same) s = .next t ∧ Counted .PAR_ERRORS s t ∧
    t.get .PAR_ERR 2 = min (s.get .PAR_ERR 2 + 1) (2 ^ 32 - 1) ∧ (∀ g, g / 8 = b → t.poisoned g = true) ∧
    (∀ g, g / 8 ≠ b → t.poisoned g = s.poisoned g) ∧ t.lm.mem = s.lm.mem) ∧
  (∀ (s : State) (same : Bool) (w : Bool), s.coresRun = true → ∃ t, exec (.parityError (.channelScratch w) same) s =
    .next t ∧ Counted .SCRATCH_PARITY s t ∧ Counted .PAR_ERRORS s t ∧
    t.get .PAR_ERR 3 = min (s.get .PAR_ERR 3 + 1) (2 ^ 32 - 1) ∧
    t.bu.block = (if w = true then s.bu.block.map (fun k => { k with mustFail := true }) else s.bu.block)) ∧
  (∀ (s : State) (same : Bool), s.coresRun = true → ∃ t, exec (.parityError .servoMemory same) s = .next t ∧
    Counted .PAR_ERRORS s t ∧ t.get .PAR_ERR 6 = min (s.get .PAR_ERR 6 + 1) (2 ^ 32 - 1) ∧ (∀ i, i < 60 →
    t.get .BQ_ACTIVE i = s.get .BQ_COEF i % 2 ^ 24) ∧ t.reg .BQ_PENDING = 0 ∧ t.sv.bqWaiting = [] ∧
    t.bu.gate = false) ∧
  (∀ (s : State) (same : Bool) (core : Nat), (s.pw.mode = .run ∨ s.pw.mode = .doze) → core < 2 →
    ∃ t, exec (.parityError (.coreData core) same) s = .next t ∧ t.pw.mode = .boot ∧ t.reg .READY = 0 ∧
    t.q = {} ∧ t.bu = {} ∧ t.bo.source = .master ∧ t.lm.mem = s.lm.mem ∧ t.lm.recs = s.lm.recs ∧
    (∀ b, t.get .TAIL_OFFSET b = s.get .TAIL_OFFSET b ∧ t.get .HEAD_OFFSET b = s.get .HEAD_OFFSET b) ∧
    t.md.cart.isSome = s.md.cart.isSome ∧ t.sec.devKey = s.sec.devKey ∧ t.time = s.time) ∧
  (∀ (s : State) (same : Bool) (a g : Nat) (w : Bool), s.coresRun = true → a < 16 → g < 2097152 →
    ∃ t, exec (.parityError (.crossbar a g w false) same) s = .next t ∧ Counted .PAR_ERRORS s t ∧
    t.get .PAR_ERR 9 = min (s.get .PAR_ERR 9 + 1) (2 ^ 32 - 1) ∧ (same = true → Counted .CHECKBIT_SUSPECT s t) ∧
    (same = false → t.reg .CHECKBIT_SUSPECT = s.reg .CHECKBIT_SUSPECT) ∧
    RegsKept (([.PAR_ERRORS, .PAR_ERR, .CHECKBIT_SUSPECT] : List RegName) ++ bookRegs) s t ∧
    { t with regs := s.regs, bb := s.bb, host := s.host, st := s.st } = s) ∧
  (∀ (s : State) (same : Bool) (a g : Nat), s.coresRun = true → a < 16 → g < 2097152 →
    ∃ t, exec (.parityError (.crossbar a g true true) same) s = .next t ∧ Counted .PAR_ERRORS s t ∧
    t.get .PAR_ERR 9 = min (s.get .PAR_ERR 9 + 1) (2 ^ 32 - 1) ∧ t.poisoned g = true ∧ (∀ h, h ≠ g →
    t.poisoned h = s.poisoned h) ∧ t.lm.mem = s.lm.mem) ∧
  (∀ (s : State) (same : Bool) (a g : Nat), s.coresRun = true → a < 16 → g < 2097152 →
    ∃ t, exec (.parityError (.crossbar a g false true) same) s = .next t ∧ Counted .PAR_ERRORS s t ∧
    t.get .PAR_ERR 9 = min (s.get .PAR_ERR 9 + 1) (2 ^ 32 - 1) ∧
    t.lm = { s.lm with readOut := [], readPar := [], readPoison := true } ∧
    RegsKept (([.PAR_ERRORS, .PAR_ERR, .CHECKBIT_SUSPECT] : List RegName) ++ bookRegs) s t) ∧
  (∀ (s : State), s.coresRun = true → s.un.security = false → s.reg .ENTROPY_STATE = 0 →
    ∃ t, exec .entropyReady s = .next t ∧ t.reg .ENTROPY_STATE = 1 ∧
    t.sec = { s.sec with coreDown := false } ∧ RegsKept [.ENTROPY_STATE] s t ∧
    { t with regs := s.regs, sec := s.sec } = s) ∧
  (∀ (s : State), s.reg .ENTROPY_STATE ≠ 0 → ∃ t, exec .entropyReady s = .next t ∧ t = s) ∧
  (∀ (s : State) (rct : Bool), s.coresRun = true → s.un.security = false → s.reg .ENTROPY_STATE = 0 →
    ∃ t, exec (.entropyHealthFail rct) s = .next t ∧ (rct = true → Counted .RCT_FAILS s t) ∧ (rct = false →
    Counted .APT_FAILS s t) ∧ RegsKept [.RCT_FAILS, .APT_FAILS] s t ∧ { t with regs := s.regs } = s) ∧
  (∀ (s : State) (rct : Bool), s.coresRun = true → s.un.security = false →
    s.reg .ENTROPY_STATE = 1 → (s.sec.entropyFails.filter (fun x => s.clock < x + 10000000)).length < 2 →
    ∃ t, exec (.entropyHealthFail rct) s = .next t ∧ (rct = true → Counted .RCT_FAILS s t) ∧ (rct = false →
    Counted .APT_FAILS s t) ∧ t.reg .ENTROPY_STATE = 0 ∧ t.sec.entropyFails.head? = some s.clock ∧
    RegsKept [.RCT_FAILS, .APT_FAILS, .ENTROPY_STATE] s t ∧ { t with regs := s.regs, sec := s.sec } = s) ∧
  (∀ (s : State) (rct : Bool), s.coresRun = true → s.un.security = false → s.reg .ENTROPY_STATE = 1 →
    2 ≤ (s.sec.entropyFails.filter (fun x => s.clock < x + 10000000)).length →
    ∃ t, exec (.entropyHealthFail rct) s = .next t ∧ (rct = true → Counted .RCT_FAILS s t) ∧ (rct = false →
    Counted .APT_FAILS s t) ∧ t.reg .ENTROPY_STATE = 2 ∧ (∀ n, n < 4 →
    (s.slot n).copy.any MbCopy.drawsEntropy = true → (s.slot n).resp = none →
    (t.slot n).resp = some (failResp St.internal Code.entropyFailed)) ∧ t.sec.devKey = s.sec.devKey ∧ t.bu = s.bu)

/-- BB_RECORD_WRITE (17 R735-R740), BB_SUPPRESS_WINDOW_CLOSE (R738). GPIO_WAKE_EDGE (18 R757, R759), AUX_SAMPLE
(R757, R758), JTAG_TAP_OPERATION (20 R830). -/
def Obligations.TheBlackBoxAndThePins : Prop :=
  (∀ (s : State) (r : BbRecord) (rest : List BbRecord), s.pw.wardenUp = true → s.bb.queue = r :: rest →
    s.bb.stalled = [] → (r.sev = 2 ∨ s.window r.code r.source = none) → s.on .BBS_BANK0_FAULT = false →
    s.on .BBS_BANK1_FAULT = false → s.reg .PINNED ≤ 64 → ∃ t, exec (.bbRecordWrite ⟨true, true⟩ ⟨true, true⟩) s =
    .next t ∧ t.reg .BB_NEXT_SEQ = (s.reg .BB_NEXT_SEQ + 1) % 2 ^ 32 ∧
    t.bb.word0 = some (s.reg .BB_NEXT_SEQ + 1) ∧ t.bb.word1 = some (s.reg .BB_NEXT_SEQ + 1) ∧
    Map.get t.bb.bank0 (ringSlot (s.reg .BB_NEXT_SEQ)) = some
    ({ r with seq := s.reg .BB_NEXT_SEQ, flags := r.flags + 4 * b2n (r.sev == 2 && decide (s.reg .PINNED < 64)) } :
    BbRecord) ∧ Map.get t.bb.bank1 (ringSlot (s.reg .BB_NEXT_SEQ)) = some
    ({ r with seq := s.reg .BB_NEXT_SEQ, flags := r.flags + 4 * b2n (r.sev == 2 && decide (s.reg .PINNED < 64)) } :
    BbRecord) ∧ (r.sev = 2 ∧ s.reg .PINNED < 64 → t.reg .PINNED = s.reg .PINNED + 1 ∧
    Map.get t.bb.bank0 (s.reg .PINNED) = some
    ({ r with seq := s.reg .BB_NEXT_SEQ, flags := r.flags + 4 * b2n (r.sev == 2 && decide (s.reg .PINNED < 64)) } :
    BbRecord) ∧ Map.get t.bb.bank1 (s.reg .PINNED) = some
    ({ r with seq := s.reg .BB_NEXT_SEQ, flags := r.flags + 4 * b2n (r.sev == 2 && decide (s.reg .PINNED < 64)) } :
    BbRecord)) ∧ (r.sev ≠ 2 ∨ s.reg .PINNED = 64 → t.reg .PINNED = s.reg .PINNED) ∧
    (∀ k, k ≠ ringSlot (s.reg .BB_NEXT_SEQ) → k ≠ s.reg .PINNED →
    Map.get t.bb.bank0 k = Map.get s.bb.bank0 k ∧ Map.get t.bb.bank1 k = Map.get s.bb.bank1 k) ∧
    rest.isPrefixOf t.bb.queue = true ∧ (s.ca.merge = [] → t.lm = s.lm)) ∧
  (∀ (s : State) (r : BbRecord) (rest : List BbRecord), s.pw.wardenUp = true → s.bb.queue = r :: rest →
    s.bb.stalled = [] → (r.sev = 2 ∨ s.window r.code r.source = none) → rest.length < 26 →
    s.unread < 56 → Code.noticed.contains r.code = true → ∃ t, exec (.bbRecordWrite ⟨true, true⟩ ⟨true, true⟩) s =
    .next t ∧ Map.get t.host.notices (s.reg .NT_HEAD) = some
    { code := r.code, sev := r.sev, seq := s.reg .BB_NEXT_SEQ, time := r.time, data := r.data % 2 ^ 128 } ∧
    t.reg .NT_HEAD = (s.reg .NT_HEAD + 1) % 2 ^ 6) ∧
  (∀ (s : State) (r : BbRecord) (rest : List BbRecord) (a b p q : Bool), s.pw.wardenUp = true →
    s.bb.queue = r :: rest → s.bb.stalled = [] → (r.sev = 2 ∨ s.window r.code r.source = none) →
    s.on .BBS_BANK0_FAULT = false → s.on .BBS_BANK1_FAULT = false →
    ∃ t, exec (.bbRecordWrite ⟨a, p⟩ ⟨b, q⟩) s = .next t ∧ t.on .BBS_BANK0_FAULT = !(a && (p || !(r.sev == 2 && decide
    (s.reg .PINNED < 64)))) ∧ t.on .BBS_BANK1_FAULT = !(b && (q || !(r.sev == 2 && decide (s.reg .PINNED < 64)))) ∧
    (a = false → Map.get t.bb.bank0 (ringSlot (s.reg .BB_NEXT_SEQ)) = none) ∧
    t.reg .BB_NEXT_SEQ = (s.reg .BB_NEXT_SEQ + 1) % 2 ^ 32) ∧
  (∀ (s : State) (r : BbRecord) (rest : List BbRecord) (w : Window) (a b p q : Bool), s.pw.wardenUp = true →
    s.bb.queue = r :: rest → s.bb.stalled = [] → r.sev ≠ 2 → s.window r.code r.source = some w →
    s.clock < w.openAt + 1000000 → 16 ≤ w.seen → ∃ t, exec (.bbRecordWrite ⟨a, p⟩ ⟨b, q⟩) s = .next t ∧
    Counted .BB_SUPPRESSED s t ∧ t.bb.queue = rest ∧ t.bb.bank0 = s.bb.bank0 ∧ t.bb.bank1 = s.bb.bank1 ∧
    RegsKept [.BB_SUPPRESSED] s t ∧ { t with regs := s.regs, bb := s.bb } = s) ∧
  (∀ (s : State) (a b p q : Bool), s.pw.wardenUp = true → s.bb.queue = [] →
    ∃ t, exec (.bbRecordWrite ⟨a, p⟩ ⟨b, q⟩) s = .next t ∧ t = s) ∧
  (∀ (s : State) (code source : Nat) (w : Window), s.window code source = some w → w.openAt + 1000000 ≤ s.clock →
    ∃ t, exec (.bbSuppressWindowClose code source) s = .next t ∧ t.bb.windows = s.bb.windows.erase w ∧
    (w.seen ≤ 16 → t = { s with bb.windows := s.bb.windows.erase w }) ∧ (16 < w.seen ∧
    s.bb.queue.length < 28 → t.bb.queue.length = s.bb.queue.length + 1 ∧
    t.bb.queue.getLast?.map (fun r => (r.code, r.data % 2 ^ 64)) = some (Code.repeatsSuppressed, code % 2 ^ 32 +
    (w.seen - 16) % 2 ^ 32 * 2 ^ 32)) ∧ t.lm = s.lm) ∧
  (∀ (s : State) (code source : Nat) (w : Window), s.window code source = some w → s.clock < w.openAt + 1000000 →
    ∃ t, exec (.bbSuppressWindowClose code source) s = .next t ∧ t = s) ∧
  (∀ (s : State) (pins : BitVec 8) (up : Bool) (m : Nat), s.pw.mode = .doze → s.pw.entry = none →
    s.pw.waking = none → s.wakeEnabled 0 = true → m = (((List.range 8).filter (fun p => bit pins.toNat p && s.wakeEdge
    p up)).map (2 ^ ·)).sum → m ≠ 0 → ∃ t, exec (.gpioWakeEdge pins up) s = .next t ∧ t.reg .GP_WAKE_CAUSE = m ∧
    t.reg .WAKE_CAUSE = 0 ∧ t.reg .WAKE_FROM = 1 ∧ t.pw.waking = some .doze ∧ (∀ p, p < 24 →
    bit t.gp.ext p = if p < 8 ∧ bit pins.toNat p = true then up else bit s.gp.ext p) ∧ t.lm = s.lm) ∧
  (∀ (s : State) (pins : BitVec 8) (up : Bool) (m : Nat), s.pw.mode ≠ .off →
    m = (((List.range 8).filter (fun p => bit pins.toNat p && s.wakeEdge p up)).map (2 ^ ·)).sum → m = 0 →
    ∃ t, exec (.gpioWakeEdge pins up) s = .next t ∧ (∀ p, p < 24 → bit t.gp.ext p = if p < 8 ∧
    bit pins.toNat p = true then up else bit s.gp.ext p) ∧ { t with gp := s.gp } = s ∧
    { t.gp with ext := s.gp.ext } = s.gp) ∧
  (∀ (s : State) (pins : BitVec 8) (up : Bool), s.pw.mode = .run → s.pw.entry = none →
    ∃ t, exec (.gpioWakeEdge pins up) s = .next t ∧ (∀ p, p < 24 → bit t.gp.ext p = if p < 8 ∧
    bit pins.toNat p = true then up else bit s.gp.ext p) ∧ (s.reg .LINK_STATE ≠ 5 → { t with gp := s.gp } = s)) ∧
  (∀ (s : State) (mv : List (List Nat)) (v : Nat), mv.length = 6 → (∀ l ∈ mv, l.length = 8) → s.coresRun = true →
    ∃ t, exec (.auxSample mv v) s = .next t ∧ (∀ k, k < 6 → t.get .AUX_MV k = if s.get .GP_FUNC (16 + k) = 8 then
    ((mv.getD k []).map (min v)).sum / 8 % 2 ^ 16 else 0) ∧ RegsKept [.AUX_MV] s t ∧ { t with regs := s.regs } = s) ∧
  (∀ (s : State) (low : Bool) (op : TapOp), s.pw.mode ≠ .off → (op = .bypass ∨ op = .idcode ∨ op = .samplePreload ∨ op
    = .extest) → ∃ t, exec (.jtagTapOperation op low) s = .next t ∧
    t.tap = { s.tap with instr := TapOp.code op } ∧ { t with tap := s.tap } = s) ∧
  (∀ (s : State) (low : Bool) (l : List Bool), s.pw.mode ≠ .off → s.tap.instr = 1 →
    ∃ t, exec (.jtagTapOperation (.scan l) low) s = .next t ∧ t.tap =
    { s.tap with out := ((List.range 32).map (bit idcode) ++ l).take l.length } ∧ { t with tap := s.tap } = s) ∧
  (∀ (s : State) (low : Bool) (l : List Bool), s.pw.mode ≠ .off → s.tap.instr ≠ 1 →
    (low = false ∨ s.tap.instr = 0) → ∃ t, exec (.jtagTapOperation (.scan l) low) s = .next t ∧
    t.tap = { s.tap with out := (false :: l).take l.length, bypassBit := l.getLast?.getD false } ∧
    { t with tap := s.tap } = s) ∧
  (∀ (s : State) (low : Bool) (l : List Bool), s.pw.mode ≠ .off → 2 ≤ s.tap.instr → low = true →
    ∃ t, exec (.jtagTapOperation (.scan l) low) s = .next t ∧ t.tap.preload = l ∧
    t.tap.out.length = l.length ∧ t.tap.instr = s.tap.instr ∧ RegsKept [] s t)
end

