-- ==== Sys2Proof/Laws/Calib.lean ====
section
/-! SUPPORT. What the feed-forward fit makes of a steady acceleration (13 R606). -/

namespace Sys2Proof.Machine

/-- The acceleration of a loop over a window in which no axis changes. -/
theorem ffAccel_steady (s : State) (n k : Nat) (x y z : Int) :
    s.ffAccel n (List.replicate k x) (List.replicate k y) (List.replicate k z) =
      List.replicate k (s.ffPick n (x, y, z)) := by
  simp [State.ffAccel]

/-- The sums of a fit over pairs whose acceleration is the same throughout. -/
theorem fit_fold_steady (c : Int) (ys : List Int) (n : Nat) (h : ys.length ≤ n) (t : Int × Int × Int) :
    (List.zip (List.replicate n c) ys).foldl (fun (t : Int × Int × Int) p =>
      (t.1 + p.2 * p.1, t.2.1 + p.1 * p.1, t.2.2 + p.2 * p.2)) t
    = (t.1 + c * ys.sum, t.2.1 + ys.length * (c * c), t.2.2 + (ys.map fun y => y * y).sum) := by
  induction ys generalizing n t with
  | nil => simp
  | cons y ys ih =>
    obtain ⟨m, rfl⟩ : ∃ m, n = m + 1 := ⟨n - 1, by simp at h; omega⟩
    simp only [List.replicate_succ, List.zip_cons_cons, List.foldl_cons]
    rw [ih m (by simpa using h)]
    simp only [List.sum_cons, List.length_cons, List.map_cons, Prod.mk.injEq]
    refine ⟨by ring, by push_cast; ring, by ring⟩

/-- The sums of a window of a steady acceleration `a`, at a delay up to 500 us. -/
theorem fitSums_steady (a : Int) (ys : List Int) (h : ys.length = 4096) (d : Nat) :
    fitSums (List.replicate 4096 a) ys d
      = (a * 125 * (ys.drop 5).sum, 4091 * (a * 125 * (a * 125)), ((ys.drop 5).map fun y => y * y).sum) := by
  unfold fitSums
  have hz : ∀ m n : Nat, List.zipWith (fun x x' => x * (125 - (d % 125 : Nat) : Int) + x' * (d % 125 : Nat))
      (List.replicate m a) (List.replicate n a) = List.replicate (min m n) (a * 125) := by
    intro m n
    rw [List.zipWith_replicate]
    congr 1
    ring
  simp only [List.drop_replicate]
  have := hz (4096 - (5 - d / 125)) (4096 - (4 - d / 125))
  push_cast at this
  rw [this, fit_fold_steady _ _ _ (by simp [h]; omega)]
  simp [h]

/-- A fit of a steady acceleration to a demand that sums to 0: no delay, no gain. -/
theorem ffFit_steady (a : Int) (ys : List Int) (h : ys.length = 4096) (ha : a ≠ 0) (hy : (ys.drop 5).sum = 0) :
    ffFit (List.replicate 4096 a) ys = (0, 0, decide (((ys.drop 5).map fun y => y * y).sum ≤ 0)) := by
  have e : ∀ d, fitSums (List.replicate 4096 a) ys d
      = (0, 4091 * (a * 125 * (a * 125)), ((ys.drop 5).map fun y => y * y).sum) := by
    intro d; rw [fitSums_steady a ys h, hy, mul_zero]
  have ha2 : 0 < a * 125 * (a * 125) := mul_self_pos.mpr (by omega)
  have hx : (0 : Int) < 4091 * (a * 125 * (a * 125)) := by positivity
  have hb : ∀ (l : List (Nat × Int × Int × Int)) (b : Nat × Int × Int × Int), (∀ x ∈ l, x.2.1 = 0) → b.2.1 = 0 →
      l.foldl (fun (b : Nat × Int × Int × Int) x =>
        if b.2.1 ^ 2 * x.2.2.1 < x.2.1 ^ 2 * b.2.2.1 then x else b) b = b := by
    intro l
    induction l with
    | nil => intros; rfl
    | cons x l ih =>
      intro b hl hb0
      have hx0 := hl x (by simp)
      simp only [List.foldl_cons, hx0, hb0]
      simp only [ne_eq, OfNat.ofNat_ne_zero, not_false_eq_true, zero_pow, zero_mul, lt_self_iff_false, if_false]
      exact ih b (fun y hy => hl y (by simp [hy])) hb0
  unfold ffFit
  simp only [e]
  rw [hb _ _ (by intro x hx'; simp at hx'; obtain ⟨_, _, rfl⟩ := hx'; rfl) (by simp [List.range_succ])]
  simp only [List.range_succ]
  simp [hx.ne', roundDiv, hx]
  refine ⟨Int.ediv_eq_zero_of_lt hx.le (by linarith), fun h1 => ?_, fun h1 => mul_nonpos_of_nonpos_of_nonneg h1 hx.le⟩
  by_contra h2
  have := mul_pos (not_le.mp h2) hx
  linarith

/-- A demand at rest for six samples and then swinging between `v` and `-v`. -/
abbrev swings (n : Nat) (v : Int) : List Int := List.replicate 6 0 ++ (List.replicate n [v, -v]).flatten

theorem swings_sum (n : Nat) (v : Int) : ((swings n v).drop 5).sum = 0 := by
  simp [swings, List.sum_flatten]

theorem swings_squares (n : Nat) (v : Int) :
    (((swings n v).drop 5).map fun y => y * y).sum = n * (v * v + v * v) := by
  simp [swings, List.map_flatten, List.sum_flatten]

end Sys2Proof.Machine
end

