-- ==== Sys2Proof/Laws/Map.lean ====
section
/-! SUPPORT. What the operations on sparse tables and byte memories do: read after write, and the canonical
form that each keeps. -/

namespace Sys2Proof.Machine

namespace Map

variable {α : Type}

@[simp] theorem get_nil (k : Nat) : get ([] : Map α) k = none := rfl

@[simp] theorem get_put_same (m : Map α) (k : Nat) (v : α) : get (put m k v) k = some v := by
  induction m with
  | nil => simp [put, get]
  | cons e m ih =>
    obtain ⟨k', v'⟩ := e
    simp only [put]
    split
    · simp [get]
    · split
      · simp [get]
      · simp [get, *]

theorem get_put_ne (m : Map α) (k j : Nat) (v : α) (h : j ≠ k) : get (put m k v) j = get m j := by
  induction m with
  | nil => simp [put, get, h]
  | cons e m ih =>
    obtain ⟨k', v'⟩ := e
    simp only [put]
    split
    · subst_vars; simp [get, h]
    · split
      · simp [get, h]
      · simp [get, ih]

@[simp] theorem get_erase_same (m : Map α) (k : Nat) : get (erase m k) k = none := by
  induction m with
  | nil => rfl
  | cons e m ih =>
    obtain ⟨k', v'⟩ := e
    by_cases h : k' = k
    · subst h; simpa [erase] using ih
    · have : k ≠ k' := fun e => h e.symm
      simpa [erase, h, get, this] using ih

theorem get_erase_ne (m : Map α) (k j : Nat) (h : j ≠ k) : get (erase m k) j = get m j := by
  induction m with
  | nil => rfl
  | cons e m ih =>
    obtain ⟨k', v'⟩ := e
    simp only [erase] at ih
    by_cases hk : k' = k
    · subst hk; simp [erase, get, h, ih]
    · simp [erase, hk, get, ih]

/-- The canonical form in terms of Mathlib's sorted lists of keys. -/
theorem wf_iff (m : Map α) : wf m = true ↔ (m.map Prod.fst).Pairwise (· < ·) := by
  induction m with
  | nil => simp [wf]
  | cons e m ih =>
    cases m with
    | nil => simp [wf]
    | cons f m =>
      obtain ⟨k, v⟩ := e
      obtain ⟨k', v'⟩ := f
      simp only [wf, Bool.and_eq_true, decide_eq_true_eq, ih]
      simp only [List.map_cons, List.pairwise_cons, List.mem_cons, List.mem_map]
      constructor
      · rintro ⟨h, h1, h2⟩
        refine ⟨?_, h1, h2⟩
        rintro a (rfl | ⟨x, hx, rfl⟩)
        · exact h
        · exact lt_trans h (h1 _ ⟨x, hx, rfl⟩)
      · rintro ⟨h, h1, h2⟩
        exact ⟨h _ (Or.inl rfl), h1, h2⟩

theorem mem_put (m : Map α) (k : Nat) (v : α) (e : Nat × α) : e ∈ put m k v → e = (k, v) ∨ e ∈ m := by
  induction m with
  | nil => simp [put]
  | cons f m ih =>
    obtain ⟨k', v'⟩ := f
    simp only [put]
    split
    · simp only [List.mem_cons]; tauto
    · split
      · simp only [List.mem_cons]; tauto
      · simp only [List.mem_cons]; tauto

theorem wf_put (m : Map α) (k : Nat) (v : α) (h : wf m = true) : wf (put m k v) = true := by
  rw [wf_iff] at h ⊢
  induction m with
  | nil => simp [put]
  | cons f m ih =>
    obtain ⟨k', v'⟩ := f
    simp only [List.map_cons, List.pairwise_cons] at h
    simp only [put]
    split
    · subst_vars; simpa using h
    · split
      · simp only [List.map_cons, List.pairwise_cons, List.mem_cons]
        refine ⟨?_, h⟩
        rintro a (rfl | ha)
        · assumption
        · exact lt_trans (by assumption) (h.1 a ha)
      · simp only [List.map_cons, List.pairwise_cons]
        refine ⟨?_, ih h.2⟩
        intro a ha
        obtain ⟨e, he, rfl⟩ := List.mem_map.1 ha
        rcases mem_put m k v e he with rfl | he
        · show k' < k; omega
        · exact h.1 _ (List.mem_map.2 ⟨e, he, rfl⟩)

theorem wf_filter (m : Map α) (p : Nat × α → Bool) (h : wf m = true) : wf (m.filter p) = true := by
  rw [wf_iff] at h ⊢
  exact h.sublist (List.filter_sublist.map Prod.fst)

theorem wf_erase (m : Map α) (k : Nat) (h : wf m = true) : wf (erase m k) = true := wf_filter m _ h

theorem wf_update (m : Map α) (k : Nat) (f : α → α) (h : wf m = true) : wf (update m k f) = true := by
  unfold update
  split
  · exact h
  · exact wf_put _ _ _ h

end Map

namespace Mem

@[simp] theorem read_write_same (m : Mem) (a : Nat) (b : Byte) : read (write m a b) a = b := by
  unfold read write
  split <;> simp [*]

theorem read_write_ne (m : Mem) (a c : Nat) (b : Byte) (h : c ≠ a) : read (write m a b) c = read m c := by
  unfold read write
  split
  · rw [Map.get_erase_ne _ _ _ h]
  · rw [Map.get_put_ne _ _ _ _ h]

/-- A byte outside the range written keeps its value. -/
theorem read_writeN_outside (m : Mem) (a c : Nat) (bs : List Byte) (h : c < a ∨ a + bs.length ≤ c) :
    read (writeN m a bs) c = read m c := by
  induction bs generalizing m a with
  | nil => rfl
  | cons b bs ih =>
    simp only [List.length_cons] at h
    rw [writeN, ih _ _ (by omega), read_write_ne _ _ _ _ (by omega)]

/-- Byte `i` of the range written holds the byte written there. -/
theorem read_writeN_inside (m : Mem) (a : Nat) (bs : List Byte) (i : Nat) (h : i < bs.length) :
    read (writeN m a bs) (a + i) = bs[i] := by
  induction bs generalizing m a i with
  | nil => simp at h
  | cons b bs ih =>
    cases i with
    | zero =>
      rw [writeN, Nat.add_zero, read_writeN_outside _ _ _ _ (by omega)]
      simp
    | succ i =>
      have h' : i < bs.length := by simpa using h
      have := ih (write m a b) (a + 1) i h'
      rw [writeN]
      simpa [Nat.add_assoc, Nat.add_comm 1] using this

theorem wf_write (m : Mem) (a : Nat) (b : Byte) (h : wf m = true) : wf (write m a b) = true := by
  unfold wf at h ⊢
  simp only [Bool.and_eq_true, List.all_eq_true] at h ⊢
  unfold write
  split
  · refine ⟨Map.wf_erase _ _ h.1, ?_⟩
    intro e he
    exact h.2 e (List.mem_of_mem_filter he)
  · refine ⟨Map.wf_put _ _ _ h.1, ?_⟩
    intro e he
    rcases Map.mem_put _ _ _ _ he with rfl | he
    · simpa using ‹¬b = 0›
    · exact h.2 e he

theorem wf_writeN (m : Mem) (a : Nat) (bs : List Byte) (h : wf m = true) : wf (writeN m a bs) = true := by
  induction bs generalizing m a with
  | nil => exact h
  | cons b bs ih => exact ih _ _ (wf_write _ _ _ h)

theorem wf_zero (m : Mem) (a n : Nat) (h : wf m = true) : wf (zero m a n) = true := by
  unfold wf at h ⊢
  simp only [Bool.and_eq_true, List.all_eq_true] at h ⊢
  exact ⟨Map.wf_filter _ _ h.1, fun e he => h.2 e (List.mem_of_mem_filter he)⟩

end Mem

end Sys2Proof.Machine
end

