-- ==== Sys2Proof/Laws/State.lean ====
section
/-! SUPPORT. Registers: a register written is read back cut to its width, every other register and every other
field of the state stays. -/

namespace Sys2Proof.Machine

theorem ctorIdx_lt (n : RegName) : n.ctorIdx < 1024 := by cases n <;> decide

theorem regName_ext {n m : RegName} (h : n.ctorIdx = m.ctorIdx) : n = m := by
  have e : ∀ k : RegName, RegName.ofNat k.ctorIdx = k := RegName.ofNat_ctorIdx
  rw [← e n, ← e m, h]

theorem regKey_ne {n m : RegName} {i j : Nat} (h : ¬(n = m ∧ i = j)) : regKey n i ≠ regKey m j := by
  intro e
  unfold regKey at e
  have hn := ctorIdx_lt n
  have hm := ctorIdx_lt m
  exact h ⟨regName_ext (by omega), by omega⟩

/-- A register written reads back cut to its width. -/
@[simp] theorem regGet_regPut_same (m : Map Nat) (n : RegName) (i v : Nat) :
    regGet (regPut m n i v) n i = v % 2 ^ n.info.width := by
  simp only [regGet, regPut]
  split <;> simp [*]

/-- Any other register keeps its value. -/
theorem regGet_regPut_ne (m : Map Nat) {n k : RegName} {i j : Nat} (v : Nat) (h : ¬(k = n ∧ j = i)) :
    regGet (regPut m n i v) k j = regGet m k j := by
  have := regKey_ne h
  simp only [regGet, regPut]
  split
  · rw [Map.get_erase_ne _ _ _ this]
  · rw [Map.get_put_ne _ _ _ _ this]

/-- Another name keeps its value at every entry. -/
@[simp] theorem regGet_regPut_name (m : Map Nat) {n k : RegName} (i j v : Nat) (h : k ≠ n) :
    regGet (regPut m n i v) k j = regGet m k j := regGet_regPut_ne _ _ fun e => h e.1

theorem regPut_wf (m : Map Nat) (n : RegName) (i v : Nat) (h : Map.wf m = true) : Map.wf (regPut m n i v) = true := by
  simp only [regPut]
  split
  · exact Map.wf_erase _ _ h
  · exact Map.wf_put _ _ _ h

/-- A counter raised by `k` holds at its largest value. -/
theorem add_cut (w v k : Nat) : min (v + k) (2 ^ w - 1) % 2 ^ w = min (v + k) (2 ^ w - 1) :=
  Nat.mod_eq_of_lt (by have := Nat.one_le_two_pow (n := w); omega)

/-- What a register write leaves in the table: an entry of the register at a value that is not its reset value, or
an entry that was there. -/
theorem mem_regPut (m : Map Nat) (n : RegName) (i v : Nat) (e : Nat × Nat) (h : e ∈ regPut m n i v) :
    (e = (regKey n i, v % 2 ^ n.info.width) ∧ v % 2 ^ n.info.width ≠ Reg.reset ⟨n, i⟩) ∨ e ∈ m := by
  simp only [regPut] at h
  split at h
  · exact Or.inr (List.mem_of_mem_filter h)
  · rcases Map.mem_put _ _ _ _ h with rfl | h
    · exact Or.inl ⟨rfl, by assumption⟩
    · exact Or.inr h

theorem State.get_eq (s : State) (n : RegName) (i : Nat) : s.get n i = regGet s.regs n i := rfl
theorem State.reg_eq (s : State) (n : RegName) : s.reg n = regGet s.regs n n.info.idx0 := rfl
theorem State.put_eq (s : State) (n : RegName) (i v : Nat) : s.put n i v = { s with regs := regPut s.regs n i v } := rfl

@[simp] theorem State.put_regs (s : State) (n : RegName) (i v : Nat) : (s.put n i v).regs = regPut s.regs n i v := rfl
@[simp] theorem State.set_regs (s : State) (n : RegName) (v : Nat) :
    (s.set n v).regs = regPut s.regs n n.info.idx0 v := rfl
@[simp] theorem State.setInt_regs (s : State) (n : RegName) (v : Int) :
    (s.setInt n v).regs = regPut s.regs n n.info.idx0 (toBits n.info.width v) := rfl
@[simp] theorem State.add_regs (s : State) (n : RegName) (i k : Nat) :
    (s.add n i k).regs = regPut s.regs n i (min (regGet s.regs n i + k) (2 ^ n.info.width - 1)) := rfl
@[simp] theorem State.bump_regs (s : State) (n : RegName) : (s.bump n).regs =
    regPut s.regs n n.info.idx0 (min (regGet s.regs n n.info.idx0 + 1) (2 ^ n.info.width - 1)) := rfl

@[simp] theorem State.bump_reg (s : State) (n : RegName) :
    (s.bump n).reg n = min (s.reg n + 1) (2 ^ n.info.width - 1) := by
  simp [State.reg_eq, add_cut]
@[simp] theorem State.add_get (s : State) (n : RegName) (i k : Nat) :
    (s.add n i k).get n i = min (s.get n i + k) (2 ^ n.info.width - 1) := by
  simp [State.get_eq, add_cut]
@[simp] theorem State.set_reg (s : State) (n : RegName) (v : Nat) : (s.set n v).reg n = v % 2 ^ n.info.width := by
  simp [State.reg_eq]
@[simp] theorem State.put_get (s : State) (n : RegName) (i v : Nat) : (s.put n i v).get n i = v % 2 ^ n.info.width := by
  simp [State.get_eq]

@[simp] theorem State.put_pending (s : State) (n : RegName) (i v : Nat) : (s.put n i v).pending = s.pending := rfl
@[simp] theorem State.set_pending (s : State) (n : RegName) (v : Nat) : (s.set n v).pending = s.pending := rfl
@[simp] theorem State.setInt_pending (s : State) (n : RegName) (v : Int) : (s.setInt n v).pending = s.pending := rfl
@[simp] theorem State.add_pending (s : State) (n : RegName) (i k : Nat) : (s.add n i k).pending = s.pending := rfl
@[simp] theorem State.bump_pending (s : State) (n : RegName) : (s.bump n).pending = s.pending := rfl
@[simp] theorem State.put_clock (s : State) (n : RegName) (i v : Nat) : (s.put n i v).clock = s.clock := rfl
@[simp] theorem State.set_clock (s : State) (n : RegName) (v : Nat) : (s.set n v).clock = s.clock := rfl
@[simp] theorem State.setInt_clock (s : State) (n : RegName) (v : Int) : (s.setInt n v).clock = s.clock := rfl
@[simp] theorem State.add_clock (s : State) (n : RegName) (i k : Nat) : (s.add n i k).clock = s.clock := rfl
@[simp] theorem State.bump_clock (s : State) (n : RegName) : (s.bump n).clock = s.clock := rfl
@[simp] theorem State.put_time (s : State) (n : RegName) (i v : Nat) : (s.put n i v).time = s.time := rfl
@[simp] theorem State.set_time (s : State) (n : RegName) (v : Nat) : (s.set n v).time = s.time := rfl
@[simp] theorem State.setInt_time (s : State) (n : RegName) (v : Int) : (s.setInt n v).time = s.time := rfl
@[simp] theorem State.add_time (s : State) (n : RegName) (i k : Nat) : (s.add n i k).time = s.time := rfl
@[simp] theorem State.bump_time (s : State) (n : RegName) : (s.bump n).time = s.time := rfl
@[simp] theorem State.put_free (s : State) (n : RegName) (i v : Nat) : (s.put n i v).free = s.free := rfl
@[simp] theorem State.set_free (s : State) (n : RegName) (v : Nat) : (s.set n v).free = s.free := rfl
@[simp] theorem State.setInt_free (s : State) (n : RegName) (v : Int) : (s.setInt n v).free = s.free := rfl
@[simp] theorem State.add_free (s : State) (n : RegName) (i k : Nat) : (s.add n i k).free = s.free := rfl
@[simp] theorem State.bump_free (s : State) (n : RegName) : (s.bump n).free = s.free := rfl
@[simp] theorem State.put_pw (s : State) (n : RegName) (i v : Nat) : (s.put n i v).pw = s.pw := rfl
@[simp] theorem State.set_pw (s : State) (n : RegName) (v : Nat) : (s.set n v).pw = s.pw := rfl
@[simp] theorem State.setInt_pw (s : State) (n : RegName) (v : Int) : (s.setInt n v).pw = s.pw := rfl
@[simp] theorem State.add_pw (s : State) (n : RegName) (i k : Nat) : (s.add n i k).pw = s.pw := rfl
@[simp] theorem State.bump_pw (s : State) (n : RegName) : (s.bump n).pw = s.pw := rfl
@[simp] theorem State.put_host (s : State) (n : RegName) (i v : Nat) : (s.put n i v).host = s.host := rfl
@[simp] theorem State.set_host (s : State) (n : RegName) (v : Nat) : (s.set n v).host = s.host := rfl
@[simp] theorem State.setInt_host (s : State) (n : RegName) (v : Int) : (s.setInt n v).host = s.host := rfl
@[simp] theorem State.add_host (s : State) (n : RegName) (i k : Nat) : (s.add n i k).host = s.host := rfl
@[simp] theorem State.bump_host (s : State) (n : RegName) : (s.bump n).host = s.host := rfl
@[simp] theorem State.put_q (s : State) (n : RegName) (i v : Nat) : (s.put n i v).q = s.q := rfl
@[simp] theorem State.set_q (s : State) (n : RegName) (v : Nat) : (s.set n v).q = s.q := rfl
@[simp] theorem State.setInt_q (s : State) (n : RegName) (v : Int) : (s.setInt n v).q = s.q := rfl
@[simp] theorem State.add_q (s : State) (n : RegName) (i k : Nat) : (s.add n i k).q = s.q := rfl
@[simp] theorem State.bump_q (s : State) (n : RegName) : (s.bump n).q = s.q := rfl
@[simp] theorem State.put_bb (s : State) (n : RegName) (i v : Nat) : (s.put n i v).bb = s.bb := rfl
@[simp] theorem State.set_bb (s : State) (n : RegName) (v : Nat) : (s.set n v).bb = s.bb := rfl
@[simp] theorem State.setInt_bb (s : State) (n : RegName) (v : Int) : (s.setInt n v).bb = s.bb := rfl
@[simp] theorem State.add_bb (s : State) (n : RegName) (i k : Nat) : (s.add n i k).bb = s.bb := rfl
@[simp] theorem State.bump_bb (s : State) (n : RegName) : (s.bump n).bb = s.bb := rfl
@[simp] theorem State.put_bead (s : State) (n : RegName) (i v : Nat) : (s.put n i v).bead = s.bead := rfl
@[simp] theorem State.set_bead (s : State) (n : RegName) (v : Nat) : (s.set n v).bead = s.bead := rfl
@[simp] theorem State.setInt_bead (s : State) (n : RegName) (v : Int) : (s.setInt n v).bead = s.bead := rfl
@[simp] theorem State.add_bead (s : State) (n : RegName) (i k : Nat) : (s.add n i k).bead = s.bead := rfl
@[simp] theorem State.bump_bead (s : State) (n : RegName) : (s.bump n).bead = s.bead := rfl
@[simp] theorem State.put_lm (s : State) (n : RegName) (i v : Nat) : (s.put n i v).lm = s.lm := rfl
@[simp] theorem State.set_lm (s : State) (n : RegName) (v : Nat) : (s.set n v).lm = s.lm := rfl
@[simp] theorem State.setInt_lm (s : State) (n : RegName) (v : Int) : (s.setInt n v).lm = s.lm := rfl
@[simp] theorem State.add_lm (s : State) (n : RegName) (i k : Nat) : (s.add n i k).lm = s.lm := rfl
@[simp] theorem State.bump_lm (s : State) (n : RegName) : (s.bump n).lm = s.lm := rfl
@[simp] theorem State.put_md (s : State) (n : RegName) (i v : Nat) : (s.put n i v).md = s.md := rfl
@[simp] theorem State.set_md (s : State) (n : RegName) (v : Nat) : (s.set n v).md = s.md := rfl
@[simp] theorem State.setInt_md (s : State) (n : RegName) (v : Int) : (s.setInt n v).md = s.md := rfl
@[simp] theorem State.add_md (s : State) (n : RegName) (i k : Nat) : (s.add n i k).md = s.md := rfl
@[simp] theorem State.bump_md (s : State) (n : RegName) : (s.bump n).md = s.md := rfl
@[simp] theorem State.put_bu (s : State) (n : RegName) (i v : Nat) : (s.put n i v).bu = s.bu := rfl
@[simp] theorem State.set_bu (s : State) (n : RegName) (v : Nat) : (s.set n v).bu = s.bu := rfl
@[simp] theorem State.setInt_bu (s : State) (n : RegName) (v : Int) : (s.setInt n v).bu = s.bu := rfl
@[simp] theorem State.add_bu (s : State) (n : RegName) (i k : Nat) : (s.add n i k).bu = s.bu := rfl
@[simp] theorem State.bump_bu (s : State) (n : RegName) : (s.bump n).bu = s.bu := rfl
@[simp] theorem State.put_sec (s : State) (n : RegName) (i v : Nat) : (s.put n i v).sec = s.sec := rfl
@[simp] theorem State.set_sec (s : State) (n : RegName) (v : Nat) : (s.set n v).sec = s.sec := rfl
@[simp] theorem State.setInt_sec (s : State) (n : RegName) (v : Int) : (s.setInt n v).sec = s.sec := rfl
@[simp] theorem State.add_sec (s : State) (n : RegName) (i k : Nat) : (s.add n i k).sec = s.sec := rfl
@[simp] theorem State.bump_sec (s : State) (n : RegName) : (s.bump n).sec = s.sec := rfl
@[simp] theorem State.put_sp (s : State) (n : RegName) (i v : Nat) : (s.put n i v).sp = s.sp := rfl
@[simp] theorem State.set_sp (s : State) (n : RegName) (v : Nat) : (s.set n v).sp = s.sp := rfl
@[simp] theorem State.setInt_sp (s : State) (n : RegName) (v : Int) : (s.setInt n v).sp = s.sp := rfl
@[simp] theorem State.add_sp (s : State) (n : RegName) (i k : Nat) : (s.add n i k).sp = s.sp := rfl
@[simp] theorem State.bump_sp (s : State) (n : RegName) : (s.bump n).sp = s.sp := rfl
@[simp] theorem State.put_sl (s : State) (n : RegName) (i v : Nat) : (s.put n i v).sl = s.sl := rfl
@[simp] theorem State.set_sl (s : State) (n : RegName) (v : Nat) : (s.set n v).sl = s.sl := rfl
@[simp] theorem State.setInt_sl (s : State) (n : RegName) (v : Int) : (s.setInt n v).sl = s.sl := rfl
@[simp] theorem State.add_sl (s : State) (n : RegName) (i k : Nat) : (s.add n i k).sl = s.sl := rfl
@[simp] theorem State.bump_sl (s : State) (n : RegName) : (s.bump n).sl = s.sl := rfl
@[simp] theorem State.put_sv (s : State) (n : RegName) (i v : Nat) : (s.put n i v).sv = s.sv := rfl
@[simp] theorem State.set_sv (s : State) (n : RegName) (v : Nat) : (s.set n v).sv = s.sv := rfl
@[simp] theorem State.setInt_sv (s : State) (n : RegName) (v : Int) : (s.setInt n v).sv = s.sv := rfl
@[simp] theorem State.add_sv (s : State) (n : RegName) (i k : Nat) : (s.add n i k).sv = s.sv := rfl
@[simp] theorem State.bump_sv (s : State) (n : RegName) : (s.bump n).sv = s.sv := rfl
@[simp] theorem State.put_las (s : State) (n : RegName) (i v : Nat) : (s.put n i v).las = s.las := rfl
@[simp] theorem State.set_las (s : State) (n : RegName) (v : Nat) : (s.set n v).las = s.las := rfl
@[simp] theorem State.setInt_las (s : State) (n : RegName) (v : Int) : (s.setInt n v).las = s.las := rfl
@[simp] theorem State.add_las (s : State) (n : RegName) (i k : Nat) : (s.add n i k).las = s.las := rfl
@[simp] theorem State.bump_las (s : State) (n : RegName) : (s.bump n).las = s.las := rfl
@[simp] theorem State.put_ch (s : State) (n : RegName) (i v : Nat) : (s.put n i v).ch = s.ch := rfl
@[simp] theorem State.set_ch (s : State) (n : RegName) (v : Nat) : (s.set n v).ch = s.ch := rfl
@[simp] theorem State.setInt_ch (s : State) (n : RegName) (v : Int) : (s.setInt n v).ch = s.ch := rfl
@[simp] theorem State.add_ch (s : State) (n : RegName) (i k : Nat) : (s.add n i k).ch = s.ch := rfl
@[simp] theorem State.bump_ch (s : State) (n : RegName) : (s.bump n).ch = s.ch := rfl
@[simp] theorem State.put_chV (s : State) (n : RegName) (i v : Nat) : (s.put n i v).chV = s.chV := rfl
@[simp] theorem State.set_chV (s : State) (n : RegName) (v : Nat) : (s.set n v).chV = s.chV := rfl
@[simp] theorem State.setInt_chV (s : State) (n : RegName) (v : Int) : (s.setInt n v).chV = s.chV := rfl
@[simp] theorem State.add_chV (s : State) (n : RegName) (i k : Nat) : (s.add n i k).chV = s.chV := rfl
@[simp] theorem State.bump_chV (s : State) (n : RegName) : (s.bump n).chV = s.chV := rfl
@[simp] theorem State.put_rd (s : State) (n : RegName) (i v : Nat) : (s.put n i v).rd = s.rd := rfl
@[simp] theorem State.set_rd (s : State) (n : RegName) (v : Nat) : (s.set n v).rd = s.rd := rfl
@[simp] theorem State.setInt_rd (s : State) (n : RegName) (v : Int) : (s.setInt n v).rd = s.rd := rfl
@[simp] theorem State.add_rd (s : State) (n : RegName) (i k : Nat) : (s.add n i k).rd = s.rd := rfl
@[simp] theorem State.bump_rd (s : State) (n : RegName) : (s.bump n).rd = s.rd := rfl
@[simp] theorem State.put_cal (s : State) (n : RegName) (i v : Nat) : (s.put n i v).cal = s.cal := rfl
@[simp] theorem State.set_cal (s : State) (n : RegName) (v : Nat) : (s.set n v).cal = s.cal := rfl
@[simp] theorem State.setInt_cal (s : State) (n : RegName) (v : Int) : (s.setInt n v).cal = s.cal := rfl
@[simp] theorem State.add_cal (s : State) (n : RegName) (i k : Nat) : (s.add n i k).cal = s.cal := rfl
@[simp] theorem State.bump_cal (s : State) (n : RegName) : (s.bump n).cal = s.cal := rfl
@[simp] theorem State.put_st (s : State) (n : RegName) (i v : Nat) : (s.put n i v).st = s.st := rfl
@[simp] theorem State.set_st (s : State) (n : RegName) (v : Nat) : (s.set n v).st = s.st := rfl
@[simp] theorem State.setInt_st (s : State) (n : RegName) (v : Int) : (s.setInt n v).st = s.st := rfl
@[simp] theorem State.add_st (s : State) (n : RegName) (i k : Nat) : (s.add n i k).st = s.st := rfl
@[simp] theorem State.bump_st (s : State) (n : RegName) : (s.bump n).st = s.st := rfl
@[simp] theorem State.put_ca (s : State) (n : RegName) (i v : Nat) : (s.put n i v).ca = s.ca := rfl
@[simp] theorem State.set_ca (s : State) (n : RegName) (v : Nat) : (s.set n v).ca = s.ca := rfl
@[simp] theorem State.setInt_ca (s : State) (n : RegName) (v : Int) : (s.setInt n v).ca = s.ca := rfl
@[simp] theorem State.add_ca (s : State) (n : RegName) (i k : Nat) : (s.add n i k).ca = s.ca := rfl
@[simp] theorem State.bump_ca (s : State) (n : RegName) : (s.bump n).ca = s.ca := rfl
@[simp] theorem State.put_un (s : State) (n : RegName) (i v : Nat) : (s.put n i v).un = s.un := rfl
@[simp] theorem State.set_un (s : State) (n : RegName) (v : Nat) : (s.set n v).un = s.un := rfl
@[simp] theorem State.setInt_un (s : State) (n : RegName) (v : Int) : (s.setInt n v).un = s.un := rfl
@[simp] theorem State.add_un (s : State) (n : RegName) (i k : Nat) : (s.add n i k).un = s.un := rfl
@[simp] theorem State.bump_un (s : State) (n : RegName) : (s.bump n).un = s.un := rfl
@[simp] theorem State.put_pt (s : State) (n : RegName) (i v : Nat) : (s.put n i v).pt = s.pt := rfl
@[simp] theorem State.set_pt (s : State) (n : RegName) (v : Nat) : (s.set n v).pt = s.pt := rfl
@[simp] theorem State.setInt_pt (s : State) (n : RegName) (v : Int) : (s.setInt n v).pt = s.pt := rfl
@[simp] theorem State.add_pt (s : State) (n : RegName) (i k : Nat) : (s.add n i k).pt = s.pt := rfl
@[simp] theorem State.bump_pt (s : State) (n : RegName) : (s.bump n).pt = s.pt := rfl
@[simp] theorem State.put_tb (s : State) (n : RegName) (i v : Nat) : (s.put n i v).tb = s.tb := rfl
@[simp] theorem State.set_tb (s : State) (n : RegName) (v : Nat) : (s.set n v).tb = s.tb := rfl
@[simp] theorem State.setInt_tb (s : State) (n : RegName) (v : Int) : (s.setInt n v).tb = s.tb := rfl
@[simp] theorem State.add_tb (s : State) (n : RegName) (i k : Nat) : (s.add n i k).tb = s.tb := rfl
@[simp] theorem State.bump_tb (s : State) (n : RegName) : (s.bump n).tb = s.tb := rfl
@[simp] theorem State.put_tally (s : State) (n : RegName) (i v : Nat) : (s.put n i v).tally = s.tally := rfl
@[simp] theorem State.set_tally (s : State) (n : RegName) (v : Nat) : (s.set n v).tally = s.tally := rfl
@[simp] theorem State.setInt_tally (s : State) (n : RegName) (v : Int) : (s.setInt n v).tally = s.tally := rfl
@[simp] theorem State.add_tally (s : State) (n : RegName) (i k : Nat) : (s.add n i k).tally = s.tally := rfl
@[simp] theorem State.bump_tally (s : State) (n : RegName) : (s.bump n).tally = s.tally := rfl
@[simp] theorem State.put_gp (s : State) (n : RegName) (i v : Nat) : (s.put n i v).gp = s.gp := rfl
@[simp] theorem State.set_gp (s : State) (n : RegName) (v : Nat) : (s.set n v).gp = s.gp := rfl
@[simp] theorem State.setInt_gp (s : State) (n : RegName) (v : Int) : (s.setInt n v).gp = s.gp := rfl
@[simp] theorem State.add_gp (s : State) (n : RegName) (i k : Nat) : (s.add n i k).gp = s.gp := rfl
@[simp] theorem State.bump_gp (s : State) (n : RegName) : (s.bump n).gp = s.gp := rfl
@[simp] theorem State.put_bo (s : State) (n : RegName) (i v : Nat) : (s.put n i v).bo = s.bo := rfl
@[simp] theorem State.set_bo (s : State) (n : RegName) (v : Nat) : (s.set n v).bo = s.bo := rfl
@[simp] theorem State.setInt_bo (s : State) (n : RegName) (v : Int) : (s.setInt n v).bo = s.bo := rfl
@[simp] theorem State.add_bo (s : State) (n : RegName) (i k : Nat) : (s.add n i k).bo = s.bo := rfl
@[simp] theorem State.bump_bo (s : State) (n : RegName) : (s.bump n).bo = s.bo := rfl
@[simp] theorem State.put_tap (s : State) (n : RegName) (i v : Nat) : (s.put n i v).tap = s.tap := rfl
@[simp] theorem State.set_tap (s : State) (n : RegName) (v : Nat) : (s.set n v).tap = s.tap := rfl
@[simp] theorem State.setInt_tap (s : State) (n : RegName) (v : Int) : (s.setInt n v).tap = s.tap := rfl
@[simp] theorem State.add_tap (s : State) (n : RegName) (i k : Nat) : (s.add n i k).tap = s.tap := rfl
@[simp] theorem State.bump_tap (s : State) (n : RegName) : (s.bump n).tap = s.tap := rfl

end Sys2Proof.Machine
end

