-- ==== Sys2Proof/Laws/Ops.lean ====
section
/-! SUPPORT. What the shared operations can do, once each: a draw of a free value, a counted event, a message, a
notice, a record to the black box, a report. -/

namespace Sys2Proof.Machine

/-- `t` is `s` with registers of `l` changed through the register table alone. -/
def OnlyRegs (l : List RegName) (s t : State) : Prop :=
  (∃ m, t = { s with regs := m }) ∧ RegsKept l s t ∧ (Map.wf s.regs = true → Map.wf t.regs = true)

theorem OnlyRegs.refl (l : List RegName) (s : State) : OnlyRegs l s s := ⟨⟨s.regs, rfl⟩, fun _ _ _ => rfl, id⟩

theorem OnlyRegs.trans {l : List RegName} {s t u : State} (a : OnlyRegs l s t) (b : OnlyRegs l t u) :
    OnlyRegs l s u := by
  obtain ⟨⟨m, rfl⟩, ka, wa⟩ := a
  obtain ⟨⟨m', rfl⟩, kb, wb⟩ := b
  exact ⟨⟨m', rfl⟩, fun n i h => (kb n i h).trans (ka n i h), fun h => wb (wa h)⟩

theorem OnlyRegs.put {l : List RegName} (s : State) (n : RegName) (i v : Nat) (h : n ∈ l) :
    OnlyRegs l s (s.put n i v) := by
  refine ⟨⟨_, rfl⟩, fun k j hk => ?_, fun w => regPut_wf _ _ _ _ w⟩
  exact regGet_regPut_name _ _ _ _ fun e => hk (e ▸ h)

/-- A fold keeps a reflexive and transitive relation that each of its steps keeps. -/
theorem foldl_rel {α : Type} (R : State → State → Prop) (refl : ∀ s, R s s) (trans : ∀ {s t u}, R s t → R t u → R s u)
    (f : State → α → State) (step : ∀ s a, R s (f s a)) (l : List α) (s : State) : R s (l.foldl f s) := by
  induction l generalizing s with
  | nil => exact refl s
  | cons a l ih => exact trans (step s a) (ih (f s a))

theorem beadAdd_only (s : State) (i k : Nat) : OnlyRegs beadRegs s (s.beadAdd i k) := by
  unfold State.beadAdd
  refine OnlyRegs.trans ?_ (OnlyRegs.put _ _ _ _ (by simp [beadRegs]))
  split
  · exact OnlyRegs.put _ _ _ _ (by simp [beadRegs])
  · exact OnlyRegs.refl _ _

theorem beadMax_only (s : State) (i v : Nat) : OnlyRegs beadRegs s (s.beadMax i v) := by
  unfold State.beadMax
  refine OnlyRegs.trans ?_ (OnlyRegs.put _ _ _ _ (by simp [beadRegs]))
  split
  · exact OnlyRegs.put _ _ _ _ (by simp [beadRegs])
  · exact OnlyRegs.refl _ _

/-- A counted event moves beads and nothing else (17 R730, R733). -/
theorem pulse_only (s : State) (code v : Nat) : OnlyRegs beadRegs s (s.pulse code v) := by
  unfold State.pulse
  split
  · exact OnlyRegs.refl _ _
  · refine foldl_rel (OnlyRegs beadRegs) (OnlyRegs.refl _) OnlyRegs.trans _ (fun t i => ?_) _ _
    split
    · split
      · exact beadAdd_only _ _ _
      · exact beadMax_only _ _ _
      · exact OnlyRegs.refl _ _
    · exact OnlyRegs.refl _ _

/-- In Nap no event is counted (17 R734). -/
theorem pulse_nap (s : State) (code v : Nat) (h : s.pw.mode = .nap) : s.pulse code v = s := by
  unfold State.pulse
  rw [if_pos h]

@[simp] theorem pulse_get (s : State) (code v : Nat) (n : RegName) (i : Nat) (h : n ∉ beadRegs) :
    regGet (s.pulse code v).regs n i = regGet s.regs n i := (pulse_only s code v).2.1 n i h

theorem pulse_wf (s : State) (code v : Nat) (h : Map.wf s.regs = true) : Map.wf (s.pulse code v).regs = true :=
  (pulse_only s code v).2.2 h

@[simp] theorem pulse_pending (s : State) (code v : Nat) : (s.pulse code v).pending = s.pending := by
  obtain ⟨⟨m, e⟩, -⟩ := pulse_only s code v
  rw [e]
@[simp] theorem pulse_clock (s : State) (code v : Nat) : (s.pulse code v).clock = s.clock := by
  obtain ⟨⟨m, e⟩, -⟩ := pulse_only s code v
  rw [e]
@[simp] theorem pulse_time (s : State) (code v : Nat) : (s.pulse code v).time = s.time := by
  obtain ⟨⟨m, e⟩, -⟩ := pulse_only s code v
  rw [e]
@[simp] theorem pulse_free (s : State) (code v : Nat) : (s.pulse code v).free = s.free := by
  obtain ⟨⟨m, e⟩, -⟩ := pulse_only s code v
  rw [e]
@[simp] theorem pulse_pw (s : State) (code v : Nat) : (s.pulse code v).pw = s.pw := by
  obtain ⟨⟨m, e⟩, -⟩ := pulse_only s code v
  rw [e]
@[simp] theorem pulse_host (s : State) (code v : Nat) : (s.pulse code v).host = s.host := by
  obtain ⟨⟨m, e⟩, -⟩ := pulse_only s code v
  rw [e]
@[simp] theorem pulse_q (s : State) (code v : Nat) : (s.pulse code v).q = s.q := by
  obtain ⟨⟨m, e⟩, -⟩ := pulse_only s code v
  rw [e]
@[simp] theorem pulse_bb (s : State) (code v : Nat) : (s.pulse code v).bb = s.bb := by
  obtain ⟨⟨m, e⟩, -⟩ := pulse_only s code v
  rw [e]
@[simp] theorem pulse_bead (s : State) (code v : Nat) : (s.pulse code v).bead = s.bead := by
  obtain ⟨⟨m, e⟩, -⟩ := pulse_only s code v
  rw [e]
@[simp] theorem pulse_lm (s : State) (code v : Nat) : (s.pulse code v).lm = s.lm := by
  obtain ⟨⟨m, e⟩, -⟩ := pulse_only s code v
  rw [e]
@[simp] theorem pulse_md (s : State) (code v : Nat) : (s.pulse code v).md = s.md := by
  obtain ⟨⟨m, e⟩, -⟩ := pulse_only s code v
  rw [e]
@[simp] theorem pulse_bu (s : State) (code v : Nat) : (s.pulse code v).bu = s.bu := by
  obtain ⟨⟨m, e⟩, -⟩ := pulse_only s code v
  rw [e]
@[simp] theorem pulse_sec (s : State) (code v : Nat) : (s.pulse code v).sec = s.sec := by
  obtain ⟨⟨m, e⟩, -⟩ := pulse_only s code v
  rw [e]
@[simp] theorem pulse_sp (s : State) (code v : Nat) : (s.pulse code v).sp = s.sp := by
  obtain ⟨⟨m, e⟩, -⟩ := pulse_only s code v
  rw [e]
@[simp] theorem pulse_sl (s : State) (code v : Nat) : (s.pulse code v).sl = s.sl := by
  obtain ⟨⟨m, e⟩, -⟩ := pulse_only s code v
  rw [e]
@[simp] theorem pulse_sv (s : State) (code v : Nat) : (s.pulse code v).sv = s.sv := by
  obtain ⟨⟨m, e⟩, -⟩ := pulse_only s code v
  rw [e]
@[simp] theorem pulse_las (s : State) (code v : Nat) : (s.pulse code v).las = s.las := by
  obtain ⟨⟨m, e⟩, -⟩ := pulse_only s code v
  rw [e]
@[simp] theorem pulse_ch (s : State) (code v : Nat) : (s.pulse code v).ch = s.ch := by
  obtain ⟨⟨m, e⟩, -⟩ := pulse_only s code v
  rw [e]
@[simp] theorem pulse_chV (s : State) (code v : Nat) : (s.pulse code v).chV = s.chV := by
  obtain ⟨⟨m, e⟩, -⟩ := pulse_only s code v
  rw [e]
@[simp] theorem pulse_rd (s : State) (code v : Nat) : (s.pulse code v).rd = s.rd := by
  obtain ⟨⟨m, e⟩, -⟩ := pulse_only s code v
  rw [e]
@[simp] theorem pulse_cal (s : State) (code v : Nat) : (s.pulse code v).cal = s.cal := by
  obtain ⟨⟨m, e⟩, -⟩ := pulse_only s code v
  rw [e]
@[simp] theorem pulse_st (s : State) (code v : Nat) : (s.pulse code v).st = s.st := by
  obtain ⟨⟨m, e⟩, -⟩ := pulse_only s code v
  rw [e]
@[simp] theorem pulse_ca (s : State) (code v : Nat) : (s.pulse code v).ca = s.ca := by
  obtain ⟨⟨m, e⟩, -⟩ := pulse_only s code v
  rw [e]
@[simp] theorem pulse_un (s : State) (code v : Nat) : (s.pulse code v).un = s.un := by
  obtain ⟨⟨m, e⟩, -⟩ := pulse_only s code v
  rw [e]
@[simp] theorem pulse_pt (s : State) (code v : Nat) : (s.pulse code v).pt = s.pt := by
  obtain ⟨⟨m, e⟩, -⟩ := pulse_only s code v
  rw [e]
@[simp] theorem pulse_tb (s : State) (code v : Nat) : (s.pulse code v).tb = s.tb := by
  obtain ⟨⟨m, e⟩, -⟩ := pulse_only s code v
  rw [e]
@[simp] theorem pulse_tally (s : State) (code v : Nat) : (s.pulse code v).tally = s.tally := by
  obtain ⟨⟨m, e⟩, -⟩ := pulse_only s code v
  rw [e]
@[simp] theorem pulse_gp (s : State) (code v : Nat) : (s.pulse code v).gp = s.gp := by
  obtain ⟨⟨m, e⟩, -⟩ := pulse_only s code v
  rw [e]
@[simp] theorem pulse_bo (s : State) (code v : Nat) : (s.pulse code v).bo = s.bo := by
  obtain ⟨⟨m, e⟩, -⟩ := pulse_only s code v
  rw [e]
@[simp] theorem pulse_tap (s : State) (code v : Nat) : (s.pulse code v).tap = s.tap := by
  obtain ⟨⟨m, e⟩, -⟩ := pulse_only s code v
  rw [e]

/-- `t` is `s` but for registers of `l`, the notices and messages on their way to the host, WAKE_N and the black
box's queue: what telling the host and the warden of an event changes. -/
def Told (l : List RegName) (s t : State) : Prop :=
  (∃ m n hm p w b, t = { s with
      regs := m
      host := { s.host with notices := n, mem := hm, msixPending := p, wakeN := w }
      bb := b }) ∧ RegsKept l s t ∧ (Map.wf s.regs = true → Map.wf t.regs = true) ∧
    (Mem.wf s.host.mem = true → Mem.wf t.host.mem = true)

theorem Told.refl (l : List RegName) (s : State) : Told l s s :=
  ⟨⟨s.regs, s.host.notices, s.host.mem, s.host.msixPending, s.host.wakeN, s.bb, rfl⟩, fun _ _ _ => rfl, id, id⟩

theorem Told.trans {l : List RegName} {s t u : State} (a : Told l s t) (b : Told l t u) : Told l s u := by
  obtain ⟨⟨m, n, hm, p, w, bb, rfl⟩, ka, wa, va⟩ := a
  obtain ⟨⟨m', n', hm', p', w', bb', rfl⟩, kb, wb, vb⟩ := b
  exact ⟨⟨m', n', hm', p', w', bb', rfl⟩, fun k i h => (kb k i h).trans (ka k i h), fun h => wb (wa h),
    fun h => vb (va h)⟩

theorem OnlyRegs.told {l l' : List RegName} {s t : State} (a : OnlyRegs l s t) (h : ∀ n ∈ l, n ∈ l') : Told l' s t := by
  obtain ⟨⟨m, rfl⟩, k, w⟩ := a
  exact ⟨⟨m, s.host.notices, s.host.mem, s.host.msixPending, s.host.wakeN, s.bb, rfl⟩,
    fun n i hn => k n i fun e => hn (h n e), w, id⟩

theorem pulse_told (s : State) (code v : Nat) : Told bookRegs s (s.pulse code v) :=
  (pulse_only s code v).told (by simp [beadRegs, bookRegs])

theorem set_told (s : State) (n : RegName) (v : Nat) (h : n ∈ bookRegs) : Told bookRegs s (s.set n v) :=
  (OnlyRegs.put s n _ v h).told fun _ => id

theorem bump_told (s : State) (n : RegName) (h : n ∈ bookRegs) : Told bookRegs s (s.bump n) :=
  (OnlyRegs.put s n _ _ h).told fun _ => id

theorem hostWrite_told (s : State) (a : Nat) (bs : List Byte) : Told bookRegs s (s.hostWrite a bs) := by
  unfold State.hostWrite
  split
  · exact ⟨⟨s.regs, s.host.notices, _, s.host.msixPending, s.host.wakeN, s.bb, rfl⟩, fun _ _ _ => rfl, id,
      fun h => Mem.wf_writeN _ _ _ h⟩
  · exact Told.refl _ _

theorem msixSend_told (s : State) (v : Nat) : Told bookRegs s (s.msixSend v) := by
  unfold State.msixSend
  split
  · exact Told.refl _ _
  · dsimp only
    split
    · split
      · exact Told.refl _ _
      · exact ⟨⟨s.regs, s.host.notices, s.host.mem, _, s.host.wakeN, s.bb, rfl⟩, fun _ _ _ => rfl, id, id⟩
    · exact (hostWrite_told _ _ _).trans (pulse_told _ _ _)

/-- A notice touches NT_HEAD or NT_LOST, the beads, the notice ring, messages, WAKE_N (04 R151, R152, R163). -/
theorem notice_told (s : State) (n : Notice) : Told bookRegs s (s.notice n) := by
  have wake : Told bookRegs s (if s.reg .LINK_STATE = 5 then { s with host.wakeN := true } else s) := by
    split
    · exact ⟨⟨s.regs, s.host.notices, s.host.mem, s.host.msixPending, true, s.bb, rfl⟩, fun _ _ _ => rfl, id, id⟩
    · exact Told.refl _ _
  unfold State.notice
  dsimp only
  refine wake.trans ?_
  generalize (if s.reg .LINK_STATE = 5 then { s with host.wakeN := true } else s) = t
  generalize (if n.sev = 2 then 63 else 56) = limit
  split
  · refine Told.trans ?_ (msixSend_told _ _)
    refine Told.trans (t := { t with host.notices := Map.put t.host.notices (t.reg .NT_HEAD) n }) ?_
      (set_told _ _ _ (by simp [bookRegs]))
    exact ⟨⟨t.regs, _, t.host.mem, t.host.msixPending, t.host.wakeN, t.bb, rfl⟩, fun _ _ _ => rfl, id, id⟩
  · exact (bump_told _ _ (by simp [bookRegs])).trans (pulse_told _ _ _)

theorem queueRecord_told (s : State) (r : BbRecord) : Told bookRegs s (s.queueRecord r) := by
  have keep (b : BlackBoxS) : Told bookRegs s { s with bb := b } :=
    ⟨⟨s.regs, s.host.notices, s.host.mem, s.host.msixPending, s.host.wakeN, b, rfl⟩, fun _ _ _ => rfl, id, id⟩
  unfold State.queueRecord
  split
  · split
    · exact keep _
    · exact keep _
  · split
    · exact keep _
    · dsimp only
      have h := (bump_told s .BB_DROPPED (by simp [bookRegs])).trans (pulse_told _ Ev.bbDropped 1)
      split
      · exact h.trans (notice_told _ _)
      · exact h

/-- A report touches FATAL and DS_FATAL_CODE, the black box's queue and what its overflow tells (17 R723-R738). -/
theorem reportFull_told (s : State) (code data source : Nat) (injected : Bool) :
    Told bookRegs s (s.reportFull code data source injected) := by
  unfold State.reportFull
  dsimp only
  have h : Told bookRegs s (if severity code = 2 ∧ s.on .FATAL = false then
      (s.set .FATAL 1).set .DS_FATAL_CODE code else s) := by
    split
    · exact (set_told _ _ _ (by simp [bookRegs])).trans (set_told _ _ _ (by simp [bookRegs]))
    · exact Told.refl _ _
  split
  · exact h.trans (queueRecord_told _ _)
  · exact h

theorem report_told (s : State) (code obj val second : Nat) : Told bookRegs s (s.report code obj val second) :=
  reportFull_told _ _ _ _ _

theorem reportBoot_told (s : State) (code obj val : Nat) : Told bookRegs s (s.reportBoot code obj val) :=
  reportFull_told _ _ _ _ _

@[simp] theorem report_get (s : State) (code obj val second : Nat) (k : RegName) (i : Nat) (h : k ∉ bookRegs) :
    regGet (s.report code obj val second).regs k i = regGet s.regs k i := (report_told s code obj val second).2.1 k i h
@[simp] theorem report_pending (s : State) (code obj val second : Nat) : (s.report code obj val second).pending = s.pending := by
  obtain ⟨⟨_, _, _, _, _, _, e⟩, -⟩ := report_told s code obj val second
  rw [e]
@[simp] theorem report_clock (s : State) (code obj val second : Nat) : (s.report code obj val second).clock = s.clock := by
  obtain ⟨⟨_, _, _, _, _, _, e⟩, -⟩ := report_told s code obj val second
  rw [e]
@[simp] theorem report_time (s : State) (code obj val second : Nat) : (s.report code obj val second).time = s.time := by
  obtain ⟨⟨_, _, _, _, _, _, e⟩, -⟩ := report_told s code obj val second
  rw [e]
@[simp] theorem report_free (s : State) (code obj val second : Nat) : (s.report code obj val second).free = s.free := by
  obtain ⟨⟨_, _, _, _, _, _, e⟩, -⟩ := report_told s code obj val second
  rw [e]
@[simp] theorem report_pw (s : State) (code obj val second : Nat) : (s.report code obj val second).pw = s.pw := by
  obtain ⟨⟨_, _, _, _, _, _, e⟩, -⟩ := report_told s code obj val second
  rw [e]
@[simp] theorem report_q (s : State) (code obj val second : Nat) : (s.report code obj val second).q = s.q := by
  obtain ⟨⟨_, _, _, _, _, _, e⟩, -⟩ := report_told s code obj val second
  rw [e]
@[simp] theorem report_bead (s : State) (code obj val second : Nat) : (s.report code obj val second).bead = s.bead := by
  obtain ⟨⟨_, _, _, _, _, _, e⟩, -⟩ := report_told s code obj val second
  rw [e]
@[simp] theorem report_lm (s : State) (code obj val second : Nat) : (s.report code obj val second).lm = s.lm := by
  obtain ⟨⟨_, _, _, _, _, _, e⟩, -⟩ := report_told s code obj val second
  rw [e]
@[simp] theorem report_md (s : State) (code obj val second : Nat) : (s.report code obj val second).md = s.md := by
  obtain ⟨⟨_, _, _, _, _, _, e⟩, -⟩ := report_told s code obj val second
  rw [e]
@[simp] theorem report_bu (s : State) (code obj val second : Nat) : (s.report code obj val second).bu = s.bu := by
  obtain ⟨⟨_, _, _, _, _, _, e⟩, -⟩ := report_told s code obj val second
  rw [e]
@[simp] theorem report_sec (s : State) (code obj val second : Nat) : (s.report code obj val second).sec = s.sec := by
  obtain ⟨⟨_, _, _, _, _, _, e⟩, -⟩ := report_told s code obj val second
  rw [e]
@[simp] theorem report_sp (s : State) (code obj val second : Nat) : (s.report code obj val second).sp = s.sp := by
  obtain ⟨⟨_, _, _, _, _, _, e⟩, -⟩ := report_told s code obj val second
  rw [e]
@[simp] theorem report_sl (s : State) (code obj val second : Nat) : (s.report code obj val second).sl = s.sl := by
  obtain ⟨⟨_, _, _, _, _, _, e⟩, -⟩ := report_told s code obj val second
  rw [e]
@[simp] theorem report_sv (s : State) (code obj val second : Nat) : (s.report code obj val second).sv = s.sv := by
  obtain ⟨⟨_, _, _, _, _, _, e⟩, -⟩ := report_told s code obj val second
  rw [e]
@[simp] theorem report_las (s : State) (code obj val second : Nat) : (s.report code obj val second).las = s.las := by
  obtain ⟨⟨_, _, _, _, _, _, e⟩, -⟩ := report_told s code obj val second
  rw [e]
@[simp] theorem report_ch (s : State) (code obj val second : Nat) : (s.report code obj val second).ch = s.ch := by
  obtain ⟨⟨_, _, _, _, _, _, e⟩, -⟩ := report_told s code obj val second
  rw [e]
@[simp] theorem report_chV (s : State) (code obj val second : Nat) : (s.report code obj val second).chV = s.chV := by
  obtain ⟨⟨_, _, _, _, _, _, e⟩, -⟩ := report_told s code obj val second
  rw [e]
@[simp] theorem report_rd (s : State) (code obj val second : Nat) : (s.report code obj val second).rd = s.rd := by
  obtain ⟨⟨_, _, _, _, _, _, e⟩, -⟩ := report_told s code obj val second
  rw [e]
@[simp] theorem report_cal (s : State) (code obj val second : Nat) : (s.report code obj val second).cal = s.cal := by
  obtain ⟨⟨_, _, _, _, _, _, e⟩, -⟩ := report_told s code obj val second
  rw [e]
@[simp] theorem report_st (s : State) (code obj val second : Nat) : (s.report code obj val second).st = s.st := by
  obtain ⟨⟨_, _, _, _, _, _, e⟩, -⟩ := report_told s code obj val second
  rw [e]
@[simp] theorem report_ca (s : State) (code obj val second : Nat) : (s.report code obj val second).ca = s.ca := by
  obtain ⟨⟨_, _, _, _, _, _, e⟩, -⟩ := report_told s code obj val second
  rw [e]
@[simp] theorem report_un (s : State) (code obj val second : Nat) : (s.report code obj val second).un = s.un := by
  obtain ⟨⟨_, _, _, _, _, _, e⟩, -⟩ := report_told s code obj val second
  rw [e]
@[simp] theorem report_pt (s : State) (code obj val second : Nat) : (s.report code obj val second).pt = s.pt := by
  obtain ⟨⟨_, _, _, _, _, _, e⟩, -⟩ := report_told s code obj val second
  rw [e]
@[simp] theorem report_tb (s : State) (code obj val second : Nat) : (s.report code obj val second).tb = s.tb := by
  obtain ⟨⟨_, _, _, _, _, _, e⟩, -⟩ := report_told s code obj val second
  rw [e]
@[simp] theorem report_tally (s : State) (code obj val second : Nat) : (s.report code obj val second).tally = s.tally := by
  obtain ⟨⟨_, _, _, _, _, _, e⟩, -⟩ := report_told s code obj val second
  rw [e]
@[simp] theorem report_gp (s : State) (code obj val second : Nat) : (s.report code obj val second).gp = s.gp := by
  obtain ⟨⟨_, _, _, _, _, _, e⟩, -⟩ := report_told s code obj val second
  rw [e]
@[simp] theorem report_bo (s : State) (code obj val second : Nat) : (s.report code obj val second).bo = s.bo := by
  obtain ⟨⟨_, _, _, _, _, _, e⟩, -⟩ := report_told s code obj val second
  rw [e]
@[simp] theorem report_tap (s : State) (code obj val second : Nat) : (s.report code obj val second).tap = s.tap := by
  obtain ⟨⟨_, _, _, _, _, _, e⟩, -⟩ := report_told s code obj val second
  rw [e]
@[simp] theorem report_host_slots (s : State) (code obj val second : Nat) : (s.report code obj val second).host.slots = s.host.slots := by
  obtain ⟨⟨_, _, _, _, _, _, e⟩, -⟩ := report_told s code obj val second
  rw [e]
@[simp] theorem report_host_claim (s : State) (code obj val second : Nat) : (s.report code obj val second).host.claim = s.host.claim := by
  obtain ⟨⟨_, _, _, _, _, _, e⟩, -⟩ := report_told s code obj val second
  rw [e]
@[simp] theorem report_host_releaseDue (s : State) (code obj val second : Nat) : (s.report code obj val second).host.releaseDue = s.host.releaseDue := by
  obtain ⟨⟨_, _, _, _, _, _, e⟩, -⟩ := report_told s code obj val second
  rw [e]
@[simp] theorem report_host_p8At (s : State) (code obj val second : Nat) : (s.report code obj val second).host.p8At = s.host.p8At := by
  obtain ⟨⟨_, _, _, _, _, _, e⟩, -⟩ := report_told s code obj val second
  rw [e]
@[simp] theorem report_host_p8Out (s : State) (code obj val second : Nat) : (s.report code obj val second).host.p8Out = s.host.p8Out := by
  obtain ⟨⟨_, _, _, _, _, _, e⟩, -⟩ := report_told s code obj val second
  rw [e]
@[simp] theorem report_host_goCount (s : State) (code obj val second : Nat) : (s.report code obj val second).host.goCount = s.host.goCount := by
  obtain ⟨⟨_, _, _, _, _, _, e⟩, -⟩ := report_told s code obj val second
  rw [e]
@[simp] theorem report_host_msixOn (s : State) (code obj val second : Nat) : (s.report code obj val second).host.msixOn = s.host.msixOn := by
  obtain ⟨⟨_, _, _, _, _, _, e⟩, -⟩ := report_told s code obj val second
  rw [e]
@[simp] theorem report_host_msixFnMask (s : State) (code obj val second : Nat) : (s.report code obj val second).host.msixFnMask = s.host.msixFnMask := by
  obtain ⟨⟨_, _, _, _, _, _, e⟩, -⟩ := report_told s code obj val second
  rw [e]
@[simp] theorem report_host_msix (s : State) (code obj val second : Nat) : (s.report code obj val second).host.msix = s.host.msix := by
  obtain ⟨⟨_, _, _, _, _, _, e⟩, -⟩ := report_told s code obj val second
  rw [e]
@[simp] theorem report_host_d3hot (s : State) (code obj val second : Nat) : (s.report code obj val second).host.d3hot = s.host.d3hot := by
  obtain ⟨⟨_, _, _, _, _, _, e⟩, -⟩ := report_told s code obj val second
  rw [e]
@[simp] theorem report_host_subsys (s : State) (code obj val second : Nat) : (s.report code obj val second).host.subsys = s.host.subsys := by
  obtain ⟨⟨_, _, _, _, _, _, e⟩, -⟩ := report_told s code obj val second
  rw [e]
@[simp] theorem report_host_busMaster (s : State) (code obj val second : Nat) : (s.report code obj val second).host.busMaster = s.host.busMaster := by
  obtain ⟨⟨_, _, _, _, _, _, e⟩, -⟩ := report_told s code obj val second
  rw [e]
@[simp] theorem report_host_reset (s : State) (code obj val second : Nat) : (s.report code obj val second).host.reset = s.host.reset := by
  obtain ⟨⟨_, _, _, _, _, _, e⟩, -⟩ := report_told s code obj val second
  rw [e]
@[simp] theorem report_host_perst (s : State) (code obj val second : Nat) : (s.report code obj val second).host.perst = s.host.perst := by
  obtain ⟨⟨_, _, _, _, _, _, e⟩, -⟩ := report_told s code obj val second
  rw [e]
@[simp] theorem report_host_ltrNs (s : State) (code obj val second : Nat) : (s.report code obj val second).host.ltrNs = s.host.ltrNs := by
  obtain ⟨⟨_, _, _, _, _, _, e⟩, -⟩ := report_told s code obj val second
  rw [e]
@[simp] theorem report_host_linkOff (s : State) (code obj val second : Nat) : (s.report code obj val second).host.linkOff = s.host.linkOff := by
  obtain ⟨⟨_, _, _, _, _, _, e⟩, -⟩ := report_told s code obj val second
  rw [e]
@[simp] theorem report_host_readValue (s : State) (code obj val second : Nat) : (s.report code obj val second).host.readValue = s.host.readValue := by
  obtain ⟨⟨_, _, _, _, _, _, e⟩, -⟩ := report_told s code obj val second
  rw [e]
@[simp] theorem report_host_challenge (s : State) (code obj val second : Nat) : (s.report code obj val second).host.challenge = s.host.challenge := by
  obtain ⟨⟨_, _, _, _, _, _, e⟩, -⟩ := report_told s code obj val second
  rw [e]
@[simp] theorem report_host_unlocked (s : State) (code obj val second : Nat) : (s.report code obj val second).host.unlocked = s.host.unlocked := by
  obtain ⟨⟨_, _, _, _, _, _, e⟩, -⟩ := report_told s code obj val second
  rw [e]
@[simp] theorem report_host_failedUnlocks (s : State) (code obj val second : Nat) : (s.report code obj val second).host.failedUnlocks = s.host.failedUnlocks := by
  obtain ⟨⟨_, _, _, _, _, _, e⟩, -⟩ := report_told s code obj val second
  rw [e]
@[simp] theorem report_host_releasedAt (s : State) (code obj val second : Nat) : (s.report code obj val second).host.releasedAt = s.host.releasedAt := by
  obtain ⟨⟨_, _, _, _, _, _, e⟩, -⟩ := report_told s code obj val second
  rw [e]
@[simp] theorem notice_get (s : State) (n : Notice) (k : RegName) (i : Nat) (h : k ∉ bookRegs) :
    regGet (s.notice n).regs k i = regGet s.regs k i := (notice_told s n).2.1 k i h
@[simp] theorem notice_pending (s : State) (n : Notice) : (s.notice n).pending = s.pending := by
  obtain ⟨⟨_, _, _, _, _, _, e⟩, -⟩ := notice_told s n
  rw [e]
@[simp] theorem notice_clock (s : State) (n : Notice) : (s.notice n).clock = s.clock := by
  obtain ⟨⟨_, _, _, _, _, _, e⟩, -⟩ := notice_told s n
  rw [e]
@[simp] theorem notice_time (s : State) (n : Notice) : (s.notice n).time = s.time := by
  obtain ⟨⟨_, _, _, _, _, _, e⟩, -⟩ := notice_told s n
  rw [e]
@[simp] theorem notice_free (s : State) (n : Notice) : (s.notice n).free = s.free := by
  obtain ⟨⟨_, _, _, _, _, _, e⟩, -⟩ := notice_told s n
  rw [e]
@[simp] theorem notice_pw (s : State) (n : Notice) : (s.notice n).pw = s.pw := by
  obtain ⟨⟨_, _, _, _, _, _, e⟩, -⟩ := notice_told s n
  rw [e]
@[simp] theorem notice_q (s : State) (n : Notice) : (s.notice n).q = s.q := by
  obtain ⟨⟨_, _, _, _, _, _, e⟩, -⟩ := notice_told s n
  rw [e]
@[simp] theorem notice_bead (s : State) (n : Notice) : (s.notice n).bead = s.bead := by
  obtain ⟨⟨_, _, _, _, _, _, e⟩, -⟩ := notice_told s n
  rw [e]
@[simp] theorem notice_lm (s : State) (n : Notice) : (s.notice n).lm = s.lm := by
  obtain ⟨⟨_, _, _, _, _, _, e⟩, -⟩ := notice_told s n
  rw [e]
@[simp] theorem notice_md (s : State) (n : Notice) : (s.notice n).md = s.md := by
  obtain ⟨⟨_, _, _, _, _, _, e⟩, -⟩ := notice_told s n
  rw [e]
@[simp] theorem notice_bu (s : State) (n : Notice) : (s.notice n).bu = s.bu := by
  obtain ⟨⟨_, _, _, _, _, _, e⟩, -⟩ := notice_told s n
  rw [e]
@[simp] theorem notice_sec (s : State) (n : Notice) : (s.notice n).sec = s.sec := by
  obtain ⟨⟨_, _, _, _, _, _, e⟩, -⟩ := notice_told s n
  rw [e]
@[simp] theorem notice_sp (s : State) (n : Notice) : (s.notice n).sp = s.sp := by
  obtain ⟨⟨_, _, _, _, _, _, e⟩, -⟩ := notice_told s n
  rw [e]
@[simp] theorem notice_sl (s : State) (n : Notice) : (s.notice n).sl = s.sl := by
  obtain ⟨⟨_, _, _, _, _, _, e⟩, -⟩ := notice_told s n
  rw [e]
@[simp] theorem notice_sv (s : State) (n : Notice) : (s.notice n).sv = s.sv := by
  obtain ⟨⟨_, _, _, _, _, _, e⟩, -⟩ := notice_told s n
  rw [e]
@[simp] theorem notice_las (s : State) (n : Notice) : (s.notice n).las = s.las := by
  obtain ⟨⟨_, _, _, _, _, _, e⟩, -⟩ := notice_told s n
  rw [e]
@[simp] theorem notice_ch (s : State) (n : Notice) : (s.notice n).ch = s.ch := by
  obtain ⟨⟨_, _, _, _, _, _, e⟩, -⟩ := notice_told s n
  rw [e]
@[simp] theorem notice_chV (s : State) (n : Notice) : (s.notice n).chV = s.chV := by
  obtain ⟨⟨_, _, _, _, _, _, e⟩, -⟩ := notice_told s n
  rw [e]
@[simp] theorem notice_rd (s : State) (n : Notice) : (s.notice n).rd = s.rd := by
  obtain ⟨⟨_, _, _, _, _, _, e⟩, -⟩ := notice_told s n
  rw [e]
@[simp] theorem notice_cal (s : State) (n : Notice) : (s.notice n).cal = s.cal := by
  obtain ⟨⟨_, _, _, _, _, _, e⟩, -⟩ := notice_told s n
  rw [e]
@[simp] theorem notice_st (s : State) (n : Notice) : (s.notice n).st = s.st := by
  obtain ⟨⟨_, _, _, _, _, _, e⟩, -⟩ := notice_told s n
  rw [e]
@[simp] theorem notice_ca (s : State) (n : Notice) : (s.notice n).ca = s.ca := by
  obtain ⟨⟨_, _, _, _, _, _, e⟩, -⟩ := notice_told s n
  rw [e]
@[simp] theorem notice_un (s : State) (n : Notice) : (s.notice n).un = s.un := by
  obtain ⟨⟨_, _, _, _, _, _, e⟩, -⟩ := notice_told s n
  rw [e]
@[simp] theorem notice_pt (s : State) (n : Notice) : (s.notice n).pt = s.pt := by
  obtain ⟨⟨_, _, _, _, _, _, e⟩, -⟩ := notice_told s n
  rw [e]
@[simp] theorem notice_tb (s : State) (n : Notice) : (s.notice n).tb = s.tb := by
  obtain ⟨⟨_, _, _, _, _, _, e⟩, -⟩ := notice_told s n
  rw [e]
@[simp] theorem notice_tally (s : State) (n : Notice) : (s.notice n).tally = s.tally := by
  obtain ⟨⟨_, _, _, _, _, _, e⟩, -⟩ := notice_told s n
  rw [e]
@[simp] theorem notice_gp (s : State) (n : Notice) : (s.notice n).gp = s.gp := by
  obtain ⟨⟨_, _, _, _, _, _, e⟩, -⟩ := notice_told s n
  rw [e]
@[simp] theorem notice_bo (s : State) (n : Notice) : (s.notice n).bo = s.bo := by
  obtain ⟨⟨_, _, _, _, _, _, e⟩, -⟩ := notice_told s n
  rw [e]
@[simp] theorem notice_tap (s : State) (n : Notice) : (s.notice n).tap = s.tap := by
  obtain ⟨⟨_, _, _, _, _, _, e⟩, -⟩ := notice_told s n
  rw [e]
@[simp] theorem msixSend_get (s : State) (v : Nat) (k : RegName) (i : Nat) (h : k ∉ bookRegs) :
    regGet (s.msixSend v).regs k i = regGet s.regs k i := (msixSend_told s v).2.1 k i h
@[simp] theorem msixSend_pending (s : State) (v : Nat) : (s.msixSend v).pending = s.pending := by
  obtain ⟨⟨_, _, _, _, _, _, e⟩, -⟩ := msixSend_told s v
  rw [e]
@[simp] theorem msixSend_clock (s : State) (v : Nat) : (s.msixSend v).clock = s.clock := by
  obtain ⟨⟨_, _, _, _, _, _, e⟩, -⟩ := msixSend_told s v
  rw [e]
@[simp] theorem msixSend_time (s : State) (v : Nat) : (s.msixSend v).time = s.time := by
  obtain ⟨⟨_, _, _, _, _, _, e⟩, -⟩ := msixSend_told s v
  rw [e]
@[simp] theorem msixSend_free (s : State) (v : Nat) : (s.msixSend v).free = s.free := by
  obtain ⟨⟨_, _, _, _, _, _, e⟩, -⟩ := msixSend_told s v
  rw [e]
@[simp] theorem msixSend_pw (s : State) (v : Nat) : (s.msixSend v).pw = s.pw := by
  obtain ⟨⟨_, _, _, _, _, _, e⟩, -⟩ := msixSend_told s v
  rw [e]
@[simp] theorem msixSend_q (s : State) (v : Nat) : (s.msixSend v).q = s.q := by
  obtain ⟨⟨_, _, _, _, _, _, e⟩, -⟩ := msixSend_told s v
  rw [e]
@[simp] theorem msixSend_bead (s : State) (v : Nat) : (s.msixSend v).bead = s.bead := by
  obtain ⟨⟨_, _, _, _, _, _, e⟩, -⟩ := msixSend_told s v
  rw [e]
@[simp] theorem msixSend_lm (s : State) (v : Nat) : (s.msixSend v).lm = s.lm := by
  obtain ⟨⟨_, _, _, _, _, _, e⟩, -⟩ := msixSend_told s v
  rw [e]
@[simp] theorem msixSend_md (s : State) (v : Nat) : (s.msixSend v).md = s.md := by
  obtain ⟨⟨_, _, _, _, _, _, e⟩, -⟩ := msixSend_told s v
  rw [e]
@[simp] theorem msixSend_bu (s : State) (v : Nat) : (s.msixSend v).bu = s.bu := by
  obtain ⟨⟨_, _, _, _, _, _, e⟩, -⟩ := msixSend_told s v
  rw [e]
@[simp] theorem msixSend_sec (s : State) (v : Nat) : (s.msixSend v).sec = s.sec := by
  obtain ⟨⟨_, _, _, _, _, _, e⟩, -⟩ := msixSend_told s v
  rw [e]
@[simp] theorem msixSend_sp (s : State) (v : Nat) : (s.msixSend v).sp = s.sp := by
  obtain ⟨⟨_, _, _, _, _, _, e⟩, -⟩ := msixSend_told s v
  rw [e]
@[simp] theorem msixSend_sl (s : State) (v : Nat) : (s.msixSend v).sl = s.sl := by
  obtain ⟨⟨_, _, _, _, _, _, e⟩, -⟩ := msixSend_told s v
  rw [e]
@[simp] theorem msixSend_sv (s : State) (v : Nat) : (s.msixSend v).sv = s.sv := by
  obtain ⟨⟨_, _, _, _, _, _, e⟩, -⟩ := msixSend_told s v
  rw [e]
@[simp] theorem msixSend_las (s : State) (v : Nat) : (s.msixSend v).las = s.las := by
  obtain ⟨⟨_, _, _, _, _, _, e⟩, -⟩ := msixSend_told s v
  rw [e]
@[simp] theorem msixSend_ch (s : State) (v : Nat) : (s.msixSend v).ch = s.ch := by
  obtain ⟨⟨_, _, _, _, _, _, e⟩, -⟩ := msixSend_told s v
  rw [e]
@[simp] theorem msixSend_chV (s : State) (v : Nat) : (s.msixSend v).chV = s.chV := by
  obtain ⟨⟨_, _, _, _, _, _, e⟩, -⟩ := msixSend_told s v
  rw [e]
@[simp] theorem msixSend_rd (s : State) (v : Nat) : (s.msixSend v).rd = s.rd := by
  obtain ⟨⟨_, _, _, _, _, _, e⟩, -⟩ := msixSend_told s v
  rw [e]
@[simp] theorem msixSend_cal (s : State) (v : Nat) : (s.msixSend v).cal = s.cal := by
  obtain ⟨⟨_, _, _, _, _, _, e⟩, -⟩ := msixSend_told s v
  rw [e]
@[simp] theorem msixSend_st (s : State) (v : Nat) : (s.msixSend v).st = s.st := by
  obtain ⟨⟨_, _, _, _, _, _, e⟩, -⟩ := msixSend_told s v
  rw [e]
@[simp] theorem msixSend_ca (s : State) (v : Nat) : (s.msixSend v).ca = s.ca := by
  obtain ⟨⟨_, _, _, _, _, _, e⟩, -⟩ := msixSend_told s v
  rw [e]
@[simp] theorem msixSend_un (s : State) (v : Nat) : (s.msixSend v).un = s.un := by
  obtain ⟨⟨_, _, _, _, _, _, e⟩, -⟩ := msixSend_told s v
  rw [e]
@[simp] theorem msixSend_pt (s : State) (v : Nat) : (s.msixSend v).pt = s.pt := by
  obtain ⟨⟨_, _, _, _, _, _, e⟩, -⟩ := msixSend_told s v
  rw [e]
@[simp] theorem msixSend_tb (s : State) (v : Nat) : (s.msixSend v).tb = s.tb := by
  obtain ⟨⟨_, _, _, _, _, _, e⟩, -⟩ := msixSend_told s v
  rw [e]
@[simp] theorem msixSend_tally (s : State) (v : Nat) : (s.msixSend v).tally = s.tally := by
  obtain ⟨⟨_, _, _, _, _, _, e⟩, -⟩ := msixSend_told s v
  rw [e]
@[simp] theorem msixSend_gp (s : State) (v : Nat) : (s.msixSend v).gp = s.gp := by
  obtain ⟨⟨_, _, _, _, _, _, e⟩, -⟩ := msixSend_told s v
  rw [e]
@[simp] theorem msixSend_bo (s : State) (v : Nat) : (s.msixSend v).bo = s.bo := by
  obtain ⟨⟨_, _, _, _, _, _, e⟩, -⟩ := msixSend_told s v
  rw [e]
@[simp] theorem msixSend_tap (s : State) (v : Nat) : (s.msixSend v).tap = s.tap := by
  obtain ⟨⟨_, _, _, _, _, _, e⟩, -⟩ := msixSend_told s v
  rw [e]

end Sys2Proof.Machine
end

