-- ==== Sys2Proof/Laws/Mailbox.lean ====
section
/-! SUPPORT. The mailbox slots: what a change of one slot leaves; waking while the K760 runs. -/

namespace Sys2Proof.Machine

/-- The slot changed, read back. -/
theorem setSlot_slot_same (s : State) (n : Nat) (f : Slot → Slot) (h : n < s.host.slots.length) :
    (s.setSlot n f).slot n = f (s.slot n) := by
  simp [State.slot, State.setSlot, List.getD_eq_getElem?_getD, h]

/-- Another slot stays. -/
theorem setSlot_slot_ne (s : State) {n m : Nat} (f : Slot → Slot) (h : m ≠ n) : (s.setSlot n f).slot m = s.slot m := by
  have h' : n ≠ m := fun e => h e.symm
  simp [State.slot, State.setSlot, List.getD_eq_getElem?_getD, h']

@[simp] theorem setSlot_length (s : State) (n : Nat) (f : Slot → Slot) :
    (s.setSlot n f).host.slots.length = s.host.slots.length := by simp [State.setSlot]

/-- In Run with no entry under way an arrival changes nothing. -/
theorem arrive_running (s : State) (cause : Nat) (w : Bool) (h : s.pw.mode = .run) (e : s.pw.entry = none)
    (l : s.reg .LINK_STATE ≠ 5) : s.arrive cause w = s := by
  simp [State.arrive, e, State.wakeOn, State.sourceFires, State.beginWake, h, l]

theorem cancelEntry_none (s : State) (e : s.pw.entry = none) : s.cancelEntry = s := by
  simp [State.cancelEntry, e]

/-- With no core write waiting a DRAIN only counts (14 R629, R633). -/
theorem drainFirst_idle (s : State) (h : s.ca.merge = []) : s.drainFirst = s.pulse Ev.drains := by
  simp [State.drainFirst, h, State.drainOld]

/-- A response put into a slot, read back; the rest of the state stays. -/
theorem answer_answered (s : State) (n : Nat) (r : MbResp) (h : n < s.host.slots.length) :
    s.Answered (s.answer n r) n r := by
  refine ⟨⟨?_, fun m hm => ?_⟩, rfl⟩
  · simp [State.slot, State.answer, List.getD_eq_getElem?_getD, h]
  · have h' : n ≠ m := fun e => hm e.symm
    simp [State.slot, State.answer, List.getD_eq_getElem?_getD, h']

theorem restartIdle_eq (s : State) : s.restartIdle = s.rested := rfl

end Sys2Proof.Machine
end

