-- ==== Sys2Proof/Tests/Slice0.lean ====
section
/-! SUPPORT. Tests: operands that do not exist are refused; for every statement with hypotheses, a state and operands
that meet them; small checks of single steps against values worked out from the spec. -/

set_option Elab.async false

namespace Sys2Proof.Tests

open Sys2Proof Sys2Proof.Machine

/-- The K760 in Run, READY, the link in L0, with no cartridge and nothing under way. -/
abbrev runS : State :=
  (({ State.reset with pw := { mode := .run, pwrMainEn := true, mainPgood := true, driveDie := true } }).set .READY 1).set
    .LINK_STATE 1

/-- A mailbox slot changed in a state. -/
abbrev mb (n : Nat) (m : Slot) (s : State) : State := s.setSlot n fun _ => m

/-- A mailbox command in flight with opcode 0. -/
abbrev copy0 : MbCopy :=
  { opcode := 0, flags := 0, dlen := 0, seq := 7, args := [], data := [], byP8 := false, order := 0 }

/-- A queue pair of 16 entries with one entry to fetch, alone in a running K760. -/
abbrev pair0 : QPair :=
  { cls := 0, irq := false, sqDepth := 16, cqDepth := 16, sqBase := 0x10000, cqBase := 0x20000, vector := 0,
    coalCount := 0, coalTime := 0, sqHead := 1, sqTail := 2 }

/-- A running K760 with pair 1. -/
abbrev pairS : State := { runS with q := { pairs := [(1, pair0)], cache := [1] } }

/-- A NOP with tag 7 on pair 1. -/
abbrev cmd0 : QCmd :=
  { qp := 1, tag := 7, opcode := 0x100, fence := false, noWait := false, buf := [], args := leBytes 40 0, input := [],
    order := 0, fetchedAt := 0, fetchTime := 0 }

/-- An ABORT with tag 7 on pair 1 of the command with tag 8. -/
abbrev abort0 : QCmd := { cmd0 with opcode := 0x102, args := leBytes 2 1 ++ leBytes 2 8 ++ leBytes 36 0 }

/-- A running K760 with one outstanding command on pair 1. -/
abbrev cmdS (c : QCmd) : State := { pairS with q.cmds := [c] }

/-- A running K760 with a command in flight in mailbox slot `n`. -/
abbrev mbxS (n : Nat) (c : MbCopy) : State := mb n { busy := true, copy := some c } runS

/-- Arguments of QP_CREATE for pair 1: class 0, depths 16, bases 0x10000 and 0x20000. -/
abbrev qpArgs : List Byte :=
  leBytes 2 1 ++ leBytes 2 0 ++ leBytes 2 16 ++ leBytes 2 16 ++ leBytes 8 0x10000 ++ leBytes 8 0x20000 ++ leBytes 32 0

/-- A running K760 with pair 1 and a pool in which bobbin 0 has 64 MiB, a lease, and the host's right to append. -/
abbrev poolS : State :=
  (((((((({ pairS with lm.lease := [some 9, none, none, none, none, none, none, none, none, none] } : State).set .POOL_STATE 2).set
    .POOL_MIB 8192).put .ACTIVE_SIZE_MIB 0 64).put .BB_BASE 0 0x4000000).put .H_VALID 0 1).put .H_APPEND 0 1).put
    .H_BOBBIN 0 0).reed 11 0x4000 0x7FFF 1 1

/-- `poolS` commissioned, its entropy and keys ready, with a blank cartridge mounted and in service, the disc at rest. -/
abbrev discS : State :=
  ((((({ poolS with md.cart := some { clusters := [] }, md.mounted := true, md.serial := 77,
                    sec.devKey := some 5 } : State).set .LD_STATE 2).set
    .DISC_SERVICE 1).set .COMMISSIONED 1).set .ENTROPY_STATE 1)

/-- `discS` with heddle and reed entries by which Core B may read and write the bobbin area, and identity 9 too. -/
abbrev coreS : State :=
  ((discS.reed 12 0x4000 0x7FFF 0xE00 0xE00).heddle (64 * 11) 0 0x7FFF 11 0xFF 0).heddle (64 * 9) 0x4000 0x7FFF 11 0xFF 0

/-- A running K760 with a sized and leased bobbin on every port, the ports on, the camera links up, P1 addressed. -/
abbrev portS : State :=
  let s : State := { runS with lm.lease := List.replicate 10 (some 9), pt.linkUp := List.replicate 8 true }
  let s := (List.range 10).foldl (fun s b => (s.put .ACTIVE_SIZE_MIB b 64).put .BB_BASE b (0x4000000 * (b + 1))) s
  ((((((((s.set .POOL_STATE 1).put .CAM_ENABLE 1 1).put .CAM_STATE 1 2).put .IP_ADDR 1 5).put .MAC_ADDR 1 6).put
    .UDP_PORT 1 700).put .SER_ENABLE 5 1).put .SER_STATE 5 1).set .CAN_ENABLE 1

/-- A datagram for P1 of `portS` with a payload. -/
abbrev dgram (l : List Byte) : CamFrame :=
  { fcsOk := true, frameLen := 200, destMac := 6, vlan := none, ipVersion := 4, ihl := 5, ipChecksumOk := true,
    fragment := false, proto := 17, destIp := 5, ipLen := l.length + 28, destPort := 700, udpChecksumOk := true,
    udpLen := l.length + 8, payload := l }

/-- A KRS datagram of sub-stream 2 and sequence 9 with payload `l`. -/
abbrev krs (l : List Byte) : List Byte :=
  let h := (leBytes 4 krsMagic).reverse ++ [1, 32, 2, 0] ++ (leBytes 4 9).reverse ++ (leBytes 4 l.length).reverse ++
    leBytes 12 0
  h ++ (leBytes 4 (crc32c h)).reverse ++ l

/-- `discS` with the disc up to speed, the servo clock on, in focus on a track, the write gate open. -/
abbrev spotS : State :=
  { (((discS.set .SP_STATE 4).set .SV_STATE 3).set .CLK_SERVO 1).set .FOCUS_LOCK 1 with clock := 900000000, bu.gate := true }

/-- `discS` following a track, with the accelerometer in service and the feed-forward fit on. -/
abbrev fitS : State := ((discS.set .FF_FIT 1).set .SV_STATE 3).set .ACC_STATE 1

/-- FW_STAGE of chunk 0 of slot B: 4,096 bytes. -/
abbrev stage0 : QCmd := { cmd0 with opcode := 0x180, args := leBytes 1 1 ++ leBytes 39 0, input := List.replicate 4096 0 }

/-! ## Operands that do not exist are refused -/

theorem test_ill_formed_1 :
    ([.w0BadAccess 1 0 0 true,
     .w0BadAccess 0 0x10000 4 true,
     .w0BadAccess 2 0x7FFFE 4 true,
     .mbGo 4 0#32 true,
     .mbGo 2 0#32 true,
     .mbComplete 4,
     .mbDoneClear 4 true,
     .mbDoneClear 2 true,
     .doorbellWrite 0x80000 1 0,
     .perstRelease 0 1,
     .perstRelease 4 1,
     .perstRelease 3 3,
     .perstRelease 3 0,
     .hostReadTimeout 65536 none,
     .poisonedTlp 65536 none,
     .qpCreate 4,
     .qpDelete 4,
     .sqFetch 65536 [0] [0] [],
     .sqFetch 0 [1] [0] [],
     .coalTimerExpiry 65536,
     .paramGet 4,
     .paramSet 4,
     .powerHoldRun 4,
     .powerDoze 4,
     .powerNap 4,
     .powerHibernate 4] : List Instr).map Instr.wf = List.replicate 26 false := rfl

theorem test_ill_formed_2 (cells : FailCells) (fails : List (Nat × FailCells)) :
    ([.powerReleaseHold 4,
     .fwActivate 4,
     .commission 4,
     .keyRead 4,
     .streamKeyOff 4,
     .streamKeyHost 4,
     .streamKeyDevice 4,
     .svcChallenge 4,
     .svcUnlock 4,
     .bbErase 4,
     .windowNow 4 cells 0,
     .windowPass 4 fails 0,
     .laserDac 4 ⟨[0], 0⟩,
     .coilSense 4 ⟨[0], 0⟩,
     .motorSense 4 ⟨[0], 0⟩,
     .adcTone 4 ⟨[0], 0⟩,
     .shuttleLoop 4 [] 0,
     .tempCross 4 ⟨[0], 0⟩,
     .d2dLoop 4 ⟨0, 0⟩,
     .allAnalogue 4 [] ⟨[], 0⟩,
     .injD2dBreak 4,
     .injLeaseStop 4,
     .injBemfBlank 4,
     .injBemfSpurious 4] : List Instr).map Instr.wf = List.replicate 24 false := rfl

theorem test_ill_formed_3 :
    ([.injLaneError 4,
     .injLaneLoopFail 4,
     .injParityFlip 4,
     .injCheckerBreak 4,
     .injReedCorrupt 4,
     .injPoison 4,
     .injVerifyFail 4,
     .injEraseFrames 4,
     .injDefectFlag 4,
     .injTrainFail 4,
     .injPoolWrite 4,
     .holdupLockSet 4,
     .holdupUnlock 4,
     .ustepApply 4,
     .bqApply 4,
     .bqActivate 3,
     .calNow 4,
     .setDefaults 4,
     .gpioOutWrite (.host) 4 0#24,
     .gpioMaskedUpdate 4,
     .gpioLockKey 4,
     .canmapWrite 4,
     .tallySourceWrite 4,
     .rcvDataWrite 4] : List Instr).map Instr.wf = List.replicate 24 false := rfl

theorem test_ill_formed_4 (cam : CamFrame) (msg : GptpMsg) :
    ([.rcvClose 4,
     .wakeEvent 8,
     .d2dRetrainDone true 1024,
     .leaseRenew 10,
     .leaseExpiry 10,
     .engineLoopbackDone 10 true,
     .engineLoopbackRetry 10,
     .crossbarAccess 16 0 true [0],
     .crossbarAccess 0 63 true [1, 2],
     .crossbarAccess 0 63 true [],
     .tailCommit 16 0 0,
     .tailCommit 0 10 0,
     .segCloseHeldAppend 10,
     .poolLoss 4,
     .poolRetrain 4,
     .camDatagram 0 cam,
     .camDatagram 5 cam,
     .arpRequest 0 0,
     .arpRequest 5 0,
     .gptpFrame 0 msg,
     .gptpFrame 5 msg,
     .syncTimer 0,
     .syncTimer 5,
     .announceTimer 0] : List Instr).map Instr.wf = List.replicate 24 false := rfl

theorem test_ill_formed_5 (ser : SerialFrame) :
    ([.announceTimer 5,
     .pdelayTimer 0,
     .pdelayTimer 5,
     .camLinkDown 0,
     .camLinkDown 5,
     .camLinkUp 0 0 true,
     .camLinkUp 5 0 true,
     .portTimeout 0,
     .portTimeout 8,
     .serialDataFrame 4 ser,
     .serialHeartbeat 4 ser,
     .serialAnswer 4 true,
     .serialGapDiscard 4,
     .timeFrameTimer 4 true,
     .canFrame
      { ok := true, remote := false, id := 1, ide := false, fdf := true, brs := false, dlc := 15,
        data := List.replicate 65 0 },
     .tallyEdgeDebounced [(24, true)] 0,
     .tallyMaxOpen 8,
     .spinupRequest [] [5],
     .spindleOvercurrent 3,
     .spindleOpenPhase 3,
     .sledOvercurrent 2,
     .sledOpenCoil 2,
     .coilRmsTrip 3] : List Instr).map Instr.wf = List.replicate 23 false := rfl

theorem test_ill_formed_6 :
    ([.coilOpenShort 3 true,
     .focusClose 0 4 0 0,
     .focusClose 0 0 0 112500,
     .seekRequest 4 0,
     .seekRequest 0 112500,
     .accSample [0, 0] true,
     .laneLoopbackDone 5 true,
     .readCalDone (some [1]) none none none none [],
     .readCalDone none (some [1]) none none none [],
     .ffFitWindow 2 [] [] [] [],
     .ffFitWindow 1 [1] [1] [1] [1],
     .coreWatchdogExpiry 2 [],
     .coreWrite 2 0 [0],
     .coreWrite 0 63 [1, 2],
     .coreWrite 0 63 [],
     .deviceReadMatch 16 0,
     .deviceReadMatch 10 0,
     .deviceReadMatch 11 0,
     .drainBarrier 2,
     .drainTimeout 2 [],
     .rangePreload 0 0,
     .rangePreload 0 131073,
     .rangeInvalidate 0 0,
     .rangeInvalidate 0 131073,
     .rangeLock 0 0,
     .rangeLock 0 131073] : List Instr).map Instr.wf = List.replicate 26 false := rfl

theorem test_ill_formed_7 :
    ([.rangeUnlock 0 0,
     .rangeUnlock 0 131073,
     .parityError (.contextCache 65536 true) true,
     .parityError (.poisonBitmap 262144 true) true,
     .parityError (.coreData 2) true,
     .parityError (.crossbar 16 0 true true) true,
     .parityError (.crossbar 0 2097152 true true) true,
     .auxSample [[1]] 0,
     .auxSample (List.replicate 6 [1]) 0,
     .mbFieldWrite 4 0 [0] true,
     .mbFieldWrite 2 0 [0] true,
     .mbFieldWrite 3 1024 [1] true,
     .msixMaskWrite (.entry 1024 0 0 true)] : List Instr).map Instr.wf = List.replicate 13 false := rfl

/-! ## Values from the standards and tables the spec names -/

/-- FIPS 180-2, example B.1: SHA-256 of "abc". -/
theorem test_sha256_abc : sha256 [0x61, 0x62, 0x63] =
    0xba7816bf8f01cfea414140de5dae2223b00361a396177a9cb410ff61f20015ad := by decide +kernel

/-- The check value of CRC-32C: "123456789". -/
theorem test_crc32c_check : crc32c [0x31, 0x32, 0x33, 0x34, 0x35, 0x36, 0x37, 0x38, 0x39] = 0xE3069283 := by
  decide +kernel

/-- FIPS 197, example C.3: AES-256. -/
theorem test_aes256_block :
    aes256 0x000102030405060708090a0b0c0d0e0f101112131415161718191a1b1c1d1e1f 0x00112233445566778899aabbccddeeff =
      0x8ea2b7ca516745bfeafc49904b496089 := by decide +kernel

/-- 02 Table 2.4: the four pairs alone, the four substitutes, and back. -/
theorem test_krll_table : krll [3, 3] = [false, true, false, false, true, false] ∧
    krll [0, 2] = [true, false, true, false, false, true] ∧
    krll [0, 0] = [true, false, true, false, false, false] ∧
    krll [0, 1] = [true, false, false, false, false, false] ∧
    krll [2, 0] = [false, false, true, false, false, false] ∧
    krll [2, 1] = [false, true, false, false, false, false] ∧
    krllDecode (krll [2, 1, 0, 0, 1, 3, 2, 2]) = some [2, 1, 0, 0, 1, 3, 2, 2] := by decide +kernel

/-- 02 Tables 2.3 and 2.5: the lengths of a wedge and of the fixed fields; a wedge read back. -/
theorem test_fixed_fields : (wedgeCells 2 70000 119).length = 224 ∧ syncSS.length = 24 ∧ syncFS.length = 24 ∧
    syncCS.length = 48 ∧ runIn.length = 1152 ∧ runOut.length = 384 ∧
    (wedgeRead (wedgeCells 2 70000 119)).bind wedgeTaken = some (2, 70000, 119) := by decide +kernel

/-- 02 R60, with 4 parity symbols in place of 16: two wrong symbols decode, one and two erasures decode, three wrong
ones do not. -/
theorem test_small_code :
    let msg := [3, 10, 17, 24, 31]
    let word := msg ++ rsParity 4 msg
    rsDecode 4 word [] = some (word, 0) ∧ rsDecode 4 ([3, 11, 17, 24, 90] ++ rsParity 4 msg) [] = some (word, 2) ∧
      rsDecode 4 ([9, 11, 17, 24, 90] ++ rsParity 4 msg) [0, 4] = some (word, 1) ∧
      (rsDecode 4 ([9, 11, 17, 24, 90] ++ rsParity 4 msg) []).isNone := by decide +kernel

/-! ## States that meet the hypotheses of the statements -/

theorem wit_WellFormedCommandsNeverStop : (Instr.mbComplete 3).wf = true ∧ (Instr.mbComplete 4).wf = false := by decide

theorem wit_EffectsLeaveTheQueueAlone_1 : ∃ (c : Instr) (s : State) (t : State), exec c s = .next t :=
  ⟨.p8ClaimTimeout, State.reset, _, rfl⟩

theorem wit_StepsKeepRegistersCanonical : State.reset.regsOk ∧ ∃ t, step State.reset = .next t := by
  refine ⟨⟨by decide, ?_⟩, _, rfl⟩
  intro e he
  have h : e = (regKey .TIME_UNSET 0, 1) ∨ e = (regKey .SLOW_RC 0, 1) := by
    have : State.reset.regs = [(regKey .TIME_UNSET 0, 1), (regKey .SLOW_RC 0, 1)] := by decide
    rw [this] at he
    simpa using he
  rcases h with rfl | rfl
  · exact ⟨.TIME_UNSET, 0, rfl, by decide, by decide⟩
  · exact ⟨.SLOW_RC, 0, rfl, by decide, by decide⟩

theorem wit_StepsKeepMemoriesCanonical_1 : ∃ (s : State) (t : State), s.memOk ∧ step s = .next t :=
  ⟨State.reset, _, by unfold State.memOk; decide, rfl⟩

/-! ## Windows, mailboxes, the service port, notices and MSI-X (04) -/

theorem wit_BadAccessIsCounted_1 : ∃ (_s : State) (window : Nat) (offset : Nat) (size : Nat), (window = 0 ∨ window =
  2) ∧ offset + size ≤ windowSize window ∧ (¬((size = 4 ∨ size = 8) ∧ offset % size = 0)) :=
  ⟨runS, 2, 4, 2, by decide +kernel⟩

theorem wit_BadAccessIsCounted_2 : ∃ (_s : State) (window : Nat) (offset : Nat) (size : Nat), (window = 0 ∨ window =
  2) ∧ offset + size ≤ windowSize window ∧ (¬((size = 4 ∨ size = 8) ∧ offset % size = 0)) :=
  ⟨runS, 0, 0, 16, by decide +kernel⟩

theorem wit_BadAccessIsCounted_3 : ∃ (s : State) (n : Nat) (o : Nat) (bs : List Byte), s.hostUp ∧ n < 4 ∧
  o + bs.length ≤ 1024 ∧ (¬((bs.length = 4 ∨ bs.length = 8) ∧ o % bs.length = 0)) :=
  ⟨runS, 0, 0x42, [1, 2, 3, 4], by decide +kernel⟩

theorem wit_BadAccessIsCounted_4 : ∃ (s : State) (o : Nat) (n : Nat) (_v : Nat), s.hostUp ∧
  o + n ≤ windowSize 2 ∧ (¬((n = 4 ∨ n = 8) ∧ o % n = 0)) :=
  ⟨pairS, 12, 8, 0x101, by decide +kernel⟩

theorem wit_BadAccessIsCounted_5 : ∃ (_s : State) (offset : Nat) (size : Nat), (size = 4 ∨ size = 8) ∧
  offset % size = 0 ∧ offset + size ≤ 0x10000 :=
  ⟨runS, 0xFFF8, 8, by decide +kernel⟩

theorem wit_BadAccessIsCounted_6 : ∃ (_s : State) (offset : Nat) (size : Nat), (size = 4 ∨ size = 8) ∧
  offset % size = 0 ∧ offset + size ≤ 0x80000 :=
  ⟨runS, 0x7FFFC, 4, by decide +kernel⟩

theorem wit_GoIsAcceptedInOneStep_1 : ∃ (s : State) (n : Nat) (_w : BitVec 32) (byP8 : Bool), s.sideUp n byP8 ∧
  s.holds n byP8 = true ∧ s.on .READY = true ∧ (s.slot n).go = false ∧ (s.slot n).busy = false ∧
  (s.slot n).done = false :=
  ⟨runS, 2, 0xFFFFFF00#32, false, by decide +kernel⟩

theorem wit_GoOutOfTurnIsAProtocolError_1 : ∃ (s : State) (n : Nat) (_w : BitVec 32) (byP8 : Bool), s.sideUp n byP8 ∧
  s.holds n byP8 = true ∧ ((s.slot n).busy = true ∨ (s.slot n).done = true) :=
  ⟨mb 0 { done := true } runS, 0, 1#32, false, by decide +kernel⟩

theorem wit_GoOutOfTurnIsAProtocolError_2 : ∃ (s : State) (_w : BitVec 32) (byP8 : Bool), s.sideUp 3 byP8 ∧
  s.host.claim = 0 :=
  ⟨runS, 1#32, false, by decide +kernel⟩

theorem wit_GoOutOfTurnIsAProtocolError_3 : ∃ (s : State) (_w : BitVec 32), s.sideUp 3 false ∧ s.host.claim = 2 :=
  ⟨{ runS with host.claim := 2 }, 1#32, by decide +kernel⟩

theorem wit_GoOutOfTurnIsAProtocolError_4 : ∃ (s : State) (_w : BitVec 32), s.sideUp 3 true ∧ s.host.claim = 1 :=
  ⟨{ runS with host.claim := 1 }, 1#32, by decide +kernel⟩

theorem wit_ResponsesAreWrittenThenFreed_1 : ∃ (s : State) (n : Nat) (c : MbCopy) (r : MbResp), n < 4 ∧
  s.host.slots.length = 4 ∧ (s.slot n).copy = some c ∧ (s.slot n).resp = some r ∧ (s.slot n).discard = false ∧
  (n ≠ 3 ∨ s.host.releaseDue = false) ∧ r.data.length ≤ 768 :=
  ⟨mb 3 { busy := true, copy := some copy0, resp := some (okResp [1, 2] [3, 4, 5]) } runS, 3, copy0, okResp [1, 2] [3,
    4, 5], by decide +kernel⟩

theorem wit_ResponsesAreWrittenThenFreed_2 : ∃ (s : State) (n : Nat) (c : MbCopy) (r : MbResp), n < 4 ∧
  s.host.slots.length = 4 ∧ (s.slot n).copy = some c ∧ (s.slot n).resp = some r ∧ (s.slot n).discard = true ∧
  (n ≠ 3 ∨ s.host.releaseDue = false) :=
  ⟨mb 1 { busy := true, copy := some copy0, resp := some okResp, discard := true } runS, 1, copy0, okResp,
    by decide +kernel⟩

theorem wit_ResponsesAreWrittenThenFreed_3 : ∃ (s : State) (c : MbCopy) (r : MbResp), s.host.slots.length = 4 ∧
  (s.slot 3).copy = some c ∧ (s.slot 3).resp = some r ∧ s.host.releaseDue = true :=
  ⟨mb 3 { busy := true, copy := some copy0, resp := some okResp }
    { runS with host.claim := 2, host.releaseDue := true }, copy0, okResp, by decide +kernel⟩

theorem wit_ResponsesAreWrittenThenFreed_4 : ∃ (s : State) (n : Nat) (byP8 : Bool), s.sideUp n byP8 ∧
  s.otherHolds n byP8 = false :=
  ⟨mb 3 { done := true, seq := 9 } { runS with host.claim := 2 }, 3, true, by decide +kernel⟩

theorem wit_ResponsesAreWrittenThenFreed_5 : ∃ (s : State), s.sideUp 3 false ∧ s.host.claim = 2 :=
  ⟨{ runS with host.claim := 2 }, by decide +kernel⟩

theorem wit_SlotThreeAndTheServicePort_1 : ∃ (s : State) (_byHost : Bool), s.running ∧ s.host.claim = 0 :=
  ⟨runS, true, by decide +kernel⟩

theorem wit_SlotThreeAndTheServicePort_2 : ∃ (s : State), s.hostUp ∧ s.host.claim = 0 :=
  ⟨runS, by decide +kernel⟩

theorem wit_SlotThreeAndTheServicePort_3 : ∃ (s : State), s.hostUp ∧ s.host.claim = 2 :=
  ⟨{ runS with host.claim := 2 }, by decide +kernel⟩

theorem wit_SlotThreeAndTheServicePort_4 : ∃ (s : State) (_byHost : Bool), s.running ∧ s.host.claim = 1 :=
  ⟨{ runS with host.claim := 1 }, false, by decide +kernel⟩

theorem wit_SlotThreeAndTheServicePort_5 : ∃ (s : State) (byP8 : Bool), s.sideUp 3 byP8 ∧
  s.host.claim = (if byP8 then 2 else 1) ∧ (s.slot 3).busy = false :=
  ⟨mb 3 { done := true } { runS with host.claim := 1 }, false, by decide +kernel⟩

theorem wit_SlotThreeAndTheServicePort_6 : ∃ (s : State) (byP8 : Bool), s.sideUp 3 byP8 ∧
  s.host.claim = (if byP8 then 2 else 1) ∧ (s.slot 3).busy = true :=
  ⟨mb 3 { busy := true } { runS with host.claim := 2 }, true, by decide +kernel⟩

theorem wit_SlotThreeAndTheServicePort_7 : ∃ (s : State), s.hostUp ∧ s.host.claim = 2 :=
  ⟨{ runS with host.claim := 2 }, by decide +kernel⟩

theorem wit_SlotThreeAndTheServicePort_8 : ∃ (s : State), s.host.claim = 2 ∧
  s.host.p8At + 5000000 ≤ s.clock ∧ s.host.slots.length = 4 ∧ (s.slot 3).busy = false :=
  ⟨{ runS with clock := 5000000, host.claim := 2 }, by decide +kernel⟩

theorem wit_SlotThreeAndTheServicePort_9 : ∃ (s : State), s.host.claim = 2 ∧ s.host.p8At + 5000000 ≤ s.clock ∧
  (s.slot 3).busy = true :=
  ⟨mb 3 { busy := true } { runS with clock := 5000000, host.claim := 2 }, by decide +kernel⟩

theorem wit_SlotThreeAndTheServicePort_10 : ∃ (s : State) (o : Nat) (bs : List Byte), s.running ∧
  s.host.slots.length = 4 ∧ s.host.claim = 2 ∧ (s.slot 3).busy = false ∧ ((0x40 ≤ o ∧
  o + bs.length ≤ 0x80) ∨ (0x100 ≤ o ∧ o + bs.length ≤ 0x400)) :=
  ⟨{ runS with host.claim := 2 }, 0x3FF, [7], by decide +kernel⟩

theorem wit_SlotThreeAndTheServicePort_11 : ∃ (s : State) (o : Nat) (bs : List Byte), s.running ∧
  s.host.claim = 1 ∧ 0x40 ≤ o ∧ o + bs.length ≤ 0x400 :=
  ⟨{ runS with host.claim := 1 }, 0x40, [7], by decide +kernel⟩

theorem wit_SlotThreeAndTheServicePort_12 : ∃ (_s : State) (w : BitVec 32), w.toNat % 2 = 1 :=
  ⟨runS, 0x501#32, by decide +kernel⟩

theorem wit_SlotThreeAndTheServicePort_13 : ∃ (s : State) (_o : Nat) (_n : Nat), s.running :=
  ⟨mb 3 { busy := true, seq := 9, mem := [(0x3FF, 4)] } runS, 0x3FF, 5, by decide +kernel⟩

theorem wit_SlotThreeAndTheServicePort_14 : ∃ (s : State) (_o : Nat) (_n : Nat), s.pw.mode = .hibernate ∧
  s.pw.refFailed = false :=
  ⟨{ runS with pw.mode := .hibernate }, 8, 3, by decide +kernel⟩

theorem wit_SlotThreeAndTheServicePort_15 : ∃ (s : State), s.running :=
  ⟨mb 3 { done := true, protoErr := true } { runS with host.claim := 2 }, by decide +kernel⟩

theorem wit_HostWritesToTheWindow_1 : ∃ (s : State) (n : Nat) (o : Nat) (bs : List Byte), s.hostUp ∧
  s.host.slots.length = 4 ∧ (n < 3 ∨ n = 3 ∧ s.host.claim ≠ 2) ∧ accessOk o bs.length = true ∧ ((0x40 ≤ o ∧
  o + bs.length ≤ 0x80) ∨ (0x100 ≤ o ∧ o + bs.length ≤ 0x400)) ∧ (s.slot n).busy = false :=
  ⟨runS, 2, 0x3F8, [1, 2, 3, 4, 5, 6, 7, 0], by decide +kernel⟩

theorem wit_HostWritesToTheWindow_2 : ∃ (s : State) (o : Nat) (bs : List Byte), s.running ∧
  s.host.slots.length = 4 ∧ s.host.claim = 2 ∧ ((0x40 ≤ o ∧ o + bs.length ≤ 0x80) ∨ (0x100 ≤ o ∧
  o + bs.length ≤ 0x400)) ∧ (s.slot 3).busy = false :=
  ⟨{ runS with host.claim := 2 }, 0x7F, [7], by decide +kernel⟩

theorem wit_HostWritesToTheWindow_3 : ∃ (s : State) (n : Nat) (o : Nat) (bs : List Byte), s.hostUp ∧
  s.host.slots.length = 4 ∧ (n < 3 ∨ n = 3 ∧ s.host.claim ≠ 2) ∧ accessOk o bs.length = true ∧ ((0x40 ≤ o ∧
  o + bs.length ≤ 0x80) ∨ (0x100 ≤ o ∧ o + bs.length ≤ 0x400)) ∧ (s.slot n).busy = true :=
  ⟨mb 1 { busy := true } runS, 1, 0x40, [1, 2, 3, 4], by decide +kernel⟩

theorem wit_HostWritesToTheWindow_4 : ∃ (s : State) (o : Nat) (bs : List Byte), s.hostUp ∧ s.host.claim = 2 ∧
  accessOk o bs.length = true ∧ 8 ≤ o ∧ o + bs.length ≤ 1024 :=
  ⟨{ runS with host.claim := 2 }, 0x40, [1, 2, 3, 4], by decide +kernel⟩

theorem wit_HostWritesToTheWindow_5 : ∃ (s : State) (_v : Nat), s.hostUp :=
  ⟨runS, 64, by decide +kernel⟩

theorem wit_HostWritesToTheWindow_6 : ∃ (s : State), s.hostUp ∧ s.host.msixOn = true :=
  ⟨{ runS with host.msixOn := true, host.msixPending := [3] }, by decide +kernel⟩

theorem wit_HostWritesToTheWindow_7 : ∃ (s : State) (v : Nat) (_addr : Nat) (_data : Nat), s.hostUp ∧
  v < 1024 ∧ s.host.msixOn = true ∧ s.host.msixFnMask = false ∧ s.host.d3hot = false ∧
  s.host.busMaster = true ∧ s.host.msixPending = [v] :=
  ⟨{ runS with host.msixOn := true, host.msixPending := [1023] }, 1023, 0x9000, 5, by decide +kernel⟩

theorem wit_HostWritesToTheWindow_8 : ∃ (s : State) (v : Nat) (_addr : Nat) (_data : Nat), s.hostUp ∧
  v < 1024 ∧ s.host.msixPending = [] :=
  ⟨{ runS with host.msixOn := true }, 0, 0x9000, 5, by decide +kernel⟩

theorem wit_HostWritesToTheWindow_9 : ∃ (s : State), s.hostUp :=
  ⟨runS, by decide +kernel⟩

/-! ## The link, resets and the heartbeat (04); queue pairs (05) -/

theorem wit_HostSideResetsClearTheHostSideAndReport_1 : ∃ (s : State), s.host.perst = false ∧
  s.host.slots.length = 4 :=
  ⟨mb 1 { busy := true } runS, by decide +kernel⟩

theorem wit_HostSideResetsClearTheHostSideAndReport_2 : ∃ (s : State), s.host.perst = false ∧
  s.host.slots.length = 4 :=
  ⟨mb 2 { done := true } runS, by decide +kernel⟩

theorem wit_HostSideResetsClearTheHostSideAndReport_3 : ∃ (s : State) (t0 : Nat), s.host.perst = false ∧
  s.host.linkOff = false ∧ s.host.leftL0 = some t0 ∧ t0 + 1000 ≤ s.clock ∧ s.host.slots.length = 4 :=
  ⟨{ runS.set .LINK_STATE 0 with clock := 1000, host.leftL0 := some 0 }, 0, by decide +kernel⟩

theorem wit_HostSideResetsClearTheHostSideAndReport_4 : ∃ (s : State) (t0 : Nat), s.host.leftL0 = some t0 ∧
  s.clock < t0 + 1000 :=
  ⟨{ runS.set .LINK_STATE 0 with clock := 999, host.leftL0 := some 0 }, 0, by decide +kernel⟩

theorem wit_HostSideResetsClearTheHostSideAndReport_5 : ∃ (s : State), s.host.perst = false ∧
  s.host.slots.length = 4 :=
  ⟨runS, by decide +kernel⟩

theorem wit_HostSideResetsClearTheHostSideAndReport_6 : ∃ (s : State), s.running ∧ s.host.perst = false ∧
  s.host.reset ≠ none ∧ s.bb.queue = [] ∧ s.bb.stalled = [] ∧ s.bb.windows = [] ∧ s.ca.merge = [] ∧
  (List.range 4).all (fun n => !(s.slot n).go) = true :=
  ⟨{ runS.set .READY 0 with host.reset := some (1, 2, [3, 0, 1, 2]) }, by decide +kernel⟩

theorem wit_LinkStatesAndHeartbeat_1 : ∃ (s : State) (l : LinkState), s.running ∧ s.host.perst = false ∧
  s.linkAllows l = true ∧ s.q.held = [] ∧ s.q.pairs.all (fun e => e.2.halted.isNone) = true :=
  ⟨runS, .l12, by decide +kernel⟩

theorem wit_LinkStatesAndHeartbeat_2 : ∃ (s : State) (l : LinkState), s.running ∧ s.host.perst = false ∧
  s.linkAllows l = false ∧ s.linkGone = false :=
  ⟨{ runS with pw.mainPgood := true }, .l2, by decide +kernel⟩

theorem wit_LinkStatesAndHeartbeat_3 : ∃ (s : State) (speed : Nat) (width : Nat), s.running ∧
  s.pw.mainPgood = true ∧ s.reg .BOOT_MODE ≠ 2 ∧ s.host.perst = true ∧ 1 ≤ speed ∧ speed ≤ 3 ∧ 1 ≤ width ∧
  width ≤ 2 ∧ s.q.held = [] ∧ s.q.pairs.all (fun e => e.2.halted.isNone) = true :=
  ⟨{ runS.set .MAX_SPEED 2 with host.perst := true }, 3, 2, by decide +kernel⟩

theorem wit_LinkStatesAndHeartbeat_4 : ∃ (s : State), s.hostUp :=
  ⟨runS, by decide +kernel⟩

theorem wit_LinkStatesAndHeartbeat_5 : ∃ (s : State) (c : QCmd) (p : QPair) (st : Nat) (r : Nat), s.hostUp ∧
  s.host.d3hot = true ∧ s.p0Up = true ∧ s.host.busMaster = true ∧ s.host.msixOn = false ∧ s.ca.merge = [] ∧
  s.q.held = [{ qp := c.qp, tag := c.tag }] ∧ s.cmd c.qp c.tag = some c ∧ c.ended = some (st, r, false) ∧
  Map.get s.q.pairs c.qp = some p ∧ s.q.pairs.all (fun e => e.2.halted.isNone) = true :=
  ⟨{ cmdS { cmd0 with ended := some (0, 5, false) } with host.d3hot := true, q.held := [{ qp := 1, tag := 7 }] },
    { cmd0 with ended := some (0, 5, false) }, pair0, 0, 5, by decide +kernel⟩

theorem wit_LinkStatesAndHeartbeat_6 : ∃ (s : State), (s.pw.mode = .run ∨ s.pw.mode = .doze) :=
  ⟨runS.set .DS_HEARTBEAT 0xFFFFFFFF, by decide +kernel⟩

theorem wit_DoorbellsAndFetchesMoveTheQueues_1 : ∃ (s : State) (qp : Nat) (v : Nat) (p : QPair), s.hostUp ∧
  qp < 65536 ∧ v < 2 ^ 32 ∧ s.q.waiting = [] ∧ s.q.blocked = [] ∧ Map.get s.q.pairs qp = some p ∧ p.halted = none ∧
  v < p.sqDepth :=
  ⟨pairS, 1, 15, pair0, by decide +kernel⟩

theorem wit_DoorbellsAndFetchesMoveTheQueues_2 : ∃ (s : State) (qp : Nat) (h : Nat) (p : QPair), s.hostUp ∧
  qp < 65536 ∧ h < 2 ^ 32 ∧ s.q.waiting = [] ∧ s.q.blocked = [] ∧ Map.get s.q.pairs qp = some p ∧ p.halted = none ∧
  h < p.cqDepth ∧ (h + p.cqDepth - p.cqHead) % p.cqDepth ≤ (p.cqWrite + p.cqDepth - p.cqHead) % p.cqDepth :=
  ⟨{ pairS with q.pairs := [(1, { pair0 with cqHead := 14, cqWrite := 2 })] }, 1, 2,
    { pair0 with cqHead := 14, cqWrite := 2 }, by decide +kernel⟩

theorem wit_DoorbellsAndFetchesMoveTheQueues_3 : ∃ (s : State) (qp : Nat) (v : Nat) (p : QPair), s.hostUp ∧
  qp < 65536 ∧ v < 2 ^ 32 ∧ s.q.waiting = [] ∧ s.q.blocked = [] ∧ s.ca.merge = [] ∧
  Map.get s.q.pairs qp = some p ∧ p.halted = none ∧ p.deleting = none ∧ p.sqDepth ≤ v :=
  ⟨pairS, 1, 16, pair0, by decide +kernel⟩

theorem wit_DoorbellsAndFetchesMoveTheQueues_4 : ∃ (s : State) (qp : Nat) (h : Nat) (p : QPair), s.hostUp ∧
  qp < 65536 ∧ h < 2 ^ 32 ∧ s.q.waiting = [] ∧ s.q.blocked = [] ∧ s.ca.merge = [] ∧
  Map.get s.q.pairs qp = some p ∧ p.halted = none ∧ p.deleting = none ∧ p.cqDepth ≤ h :=
  ⟨pairS, 1, 16, pair0, by decide +kernel⟩

theorem wit_DoorbellsAndFetchesMoveTheQueues_5 : ∃ (s : State) (o : Nat) (n : Nat) (_v : Nat), s.hostUp ∧
  accessOk o n = true ∧ o + n ≤ windowSize 2 ∧ s.q.waiting = [] ∧ s.q.blocked = [] ∧
  Map.get s.q.pairs (o / 8) = none :=
  ⟨runS, 0x7FFFC, 4, 9, by decide +kernel⟩

theorem wit_DoorbellsAndFetchesMoveTheQueues_6 : ∃ (s : State) (qp : Nat) (k : Nat) (fresh : Bool) (p : QPair) (e :
  List Byte) (_input : List Byte) (_list : List Byte), qp < 65536 ∧ e.length = 64 ∧ s.serving = true ∧
  s.host.d3hot = false ∧ s.host.reset = none ∧ s.q.waiting = [] ∧ s.q.blocked = [] ∧
  s.granted = some (qp, k, fresh) ∧ s.fetchable qp = true ∧ Map.get s.q.pairs qp = some p ∧
  fieldAt e 4 2 ≠ 0xFFFF ∧ s.cmd qp (fieldAt e 4 2) = none ∧ queueOpcodes.contains (fieldAt e 0 2) = true :=
  ⟨{ pairS with q.pairs := [(1, { pair0 with sqHead := 15 })], q.cache := [1] }, 1, 0, false,
    { pair0 with sqHead := 15 }, leBytes 2 0x100 ++ [2, 0] ++ leBytes 2 7 ++ List.replicate 58 0, [], [],
    by decide +kernel⟩

theorem wit_DoorbellsAndFetchesMoveTheQueues_7 : ∃ (s : State) (qp : Nat) (k : Nat) (fresh : Bool) (p : QPair) (e :
  List Byte) (_input : List Byte) (_list : List Byte), qp < 65536 ∧ e.length = 64 ∧ s.serving = true ∧
  s.host.d3hot = false ∧ s.host.reset = none ∧ s.q.waiting = [] ∧ s.q.blocked = [] ∧
  s.granted = some (qp, k, fresh) ∧ s.fetchable qp = true ∧ Map.get s.q.pairs qp = some p ∧
  p.deleting = none ∧ (fieldAt e 4 2 = 0xFFFF ∨ (s.cmd qp (fieldAt e 4 2)).isSome = true) :=
  ⟨pairS, 1, 0, false, pair0, leBytes 2 0x100 ++ [2, 0] ++ leBytes 2 0xFFFF ++ List.replicate 58 0, [], [],
    by decide +kernel⟩

theorem wit_DoorbellsAndFetchesMoveTheQueues_8 : ∃ (s : State) (qp : Nat) (k : Nat) (fresh : Bool) (p : QPair) (e :
  List Byte) (_input : List Byte) (_list : List Byte), qp < 65536 ∧ e.length = 64 ∧ s.serving = true ∧
  s.host.d3hot = false ∧ s.host.reset = none ∧ s.q.waiting = [] ∧ s.q.blocked = [] ∧
  s.granted = some (qp, k, fresh) ∧ s.fetchable qp = true ∧ s.plainPair qp p ∧ fieldAt e 4 2 ≠ 0xFFFF ∧
  s.cmd qp (fieldAt e 4 2) = none ∧ queueOpcodes.contains (fieldAt e 0 2) = false :=
  ⟨pairS, 1, 0, false, pair0, leBytes 2 0x1FF ++ [0, 0] ++ leBytes 2 7 ++ List.replicate 58 0, [], [],
    by decide +kernel⟩

theorem wit_DoorbellsAndFetchesMoveTheQueues_9 : ∃ (s : State) (qp : Nat) (tag : Nat) (k : Nat) (c : QCmd) (fresh :
  Bool), s.cmd qp tag = some c ∧ s.granted = some (qp, k, fresh) ∧ s.awake = true ∧ c.fence = true ∧
  c.granted = false ∧ c.ended = none ∧ s.unfenced c = true :=
  ⟨cmdS { cmd0 with fence := true, granted := false }, 1, 7, 0, { cmd0 with fence := true, granted := false }, false,
    by decide +kernel⟩

theorem wit_CommandsEndWithOneEntryAndInterrupts_1 : ∃ (s : State) (qp : Nat) (tag : Nat) (c : QCmd) (p : QPair),
  s.cmdReady qp tag 0x100 c ∧ s.plainPair qp p ∧ c.abortBy = [] :=
  ⟨cmdS cmd0, 1, 7, cmd0, pair0, by decide +kernel⟩

theorem wit_CommandsEndWithOneEntryAndInterrupts_2 : ∃ (s : State) (qp : Nat) (tag : Nat) (c : QCmd) (p : QPair),
  s.cmdReady qp tag 0x101 c ∧ s.plainPair qp p ∧ c.abortBy = [] :=
  ⟨{ cmdS { cmd0 with opcode := 0x101, fence := true } with q.pairs := [(1, { pair0
                                                                                with cqWrite := 15, cqHead := 3 })] },
    1, 7, { cmd0 with opcode := 0x101, fence := true }, { pair0 with cqWrite := 15, cqHead := 3 }, by decide +kernel⟩

theorem wit_CommandsEndWithOneEntryAndInterrupts_3 : ∃ (s : State) (qp : Nat) (tag : Nat) (d : Nat) (c : QCmd) (p :
  QPair) (i : Instr), s.cmd qp tag = some c ∧ s.awake = true ∧ s.unfenced c = true ∧ c.granted = true ∧
  c.ended = none ∧ c.badDesc = some d ∧ d < 2 ^ 32 ∧ s.plainPair qp p ∧ c.abortBy = [] ∧
  (i, c.opcode) ∈ [(Instr.nop qp tag, 0x100), (.fence qp tag, 0x101), (.abort qp tag, 0x102), (.eventMark qp tag,
  0x112), (.flush qp tag, 0x120), (.timeSet qp tag, 0x140), (.timeGet qp tag, 0x141), (.cntConfig qp tag, 0x160)] :=
  ⟨cmdS { cmd0 with opcode := 0x141, badDesc := some 0xFFFFFFFF }, 1, 7, 0xFFFFFFFF,
    { cmd0 with opcode := 0x141, badDesc := some 0xFFFFFFFF }, pair0, .timeGet 1 7, by decide +kernel⟩

theorem wit_CommandsEndWithOneEntryAndInterrupts_4 : ∃ (s : State) (qp : Nat) (tag : Nat) (c : QCmd) (p : QPair), qp <
  65536 ∧ s.cmd qp tag = some c ∧ c.committed = false ∧ c.ended = none ∧ s.plainPair qp p ∧ c.abortBy = [] :=
  ⟨cmdS { cmd0 with opcode := 0x111, count := 9 }, 1, 7, { cmd0 with opcode := 0x111, count := 9 }, pair0,
    by decide +kernel⟩

theorem wit_CommandsEndWithOneEntryAndInterrupts_5 : ∃ (s : State) (qp : Nat) (tag : Nat) (c : QCmd) (p : QPair), qp <
  65536 ∧ s.cmd qp tag = some c ∧ c.committed = false ∧ c.ended = none ∧ s.plainPair qp p ∧ c.abortBy = [] :=
  ⟨cmdS { cmd0 with opcode := 0x180, args := leBytes 40 1, count := 7 }, 1, 7,
    { cmd0 with opcode := 0x180, args := leBytes 40 1, count := 7 }, pair0, by decide +kernel⟩

theorem wit_CommandsEndWithOneEntryAndInterrupts_6 : ∃ (s : State) (qp : Nat) (p : QPair), qp < 65536 ∧
  Map.get s.q.pairs qp = some p ∧ p.halted = none ∧ p.deleting = none :=
  ⟨cmdS cmd0, 1, pair0, by decide +kernel⟩

theorem wit_CommandsEndWithOneEntryAndInterrupts_7 : ∃ (s : State) (qp : Nat) (p : QPair), qp < 65536 ∧
  Map.get s.q.pairs qp = some p ∧ p.halted = none ∧ p.deleting = none :=
  ⟨cmdS cmd0, 1, pair0, by decide +kernel⟩

theorem wit_CommandsEndWithOneEntryAndInterrupts_8 : ∃ (s : State) (qp : Nat) (tag : Nat) (c : QCmd) (d : QCmd) (p :
  QPair), s.cmdReady qp tag 0x102 c ∧ s.q.cmds.all (fun x => x.abortBy.isEmpty) = true ∧
  s.abortWaits c = false ∧ s.cmd (fieldAt c.args 0 2) (fieldAt c.args 2 2) = some d ∧ d.opcode ≠ 0x100 ∧
  d.opcode ≠ 0x101 ∧ d.opcode ≠ 0x102 ∧ d.opcode ≠ 0x120 ∧ d.committed = false ∧ d.ended = none ∧ s.plainPair qp p :=
  ⟨{ cmdS abort0 with q.cmds := [abort0, { cmd0 with tag := 8, opcode := 0x110, order := 1 }] }, 1, 7, abort0,
    { cmd0 with tag := 8, opcode := 0x110, order := 1 }, pair0, by decide +kernel⟩

theorem wit_CommandsEndWithOneEntryAndInterrupts_9 : ∃ (s : State) (qp : Nat) (tag : Nat) (c : QCmd) (p : QPair),
  s.cmdReady qp tag 0x102 c ∧ s.q.cmds.all (fun x => x.abortBy.isEmpty) = true ∧ s.abortWaits c = false ∧
  s.cmd (fieldAt c.args 0 2) (fieldAt c.args 2 2) = none ∧ Map.get s.q.pairs (fieldAt c.args 0 2) = none ∧
  s.plainPair qp p :=
  ⟨cmdS { abort0 with args := leBytes 2 9 ++ leBytes 38 0 }, 1, 7,
    { abort0 with args := leBytes 2 9 ++ leBytes 38 0 }, pair0, by decide +kernel⟩

theorem wit_CommandsEndWithOneEntryAndInterrupts_10 : ∃ (s : State) (qp : Nat) (tag : Nat) (c : QCmd) (p : QPair),
  s.cmdReady qp tag 0x102 c ∧ s.q.cmds.all (fun x => x.abortBy.isEmpty) = true ∧ s.abortWaits c = false ∧
  fieldAt c.args 0 2 = qp ∧ s.cmd qp (fieldAt c.args 2 2) = none ∧
  p.lastTags.contains (fieldAt c.args 2 2) = true ∧ s.plainPair qp p :=
  ⟨{ cmdS abort0 with q.pairs := [(1, { pair0 with lastTags := [8] })] }, 1, 7, abort0,
    { pair0 with lastTags := [8] }, by decide +kernel⟩

theorem wit_CommandsEndWithOneEntryAndInterrupts_11 : ∃ (s : State) (qp : Nat) (tag : Nat) (c : QCmd) (d : QCmd),
  s.cmdReady qp tag 0x102 c ∧ s.q.cmds.all (fun x => x.abortBy.isEmpty) = true ∧ s.abortWaits c = false ∧
  s.cmd (fieldAt c.args 0 2) (fieldAt c.args 2 2) = some d ∧ (d.opcode = 0x100 ∨ d.opcode = 0x101) ∧
  d.ended = none ∧ fencedBehind c d = false :=
  ⟨{ cmdS abort0 with q.cmds := [abort0, { cmd0 with tag := 8, opcode := 0x100, order := 1 }] }, 1, 7, abort0,
    { cmd0 with tag := 8, opcode := 0x100, order := 1 }, by decide +kernel⟩

theorem wit_CommandsEndWithOneEntryAndInterrupts_12 : ∃ (s : State) (qp : Nat) (p : QPair) (e : MsixEntry), qp < 65536
  ∧ Map.get s.q.pairs qp = some p ∧ 0 < p.coalPend ∧ 0 < p.coalTime ∧ p.coalSince + p.coalTime ≤ s.clock ∧
  p.irq = true ∧ s.host.msixOn = true ∧ s.host.msixFnMask = false ∧ s.host.d3hot = false ∧
  s.host.busMaster = true ∧ Map.get s.host.msix p.vector = some e ∧ e.masked = false :=
  ⟨{ pairS with host.msixOn := true, host.msix := [(3, { addr := 0x900, data := 77, masked := false })], clock := 50,
                  q.pairs := [(1, { pair0 with irq := true, vector := 3, coalPend := 2, coalTime := 10, coalSince :=
                                                 40 })] }, 1,
    { pair0 with irq := true, vector := 3, coalPend := 2, coalTime := 10, coalSince := 40 },
    { addr := 0x900, data := 77, masked := false }, by decide +kernel⟩

/-! ## Mailbox commands of queue pairs and of the service port (05, 06) -/

theorem wit_QueuePairsAreCreatedAndDeleted_1 : ∃ (s : State) (n : Nat) (c : MbCopy), s.mbxReady n 0x10 c ∧
  c.dlen = 0 ∧ qpCreateFault c.args = none ∧ s.poolLost = false ∧ Map.get s.q.pairs (fieldAt c.args 0 2) = none :=
  ⟨mbxS 2 { copy0 with opcode := 0x10, args := qpArgs }, 2, { copy0 with opcode := 0x10, args := qpArgs },
    by decide +kernel⟩

theorem wit_QueuePairsAreCreatedAndDeleted_2 : ∃ (s : State) (n : Nat) (c : MbCopy), s.mbxReady n 0x10 c ∧
  c.dlen ≠ 0 :=
  ⟨mbxS 2 { copy0 with opcode := 0x10, dlen := 1 }, 2, { copy0 with opcode := 0x10, dlen := 1 }, by decide +kernel⟩

theorem wit_QueuePairsAreCreatedAndDeleted_3 : ∃ (s : State) (n : Nat) (o : Nat) (c : MbCopy), s.mbxReady n 0x10 c ∧
  c.dlen = 0 ∧ qpCreateFault c.args = some o :=
  ⟨mbxS 0 { copy0 with opcode := 0x10, args := leBytes 56 5 }, 0, 4,
    { copy0 with opcode := 0x10, args := leBytes 56 5 }, by decide +kernel⟩

theorem wit_QueuePairsAreCreatedAndDeleted_4 : ∃ (s : State) (n : Nat) (c : MbCopy), s.mbxReady n 0x10 c ∧
  c.dlen = 0 ∧ qpCreateFault c.args = none ∧ s.poolLost = true :=
  ⟨(mbxS 2 { copy0 with opcode := 0x10, args := qpArgs }).set .POOL_STATE 3, 2,
    { copy0 with opcode := 0x10, args := qpArgs }, by decide +kernel⟩

theorem wit_QueuePairsAreCreatedAndDeleted_5 : ∃ (s : State) (n : Nat) (c : MbCopy), s.mbxReady n 0x10 c ∧
  c.dlen = 0 ∧ qpCreateFault c.args = none ∧ s.poolLost = false ∧ Map.has s.q.pairs (fieldAt c.args 0 2) = true :=
  ⟨{ mbxS 2 { copy0 with opcode := 0x10, args := qpArgs } with q.pairs := [(1, pair0)] }, 2,
    { copy0 with opcode := 0x10, args := qpArgs }, by decide +kernel⟩

theorem wit_QueuePairsAreCreatedAndDeleted_6 : ∃ (s : State) (n : Nat) (qp : Nat) (c : MbCopy) (p : QPair), s.mbxReady
  n 0x11 c ∧ qp = fieldAt c.args 0 2 ∧ s.plainPair qp p ∧ p.deleting = none ∧ p.haltWritten = false ∧
  s.pinned qp = false :=
  ⟨{ mbxS 2 { copy0 with opcode := 0x11, args := qpArgs } with q.pairs := [(1, pair0)], q.cache := [1] }, 2, 1,
    { copy0 with opcode := 0x11, args := qpArgs }, pair0, by decide +kernel⟩

theorem wit_QueuePairsAreCreatedAndDeleted_7 : ∃ (s : State) (n : Nat) (qp : Nat) (c : MbCopy) (p : QPair), s.mbxReady
  n 0x11 c ∧ qp = fieldAt c.args 0 2 ∧ Map.get s.q.pairs qp = some p ∧ p.deleting = none ∧ p.haltWritten = true :=
  ⟨{ mbxS 2 { copy0 with opcode := 0x11, args := qpArgs } with q.pairs := [(1, { pair0
                                                                                   with halted := some 1, haltWritten
                                                                                          := true })], q.cache := [1]
                                                                 }, 2, 1,
    { copy0 with opcode := 0x11, args := qpArgs }, { pair0 with halted := some 1, haltWritten := true },
    by decide +kernel⟩

theorem wit_QueuePairsAreCreatedAndDeleted_8 : ∃ (s : State) (n : Nat) (c : MbCopy), s.mbxReady n 0x11 c ∧
  Map.get s.q.pairs (fieldAt c.args 0 2) = none :=
  ⟨mbxS 2 { copy0 with opcode := 0x11, args := qpArgs }, 2, { copy0 with opcode := 0x11, args := qpArgs },
    by decide +kernel⟩

theorem wit_ServiceCommandsNeedTheServicePort_1 : ∃ (s : State) (n : Nat) (c : MbCopy), s.mbxReady n 0x60 c ∧
  c.byP8 = true ∧ s.reg .ENTROPY_STATE = 1 :=
  ⟨(mbxS 3 { copy0 with opcode := 0x60, byP8 := true }).set .ENTROPY_STATE 1, 3,
    { copy0 with opcode := 0x60, byP8 := true }, by decide +kernel⟩

theorem wit_ServiceCommandsNeedTheServicePort_2 : ∃ (s : State) (n : Nat) (v : Nat) (c : MbCopy), s.mbxReady n 0x61 c
  ∧ c.byP8 = true ∧ c.dlen = 64 ∧ s.host.challenge = some v :=
  ⟨{ mbxS 3 { copy0 with opcode := 0x61, dlen := 64, byP8 := true } with host.challenge := some 5 }, 3, 5,
    { copy0 with opcode := 0x61, dlen := 64, byP8 := true }, by decide +kernel⟩

theorem wit_ServiceCommandsNeedTheServicePort_3 : ∃ (s : State) (n : Nat) (c : MbCopy), s.mbxReady n 0x61 c ∧
  c.byP8 = true ∧ c.dlen = 64 ∧ s.host.challenge = none :=
  ⟨mbxS 3 { copy0 with opcode := 0x61, dlen := 64, byP8 := true }, 3,
    { copy0 with opcode := 0x61, dlen := 64, byP8 := true }, by decide +kernel⟩

theorem wit_ServiceCommandsNeedTheServicePort_4 : ∃ (s : State) (n : Nat) (c : MbCopy), s.mbxReady n 0x62 c ∧
  c.byP8 = true ∧ s.host.unlocked = true ∧ s.reg .BBS_BANK0_FAULT = 0 ∧ s.reg .BBS_BANK1_FAULT = 0 :=
  ⟨{ (mbxS 3 { copy0 with opcode := 0x62, byP8 := true }).set .BB_NEXT_SEQ 1500 with host.unlocked := true }, 3,
    { copy0 with opcode := 0x62, byP8 := true }, by decide +kernel⟩

theorem wit_ServiceCommandsNeedTheServicePort_5 : ∃ (s : State) (n : Nat) (c : MbCopy), s.mbxReady n 0x60 c ∧
  c.byP8 = false :=
  ⟨mbxS 0 { copy0 with opcode := 0x60 }, 0, { copy0 with opcode := 0x60 }, by decide +kernel⟩

theorem wit_ServiceCommandsNeedTheServicePort_6 : ∃ (s : State) (n : Nat) (c : MbCopy), s.mbxReady n 0x61 c ∧
  c.byP8 = false :=
  ⟨mbxS 0 { copy0 with opcode := 0x61 }, 0, { copy0 with opcode := 0x61 }, by decide +kernel⟩

theorem wit_ServiceCommandsNeedTheServicePort_7 : ∃ (s : State) (n : Nat) (c : MbCopy), s.mbxReady n 0x62 c ∧
  (c.byP8 = false ∨ s.host.unlocked = false) :=
  ⟨mbxS 0 { copy0 with opcode := 0x62 }, 0, { copy0 with opcode := 0x62 }, by decide +kernel⟩

/-! ## Queue commands of the pool, evidence, time, tally, counters and the black box (06) -/

theorem wit_PoolReadsAndAppendsFollowTheStream_1 : ∃ (s : State) (qp : Nat) (tag : Nat) (a : Nat) (l : Nat) (b : Nat)
  (o : Nat) (c : QCmd) (p : QPair), s.cmdReady qp tag 0x110 c ∧ s.plainPair qp p ∧ c.abortBy = [] ∧
  c.buf = [(a, l)] ∧ 0 < l ∧ l ≤ 0x1000000 ∧ c.count = 0 ∧ c.poison = none ∧
  (a + l ≤ p.cqBase + 16 * p.cqWrite ∨ p.cqBase + 16 * p.cqWrite + 16 ≤ a) ∧ b = fieldAt c.args 0 2 ∧
  o = fieldAt c.args 8 8 ∧ s.bobbinAbsent b = false ∧ s.poolLost = false ∧ s.lm.allPoison = false ∧
  s.lm.poison = [] ∧ s.get .HEAD_OFFSET b ≤ o ∧ o < s.get .TAIL_OFFSET b :=
  ⟨{ poolS with q.cmds := [{ cmd0 with opcode := 0x110, args := leBytes 2 0 ++ leBytes 6 0 ++ leBytes 8 4096 ++
                                         leBytes 24 0, buf := [(0x90000, 20)] }], lm.mem := [(0x4001003, 5),
                  (0x4001004, 6)] }.put .TAIL_OFFSET 0 4110, 1, 7, 0x90000, 20, 0, 4096,
    { cmd0 with opcode := 0x110, args := leBytes 2 0 ++ leBytes 6 0 ++ leBytes 8 4096 ++ leBytes 24 0, buf :=
                  [(0x90000, 20)] }, pair0, by decide +kernel⟩

theorem wit_PoolReadsAndAppendsFollowTheStream_2 : ∃ (s : State) (qp : Nat) (tag : Nat) (b : Nat) (o : Nat) (n : Nat)
  (c : QCmd) (p : QPair), s.cmdReady qp tag 0x110 c ∧ s.plainPair qp p ∧ c.abortBy = [] ∧
  c.lengthFault 1 (some 0x1000000) = none ∧ c.count = 0 ∧ c.poison = none ∧ b = fieldAt c.args 0 2 ∧
  o = fieldAt c.args 8 8 ∧ s.bobbinAbsent b = false ∧ s.poolLost = false ∧ s.get .HEAD_OFFSET b ≤ o ∧
  o < s.get .TAIL_OFFSET b ∧ n = min (min c.room 0x1000000) (s.get .TAIL_OFFSET b - o) :=
  ⟨{ poolS with q.cmds := [{ ({ cmd0 with opcode := 0x110, args := leBytes 2 0 ++ leBytes 6 0 ++ leBytes 8 4096 ++
                                            leBytes 24 0, buf := [(0x90000, 20)] } : QCmd)
                               with sgl := true, buf := [(0x90000, 3), (0xA0000, 4)] }], lm.poison := [0x4001] }.put
    .TAIL_OFFSET 0 4110, 1, 7, 0, 4096, 7,
    { ({ cmd0 with opcode := 0x110, args := leBytes 2 0 ++ leBytes 6 0 ++ leBytes 8 4096 ++ leBytes 24 0, buf :=
                     [(0x90000, 20)] } : QCmd) with sgl := true, buf := [(0x90000, 3), (0xA0000, 4)] }, pair0,
    by decide +kernel⟩

theorem wit_PoolReadsAndAppendsFollowTheStream_3 : ∃ (s : State) (qp : Nat) (tag : Nat) (b : Nat) (o : Nat) (k : Nat)
  (n : Nat) (c : QCmd), s.cmdReady qp tag 0x110 c ∧ c.lengthFault 1 (some 0x1000000) = none ∧
  b = fieldAt c.args 0 2 ∧ o = fieldAt c.args 8 8 + c.count ∧ s.bobbinAbsent b = false ∧ s.poolLost = false ∧
  s.get .HEAD_OFFSET b ≤ o ∧ (c.started = true ∨ fieldAt c.args 8 8 < s.get .TAIL_OFFSET b) ∧
  n = min (min c.room 0x1000000 - c.count) (s.get .TAIL_OFFSET b - o) ∧ k < n :=
  ⟨{ poolS with q.cmds := [{ ({ cmd0 with opcode := 0x110, args := leBytes 2 0 ++ leBytes 6 0 ++ leBytes 8 4096 ++
                                            leBytes 24 0, buf := [(0x90000, 20)] } : QCmd)
                               with count := 3, started := true }] }.put .TAIL_OFFSET 0 4110, 1, 7, 0, 4099, 5, 11,
    { ({ cmd0 with opcode := 0x110, args := leBytes 2 0 ++ leBytes 6 0 ++ leBytes 8 4096 ++ leBytes 24 0, buf :=
                     [(0x90000, 20)] } : QCmd) with count := 3, started := true }, by decide +kernel⟩

theorem wit_PoolReadsAndAppendsFollowTheStream_4 : ∃ (s : State) (qp : Nat) (tag : Nat) (_part : Option Nat) (c :
  QCmd) (p : QPair) (b : Nat) (o : Nat), s.cmdReady qp tag 0x110 c ∧ s.plainPair qp p ∧ c.abortBy = [] ∧
  c.lengthFault 1 (some 0x1000000) = none ∧ c.started = false ∧ b = fieldAt c.args 0 2 ∧
  o = fieldAt c.args 8 8 ∧ s.bobbinAbsent b = false ∧ s.poolLost = false ∧ s.get .TAIL_OFFSET b ≤ o :=
  ⟨{ poolS with q.cmds := [{ cmd0 with opcode := 0x110, args := leBytes 2 0 ++ leBytes 6 0 ++ leBytes 8 4096 ++
                                         leBytes 24 0, buf := [(0x90000, 20)] }] }, 1, 7, none,
    { cmd0 with opcode := 0x110, args := leBytes 2 0 ++ leBytes 6 0 ++ leBytes 8 4096 ++ leBytes 24 0, buf :=
                  [(0x90000, 20)] }, pair0, 0, 4096, by decide +kernel⟩

theorem wit_PoolReadsAndAppendsFollowTheStream_5 : ∃ (s : State) (qp : Nat) (tag : Nat) (_part : Option Nat) (c :
  QCmd) (p : QPair) (b : Nat) (o : Nat), s.cmdReady qp tag 0x110 c ∧ s.plainPair qp p ∧ c.abortBy = [] ∧
  c.lengthFault 1 (some 0x1000000) = none ∧ b = fieldAt c.args 0 2 ∧ o = fieldAt c.args 8 8 ∧
  s.bobbinAbsent b = false ∧ s.poolLost = false ∧ o < s.get .TAIL_OFFSET b ∧ o + c.count < s.get .HEAD_OFFSET b :=
  ⟨(({ poolS with q.cmds := [{ cmd0 with opcode := 0x110, args := leBytes 2 0 ++ leBytes 6 0 ++ leBytes 8 4096 ++
                                           leBytes 24 0, buf := [(0x90000, 20)] }] } : State).put .TAIL_OFFSET 0
    9000).put .HEAD_OFFSET 0 8192, 1, 7, some 1,
    { cmd0 with opcode := 0x110, args := leBytes 2 0 ++ leBytes 6 0 ++ leBytes 8 4096 ++ leBytes 24 0, buf :=
                  [(0x90000, 20)] }, pair0, 0, 4096, by decide +kernel⟩

theorem wit_PoolReadsAndAppendsFollowTheStream_6 : ∃ (s : State) (qp : Nat) (tag : Nat) (_part : Option Nat) (c :
  QCmd) (p : QPair), s.cmdReady qp tag 0x110 c ∧ s.plainPair qp p ∧ c.abortBy = [] ∧
  c.lengthFault 1 (some 0x1000000) = none ∧ s.bobbinAbsent (fieldAt c.args 0 2) = true :=
  ⟨cmdS { cmd0 with opcode := 0x110, args := leBytes 2 10 ++ leBytes 38 0, buf := [(0x90000, 20)] }, 1, 7, none,
    { cmd0 with opcode := 0x110, args := leBytes 2 10 ++ leBytes 38 0, buf := [(0x90000, 20)] }, pair0,
    by decide +kernel⟩

theorem wit_PoolReadsAndAppendsFollowTheStream_7 : ∃ (s : State) (qp : Nat) (tag : Nat) (b : Nat) (c : QCmd) (p :
  QPair) (r : List Byte), s.cmdReady qp tag 0x111 c ∧ s.plainPair qp p ∧ c.abortBy = [] ∧
  s.appendWaits c = false ∧ c.count = 0 ∧ recordList 0 (c.input.length + 1) c.input = .ok [r] ∧
  b = fieldAt c.args 0 2 ∧ s.bobbinAbsent b = false ∧ s.poolLost = false ∧ s.hostAppends b = true ∧
  s.takes b r.length :=
  ⟨{ poolS with q.cmds := [{ cmd0 with opcode := 0x111, args := leBytes 40 0, input := leBytes 4 3 ++ [1, 2, 3, 0] }]
                  }, 1, 7, 0, { cmd0 with opcode := 0x111, args := leBytes 40 0, input := leBytes 4 3 ++ [1, 2, 3, 0]
                                            }, pair0, [1, 2, 3], by decide +kernel⟩

theorem wit_PoolReadsAndAppendsFollowTheStream_8 : ∃ (s : State) (qp : Nat) (tag : Nat) (b : Nat) (c : QCmd) (r : List
  Byte) (q : List Byte), s.cmdReady qp tag 0x111 c ∧ s.appendWaits c = false ∧ c.count = 0 ∧
  recordList 0 (c.input.length + 1) c.input = .ok [r, q] ∧ b = fieldAt c.args 0 2 ∧
  s.bobbinAbsent b = false ∧ s.poolLost = false ∧ s.hostAppends b = true ∧ s.takes b r.length :=
  ⟨{ poolS with q.cmds := [{ ({ cmd0 with opcode := 0x111, args := leBytes 40 0 } : QCmd)
                               with input := leBytes 4 3 ++ [1, 2, 3, 0] ++ leBytes 4 1 ++ [9] }] }, 1, 7, 0,
    { ({ cmd0 with opcode := 0x111, args := leBytes 40 0 } : QCmd) with input := leBytes 4 3 ++ [1, 2, 3, 0] ++
                                                                          leBytes 4 1 ++ [9] }, [1, 2, 3], [9],
    by decide +kernel⟩

theorem wit_PoolReadsAndAppendsFollowTheStream_9 : ∃ (s : State) (qp : Nat) (tag : Nat) (o : Nat) (_part : Option Nat)
  (c : QCmd) (p : QPair), s.cmdReady qp tag 0x111 c ∧ s.plainPair qp p ∧ c.abortBy = [] ∧
  s.appendWaits c = false ∧ recordList 0 (c.input.length + 1) c.input = .error o :=
  ⟨cmdS { ({ cmd0 with opcode := 0x111, args := leBytes 40 0 } : QCmd) with input := leBytes 4 3 ++ [1, 2, 3, 0] ++
                                                                              leBytes 4 0 }, 1, 7, 8, none,
    { ({ cmd0 with opcode := 0x111, args := leBytes 40 0 } : QCmd) with input := leBytes 4 3 ++ [1, 2, 3, 0] ++
                                                                          leBytes 4 0 }, pair0, by decide +kernel⟩

theorem wit_PoolReadsAndAppendsFollowTheStream_10 : ∃ (s : State) (qp : Nat) (tag : Nat) (_part : Option Nat) (c :
  QCmd) (p : QPair) (l : List (List Byte)), s.cmdReady qp tag 0x111 c ∧ s.plainPair qp p ∧
  c.abortBy = [] ∧ s.appendWaits c = false ∧ recordList 0 (c.input.length + 1) c.input = .ok l ∧
  s.bobbinAbsent (fieldAt c.args 0 2) = false ∧ s.poolLost = false ∧ s.hostAppends (fieldAt c.args 0 2) = false :=
  ⟨(cmdS { cmd0 with opcode := 0x111, args := leBytes 40 0, input := leBytes 4 3 ++ [1, 2, 3, 0] }).put
    .ACTIVE_SIZE_MIB 0 64, 1, 7, none,
    { cmd0 with opcode := 0x111, args := leBytes 40 0, input := leBytes 4 3 ++ [1, 2, 3, 0] }, pair0, [[1, 2, 3]],
    by decide +kernel⟩

theorem wit_EventMarksAndFlushes_1 : ∃ (s : State) (qp : Nat) (tag : Nat) (b : Nat) (start : Nat) (stop : Nat) (c :
  QCmd) (p : QPair), s.cmdReady qp tag 0x112 c ∧ s.plainPair qp p ∧ c.abortBy = [] ∧ s.noDisc ∧
  b = fieldAt c.args 0 2 ∧ s.bobbinBad b = false ∧ start = fieldAt c.args 8 8 ∧
  stop = (if fieldAt c.args 16 8 = 0 then c.fetchTime else fieldAt c.args 16 8) ∧ start ≤ stop ∧
  stop ≤ c.fetchTime ∧ s.poolLost = false ∧ s.on .COMMISSIONED = true ∧ s.lm.marks.length < 4096 :=
  ⟨({ poolS with q.cmds := [{ cmd0 with opcode := 0x112, args := leBytes 2 3 ++ leBytes 2 9 ++ leBytes 4 0 ++ leBytes
                                          8 5 ++ leBytes 8 0 ++ leBytes 16 0, fetchTime := 50 }] }.set .COMMISSIONED
    1).put .ACTIVE_SIZE_MIB 3 8, 1, 7, 3, 5, 50,
    { cmd0 with opcode := 0x112, args := leBytes 2 3 ++ leBytes 2 9 ++ leBytes 4 0 ++ leBytes 8 5 ++ leBytes 8 0 ++
                  leBytes 16 0, fetchTime := 50 }, pair0, by decide +kernel⟩

theorem wit_EventMarksAndFlushes_2 : ∃ (s : State) (qp : Nat) (tag : Nat) (stop : Nat) (c : QCmd) (p : QPair),
  s.cmdReady qp tag 0x112 c ∧ s.plainPair qp p ∧ c.abortBy = [] ∧ s.bobbinBad (fieldAt c.args 0 2) = false ∧
  stop = (if fieldAt c.args 16 8 = 0 then c.fetchTime else fieldAt c.args 16 8) ∧ stop < fieldAt c.args 8 8 :=
  ⟨(cmdS { ({ cmd0 with opcode := 0x112, args := leBytes 2 3 ++ leBytes 2 9 ++ leBytes 4 0 ++ leBytes 8 5 ++ leBytes 8
                          0 ++ leBytes 16 0, fetchTime := 50 } : QCmd) with fetchTime := 4 }).put .ACTIVE_SIZE_MIB 3
    8, 1, 7, 4, { ({ cmd0 with opcode := 0x112, args := leBytes 2 3 ++ leBytes 2 9 ++ leBytes 4 0 ++ leBytes 8 5 ++
                                 leBytes 8 0 ++ leBytes 16 0, fetchTime := 50 } : QCmd) with fetchTime := 4 }, pair0,
    by decide +kernel⟩

theorem wit_EventMarksAndFlushes_3 : ∃ (s : State) (qp : Nat) (tag : Nat) (c : QCmd) (p : QPair), s.cmdReady qp tag
  0x112 c ∧ s.plainPair qp p ∧ c.abortBy = [] ∧ s.bobbinBad (fieldAt c.args 0 2) = false ∧
  fieldAt c.args 8 8 ≤ fieldAt c.args 16 8 ∧ fieldAt c.args 16 8 ≠ 0 ∧ c.fetchTime < fieldAt c.args 16 8 :=
  ⟨cmdS { cmd0 with opcode := 0x112, args := leBytes 2 0xFFFF ++ leBytes 6 0 ++ leBytes 8 5 ++ leBytes 8 9 ++ leBytes
                      16 0, fetchTime := 8 }, 1, 7,
    { cmd0 with opcode := 0x112, args := leBytes 2 0xFFFF ++ leBytes 6 0 ++ leBytes 8 5 ++ leBytes 8 9 ++ leBytes 16
                  0, fetchTime := 8 }, pair0, by decide +kernel⟩

theorem wit_EventMarksAndFlushes_4 : ∃ (s : State) (qp : Nat) (tag : Nat) (c : QCmd) (p : QPair), s.cmdReady qp tag
  0x120 c ∧ s.plainPair qp p ∧ c.abortBy = [] ∧ c.started = false ∧
  s.bobbinBad (fieldAt c.args 0 2) = false ∧ s.discChanging = false ∧ s.flushFault = none ∧
  c.tails.all (fun x => x.2 ≤ s.get .FLUSHED_OFFSET x.1) = true ∧ s.q.cmds = [c] :=
  ⟨{ discS with q := { pairs := [(1, pair0)], cache := [1], cmds :=
                         [{ cmd0 with opcode := 0x120, args := leBytes 2 0 ++ leBytes 38 0, tails := (List.range
                                        10).map fun n => (n, 0) }] } }, 1, 7,
    { cmd0 with opcode := 0x120, args := leBytes 2 0 ++ leBytes 38 0, tails := (List.range 10).map fun n => (n, 0) },
    pair0, by decide +kernel⟩

theorem wit_EventMarksAndFlushes_5 : ∃ (s : State) (qp : Nat) (tag : Nat) (b : Nat) (z : Nat) (c : QCmd) (r : Rec),
  s.cmdReady qp tag 0x120 c ∧ c.started = false ∧ s.running ∧ b = fieldAt c.args 0 2 ∧
  s.bobbinBad b = false ∧ s.discChanging = false ∧ s.flushFault = none ∧ s.q.cmds = [c] ∧ c.tails = [(b, z)] ∧
  s.get .FLUSHED_OFFSET b < z ∧ s.lm.marks = [] ∧ s.recs b = [r] ∧ s.recGood b r = true ∧
  s.get .FLUSHED_OFFSET b ≤ r.off ∧ r.off + r.len = s.get .TAIL_OFFSET b ∧ r.len ≤ clusterBytes ∧
  s.md.headless = [] ∧ (s.chainHead b).isSome = true ∧ s.bu = {} ∧ s.reg .SP_STATE = 0 ∧
  s.on .DISC_TURNING = false ∧ s.burstAllowed = true :=
  ⟨{ discS.writeRec 0 [1, 2, 3] 0 0 0 with q := { pairs := [(1, pair0)], cache := [1], cmds :=
                                                    [{ cmd0 with opcode := 0x120, args := leBytes 40 0, tails := [(0,
                                                                   40)] }] } }, 1, 7, 0, 40,
    { cmd0 with opcode := 0x120, args := leBytes 40 0, tails := [(0, 40)] },
    { off := 0, len := 40, time := 0, seq := 0, flags := 0, source := 0 }, by decide +kernel⟩

theorem wit_EventMarksAndFlushes_6 : ∃ (s : State) (qp : Nat) (tag : Nat) (c : QCmd) (p : QPair), s.cmdReady qp tag
  0x120 c ∧ s.plainPair qp p ∧ c.abortBy = [] ∧ c.started = false ∧
  s.bobbinBad (fieldAt c.args 0 2) = false ∧ s.poolLost = false ∧ s.noDisc ∧ s.md.ejecting = false :=
  ⟨(cmdS { cmd0 with opcode := 0x120, args := leBytes 2 0 ++ leBytes 38 0, tails := (List.range 10).map fun n => (n,
                       0) }).put .ACTIVE_SIZE_MIB 0 8, 1, 7,
    { cmd0 with opcode := 0x120, args := leBytes 2 0 ++ leBytes 38 0, tails := (List.range 10).map fun n => (n, 0) },
    pair0, by decide +kernel⟩

/-! ## The archive, time, tally, counters and the black box as queue commands (06) -/

theorem wit_ArchiveAndCartridgeCommandsServeTheDisc_1 : ∃ (s : State) (qp : Nat) (tag : Nat) (c : QCmd) (p : QPair)
  (es : List DirEntry), s.cmdReady qp tag 0x130 c ∧ s.plainPair qp p ∧ c.abortBy = [] ∧
  c.lengthFault 64 none = none ∧ s.discChanging = false ∧ s.md.mounted = true ∧
  es = (s.md.dir.drop (fieldAt c.args 0 4)).take (c.room / 64) :=
  ⟨{ discS with q := { pairs := [(1, pair0)], cache := [1], cmds :=
                         [{ cmd0 with opcode := 0x130, args := leBytes 40 0, buf := [(0x90000, 100)] }] }, md :=
                  { discS.md with dir := [{ type := 1, flags := 4, stream := 0, firstAca := 0, lastAca := 0, clCount
                                              := 1, blockId := 5, streamOffset := 0, byteCount := 100, selvSeq := 1,
                                              firstTime := 0, lastTime := 0, chainHead := 9 },
                                    { type := 1, flags := 4, stream := 0, firstAca := 0, lastAca := 0, clCount := 1,
                                        blockId := 5, streamOffset := 0, byteCount := 100, selvSeq := 1, firstTime :=
                                        0, lastTime := 0, chainHead := 9 }] } }, 1, 7,
    { cmd0 with opcode := 0x130, args := leBytes 40 0, buf := [(0x90000, 100)] }, pair0,
    [{ type := 1, flags := 4, stream := 0, firstAca := 0, lastAca := 0, clCount := 1, blockId := 5, streamOffset := 0,
         byteCount := 100, selvSeq := 1, firstTime := 0, lastTime := 0, chainHead := 9 }], by decide +kernel⟩

theorem wit_ArchiveAndCartridgeCommandsServeTheDisc_2 : ∃ (s : State) (qp : Nat) (tag : Nat) (a : Nat) (l : Nat) (c :
  QCmd) (p : QPair) (es : List DirEntry), s.cmdReady qp tag 0x130 c ∧ s.plainPair qp p ∧ c.abortBy = [] ∧
  c.buf = [(a, l)] ∧ 64 ≤ l ∧ (a + l ≤ p.cqBase + 16 * p.cqWrite ∨ p.cqBase + 16 * p.cqWrite + 16 ≤ a) ∧
  s.discChanging = false ∧ s.md.mounted = true ∧ es = (s.md.dir.drop (fieldAt c.args 0 4)).take (l / 64) :=
  ⟨{ discS with q := { pairs := [(1, pair0)], cache := [1], cmds :=
                         [{ cmd0 with opcode := 0x130, args := leBytes 40 0, buf := [(0x90000, 100)] }] }, md :=
                  { discS.md with dir := [{ type := 1, flags := 4, stream := 0, firstAca := 0, lastAca := 0, clCount
                                              := 1, blockId := 5, streamOffset := 0, byteCount := 100, selvSeq := 1,
                                              firstTime := 0, lastTime := 0, chainHead := 9 },
                                    { type := 1, flags := 4, stream := 0, firstAca := 0, lastAca := 0, clCount := 1,
                                        blockId := 5, streamOffset := 0, byteCount := 100, selvSeq := 1, firstTime :=
                                        0, lastTime := 0, chainHead := 9 }] } }, 1, 7, 0x90000, 100,
    { cmd0 with opcode := 0x130, args := leBytes 40 0, buf := [(0x90000, 100)] }, pair0,
    [{ type := 1, flags := 4, stream := 0, firstAca := 0, lastAca := 0, clCount := 1, blockId := 5, streamOffset := 0,
         byteCount := 100, selvSeq := 1, firstTime := 0, lastTime := 0, chainHead := 9 }], by decide +kernel⟩

theorem wit_ArchiveAndCartridgeCommandsServeTheDisc_3 : ∃ (s : State) (qp : Nat) (tag : Nat) (c : QCmd) (e :
  DirEntry), s.cmdReady qp tag 0x131 c ∧ c.started = false ∧ s.running ∧ s.discChanging = false ∧
  s.discFault = none ∧ s.md.dir.find? (fun e => e.type == 1 && e.blockId == fieldAt c.args 8 8) = some e ∧
  c.lengthFault (64 + e.clCount * 67584) (some (64 + e.clCount * 67584)) = none ∧
  (c.noWait = false ∨ s.on .DISC_TURNING = true) ∧ s.rd = [] ∧ s.blockAddresses e ≠ [] ∧ s.reg .SV_STATE ≠ 3 :=
  ⟨{ discS with q := { pairs := [(1, pair0)], cache := [1], cmds :=
                         [{ cmd0 with opcode := 0x131, args := leBytes 8 0 ++ leBytes 8 5 ++ leBytes 24 0, buf :=
                                        [(0x90000, 67648)] }] }, md :=
                  { discS.md with dir := [{ type := 1, flags := 4, stream := 0, firstAca := 0, lastAca := 0, clCount
                                              := 1, blockId := 5, streamOffset := 0, byteCount := 100, selvSeq := 1,
                                              firstTime := 0, lastTime := 0, chainHead := 9 }] } }, 1, 7,
    { cmd0 with opcode := 0x131, args := leBytes 8 0 ++ leBytes 8 5 ++ leBytes 24 0, buf := [(0x90000, 67648)] },
    { type := 1, flags := 4, stream := 0, firstAca := 0, lastAca := 0, clCount := 1, blockId := 5, streamOffset := 0,
        byteCount := 100, selvSeq := 1, firstTime := 0, lastTime := 0, chainHead := 9 }, by decide +kernel⟩

theorem wit_ArchiveAndCartridgeCommandsServeTheDisc_4 : ∃ (s : State) (qp : Nat) (tag : Nat) (c : QCmd) (p : QPair) (j
  : ReadJob) (e : DirEntry) (bytes : List Byte), s.cmdReady qp tag 0x131 c ∧ s.plainPair qp p ∧
  c.abortBy = [] ∧ c.started = true ∧ s.rd = [j] ∧ j.qp = qp ∧ j.tag = tag ∧ j.entry = some e ∧
  j.cursor = none ∧ s.md.realloc = none ∧ bytes = dirEntryBytes e ++ (j.parts.zip j.states).flatMap (fun x => if
  x.2.isDone then matrixBytes x.1.addr (s.partCluster x.1) else List.replicate 67584 0) :=
  ⟨{ discS with q := { pairs := [(1, pair0)], cache := [1], cmds :=
                         [{ cmd0 with opcode := 0x131, args := leBytes 8 0 ++ leBytes 8 5 ++ leBytes 24 0, started :=
                                        true, buf := [(0x90000, 67648)] }] }, rd :=
                  [{ qp := 1, tag := 7, entry := some { type := 1, flags := 4, stream := 0, firstAca := 0, lastAca :=
                                                          0, clCount := 1, blockId := 5, streamOffset := 0, byteCount
                                                          := 100, selvSeq := 1, firstTime := 0, lastTime := 0,
                                                          chainHead := 9 }, parts := [], states := [] }] }, 1, 7,
    { cmd0 with opcode := 0x131, args := leBytes 8 0 ++ leBytes 8 5 ++ leBytes 24 0, started := true, buf :=
                  [(0x90000, 67648)] }, pair0,
    { qp := 1, tag := 7, entry := some { type := 1, flags := 4, stream := 0, firstAca := 0, lastAca := 0, clCount :=
                                           1, blockId := 5, streamOffset := 0, byteCount := 100, selvSeq := 1,
                                           firstTime := 0, lastTime := 0, chainHead := 9 }, parts := [], states := []
        }, { type := 1, flags := 4, stream := 0, firstAca := 0, lastAca := 0, clCount := 1, blockId := 5, streamOffset
               := 0, byteCount := 100, selvSeq := 1, firstTime := 0, lastTime := 0, chainHead := 9 }, dirEntryBytes
    { type := 1, flags := 4, stream := 0, firstAca := 0, lastAca := 0, clCount := 1, blockId := 5, streamOffset := 0,
        byteCount := 100, selvSeq := 1, firstTime := 0, lastTime := 0, chainHead := 9 }, by decide +kernel⟩

theorem wit_ArchiveAndCartridgeCommandsServeTheDisc_5 : ∃ (s : State) (qp : Nat) (tag : Nat) (c : QCmd) (p : QPair),
  s.cmdReady qp tag 0x131 c ∧ s.plainPair qp p ∧ c.abortBy = [] ∧ c.started = false ∧
  s.discChanging = false ∧ s.md.dir.find? (fun e => e.type == 1 && e.blockId == fieldAt c.args 8 8) = none :=
  ⟨{ discS with q := { pairs := [(1, pair0)], cache := [1], cmds :=
                         [{ cmd0 with opcode := 0x131, args := leBytes 8 0 ++ leBytes 8 5 ++ leBytes 24 0, buf :=
                                        [(0x90000, 67648)] }] } }, 1, 7,
    { cmd0 with opcode := 0x131, args := leBytes 8 0 ++ leBytes 8 5 ++ leBytes 24 0, buf := [(0x90000, 67648)] },
    pair0, by decide +kernel⟩

theorem wit_ArchiveAndCartridgeCommandsServeTheDisc_6 : ∃ (s : State) (qp : Nat) (tag : Nat) (c : QCmd) (ps : List
  ReadPart), s.cmdReady qp tag 0x132 c ∧ c.started = false ∧ s.running ∧
  c.lengthFault 1 (some 0x1000000) = none ∧ s.discChanging = false ∧ s.discFault = none ∧
  s.bobbinAbsent (fieldAt c.args 0 2) = false ∧ ps = s.readPlan (fieldAt c.args 0 2) (fieldAt c.args 8 8) (fieldAt
  c.args 8 8 + min c.room 0x1000000) (s.md.dir.length + 1) ∧ ps ≠ [] ∧
  (c.noWait = false ∨ s.on .DISC_TURNING = true) ∧ s.rd = [] ∧ s.reg .SV_STATE ≠ 3 :=
  ⟨{ discS with q := { pairs := [(1, pair0)], cache := [1], cmds :=
                         [{ cmd0 with opcode := 0x132, args := leBytes 40 0, buf := [(0x90000, 20)] }] }, md :=
                  { discS.md with dir := [{ type := 1, flags := 4, stream := 0, firstAca := 0, lastAca := 0, clCount
                                              := 1, blockId := 5, streamOffset := 0, byteCount := 100, selvSeq := 1,
                                              firstTime := 0, lastTime := 0, chainHead := 9 }] } }, 1, 7,
    { cmd0 with opcode := 0x132, args := leBytes 40 0, buf := [(0x90000, 20)] },
    [{ block := 5, home := 0, addr := 0, index := 0, from' := 0, len := 20 }], by decide +kernel⟩

theorem wit_ArchiveAndCartridgeCommandsServeTheDisc_7 : ∃ (s : State) (qp : Nat) (tag : Nat) (c : QCmd) (p : QPair) (j
  : ReadJob) (ps : List (ReadPart × PartState)) (bytes : List Byte), s.cmdReady qp tag 0x132 c ∧
  s.plainPair qp p ∧ c.abortBy = [] ∧ c.started = true ∧ s.rd = [j] ∧ j.qp = qp ∧ j.tag = tag ∧
  j.entry = none ∧ j.cursor = none ∧ s.md.realloc = none ∧ ps = (j.parts.zip j.states).takeWhile (fun x => x.2.isDone)
  ∧ bytes = ps.flatMap (fun x => bytesAt (bodyBytes (s.partCluster x.1).body) x.1.from' x.1.len) :=
  ⟨{ discS with q := { pairs := [(1, pair0)], cache := [1], cmds :=
                         [{ cmd0 with opcode := 0x132, args := leBytes 40 0, buf := [(0x90000, 20)], started := true
                                        }] }, rd :=
                  [{ qp := 1, tag := 7, parts := [{ block := 5, home := 0, addr := 0, index := 0, from' := 0, len :=
                                                      20 }], states := [.lost] }] }, 1, 7,
    { cmd0 with opcode := 0x132, args := leBytes 40 0, buf := [(0x90000, 20)], started := true }, pair0,
    { qp := 1, tag := 7, parts := [{ block := 5, home := 0, addr := 0, index := 0, from' := 0, len := 20 }], states :=
        [.lost] }, [], [], by decide +kernel⟩

theorem wit_ArchiveAndCartridgeCommandsServeTheDisc_8 : ∃ (s : State) (qp : Nat) (tag : Nat) (c : QCmd) (p : QPair),
  s.cmdReady qp tag 0x132 c ∧ s.plainPair qp p ∧ c.abortBy = [] ∧ c.started = false ∧
  c.lengthFault 1 (some 0x1000000) = none ∧ s.bobbinAbsent (fieldAt c.args 0 2) = false ∧ s.noDisc ∧
  s.md.ejecting = false :=
  ⟨(cmdS { cmd0 with opcode := 0x132, args := leBytes 40 0, buf := [(0x90000, 20)] }).put .ACTIVE_SIZE_MIB 0 8, 1, 7,
    { cmd0 with opcode := 0x132, args := leBytes 40 0, buf := [(0x90000, 20)] }, pair0, by decide +kernel⟩

theorem wit_ArchiveAndCartridgeCommandsServeTheDisc_9 : ∃ (s : State) (qp : Nat) (tag : Nat) (c : QCmd) (p : QPair),
  s.cmdReady qp tag 0x130 c ∧ s.plainPair qp p ∧ c.abortBy = [] ∧ c.lengthFault 64 none = none ∧
  s.noDisc ∧ s.md.ejecting = false :=
  ⟨cmdS { cmd0 with opcode := 0x130, args := leBytes 40 0, buf := [(0x90000, 100)] }, 1, 7,
    { cmd0 with opcode := 0x130, args := leBytes 40 0, buf := [(0x90000, 100)] }, pair0, by decide +kernel⟩

theorem wit_ArchiveAndCartridgeCommandsServeTheDisc_10 : ∃ (s : State) (qp : Nat) (tag : Nat) (c : QCmd), s.cmdReady
  qp tag 0x133 c ∧ s.running ∧ c.started = false ∧ fieldAt c.args 0 1 = 0 ∧ s.reg .LD_STATE = 2 ∧
  s.md.ejecting = false ∧ s.md.mounting = false ∧ s.md.session = none ∧ s.bu.active = false ∧
  s.bu.turning = false ∧ s.bu.block = none ∧ s.bu.redo = none ∧ s.readsWaiting = false ∧ s.loaderFree = true :=
  ⟨{ discS with q := { pairs := [(1, pair0)], cache := [1], cmds :=
                         [{ cmd0 with opcode := 0x133, args := leBytes 40 0 }] } }, 1, 7,
    { cmd0 with opcode := 0x133, args := leBytes 40 0 }, by decide +kernel⟩

theorem wit_ArchiveAndCartridgeCommandsServeTheDisc_11 : ∃ (s : State) (qp : Nat) (tag : Nat) (c : QCmd), s.cmdReady
  qp tag 0x133 c ∧ s.running ∧ c.started = false ∧ fieldAt c.args 0 1 = 1 ∧
  (s.reg .LD_STATE = 0 ∨ s.reg .LD_STATE = 4) ∧ s.md.ejecting = false ∧ s.loaderFree = true :=
  ⟨cmdS { cmd0 with opcode := 0x133, args := leBytes 1 1 ++ leBytes 39 0 }, 1, 7,
    { cmd0 with opcode := 0x133, args := leBytes 1 1 ++ leBytes 39 0 }, by decide +kernel⟩

theorem wit_ArchiveAndCartridgeCommandsServeTheDisc_12 : ∃ (s : State) (qp : Nat) (tag : Nat) (c : QCmd) (p : QPair),
  s.cmdReady qp tag 0x133 c ∧ s.plainPair qp p ∧ c.abortBy = [] ∧ c.started = false ∧ fieldAt c.args 0 1 = 0 ∧
  s.reg .LD_STATE = 0 :=
  ⟨cmdS { cmd0 with opcode := 0x133, args := leBytes 40 0 }, 1, 7,
    { cmd0 with opcode := 0x133, args := leBytes 40 0 }, pair0, by decide +kernel⟩

theorem wit_ArchiveAndCartridgeCommandsServeTheDisc_13 : ∃ (s : State) (qp : Nat) (tag : Nat) (c : QCmd) (p : QPair),
  s.cmdReady qp tag 0x133 c ∧ s.plainPair qp p ∧ c.abortBy = [] ∧ c.started = false ∧ fieldAt c.args 0 1 = 1 ∧
  s.reg .LD_STATE = 2 ∧ s.md.mounted = true ∧ s.md.mounting = false ∧ s.md.ejecting = false :=
  ⟨{ discS with q := { pairs := [(1, pair0)], cache := [1], cmds :=
                         [{ cmd0 with opcode := 0x133, args := leBytes 1 1 ++ leBytes 39 0 }] } }, 1, 7,
    { cmd0 with opcode := 0x133, args := leBytes 1 1 ++ leBytes 39 0 }, pair0, by decide +kernel⟩

theorem wit_TimeIsSetAndRead_1 : ∃ (s : State) (qp : Nat) (tag : Nat) (c : QCmd) (p : QPair), s.cmdReady qp tag 0x140
  c ∧ s.plainPair qp p ∧ c.abortBy = [] ∧ s.noDisc ∧ s.on .TIME_UNSET = true ∧ s.reg .TIME_STATE ≠ 2 ∧
  s.reg .TIME_STATE ≠ 3 :=
  ⟨{ poolS with q.cmds := [{ cmd0 with opcode := 0x140, args := leBytes 8 0x123456789 ++ leBytes 32 0 }] }.set
    .TIME_UNSET 1, 1, 7, { cmd0 with opcode := 0x140, args := leBytes 8 0x123456789 ++ leBytes 32 0 }, pair0,
    by decide +kernel⟩

theorem wit_TimeIsSetAndRead_2 : ∃ (s : State) (qp : Nat) (tag : Nat) (c : QCmd) (p : QPair), s.cmdReady qp tag 0x140
  c ∧ s.plainPair qp p ∧ c.abortBy = [] ∧ s.noDisc ∧ s.on .TIME_UNSET = false ∧ s.reg .TIME_STATE ≠ 2 ∧
  s.reg .TIME_STATE ≠ 3 ∧ bit (fieldAt c.args 8 1) 0 = true ∧ s.now < fieldAt c.args 0 8 :=
  ⟨{ poolS with q.cmds := [{ cmd0 with opcode := 0x140, args := leBytes 8 0x123456789 ++ leBytes 32 1 }] }.set
    .TIME_UNSET 0, 1, 7, { cmd0 with opcode := 0x140, args := leBytes 8 0x123456789 ++ leBytes 32 1 }, pair0,
    by decide +kernel⟩

theorem wit_TimeIsSetAndRead_3 : ∃ (s : State) (qp : Nat) (tag : Nat) (c : QCmd) (p : QPair), s.cmdReady qp tag 0x140
  c ∧ s.plainPair qp p ∧ c.abortBy = [] ∧ (s.reg .TIME_STATE = 2 ∨ s.reg .TIME_STATE = 3 ∨ s.on .TIME_UNSET = false ∧
  (bit (fieldAt c.args 8 1) 0 = false ∨ fieldAt c.args 0 8 ≤ s.now)) :=
  ⟨(cmdS { cmd0 with opcode := 0x140, args := leBytes 8 0x123456789 ++ leBytes 32 0 }).set .TIME_STATE 2, 1, 7,
    { cmd0 with opcode := 0x140, args := leBytes 8 0x123456789 ++ leBytes 32 0 }, pair0, by decide +kernel⟩

theorem wit_TimeIsSetAndRead_4 : ∃ (s : State) (qp : Nat) (tag : Nat) (c : QCmd) (p : QPair), s.cmdReady qp tag 0x141
  c ∧ s.plainPair qp p ∧ c.abortBy = [] :=
  ⟨{ cmdS { cmd0 with opcode := 0x141, args := leBytes 40 0 } with time := 99 }, 1, 7,
    { cmd0 with opcode := 0x141, args := leBytes 40 0 }, pair0, by decide +kernel⟩

theorem wit_LogsAndBeadsAreRead_1 : ∃ (s : State) (qp : Nat) (tag : Nat) (n : Nat) (c : QCmd) (p : QPair) (rs : List
  (List Byte)), s.cmdReady qp tag 0x150 c ∧ s.plainPair qp p ∧ c.abortBy = [] ∧
  c.lengthFault 32 none = none ∧ s.poolLost = false ∧ rs = (s.tallies.filter (fun r => decide (fieldAt c.args 0 4 ≤
  fieldAt r 0 4))).take (c.room / 32) ∧ (s.tallies.map (fun r => fieldAt r 0 4)).getLast? = some n :=
  ⟨{ ((poolS.put .ACTIVE_SIZE_MIB 8 4).put .BB_BASE 8 0x8000000).writeRec 8 (leBytes 32 5) 0 0 0
       with q.cmds := [{ cmd0 with opcode := 0x150, args := leBytes 40 0, buf := [(0x90000, 32)] }] }, 1, 7, 5,
    { cmd0 with opcode := 0x150, args := leBytes 40 0, buf := [(0x90000, 32)] }, pair0, [leBytes 32 5],
    by decide +kernel⟩

theorem wit_LogsAndBeadsAreRead_2 : ∃ (s : State) (qp : Nat) (tag : Nat) (a : Nat) (l : Nat) (c : QCmd) (p : QPair)
  (rs : List (List Byte)), s.cmdReady qp tag 0x150 c ∧ s.plainPair qp p ∧ c.abortBy = [] ∧ c.buf = [(a, l)] ∧
  32 ≤ l ∧ (a + l ≤ p.cqBase + 16 * p.cqWrite ∨ p.cqBase + 16 * p.cqWrite + 16 ≤ a) ∧ s.poolLost = false ∧
  rs = (s.tallies.filter (fun r => decide (fieldAt c.args 0 4 ≤ fieldAt r 0 4))).take (l / 32) :=
  ⟨cmdS { cmd0 with opcode := 0x150, args := leBytes 40 0, buf := [(0x90000, 32)] }, 1, 7, 0x90000, 32,
    { cmd0 with opcode := 0x150, args := leBytes 40 0, buf := [(0x90000, 32)] }, pair0, [], by decide +kernel⟩

theorem wit_LogsAndBeadsAreRead_3 : ∃ (s : State) (qp : Nat) (tag : Nat) (n : Nat) (c : QCmd) (p : QPair) (rs : List
  BbRecord), s.cmdReady qp tag 0x170 c ∧ s.plainPair qp p ∧ c.abortBy = [] ∧ c.lengthFault 64 none = none ∧
  rs = (s.bbList (fieldAt c.args 0 4)).take (c.room / 64) ∧ ((s.bbList 0).map (·.seq)).getLast? = some n :=
  ⟨({ cmdS { cmd0 with opcode := 0x170, args := leBytes 40 0, buf := [(0x90000, 128)] }
        with bb := { bank0 := [(64, { seq := 0, time := 5, code := 9, source := 10, sev := 0, flags := 0, boot := 0,
                                        data := 7 }), (65,
                       { seq := 1, time := 5, code := 9, source := 10, sev := 0, flags := 0, boot := 0, data := 7 })]
                       } }).set .BB_NEXT_SEQ 2, 1, 7, 1,
    { cmd0 with opcode := 0x170, args := leBytes 40 0, buf := [(0x90000, 128)] }, pair0,
    [{ seq := 0, time := 5, code := 9, source := 10, sev := 0, flags := 0, boot := 0, data := 7 },
    { seq := 1, time := 5, code := 9, source := 10, sev := 0, flags := 0, boot := 0, data := 7 }], by decide +kernel⟩

theorem wit_LogsAndBeadsAreRead_4 : ∃ (s : State) (qp : Nat) (tag : Nat) (a : Nat) (l : Nat) (c : QCmd) (p : QPair)
  (rs : List BbRecord), s.cmdReady qp tag 0x170 c ∧ s.plainPair qp p ∧ c.abortBy = [] ∧ c.buf = [(a, l)] ∧ 64 ≤ l ∧
  (a + l ≤ p.cqBase + 16 * p.cqWrite ∨ p.cqBase + 16 * p.cqWrite + 16 ≤ a) ∧
  rs = (s.bbList (fieldAt c.args 0 4)).take (l / 64) :=
  ⟨cmdS { cmd0 with opcode := 0x170, args := leBytes 40 0, buf := [(0x90000, 128)] }, 1, 7, 0x90000, 128,
    { cmd0 with opcode := 0x170, args := leBytes 40 0, buf := [(0x90000, 128)] }, pair0, [], by decide +kernel⟩

theorem wit_LogsAndBeadsAreRead_5 : ∃ (s : State) (qp : Nat) (tag : Nat) (c : QCmd) (p : QPair) (i : Nat), s.cmdReady
  qp tag 0x160 c ∧ s.plainPair qp p ∧ c.abortBy = [] ∧ cntFault c.args = none ∧ i = fieldAt c.args 0 1 :=
  ⟨cmdS { cmd0 with opcode := 0x160, args := [3, 2, 1, 1] ++ leBytes 36 0 }, 1, 7,
    { cmd0 with opcode := 0x160, args := [3, 2, 1, 1] ++ leBytes 36 0 }, pair0, 3, by decide +kernel⟩

theorem wit_LogsAndBeadsAreRead_6 : ∃ (s : State) (qp : Nat) (tag : Nat) (c : QCmd) (p : QPair) (o : Nat), s.cmdReady
  qp tag 0x160 c ∧ s.plainPair qp p ∧ c.abortBy = [] ∧ cntFault c.args = some o :=
  ⟨cmdS { cmd0 with opcode := 0x160, args := [32] ++ leBytes 39 0 }, 1, 7,
    { cmd0 with opcode := 0x160, args := [32] ++ leBytes 39 0 }, pair0, 0, by decide +kernel⟩

theorem wit_LogsAndBeadsAreRead_7 : ∃ (s : State) (qp : Nat) (tag : Nat) (c : QCmd) (p : QPair), s.cmdReady qp tag
  0x161 c ∧ s.plainPair qp p ∧ c.abortBy = [] ∧ c.lengthFault 256 (some 256) = none ∧ s.coarse = false :=
  ⟨{ (cmdS { cmd0 with opcode := 0x161, args := [1] ++ leBytes 39 0, buf := [(0x90000, 256)] }).put .BEAD_VALUE 2 77
       with time := 9 }, 1, 7, { cmd0 with opcode := 0x161, args := [1] ++ leBytes 39 0, buf := [(0x90000, 256)] },
    pair0, by decide +kernel⟩

/-! ## Firmware, commissioning and keys (06, 15, 19) -/

theorem wit_FirmwareIsStagedAndActivated_1 : ∃ (s : State) (qp : Nat) (tag : Nat) (c : QCmd) (p : QPair) (k : Nat),
  s.cmdReady qp tag 0x180 c ∧ s.plainPair qp p ∧ c.abortBy = [] ∧ s.stagesNow c ∧ k = fieldAt c.args 0 1 ∧ k ≤ 1 ∧
  k ≠ s.reg .RUN_SLOT ∧ fieldAt c.args 4 4 = 0 ∧ c.input.length = 4096 ∧ s.bo.slots.length = 2 :=
  ⟨cmdS stage0, 1, 7, stage0, pair0, 1, ⟨rfl, by decide +kernel⟩, by decide +kernel, by decide +kernel, by decide +kernel,
    by decide +kernel, by decide +kernel, by decide +kernel, by decide +kernel, List.length_replicate,
    by decide +kernel⟩

theorem wit_FirmwareIsStagedAndActivated_2 : ∃ (s : State) (qp : Nat) (tag : Nat) (c : QCmd) (p : QPair) (k : Nat) (i
  : Nat), s.cmdReady qp tag 0x180 c ∧ s.plainPair qp p ∧ c.abortBy = [] ∧ s.stagesNow c ∧ k = fieldAt c.args 0 1 ∧
  k ≤ 1 ∧ k ≠ s.reg .RUN_SLOT ∧ i = fieldAt c.args 4 4 ∧ 1 ≤ i ∧ i = s.staged k ∧
  s.slotComplete k = false ∧ s.chunkLengthOk k i c.input.length = true :=
  ⟨(cmdS { cmd0 with opcode := 0x180, args := leBytes 1 1 ++ leBytes 3 0 ++ leBytes 4 1 ++ leBytes 32 0, input :=
                       List.replicate 5 0 }).set .STAGED_B 1, 1, 7,
    { cmd0 with opcode := 0x180, args := leBytes 1 1 ++ leBytes 3 0 ++ leBytes 4 1 ++ leBytes 32 0, input :=
                  List.replicate 5 0 }, pair0, 1, 1, by decide +kernel⟩

theorem wit_FirmwareIsStagedAndActivated_3 : ∃ (s : State) (qp : Nat) (tag : Nat) (c : QCmd) (p : QPair), s.cmdReady
  qp tag 0x180 c ∧ s.plainPair qp p ∧ c.abortBy = [] ∧ s.stagesNow c ∧ fieldAt c.args 4 4 = 0 ∧
  c.input.length = 4096 ∧ fieldAt c.args 0 1 ≤ 1 ∧ fieldAt c.args 0 1 = s.reg .RUN_SLOT :=
  ⟨(cmdS stage0).set .RUN_SLOT 1, 1, 7, stage0, pair0, ⟨rfl, by decide +kernel⟩, by decide +kernel, by decide +kernel,
    by decide +kernel, by decide +kernel, List.length_replicate, by decide +kernel, by decide +kernel⟩

theorem wit_FirmwareIsStagedAndActivated_4 : ∃ (s : State) (qp : Nat) (tag : Nat) (c : QCmd) (p : QPair) (n : Nat),
  s.cmdReady qp tag 0x180 c ∧ s.plainPair qp p ∧ c.abortBy = [] ∧ s.stagesNow c ∧ fieldAt c.args 0 1 ≤ 1 ∧
  fieldAt c.args 0 1 ≠ s.reg .RUN_SLOT ∧ s.chunkLengthOk (fieldAt c.args 0 1) (fieldAt c.args 4 4) c.input.length =
  true ∧ n = s.staged (fieldAt c.args 0 1) ∧ n < 2 ^ 32 ∧ fieldAt c.args 4 4 ≠ 0 ∧ fieldAt c.args 4 4 ≠ n :=
  ⟨(cmdS { cmd0 with opcode := 0x180, args := leBytes 1 1 ++ leBytes 3 0 ++ leBytes 4 1 ++ leBytes 32 0, input :=
                       List.replicate 5 0 }).set .STAGED_B 0, 1, 7,
    { cmd0 with opcode := 0x180, args := leBytes 1 1 ++ leBytes 3 0 ++ leBytes 4 1 ++ leBytes 32 0, input :=
                  List.replicate 5 0 }, pair0, 0, by decide +kernel⟩

theorem wit_FirmwareIsStagedAndActivated_5 : ∃ (s : State) (qp : Nat) (tag : Nat) (c : QCmd) (p : QPair), s.cmdReady
  qp tag 0x180 c ∧ s.plainPair qp p ∧ c.abortBy = [] ∧ s.stagesNow c ∧ 1 < fieldAt c.args 0 1 ∧
  s.chunkLengthOk (fieldAt c.args 0 1) (fieldAt c.args 4 4) c.input.length = true :=
  ⟨cmdS { cmd0 with opcode := 0x180, args := leBytes 1 2 ++ leBytes 3 0 ++ leBytes 4 1 ++ leBytes 32 0, input := [0]
                      }, 1, 7, { cmd0 with opcode := 0x180, args := leBytes 1 2 ++ leBytes 3 0 ++ leBytes 4 1 ++
                                             leBytes 32 0, input := [0] }, pair0, by decide +kernel⟩

theorem wit_FirmwareIsStagedAndActivated_6 : ∃ (s : State) (qp : Nat) (tag : Nat) (c : QCmd) (p : QPair), s.cmdReady
  qp tag 0x180 c ∧ s.plainPair qp p ∧ c.abortBy = [] ∧ s.stagesNow c ∧
  s.chunkLengthOk (fieldAt c.args 0 1) (fieldAt c.args 4 4) c.input.length = false :=
  ⟨cmdS { cmd0 with opcode := 0x180, args := leBytes 1 1 ++ leBytes 39 0, input := List.replicate 7 0 }, 1, 7,
    { cmd0 with opcode := 0x180, args := leBytes 1 1 ++ leBytes 39 0, input := List.replicate 7 0 }, pair0,
    by decide +kernel⟩

theorem wit_FirmwareIsStagedAndActivated_7 : ∃ (s : State) (n : Nat) (c : MbCopy) (k : Nat), s.mbxReady n 0x40 c ∧
  s.activatesNow c ∧ k = fieldAt c.args 0 1 ∧ k ≤ 1 ∧ s.slotComplete k = true :=
  ⟨mb 2 { busy := true, copy := some { copy0 with opcode := 0x40, args := [1] } } (runS.set .B_COMPLETE 1), 2,
    { copy0 with opcode := 0x40, args := [1] }, 1, by decide +kernel⟩

theorem wit_FirmwareIsStagedAndActivated_8 : ∃ (s : State) (n : Nat) (c : MbCopy), s.mbxReady n 0x40 c ∧
  s.activatesNow c ∧ fieldAt c.args 0 1 ≤ 1 ∧ s.slotComplete (fieldAt c.args 0 1) = false :=
  ⟨mb 2 { busy := true, copy := some { copy0 with opcode := 0x40, args := [1] } } (runS), 2,
    { copy0 with opcode := 0x40, args := [1] }, by decide +kernel⟩

theorem wit_FirmwareIsStagedAndActivated_9 : ∃ (s : State) (n : Nat) (c : MbCopy), s.mbxReady n 0x40 c ∧
  s.activatesNow c ∧ 1 < fieldAt c.args 0 1 :=
  ⟨mb 2 { busy := true, copy := some { copy0 with opcode := 0x40, args := [2] } } (runS), 2,
    { copy0 with opcode := 0x40, args := [2] }, by decide +kernel⟩

theorem wit_KeysAreMadeOnceAndKeptInside_1 : ∃ (s : State) (n : Nat) (c : MbCopy), s.mbxReady n 0x50 c ∧
  s.on .COMMISSIONED = false ∧ s.reg .ENTROPY_STATE = 1 :=
  ⟨mb 2 { busy := true, copy := some { copy0 with opcode := 0x50 } } (runS.set .ENTROPY_STATE 1), 2,
    { copy0 with opcode := 0x50 }, by decide +kernel⟩

theorem wit_KeysAreMadeOnceAndKeptInside_2 : ∃ (s : State) (n : Nat) (c : MbCopy), s.mbxReady n 0x50 c ∧
  s.on .COMMISSIONED = true :=
  ⟨mb 2 { busy := true, copy := some { copy0 with opcode := 0x50 } } (runS.set .COMMISSIONED 1), 2,
    { copy0 with opcode := 0x50 }, by decide +kernel⟩

theorem wit_KeysAreMadeOnceAndKeptInside_3 : ∃ (s : State) (n : Nat) (c : MbCopy), s.mbxReady n 0x51 c :=
  ⟨mb 2 { busy := true, copy := some { copy0 with opcode := 0x51 } } (runS.set .COMMISSIONED 1), 2,
    { copy0 with opcode := 0x51 }, by decide +kernel⟩

theorem wit_KeysAreMadeOnceAndKeptInside_4 : ∃ (s : State) (n : Nat) (c : MbCopy) (b : Nat), s.mbxReady n 0x52 c ∧
  fieldAt c.args 2 1 = 0 ∧ b = fieldAt c.args 0 2 ∧ s.bobbinAbsent b = false :=
  ⟨(mb 2 { busy := true, copy := some { copy0 with opcode := 0x52, args := [0] } }
    ({ poolS with sec.streamKeys := [(0, 5), (4, 6)] })).set .ENC_MASK 0x11, 2,
    { copy0 with opcode := 0x52, args := [0] }, 0, by decide +kernel⟩

theorem wit_KeysAreMadeOnceAndKeptInside_5 : ∃ (s : State) (n : Nat) (c : MbCopy) (b : Nat), s.mbxReady n 0x52 c ∧
  fieldAt c.args 2 1 = 1 ∧ c.dlen = 32 ∧ b = fieldAt c.args 0 2 ∧ s.bobbinAbsent b = false ∧
  s.get .KEY_EPOCH b < 0xFFFFFFFE :=
  ⟨mb 2 { busy := true, copy := some { copy0 with opcode := 0x52, dlen := 32, args := [0, 0, 1] } } (poolS), 2,
    { copy0 with opcode := 0x52, dlen := 32, args := [0, 0, 1] }, 0, by decide +kernel⟩

theorem wit_KeysAreMadeOnceAndKeptInside_6 : ∃ (s : State) (n : Nat) (c : MbCopy) (b : Nat), s.mbxReady n 0x52 c ∧
  fieldAt c.args 2 1 = 2 ∧ b = fieldAt c.args 0 2 ∧ s.bobbinAbsent b = false ∧ s.get .KEY_EPOCH b < 0xFFFFFFFE ∧
  s.reg .ENTROPY_STATE = 1 :=
  ⟨mb 2 { busy := true, copy := some { copy0 with opcode := 0x52, args := [0, 0, 2] } } (poolS.set .ENTROPY_STATE 1),
    2, { copy0 with opcode := 0x52, args := [0, 0, 2] }, 0, by decide +kernel⟩

theorem wit_KeysAreMadeOnceAndKeptInside_7 : ∃ (s : State) (n : Nat) (c : MbCopy) (b : Nat), s.mbxReady n 0x52 c ∧
  b = fieldAt c.args 0 2 ∧ s.bobbinAbsent b = true :=
  ⟨mb 2 { busy := true, copy := some { copy0 with opcode := 0x52, args := [4, 0, 2] } } (poolS), 2,
    { copy0 with opcode := 0x52, args := [4, 0, 2] }, 4, by decide +kernel⟩

theorem wit_KeysAreMadeOnceAndKeptInside_8 : ∃ (s : State) (n : Nat) (c : MbCopy), s.mbxReady n 0x52 c ∧
  fieldAt c.args 2 1 = 1 ∧ c.dlen ≠ 32 :=
  ⟨mb 2 { busy := true, copy := some { copy0 with opcode := 0x52, dlen := 31, args := [0, 0, 1] } } (poolS), 2,
    { copy0 with opcode := 0x52, dlen := 31, args := [0, 0, 1] }, by decide +kernel⟩

theorem wit_KeysAreMadeOnceAndKeptInside_9 : ∃ (s : State) (n : Nat) (c : MbCopy) (b : Nat), s.mbxReady n 0x52 c ∧
  b = fieldAt c.args 0 2 ∧ s.bobbinAbsent b = false ∧ 0xFFFFFFFE ≤ s.get .KEY_EPOCH b ∧ fieldAt c.args 2 1 = 2 :=
  ⟨mb 2 { busy := true, copy := some { copy0 with opcode := 0x52, args := [0, 0, 2] } } (poolS.put .KEY_EPOCH 0
    0xFFFFFFFE), 2, { copy0 with opcode := 0x52, args := [0, 0, 2] }, 0, by decide +kernel⟩

/-! ## Power states, wakes, power failure and clocks (03, 06, 20) -/

theorem wit_PowerCommandsMoveBetweenStates_1 : ∃ (s : State) (n : Nat) (c : MbCopy), s.mbxReady n 0x20 c ∧
  fieldAt c.args 0 1 = 0 :=
  ⟨mb 2 { busy := true, copy := some { copy0 with opcode := 0x20, args := [0] } }
    ({ runS with pw := { runS.pw with mode := .doze } }), 2, { copy0 with opcode := 0x20, args := [0] },
    by decide +kernel⟩

theorem wit_PowerCommandsMoveBetweenStates_2 : ∃ (s : State) (n : Nat) (c : MbCopy), s.mbxReady n 0x20 c ∧
  fieldAt c.args 0 1 = 4 :=
  ⟨mb 2 { busy := true, copy := some { copy0 with opcode := 0x20, args := [4] } } ({ runS with pw.hold := true }), 2,
    { copy0 with opcode := 0x20, args := [4] }, by decide +kernel⟩

theorem wit_PowerCommandsMoveBetweenStates_3 : ∃ (s : State) (n : Nat) (c : MbCopy), s.mbxReady n 0x20 c ∧
  fieldAt c.args 0 1 = 1 ∧ s.pw.entry = none ∧ s.powerRefused 1 = false ∧ s.dozeReady = true :=
  ⟨mb 2 { busy := true, copy := some { copy0 with opcode := 0x20, args := [1] } } (runS.set .DEEPEST_STATE 1), 2,
    { copy0 with opcode := 0x20, args := [1] }, by decide +kernel⟩

theorem wit_PowerCommandsMoveBetweenStates_4 : ∃ (s : State) (n : Nat) (c : MbCopy), s.mbxReady n 0x20 c ∧
  fieldAt c.args 0 1 = 2 ∧ s.pw.mode = .doze ∧ s.pw.entry = none ∧ s.powerRefused 2 = false ∧ s.pw.pfail = none :=
  ⟨mb 2 { busy := true, copy := some { copy0 with opcode := 0x20, args := [2] } }
    (({ runS with pw := { runS.pw with mode := .doze } }).set .DEEPEST_STATE 3), 2,
    { copy0 with opcode := 0x20, args := [2] }, by decide +kernel⟩

theorem wit_PowerCommandsMoveBetweenStates_5 : ∃ (s : State) (n : Nat) (c : MbCopy), s.mbxReady n 0x20 c ∧
  fieldAt c.args 0 1 = 3 ∧ s.pw.mode = .doze ∧ s.pw.entry = none ∧ s.powerRefused 3 = false ∧
  s.pw.pfail = none ∧ s.hibBarred = false ∧ (s.staysNap = false ∨ bit c.flags 1 = true) ∧ s.pendingBytes = 0 :=
  ⟨mb 2 { busy := true, copy := some { copy0 with opcode := 0x20, args := [3], flags := 2 } }
    ((({ runS with pw := { runS.pw with mode := .doze } }).set .DEEPEST_STATE 3).set .HIB_ALLOW 1), 2,
    { copy0 with opcode := 0x20, args := [3], flags := 2 }, by decide +kernel⟩

theorem wit_PowerCommandsMoveBetweenStates_6 : ∃ (s : State) (n : Nat) (c : MbCopy) (e : Entry), s.mbxReady n 0x20 c ∧
  fieldAt c.args 0 1 = 3 ∧ s.pw.mode = .doze ∧ s.pw.waking = none ∧ s.pw.entry = some e ∧ e.cmd = some n ∧
  e.answered = none :=
  ⟨mb 2 { busy := true, copy := some { copy0 with opcode := 0x20, args := [3] } }
    ({ { runS with pw := { runS.pw with mode := .doze } } with pw.entry := some { target := .hibernate, cmd := some 2
                                                                                    } }), 2,
    { copy0 with opcode := 0x20, args := [3] }, { target := .hibernate, cmd := some 2 }, by decide +kernel⟩

theorem wit_PowerCommandsMoveBetweenStates_7 : ∃ (s : State) (n : Nat) (c : MbCopy), s.mbxReady n 0x20 c ∧
  fieldAt c.args 0 1 = 2 ∧ s.pw.entry = none ∧ s.powerRefused 2 = false ∧ s.pw.pfail = none ∧ s.dozeReady = true :=
  ⟨mb 2 { busy := true, copy := some { copy0 with opcode := 0x20, args := [2] } } (runS.set .DEEPEST_STATE 3), 2,
    { copy0 with opcode := 0x20, args := [2] }, by decide +kernel⟩

theorem wit_PowerCommandsMoveBetweenStates_8 : ∃ (s : State) (n : Nat) (c : MbCopy), s.mbxReady n 0x20 c ∧
  s.pw.entry = none :=
  ⟨mb 2 { busy := true, copy := some { copy0 with opcode := 0x20, args := [3] } } (runS), 2,
    { copy0 with opcode := 0x20, args := [3] }, by decide +kernel⟩

theorem wit_PowerCommandsMoveBetweenStates_9 : ∃ (s : State) (n : Nat) (c : MbCopy), s.mbxReady n 0x20 c ∧
  fieldAt c.args 0 1 = 1 ∧ s.pw.entry = none ∧ (s.pw.hold = true ∨ s.reg .DEEPEST_STATE < 1) :=
  ⟨mb 2 { busy := true, copy := some { copy0 with opcode := 0x20, args := [1] } } ({ runS with pw.hold := true }), 2,
    { copy0 with opcode := 0x20, args := [1] }, by decide +kernel⟩

theorem wit_IdleTimersAndCommitPointsLowerTheState_1 : ∃ (s : State), s.idleMay 1 = true ∧ s.dozeReady = true ∧
  0 < s.reg .DOZE_IDLE_MS ∧ max s.pw.idleFrom s.sp.restAt + 1000 * s.reg .DOZE_IDLE_MS ≤ s.clock :=
  ⟨{ (runS.set .DEEPEST_STATE 3).set .DOZE_IDLE_MS 2 with clock := 2000 }, by decide +kernel⟩

theorem wit_IdleTimersAndCommitPointsLowerTheState_2 : ∃ (s : State), s.idleMay 2 = true ∧ s.pw.mode = .doze ∧
  0 < s.reg .NAP_IDLE_S ∧ s.pw.idleFrom + 1000000 * s.reg .NAP_IDLE_S ≤ s.clock :=
  ⟨{ (({ runS with pw := { runS.pw with mode := .doze } }).set .DEEPEST_STATE 3).set .NAP_IDLE_S 2
       with clock := 2000000 }, by decide +kernel⟩

theorem wit_IdleTimersAndCommitPointsLowerTheState_3 : ∃ (s : State) (e : Entry), s.pw.entry = some e ∧
  e.target = .nap ∧ e.cmd = none ∧ s.napReady none = true :=
  ⟨{ { runS with pw := { runS.pw with mode := .doze } } with pw.entry := some { target := .nap } },
    { target := .nap }, by decide +kernel⟩

theorem wit_IdleTimersAndCommitPointsLowerTheState_4 : ∃ (s : State) (n : Nat) (e : Entry), n < 4 ∧
  s.pw.entry = some e ∧ e.target = .nap ∧ e.cmd = some n ∧ e.answered = none ∧ s.napReady (some n) = true :=
  ⟨mb 2 { busy := true } ({ { runS with pw := { runS.pw with mode := .doze } }
                              with pw.entry := some { target := .nap, cmd := some 2 } }), 2,
    { target := .nap, cmd := some 2 }, by decide +kernel⟩

theorem wit_IdleTimersAndCommitPointsLowerTheState_5 : ∃ (s : State), s.idleMay 3 = true ∧
  s.pw.mode = .nap ∧ s.pw.hibTried = false ∧ 0 < s.reg .HIB_IDLE_S ∧
  s.pw.idleFrom + 1000000 * s.reg .HIB_IDLE_S ≤ s.clock ∧ s.hibBarred = false ∧ s.pendingBytes = 0 :=
  ⟨{ ((({ runS with pw := { runS.pw with mode := .nap, driveDie := false } }).set .DEEPEST_STATE 3).set .HIB_IDLE_S
       2).set .LD_STATE 2 |>.set .HIB_ALLOW 1 with clock := 2000000 }, by decide +kernel⟩

theorem wit_IdleTimersAndCommitPointsLowerTheState_6 : ∃ (s : State) (e : Entry), s.pw.mode = .nap ∧
  s.pw.entry = some e ∧ e.target = .hibernate ∧ e.cmd = none ∧ e.force = false ∧ s.hibBarred = false ∧
  s.on .GOOD_PENDING = false ∧ s.pw.pfail = none ∧ s.pw.waking = none :=
  ⟨{ { runS with pw := { runS.pw with mode := .nap, driveDie := false } }.set .HIB_ALLOW 1
       with pw.entry := some { target := .hibernate } }, { target := .hibernate }, by decide +kernel⟩

theorem wit_WakeSourcesBringTheK760BackToRun_1 : ∃ (s : State) (source : Nat), source < 8 ∧
  (s.pw.mode = .doze ∨ s.pw.mode = .nap) ∧ (s.pw.mode = .doze → source ≠ 4) ∧ s.pw.entry = none ∧
  s.pw.waking = none ∧ s.wakeEnabled source = true :=
  ⟨({ runS with pw := { runS.pw with mode := .nap, driveDie := false } }).set .WAKE_ENABLE 0x80, 7, by decide +kernel⟩

theorem wit_WakeSourcesBringTheK760BackToRun_2 : ∃ (s : State) (source : Nat), source < 8 ∧
  (s.pw.mode = .doze ∨ s.pw.mode = .nap) ∧ (s.pw.mode = .doze → source ≠ 4) ∧ s.pw.entry = none ∧
  s.wakeEnabled source = false :=
  ⟨(({ runS with pw := { runS.pw with mode := .nap, driveDie := false } }).set .WAKE_PENDING 0x81).set .WAKE_ENABLE 0,
    4, by decide +kernel⟩

theorem wit_WakeSourcesBringTheK760BackToRun_3 : ∃ (s : State), s.pw.mode = .nap ∧ s.pw.wardenUp = true ∧
  s.pw.entry = none ∧ s.pw.waking = none ∧ s.pw.alarmFired = false ∧ s.reg .RTC_ALARM ≠ 0 ∧
  s.reg .RTC_ALARM ≤ s.now ∧ s.wakeEnabled 1 = true :=
  ⟨{ (({ runS with pw := { runS.pw with mode := .nap, driveDie := false } }).set .WAKE_ENABLE 2).set .RTC_ALARM 5
       with time := 1000 }, by decide +kernel⟩

theorem wit_WakeSourcesBringTheK760BackToRun_4 : ∃ (s : State) (m : PowerMode), s.pw.mode = m ∧
  (m = .doze ∨ m = .nap) ∧ s.pw.waking.isSome = true ∧ s.pw.entry = none ∧ s.noDisc ∧ s.bu.active = false ∧
  s.bu.block = none :=
  ⟨{ { runS with pw := { runS.pw with mode := .nap, driveDie := false } } with pw.waking := some .nap }, .nap,
    by decide +kernel⟩

theorem wit_PowerFailureShutsDownAndReturns_1 : ∃ (s : State) (_tRem : Nat), s.pw.wardenUp = true ∧
  s.pw.pfail = none ∧ s.pw.pwrMainEn = true :=
  ⟨discS, 100, by decide +kernel⟩

theorem wit_PowerFailureShutsDownAndReturns_2 : ∃ (s : State) (_tRem : Nat), s.pw.wardenUp = true ∧
  s.pw.pfail = none ∧ s.pw.pwrMainEn = false :=
  ⟨{ runS with pw.pwrMainEn := false }, 0, by decide +kernel⟩

theorem wit_PowerFailureShutsDownAndReturns_3 : ∃ (s : State) (p : PFail) (by' : Nat), s.pw.pfail = some p ∧
  p.shut = false ∧ p.spinupBy = some by' ∧ by' ≤ s.clock ∧ s.on .SP_LOCKED = false :=
  ⟨{ discS with bu.active := true, clock := 9, pw.pfail := some { since := 1, spinupBy := some 5 } },
    { since := 1, spinupBy := some 5 }, 5, by decide +kernel⟩

theorem wit_PowerFailureShutsDownAndReturns_4 : ∃ (s : State) (p : PFail), s.pw.pfail = some p ∧
  s.pw.wakeLater = none :=
  ⟨{ runS with pw.pfail := some { since := 1, shut := true } }.set .PFAIL_ACTIVE 1, { since := 1, shut := true },
    by decide +kernel⟩

theorem wit_PowerFailureShutsDownAndReturns_5 : ∃ (s : State), s.pw.pfail.isSome = true :=
  ⟨{ runS with pw.pfail := some { since := 1, shut := true } }, by decide +kernel⟩

theorem wit_ClocksAreWatched_1 : ∃ (s : State), s.pw.wardenUp = true ∧ s.on .SLOW_RC = false :=
  ⟨runS.set .SLOW_RC 0, by decide +kernel⟩

theorem wit_ClocksAreWatched_2 : ∃ (s : State) (_good : Bool) (_ppm : Int), s.on .CLK_REF25 = true ∧
  s.pw.rcAt.all (fun t => decide (t + 1000000 ≤ s.clock)) = true :=
  ⟨{ runS.set .CLK_REF25 1 with clock := 1000000, pw.rcAt := some 0 }, true, -3, by decide +kernel⟩

theorem wit_ClocksAreWatched_3 : ∃ (s : State), s.pw.wardenUp = true ∧ s.on .SLOW_RC = true ∧
  (s.pw.xtalStart = true ∨ 10 ≤ s.pw.xtalGood) :=
  ⟨{ runS.set .SLOW_RC 1 with pw := { runS.pw with xtalStart := false, xtalGood := 10 } }, by decide +kernel⟩

theorem wit_ClocksAreWatched_4 : ∃ (s : State), s.pw.mode = .boot ∧ s.pw.mainPgood = true ∧
  s.pw.railAt + 20000 ≤ s.clock :=
  ⟨{ State.reset with pw := { State.reset.pw with mainPgood := true, refTries := 2 }, clock := 20000 },
    by decide +kernel⟩

theorem wit_ClocksAreWatched_5 : ∃ (s : State) (ch : Bool), (if ch then s.channelOn else s.on .CLK_SERVO) = true ∧
  s.bu.block = none ∧ s.bu.redo = none ∧ s.md.realloc = none ∧ s.md.session = none :=
  ⟨((({ discS with bu.gate := true }.set .CLK_SERVO 1).set .DISC_TURNING 1).set .SP_STATE 4), true, by decide +kernel⟩

theorem wit_ClocksAreWatched_6 : ∃ (s : State) (ch : Bool), (if ch then s.channelOn else s.on .CLK_SERVO) = true :=
  ⟨((discS.set .CLK_SERVO 1).set .DISC_TURNING 1), false, by decide +kernel⟩

theorem wit_ClocksAreWatched_7 : ∃ (s : State) (_mem : Bool) (_fl : List Nat), (s.pw.mode = .run ∨ s.pw.mode = .doze)
  :=
  ⟨discS, false, [], by decide +kernel⟩

/-! ## Supply, rails, resets, the boot and the die-to-die link (01, 07, 14, 19, 20) -/

theorem wit_SupplyAndRailsBringTheDieUpAndDown_3 : ∃ (s : State), s.pw.wardenUp = true ∧
  s.pw.mode = .boot ∧ s.pw.pwrMainEn = false ∧ s.pw.pfail = none ∧ s.pw.refFailed = false :=
  ⟨State.reset, by decide +kernel⟩

theorem wit_SupplyAndRailsBringTheDieUpAndDown_4 : ∃ (s : State), s.pw.pwrMainEn = true ∧ s.pw.mainPgood = false :=
  ⟨{ State.reset with pw := { State.reset.pw with pwrMainEn := true } }, by decide +kernel⟩

theorem wit_SupplyAndRailsBringTheDieUpAndDown_5 : ∃ (s : State), s.pw.pwrMainEn = true ∧
  s.pw.mainPgood = false ∧ s.pw.railAt + 20000 ≤ s.clock :=
  ⟨{ State.reset with pw := { State.reset.pw with pwrMainEn := true }, clock := 20000 }, by decide +kernel⟩

theorem wit_SupplyAndRailsBringTheDieUpAndDown_6 : ∃ (s : State), s.pw.mainPgood = true ∧
  s.pw.pwrMainEn = true ∧ s.pw.mode ≠ .boot :=
  ⟨discS, by decide +kernel⟩

theorem wit_SupplyAndRailsBringTheDieUpAndDown_7 : ∃ (s : State), s.pw.mainPgood = true ∧ s.pw.pwrMainEn = false :=
  ⟨{ runS with pw.pwrMainEn := false }, by decide +kernel⟩

theorem wit_ResetsAndBootsRestartTheFirmware_1 : ∃ (s : State) (_cause : ResetCause) (_fl : List Nat), (s.pw.mode =
  .run ∨ s.pw.mode = .doze ∨ s.pw.mode = .nap) :=
  ⟨discS, .resetN, [20000], by decide +kernel⟩

theorem wit_ResetsAndBootsRestartTheFirmware_2 : ∃ (s : State) (core : Nat) (_fl : List Nat), core < 2 ∧
  (s.pw.mode = .run ∨ s.pw.mode = .doze) :=
  ⟨discS, 1, [], by decide +kernel⟩

theorem wit_ResetsAndBootsRestartTheFirmware_3 : ∃ (s : State), (s.pw.mode = .run ∨ s.pw.mode = .doze) :=
  ⟨discS, by decide +kernel⟩

theorem wit_ResetsAndBootsRestartTheFirmware_4 : ∃ (s : State) (_inp : BootInputs), s.pw.mode = .boot ∧
  s.pw.mainPgood = true ∧ s.pw.refFailed = false ∧ s.reg .BOOT_MODE ≠ 2 :=
  ⟨{ State.reset with pw := { State.reset.pw with pwrMainEn := true, mainPgood := true } },
    { checkers := [], macros := [], sfdpMib := some 64, slotOk := (true, true), mapOk := true, trainFail := 0,
        settingsOk := true, migrationOk := true, keyOk := true, poolMib := 8192, bootMs := 300 }, by decide +kernel⟩

theorem wit_ResetsAndBootsRestartTheFirmware_5 : ∃ (s : State) (inp : BootInputs) (n : Nat), s.pw.mode = .boot ∧
  s.pw.mainPgood = true ∧ s.pw.refFailed = false ∧ s.reg .BOOT_MODE ≠ 2 ∧ s.pw.pfail = none ∧ s.host.reset = none ∧
  32 ≤ inp.sfdpMib.getD 0 ∧ inp.controlOk = (true, true) ∧ n = s.reg .NEXT_SLOT ∧ n < 2 ∧
  s.slotComplete n = true ∧ s.slotGood n = true ∧ (if n = 0 then inp.slotOk.1 else inp.slotOk.2) = true :=
  ⟨({ State.reset with pw := { State.reset.pw with pwrMainEn := true, mainPgood := true } }).set .A_GOOD 1,
    { checkers := [], macros := [], sfdpMib := some 64, slotOk := (true, true), mapOk := true, trainFail := 0,
        settingsOk := true, migrationOk := true, keyOk := true, poolMib := 8192, bootMs := 300 }, 0,
    by decide +kernel⟩

theorem wit_ResetsAndBootsRestartTheFirmware_6 : ∃ (s : State) (inp : BootInputs) (n : Nat), s.pw.mode = .boot ∧
  s.pw.mainPgood = true ∧ s.pw.refFailed = false ∧ s.reg .BOOT_MODE ≠ 2 ∧ 32 ≤ inp.sfdpMib.getD 0 ∧
  inp.controlOk = (true, true) ∧ n = s.reg .NEXT_SLOT ∧ n < 2 ∧
  (if n = 0 then inp.slotOk.1 else inp.slotOk.2) = false ∧ s.slotComplete (1 - n) = true ∧
  s.slotGood (1 - n) = true ∧ (if n = 0 then inp.slotOk.2 else inp.slotOk.1) = true :=
  ⟨((({ State.reset with pw := { State.reset.pw with pwrMainEn := true, mainPgood := true } }).set .A_GOOD 1).set
    .B_GOOD 1).set .B_COMPLETE 1, { checkers := [], macros := [], sfdpMib := some 64, slotOk := (false, true), mapOk
                                      := true, trainFail := 0, settingsOk := true, migrationOk := true, keyOk := true,
                                      poolMib := 8192, bootMs := 300 }, 0, by decide +kernel⟩

theorem wit_ResetsAndBootsRestartTheFirmware_7 : ∃ (s : State) (inp : BootInputs), s.pw.mode = .boot ∧
  s.pw.mainPgood = true ∧ s.pw.refFailed = false ∧ s.reg .BOOT_MODE ≠ 2 ∧ 32 ≤ inp.sfdpMib.getD 0 ∧
  inp.slotOk = (false, false) :=
  ⟨{ State.reset with pw := { State.reset.pw with pwrMainEn := true, mainPgood := true } },
    { checkers := [], macros := [], sfdpMib := some 64, slotOk := (false, false), mapOk := true, trainFail := 0,
        settingsOk := true, migrationOk := true, keyOk := true, poolMib := 8192, bootMs := 300 }, by decide +kernel⟩

theorem wit_ResetsAndBootsRestartTheFirmware_8 : ∃ (s : State) (inp : BootInputs), s.pw.mode = .boot ∧
  s.pw.mainPgood = true ∧ s.pw.refFailed = false ∧ s.reg .BOOT_MODE ≠ 2 ∧ inp.sfdpMib.getD 0 < 32 :=
  ⟨{ State.reset with pw := { State.reset.pw with pwrMainEn := true, mainPgood := true } },
    { checkers := [], macros := [], sfdpMib := none, slotOk := (true, true), mapOk := true, trainFail := 0, settingsOk
        := true, migrationOk := true, keyOk := true, poolMib := 8192, bootMs := 300 }, by decide +kernel⟩

theorem wit_ResetsAndBootsRestartTheFirmware_9 : ∃ (s : State), s.on .GOOD_PENDING = true ∧
  s.reg .RUN_SLOT < 2 ∧ s.bo.readyAt.any (fun t => decide (t + 1000000 * s.reg .GOOD_DELAY_S ≤ s.clock)) = true :=
  ⟨{ (runS.set .GOOD_PENDING 1).set .RUN_SLOT 1 with bo.readyAt := some 5, clock := 600000005 }, by decide +kernel⟩

theorem wit_ResetsAndBootsRestartTheFirmware_10 : ∃ (s : State), s.reg .BOOT_MODE = 2 ∧
  s.pw.mode = .boot ∧ s.bo.rcvDone = true ∧ s.host.claim ≠ 2 ∧ s.host.releasedAt + 1000000 ≤ s.clock :=
  ⟨{ State.reset.set .BOOT_MODE 2 with bo.rcvDone := true, clock := 1000000 }, by decide +kernel⟩

theorem wit_TheDieToDieLinkFailsSafe_1 : ∃ (s : State) (_fl : List Nat), (s.pw.mode = .run ∨ s.pw.mode = .doze) ∧
  s.pw.d2dDown = false :=
  ⟨discS.set .POOL_STATE 1, [], by decide +kernel⟩

theorem wit_TheDieToDieLinkFailsSafe_2 : ∃ (s : State) (u : Nat), u < 1024 ∧ s.pw.d2dDown = true ∧
  s.pw.d2dFailed = false ∧ s.d2dHeld = false :=
  ⟨{ discS.set .SL_POS_VALID 1 with pw := { discS.pw with d2dDown := true } }, 5, by decide +kernel⟩

theorem wit_TheDieToDieLinkFailsSafe_3 : ∃ (s : State) (ok : Bool) (u : Nat), u < 1024 ∧
  s.pw.d2dDown = true ∧ s.pw.d2dFailed = false ∧ (ok = false ∨ s.d2dHeld = true) :=
  ⟨{ discS with pw := { discS.pw with d2dDown := true } }, false, 0, by decide +kernel⟩

/-! ## Parameter pages, and the rows of PARAM_SET with a behaviour of their own (06; 03, 08, 10, 11, 13, 18, 19) -/

theorem wit_ParameterPagesAreReadAndWritten_1 : ∃ (s : State) (n : Nat) (c : MbCopy), s.mbxReady n 1 c ∧
  s.pageBarred c.pset.page false = false ∧ rangeFault c.pset.page c.pset.off c.pset.len false = none :=
  ⟨mb 2 { busy := true, copy := some { copy0 with opcode := 1, dlen := 4, args := leBytes 2 0x100 ++ leBytes 2 16 ++
                                                    leBytes 2 4, data := [] } } (runS), 2,
    { copy0 with opcode := 1, dlen := 4, args := leBytes 2 0x100 ++ leBytes 2 16 ++ leBytes 2 4, data := [] },
    by decide +kernel⟩

theorem wit_ParameterPagesAreReadAndWritten_2 : ∃ (s : State) (n : Nat) (c : MbCopy) (st : Nat) (d : Nat), s.mbxReady
  n 1 c ∧ s.pageBarred c.pset.page false = false ∧ rangeFault c.pset.page c.pset.off c.pset.len false = some (st, d)
  :=
  ⟨mb 2 { busy := true, copy := some { copy0 with opcode := 1, dlen := 4, args := leBytes 2 0x100 ++ leBytes 2 256 ++
                                                    leBytes 2 4, data := [] } } (runS), 2,
    { copy0 with opcode := 1, dlen := 4, args := leBytes 2 0x100 ++ leBytes 2 256 ++ leBytes 2 4, data := [] },
    St.outOfRange, 2, by decide +kernel⟩

theorem wit_ParameterPagesAreReadAndWritten_3 : ∃ (s : State) (n : Nat) (c : MbCopy), s.mbxReady n 2 c ∧
  s.pw.entry = none ∧ s.setFault c s.draw.1 = none ∧ c.sets .RCV_CLOSE = false :=
  ⟨mb 2 { busy := true, copy := some { copy0 with opcode := 2, dlen := 2, args := leBytes 2 0x100 ++ leBytes 2 16 ++
                                                    leBytes 2 2, data := [144, 1] } } (runS), 2,
    { copy0 with opcode := 2, dlen := 2, args := leBytes 2 0x100 ++ leBytes 2 16 ++ leBytes 2 2, data := [144, 1] },
    by decide +kernel⟩

theorem wit_ParameterPagesAreReadAndWritten_4 : ∃ (s : State) (n : Nat) (c : MbCopy) (st : Nat) (d : Nat), s.mbxReady
  n 2 c ∧ c.pset.page ≠ 0x810 ∧ s.setFault c s.draw.1 = some (st, d) :=
  ⟨mb 2 { busy := true, copy := some { copy0 with opcode := 2, dlen := 2, args := leBytes 2 0x100 ++ leBytes 2 16 ++
                                                    leBytes 2 2, data := [1, 0] } } (runS), 2,
    { copy0 with opcode := 2, dlen := 2, args := leBytes 2 0x100 ++ leBytes 2 16 ++ leBytes 2 2, data := [1, 0] },
    St.outOfRange, 16, by decide +kernel⟩

theorem wit_LocksAndDeferredEffectsOfParameterWrites_1 : ∃ (s : State) (n : Nat) (c : MbCopy), s.mbxReady n 2 c ∧
  s.pw.entry = none ∧ s.setFault c s.draw.1 = none ∧ c.sets .HOLDUP_LOCK = true :=
  ⟨mb 2 { busy := true, copy := some { copy0 with opcode := 2, dlen := 5, args := leBytes 2 0x400 ++ leBytes 2 36 ++
                                                    leBytes 2 5, data := [50, 0, 0, 0, 1] } } (runS), 2,
    { copy0 with opcode := 2, dlen := 5, args := leBytes 2 0x400 ++ leBytes 2 36 ++ leBytes 2 5, data := [50, 0, 0, 0,
                   1] }, by decide +kernel⟩

theorem wit_LocksAndDeferredEffectsOfParameterWrites_2 : ∃ (s : State) (n : Nat) (c : MbCopy), s.mbxReady n 2 c ∧
  s.pw.entry = none ∧ s.setFault c s.draw.1 = none ∧ c.sets .HOLDUP_UNLOCK = true ∧ c.sets .HOLDUP_LOCK = false ∧
  s.on .HOLDUP_LOCK = true :=
  ⟨{ mb 2 { busy := true, copy := some { copy0 with opcode := 2, dlen := 1, args := leBytes 2 0x400 ++ leBytes 2 40 ++
                                                      leBytes 2 1, data := [2], byP8 := true } } (runS.set
       .HOLDUP_LOCK 1) with host.unlocked := true }, 2,
    { copy0 with opcode := 2, dlen := 1, args := leBytes 2 0x400 ++ leBytes 2 40 ++ leBytes 2 1, data := [2], byP8 :=
                   true }, by decide +kernel⟩

theorem wit_LocksAndDeferredEffectsOfParameterWrites_3 : ∃ (s : State) (n : Nat) (c : MbCopy), s.mbxReady n 2 c ∧
  s.pw.entry = none ∧ s.setFault c s.draw.1 = none ∧ c.pset.page = 0x110 ∧ c.sets .USTEP_APPLY = true ∧
  s.sl.target = none ∧ s.sl.homing = none :=
  ⟨mb 2 { busy := true, copy := some { copy0 with opcode := 2, dlen := 1, args := leBytes 2 0x110 ++ leBytes 2 36 ++
                                                    leBytes 2 1, data := [1] } } (runS), 2,
    { copy0 with opcode := 2, dlen := 1, args := leBytes 2 0x110 ++ leBytes 2 36 ++ leBytes 2 1, data := [1] },
    by decide +kernel⟩

theorem wit_LocksAndDeferredEffectsOfParameterWrites_4 : ∃ (s : State), s.sl.tableWaits = true :=
  ⟨{ runS.put .USTEP_T 3 99 with sl.tableWaits := true }, by decide +kernel⟩

theorem wit_LocksAndDeferredEffectsOfParameterWrites_5 : ∃ (s : State) (n : Nat) (c : MbCopy) (k : Nat), s.mbxReady n
  2 c ∧ s.pw.entry = none ∧ s.setFault c s.draw.1 = none ∧ k < 3 ∧ c.pset.page = 0x228 + k ∧
  c.sets .BQ_APPLY = true :=
  ⟨mb 2 { busy := true, copy := some { copy0 with opcode := 2, dlen := 1, args := leBytes 2 0x229 ++ leBytes 2 82 ++
                                                    leBytes 2 1, data := [1] } } (runS), 2,
    { copy0 with opcode := 2, dlen := 1, args := leBytes 2 0x229 ++ leBytes 2 82 ++ leBytes 2 1, data := [1] }, 1,
    by decide +kernel⟩

theorem wit_LocksAndDeferredEffectsOfParameterWrites_6 : ∃ (s : State) (k : Nat), k < 3 ∧
  s.sv.bqWaiting.contains k = true ∧ (s.loopClosed k = false ∨ (s.bu.gate = false ∧ s.reg .SV_STATE ≠ 4 ∧
  s.reg .SV_STATE ≠ 5)) :=
  ⟨{ runS.put .BQ_COEF 25 77 with sv.bqWaiting := [2, 1] }, 1, by decide +kernel⟩

theorem wit_LocksAndDeferredEffectsOfParameterWrites_7 : ∃ (s : State) (n : Nat) (c : MbCopy) (m : Nat), s.mbxReady n
  2 c ∧ s.pw.entry = none ∧ s.setFault c s.draw.1 = none ∧ c.sets .CAL_NOW = true ∧
  wrote1 c.pset.writes .CAL_NOW = some m :=
  ⟨mb 2 { busy := true, copy := some { copy0 with opcode := 2, dlen := 1, args := leBytes 2 0x230 ++ leBytes 2 2 ++
                                                    leBytes 2 1, data := [5] } } (runS.set .CAL_DUE 0x20), 2,
    { copy0 with opcode := 2, dlen := 1, args := leBytes 2 0x230 ++ leBytes 2 2 ++ leBytes 2 1, data := [5] }, 5,
    by decide +kernel⟩

theorem wit_LocksAndDeferredEffectsOfParameterWrites_8 : ∃ (s : State) (n : Nat) (c : MbCopy), s.mbxReady n 2 c ∧
  s.pw.entry = none ∧ s.setFault c s.draw.1 = none ∧ c.sets .SET_DEFAULTS = true ∧ c.pset.page = 0x800 :=
  ⟨mb 2 { busy := true, copy := some { copy0 with opcode := 2, dlen := 1, args := leBytes 2 0x800 ++ leBytes 2 19 ++
                                                    leBytes 2 1, data := [1] } } (runS), 2,
    { copy0 with opcode := 2, dlen := 1, args := leBytes 2 0x800 ++ leBytes 2 19 ++ leBytes 2 1, data := [1] },
    by decide +kernel⟩

theorem wit_PinsSignalMapAndRecoveryWrites_1 : ∃ (s : State) (n : Nat) (c : MbCopy) (v : Nat), s.mbxReady n 2 c ∧
  s.pw.entry = none ∧ s.setFault c s.draw.1 = none ∧ wrote1 c.pset.writes .GPIO_OUT = some v ∧
  c.sets .GPIO_UPD_MASK true = false :=
  ⟨mb 2 { busy := true, copy := some { copy0 with opcode := 2, dlen := 3, args := leBytes 2 0x701 ++ leBytes 2 4 ++
                                                    leBytes 2 3, data := [5, 0, 129] } } (runS), 2,
    { copy0 with opcode := 2, dlen := 3, args := leBytes 2 0x701 ++ leBytes 2 4 ++ leBytes 2 3, data := [5, 0, 129] },
    0x810005, by decide +kernel⟩

theorem wit_PinsSignalMapAndRecoveryWrites_2 : ∃ (s : State) (w : PinOwner) (_n : Nat) (_v : BitVec 24), w ≠ .host ∧
  w ≠ .warden ∧ (s.pw.mode = .run ∨ s.pw.mode = .doze) :=
  ⟨runS.put .GP_FUNC 8 2, .coreA, 0, 0x100, by decide +kernel⟩

theorem wit_PinsSignalMapAndRecoveryWrites_3 : ∃ (s : State) (n : Nat) (c : MbCopy) (m : Nat) (v : Nat), s.mbxReady n
  2 c ∧ s.pw.entry = none ∧ s.setFault c s.draw.1 = none ∧ wrote1 c.pset.writes .GPIO_UPD_MASK = some m ∧
  wrote1 c.pset.writes .GPIO_UPD_VALUE = some v ∧ c.sets .GPIO_OUT true = false :=
  ⟨mb 2 { busy := true, copy := some { copy0 with opcode := 2, dlen := 7, args := leBytes 2 0x701 ++ leBytes 2 8 ++
                                                    leBytes 2 7, data := [15, 0, 0, 0, 5, 0, 0] } } (runS.set
    .GPIO_OUT 0xFF), 2, { copy0 with opcode := 2, dlen := 7, args := leBytes 2 0x701 ++ leBytes 2 8 ++ leBytes 2 7,
                                       data := [15, 0, 0, 0, 5, 0, 0] }, 15, 5, by decide +kernel⟩

theorem wit_PinsSignalMapAndRecoveryWrites_4 : ∃ (s : State) (n : Nat) (c : MbCopy) (m : Nat), s.mbxReady n 2 c ∧
  s.pw.entry = none ∧ s.setFault c s.draw.1 = none ∧ wrote1 c.pset.writes .GPIO_LOCK_KEY = some m ∧
  s.reg .LOCK_STEP = 0 :=
  ⟨mb 2 { busy := true, copy := some { copy0 with opcode := 2, dlen := 3, args := leBytes 2 0x701 ++ leBytes 2 16 ++
                                                    leBytes 2 3, data := [3, 0, 0] } } (runS), 2,
    { copy0 with opcode := 2, dlen := 3, args := leBytes 2 0x701 ++ leBytes 2 16 ++ leBytes 2 3, data := [3, 0, 0] },
    3, by decide +kernel⟩

theorem wit_PinsSignalMapAndRecoveryWrites_5 : ∃ (s : State) (n : Nat) (c : MbCopy) (m : Nat), s.mbxReady n 2 c ∧
  s.pw.entry = none ∧ s.setFault c s.draw.1 = none ∧ wrote1 c.pset.writes .GPIO_LOCK_KEY = some m ∧
  s.reg .LOCK_STEP = 2 ∧ s.clock ≤ s.gp.lockAt + 100000 ∧ s.gp.lockMask = m :=
  ⟨{ mb 2 { busy := true, copy := some { copy0 with opcode := 2, dlen := 3, args := leBytes 2 0x701 ++ leBytes 2 16 ++
                                                      leBytes 2 3, data := [3, 0, 0] } } ((runS.set .LOCK_STEP 2).set
       .GPIO_LOCKED 8) with gp.lockMask := 3 }, 2,
    { copy0 with opcode := 2, dlen := 3, args := leBytes 2 0x701 ++ leBytes 2 16 ++ leBytes 2 3, data := [3, 0, 0] },
    3, by decide +kernel⟩

theorem wit_PinsSignalMapAndRecoveryWrites_6 : ∃ (s : State) (n : Nat) (c : MbCopy), s.mbxReady n 2 c ∧
  s.pw.entry = none ∧ s.setFault c s.draw.1 = none ∧ 0x330 ≤ c.pset.page ∧ c.pset.page ≤ 0x337 :=
  ⟨mb 2 { busy := true, copy := some { copy0 with opcode := 2, dlen := 4, args := leBytes 2 0x330 ++ leBytes 2 0 ++
                                                    leBytes 2 4, data := [1, 2, 3, 4] } } (runS.put .CANVAL 0 9), 2,
    { copy0 with opcode := 2, dlen := 4, args := leBytes 2 0x330 ++ leBytes 2 0 ++ leBytes 2 4, data := [1, 2, 3, 4]
                   }, by decide +kernel⟩

theorem wit_PinsSignalMapAndRecoveryWrites_7 : ∃ (s : State) (n : Nat) (c : MbCopy) (k : Nat) (v : Nat), s.mbxReady n
  2 c ∧ s.pw.entry = none ∧ s.setFault c s.draw.1 = none ∧ c.pset.page = 0x328 ∧ k < 8 ∧
  wrote c.pset.writes .TL_START k = some v :=
  ⟨mb 2 { busy := true, copy := some { copy0 with opcode := 2, dlen := 1, args := leBytes 2 0x328 ++ leBytes 2 16 ++
                                                    leBytes 2 1, data := [33] } } (runS), 2,
    { copy0 with opcode := 2, dlen := 1, args := leBytes 2 0x328 ++ leBytes 2 16 ++ leBytes 2 1, data := [33] }, 1,
    33, by decide +kernel⟩

theorem wit_PinsSignalMapAndRecoveryWrites_8 : ∃ (s : State) (n : Nat) (c : MbCopy) (o : Nat) (l : Nat), s.mbxReady n
  2 c ∧ s.pw.entry = none ∧ s.setFault c s.draw.1 = none ∧ c.pset.page = 0x810 ∧ c.pset.off = 0 ∧
  c.pset.len = 256 ∧ c.sets .RCV_CLOSE = false ∧ c.data.length = 256 ∧ o = fieldAt c.data 4 4 ∧
  l = fieldAt c.data 2 2 ∧ s.bo.slots.length = 2 :=
  ⟨mb 2 { busy := true, copy := some { copy0 with opcode := 2, dlen := 256, args := leBytes 2 0x810 ++ leBytes 2 0 ++
                                                    leBytes 2 256, data := [0, 0, 3, 0] ++ leBytes 12 0 ++ [7, 8, 9]
                                                    ++ leBytes 237 0 } } (State.reset.set .BOOT_MODE 2 |>.set .NOR_MIB
    64), 2, { copy0 with opcode := 2, dlen := 256, args := leBytes 2 0x810 ++ leBytes 2 0 ++ leBytes 2 256, data :=
                           [0, 0, 3, 0] ++ leBytes 12 0 ++ [7, 8, 9] ++ leBytes 237 0 }, 0, 3, by decide +kernel⟩

theorem wit_PinsSignalMapAndRecoveryWrites_9 : ∃ (s : State) (n : Nat) (c : MbCopy) (k : Nat), s.mbxReady n 2 c ∧
  s.pw.entry = none ∧ s.setFault c s.draw.1 = none ∧ c.pset.page = 0x810 ∧ c.sets .RCV_CLOSE = true ∧
  c.pset.off = 8 ∧ k = s.reg .RCV_SLOT ∧ k ≤ 1 :=
  ⟨mb 2 { busy := true, copy := some { copy0 with opcode := 2, dlen := 1, args := leBytes 2 0x810 ++ leBytes 2 8 ++
                                                    leBytes 2 1, data := [1] } } (State.reset.set .BOOT_MODE 2 |>.set
    .NOR_MIB 64), 2, { copy0 with opcode := 2, dlen := 1, args := leBytes 2 0x810 ++ leBytes 2 8 ++ leBytes 2 1, data
                                    := [1] }, 0, by decide +kernel⟩

/-! ## Self tests and injections (16) -/

theorem wit_MemoryWindowsAnswerTheirVerdict_1 : ∃ (s : State) (n : Nat) (c : MbCopy) (_d : Nat), s.testReady n 0x10 c
  ∧ fieldAt c.args 2 1 < 96 ∧ fieldAt c.args 4 8 < 65536 ∧ s.st.windowsOff = false ∧
  s.st.granted ≠ some n ∧ s.st.window = none ∧ s.windowTurn (fieldAt c.args 2 1) = true :=
  ⟨mb 2 { busy := true, copy := some { copy0 with opcode := 0x30, args := leBytes 2 0x10 ++ [40, 0] ++ leBytes 8 7 } }
    ({ (discS.set .WIN_SRAM_ENABLE 1).set .WIN_SRAM_US 5 with clock := 10, st.nextStruct := 1 }), 2,
    { copy0 with opcode := 0x30, args := leBytes 2 0x10 ++ [40, 0] ++ leBytes 8 7 }, 9, by decide +kernel⟩

theorem wit_MemoryWindowsAnswerTheirVerdict_2 : ∃ (s : State) (n : Nat) (c : MbCopy) (_cells : FailCells) (_d : Nat)
  (g : Nat), s.testReady n 0x10 c ∧ fieldAt c.args 2 1 = 0xFF ∧ fieldAt c.args 4 8 < s.granules ∧
  s.poolUp = true ∧ s.st.windowsOff = false ∧ s.st.granted ≠ some n ∧ s.st.window = none ∧
  s.windowTurn 0xFF = true ∧ s.windowFrom (fieldAt c.args 4 8) s.granules = some g :=
  ⟨mb 2 { busy := true, copy := some { copy0 with opcode := 0x30, args := leBytes 2 0x10 ++ [255, 0] ++ leBytes 8
                                                    0x4100 } } ({ discS with clock := 100000000 }), 2,
    { copy0 with opcode := 0x30, args := leBytes 2 0x10 ++ [255, 0] ++ leBytes 8 0x4100 }, [(1, 2)], 9, 0x4100,
    by decide +kernel⟩

theorem wit_MemoryWindowsAnswerTheirVerdict_3 : ∃ (s : State) (n : Nat) (c : MbCopy) (_cells : FailCells) (_d : Nat)
  (o : Nat), s.testReady n 0x10 c ∧ s.windowArgs (fieldAt c.args 2 1) (fieldAt c.args 4 8) false = some o :=
  ⟨mb 2 { busy := true, copy := some { copy0 with opcode := 0x30, args := leBytes 2 0x10 ++ [96] } } (discS), 2,
    { copy0 with opcode := 0x30, args := leBytes 2 0x10 ++ [96] }, [], 9, 2, by decide +kernel⟩

theorem wit_MemoryWindowsAnswerTheirVerdict_4 : ∃ (s : State) (n : Nat) (c : MbCopy) (_cells : FailCells) (_d : Nat),
  s.testReady n 0x10 c ∧ fieldAt c.args 2 1 < 96 ∧ fieldAt c.args 4 8 < 65536 ∧ s.st.windowsOff = true ∧
  s.st.granted ≠ some n ∧ s.st.window = none :=
  ⟨mb 2 { busy := true, copy := some { copy0 with opcode := 0x30, args := leBytes 2 0x10 ++ [40, 0] ++ leBytes 8 7 } }
    ({ discS with st.windowsOff := true }), 2,
    { copy0 with opcode := 0x30, args := leBytes 2 0x10 ++ [40, 0] ++ leBytes 8 7 }, [(1, 1)], 9, by decide +kernel⟩

theorem wit_MemoryWindowsAnswerTheirVerdict_5 : ∃ (s : State) (n : Nat) (c : MbCopy) (_cells : FailCells) (_d : Nat),
  s.testReady n 0x10 c ∧ fieldAt c.args 2 1 < 96 ∧ fieldAt c.args 4 8 < 65536 ∧ s.st.windowsOff = false ∧
  s.windowTurn (fieldAt c.args 2 1) = false :=
  ⟨mb 2 { busy := true, copy := some { copy0 with opcode := 0x30, args := leBytes 2 0x10 ++ [40, 0] ++ leBytes 8 7 } }
    (discS.set .WIN_SRAM_ENABLE 1), 2,
    { copy0 with opcode := 0x30, args := leBytes 2 0x10 ++ [40, 0] ++ leBytes 8 7 }, [], 9, by decide +kernel⟩

theorem wit_MemoryWindowsAnswerTheirVerdict_6 : ∃ (s : State) (n : Nat) (c : MbCopy) (_fails : List (Nat × FailCells))
  (_d : Nat), s.testReady n 0x11 c ∧ fieldAt c.args 2 1 < 96 ∧ s.st.windowsOff = true ∧
  s.st.granted ≠ some n ∧ s.st.window = none :=
  ⟨mb 2 { busy := true, copy := some { copy0 with opcode := 0x30, args := leBytes 2 0x11 } }
    ({ discS with st.windowsOff := true }), 2, { copy0 with opcode := 0x30, args := leBytes 2 0x11 }, [(3, [(1, 1)])],
    9, by decide +kernel⟩

theorem wit_MemoryWindowsAnswerTheirVerdict_7 : ∃ (s : State) (n : Nat) (c : MbCopy) (_d : Nat), s.testReady n 0x11 c
  ∧ fieldAt c.args 2 1 < 96 ∧ s.st.windowsOff = false ∧ s.st.granted ≠ some n ∧ s.st.window = none :=
  ⟨mb 2 { busy := true, copy := some { copy0 with opcode := 0x30, args := leBytes 2 0x11 } } (discS), 2,
    { copy0 with opcode := 0x30, args := leBytes 2 0x11 }, 9, by decide +kernel⟩

theorem wit_MemoryWindowsAnswerTheirVerdict_8 : ∃ (s : State) (n : Nat) (c : MbCopy) (_fails : List (Nat × FailCells))
  (_d : Nat), s.testReady n 0x11 c ∧ 96 ≤ fieldAt c.args 2 1 ∧ fieldAt c.args 2 1 ≠ 0xFF ∧ s.st.window = none :=
  ⟨mb 2 { busy := true, copy := some { copy0 with opcode := 0x30, args := leBytes 2 0x11 ++ [96] } } (discS), 2,
    { copy0 with opcode := 0x30, args := leBytes 2 0x11 ++ [96] }, [], 9, by decide +kernel⟩

theorem wit_MemoryWindowsAnswerTheirVerdict_9 : ∃ (s : State) (_cells : FailCells) (_p : Bool), (s.pw.mode = .run ∨
  s.pw.mode = .doze) ∧ s.on .WIN_SRAM_ENABLE = true ∧ s.st.windowsOff = false ∧ s.sramDue = true ∧
  s.windowAsked (some s.st.nextStruct) = false ∧ s.st.window = none :=
  ⟨{ discS.set .WIN_SRAM_ENABLE 1 with clock := 100000000 }, [(1, 2)], false, by decide +kernel⟩

theorem wit_MemoryWindowsAnswerTheirVerdict_10 : ∃ (s : State) (w : TestWindow) (x : Nat × Nat), (s.pw.mode = .run ∨
  s.pw.mode = .doze) ∧ s.on .WIN_SRAM_ENABLE = true ∧ s.st.windowsOff = false ∧ s.sramDue = true ∧
  s.windowAsked (some s.st.nextStruct) = false ∧ s.st.window = some w ∧ w.region = some x ∧
  w.cells = [] ∧ w.saveParity = false ∧ w.stalled = [] ∧ s.ca.stalled = [] :=
  ⟨{ discS.set .WIN_SRAM_ENABLE 1 with clock := 100000000, st.window := some { region := some (3, 4), openAt := 5 } },
    { region := some (3, 4), openAt := 5 }, (3, 4), by decide +kernel⟩

theorem wit_MemoryWindowsAnswerTheirVerdict_11 : ∃ (s : State) (_f : Bool) (_p : Bool) (_o : Bool) (g : Nat),
  (s.pw.mode = .run ∨ s.pw.mode = .doze) ∧ s.on .WIN_POOL_ENABLE = true ∧ s.st.windowsOff = false ∧
  s.poolUp = true ∧ s.poolDue = true ∧ s.windowAsked none = false ∧ s.st.window = none ∧
  s.windowFrom s.st.nextGranule s.granules = some g :=
  ⟨{ discS.set .WIN_POOL_ENABLE 1 with clock := 100000000 }, true, false, false, 0, by decide +kernel⟩

theorem wit_MemoryWindowsAnswerTheirVerdict_12 : ∃ (s : State) (w : TestWindow), (s.pw.mode = .run ∨ s.pw.mode =
  .doze) ∧ s.on .WIN_POOL_ENABLE = true ∧ s.st.windowsOff = false ∧ s.poolUp = true ∧ s.poolDue = true ∧
  s.windowAsked none = false ∧ s.st.window = some w ∧ w.region = none ∧ w.stalled = [] ∧ s.ca.stalled = [] :=
  ⟨{ discS.set .WIN_POOL_ENABLE 1 with clock := 100000000, st.window := some
                                         { region := none, granule := 0x4100, fail := true, openAt := 5 } },
    { region := none, granule := 0x4100, fail := true, openAt := 5 }, by decide +kernel⟩

theorem wit_AnalogueTestsAnswerTheirVerdict_1 : ∃ (s : State) (n : Nat) (c : MbCopy) (codes : List Int) (_d : Nat),
  s.testReady n 0x20 c ∧ s.servoReady n ∧ analogueFault 0x20 codes = none :=
  ⟨mb 2 { busy := true, copy := some { copy0 with opcode := 0x30, args := leBytes 2 0x20 } } (discS), 2,
    { copy0 with opcode := 0x30, args := leBytes 2 0x20 }, [64, 512, 960], 70, by decide +kernel⟩

theorem wit_AnalogueTestsAnswerTheirVerdict_2 : ∃ (s : State) (n : Nat) (c : MbCopy) (codes : List Int) (_d : Nat) (u
  : Nat) (v : Int), s.testReady n 0x20 c ∧ s.servoReady n ∧ analogueFault 0x20 codes = some (u, v) :=
  ⟨mb 2 { busy := true, copy := some { copy0 with opcode := 0x30, args := leBytes 2 0x20 } } (discS), 2,
    { copy0 with opcode := 0x30, args := leBytes 2 0x20 }, [64, 560, 960], 70, (analogueFault 0x20 [64, 560,
    960]).get!.1, (analogueFault 0x20 [64, 560, 960]).get!.2, by decide +kernel⟩

theorem wit_AnalogueTestsAnswerTheirVerdict_3 : ∃ (s : State) (n : Nat) (c : MbCopy) (ma : List Int) (_d : Nat),
  s.testReady n 0x21 c ∧ s.servoReady n ∧ analogueFault 0x21 ma = none :=
  ⟨mb 2 { busy := true, copy := some { copy0 with opcode := 0x30, args := leBytes 2 0x21 } } (discS), 2,
    { copy0 with opcode := 0x30, args := leBytes 2 0x21 }, [100, -100, 250, -250], 70, by decide +kernel⟩

theorem wit_AnalogueTestsAnswerTheirVerdict_4 : ∃ (s : State) (n : Nat) (c : MbCopy) (ma : List Int) (_d : Nat) (u :
  Nat) (v : Int), s.testReady n 0x21 c ∧ s.servoReady n ∧ analogueFault 0x21 ma = some (u, v) :=
  ⟨mb 2 { busy := true, copy := some { copy0 with opcode := 0x30, args := leBytes 2 0x21 } } (discS), 2,
    { copy0 with opcode := 0x30, args := leBytes 2 0x21 }, [100, -100, 250, -240], 70, (analogueFault 0x21 [100, -100,
    250, -240]).get!.1, (analogueFault 0x21 [100, -100, 250, -240]).get!.2, by decide +kernel⟩

theorem wit_AnalogueTestsAnswerTheirVerdict_5 : ∃ (s : State) (n : Nat) (c : MbCopy) (ma : List Int) (_d : Nat),
  s.testReady n 0x22 c ∧ s.servoReady n ∧ analogueFault 0x22 ma = none :=
  ⟨mb 2 { busy := true, copy := some { copy0 with opcode := 0x30, args := leBytes 2 0x22 } } (discS), 2,
    { copy0 with opcode := 0x30, args := leBytes 2 0x22 }, [500, -500], 70, by decide +kernel⟩

theorem wit_AnalogueTestsAnswerTheirVerdict_6 : ∃ (s : State) (n : Nat) (c : MbCopy) (ma : List Int) (_d : Nat) (u :
  Nat) (v : Int), s.testReady n 0x22 c ∧ s.servoReady n ∧ analogueFault 0x22 ma = some (u, v) :=
  ⟨mb 2 { busy := true, copy := some { copy0 with opcode := 0x30, args := leBytes 2 0x22 } } (discS), 2,
    { copy0 with opcode := 0x30, args := leBytes 2 0x22 }, [500, -500, 480, -500], 70, (analogueFault 0x22 [500, -500,
    480, -500]).get!.1, (analogueFault 0x22 [500, -500, 480, -500]).get!.2, by decide +kernel⟩

theorem wit_AnalogueTestsAnswerTheirVerdict_7 : ∃ (s : State) (n : Nat) (c : MbCopy) (snr : List Int) (_d : Nat),
  s.testReady n 0x23 c ∧ s.servoReady n ∧ analogueFault 0x23 snr = none :=
  ⟨mb 2 { busy := true, copy := some { copy0 with opcode := 0x30, args := leBytes 2 0x23 } } (discS), 2,
    { copy0 with opcode := 0x30, args := leBytes 2 0x23 }, [400, 410], 70, by decide +kernel⟩

theorem wit_AnalogueTestsAnswerTheirVerdict_8 : ∃ (s : State) (n : Nat) (c : MbCopy) (snr : List Int) (_d : Nat) (u :
  Nat) (v : Int), s.testReady n 0x23 c ∧ s.servoReady n ∧ analogueFault 0x23 snr = some (u, v) :=
  ⟨mb 2 { busy := true, copy := some { copy0 with opcode := 0x30, args := leBytes 2 0x23 } } (discS), 2,
    { copy0 with opcode := 0x30, args := leBytes 2 0x23 }, [400, 399], 70, (analogueFault 0x23 [400, 399]).get!.1,
    (analogueFault 0x23 [400, 399]).get!.2, by decide +kernel⟩

theorem wit_AnalogueTestsAnswerTheirVerdict_9 : ∃ (s : State) (n : Nat) (c : MbCopy) (temps : List Int) (_d : Nat),
  s.testReady n 0x25 c ∧ s.st.granted = none ∧ analogueFault 0x25 temps = none :=
  ⟨mb 2 { busy := true, copy := some { copy0 with opcode := 0x30, args := leBytes 2 0x25 } } (discS), 2,
    { copy0 with opcode := 0x30, args := leBytes 2 0x25 }, [250, 260, 255], 70, by decide +kernel⟩

theorem wit_AnalogueTestsAnswerTheirVerdict_10 : ∃ (s : State) (n : Nat) (c : MbCopy) (temps : List Int) (_d : Nat) (u
  : Nat) (v : Int), s.testReady n 0x25 c ∧ s.st.granted = none ∧ analogueFault 0x25 temps = some (u, v) :=
  ⟨mb 2 { busy := true, copy := some { copy0 with opcode := 0x30, args := leBytes 2 0x25 } } (discS), 2,
    { copy0 with opcode := 0x30, args := leBytes 2 0x25 }, [250, 900, 255], 70, (analogueFault 0x25 [250, 900,
    255]).get!.1, (analogueFault 0x25 [250, 900, 255]).get!.2, by decide +kernel⟩

theorem wit_AnalogueTestsAnswerTheirVerdict_11 : ∃ (s : State) (n : Nat) (c : MbCopy) (_d : Nat), s.testReady n 0x26 c
  ∧ s.st.granted = none :=
  ⟨mb 2 { busy := true, copy := some { copy0 with opcode := 0x30, args := leBytes 2 0x26 } } (discS), 2,
    { copy0 with opcode := 0x30, args := leBytes 2 0x26 }, 70, by decide +kernel⟩

theorem wit_AnalogueTestsAnswerTheirVerdict_12 : ∃ (s : State) (n : Nat) (c : MbCopy) (e : Nat) (_d : Nat),
  s.testReady n 0x26 c ∧ s.st.granted = none ∧ 0 < e ∧ (s.pw.mode = .run ∨ s.pw.mode = .doze) :=
  ⟨mb 2 { busy := true, copy := some { copy0 with opcode := 0x30, args := leBytes 2 0x26 } } (discS), 2,
    { copy0 with opcode := 0x30, args := leBytes 2 0x26 }, 3, 70, by decide +kernel⟩

theorem wit_AnalogueTestsAnswerTheirVerdict_13 : ∃ (s : State) (n : Nat) (c : MbCopy) (_failed : List Nat) (_d : Nat),
  s.testReady n 0x24 c ∧ s.servoReady n ∧ s.st.laneLoopFail = [] :=
  ⟨mb 2 { busy := true, copy := some { copy0 with opcode := 0x30, args := leBytes 2 0x24 } } (discS), 2,
    { copy0 with opcode := 0x30, args := leBytes 2 0x24 }, [1, 3], 9, by decide +kernel⟩

theorem wit_AnalogueTestsAnswerTheirVerdict_14 : ∃ (s : State) (n : Nat) (c : MbCopy) (readings : List (List Int)) (_d
  : Nat), s.testReady n 0x2F c ∧ s.servoReady n ∧ s.st.laneLoopFail = [] ∧
  analogueFirst [0x20, 0x21, 0x22, 0x23] readings = none ∧ analogueFirst [0x25, 0x26] (readings.drop 4) = none :=
  ⟨mb 2 { busy := true, copy := some { copy0 with opcode := 0x30, args := leBytes 2 0x2F } } (discS), 2,
    { copy0 with opcode := 0x30, args := leBytes 2 0x2F }, [[64, 512, 960], [100], [500], [400], [250, 260, 255],
    [0]], 70, by decide +kernel⟩

theorem wit_AnalogueTestsAnswerTheirVerdict_15 : ∃ (s : State) (n : Nat) (c : MbCopy) (readings : List (List Int))
  (_failed : List Nat) (_d : Nat) (id : Nat) (u : Nat) (v : Int), s.testReady n 0x2F c ∧
  s.servoReady n ∧ analogueFirst [0x20, 0x21, 0x22, 0x23] readings = some (id, u, v) :=
  ⟨mb 2 { busy := true, copy := some { copy0 with opcode := 0x30, args := leBytes 2 0x2F } } (discS), 2,
    { copy0 with opcode := 0x30, args := leBytes 2 0x2F }, [[64, 512, 960], [100], [500, -400]], [], 70, 0x22,
    (analogueFault 0x22 [500, -400]).get!.1, (analogueFault 0x22 [500, -400]).get!.2, by decide +kernel⟩

theorem wit_AnalogueTestsAnswerTheirVerdict_16 : ∃ (s : State) (n : Nat) (c : MbCopy) (_r : List Int) (_d : Nat),
  s.testReady n 0x20 c ∧ s.st.granted = none ∧ s.servoBusy = true ∧ s.st.waiting.contains n = false :=
  ⟨mb 2 { busy := true, copy := some { copy0 with opcode := 0x30, args := leBytes 2 0x20, flags := 1 } } (discS.set
    .SV_STATE 3), 2, { copy0 with opcode := 0x30, args := leBytes 2 0x20, flags := 1 }, [], 70, by decide +kernel⟩

theorem wit_AnalogueTestsAnswerTheirVerdict_17 : ∃ (s : State) (k : Nat) (rest : List Nat), s.reg .SP_STATE = 0 ∧
  s.st.granted = none ∧ s.discWanted = false ∧ s.pw.pfail = none ∧ s.st.waiting.filter s.testPending = k :: rest :=
  ⟨{ mb 2 { busy := true, copy := some { copy0 with opcode := 0x30, args := leBytes 2 0x20 } } (discS)
       with st.waiting := [2] }, 2, [], by decide +kernel⟩

theorem wit_InjectionsAreCountedAndReal_1 : ∃ (s : State) (n : Nat) (c : MbCopy), s.injectReady n 0x100 c :=
  ⟨{ mb 2 { busy := true, copy := some { copy0 with opcode := 0x30, byP8 := true, args := leBytes 2 0x100 ++ [0, 0] ++
                                                      leBytes 4 500 } } (discS) with host.unlocked := true }, 2,
    { copy0 with opcode := 0x30, byP8 := true, args := leBytes 2 0x100 ++ [0, 0] ++ leBytes 4 500 },
    by decide +kernel⟩

theorem wit_InjectionsAreCountedAndReal_2 : ∃ (s : State) (n : Nat) (c : MbCopy), s.injectReady n 0x101 c ∧
  1 ≤ fieldAt c.args 2 1 ∧ fieldAt c.args 2 1 ≤ 7 :=
  ⟨{ mb 2 { busy := true, copy := some { copy0 with opcode := 0x30, byP8 := true, args := leBytes 2 0x101 ++ [3] } }
       (discS) with host.unlocked := true }, 2,
    { copy0 with opcode := 0x30, byP8 := true, args := leBytes 2 0x101 ++ [3] }, by decide +kernel⟩

theorem wit_InjectionsAreCountedAndReal_3 : ∃ (s : State) (n : Nat) (c : MbCopy), s.injectReady n 0x102 c :=
  ⟨{ mb 2 { busy := true, copy := some { copy0 with opcode := 0x30, byP8 := true, args := leBytes 2 0x102 ++ [0, 0] ++
                                                      leBytes 4 500 } } (discS) with host.unlocked := true }, 2,
    { copy0 with opcode := 0x30, byP8 := true, args := leBytes 2 0x102 ++ [0, 0] ++ leBytes 4 500 },
    by decide +kernel⟩

theorem wit_InjectionsAreCountedAndReal_4 : ∃ (s : State) (n : Nat) (c : MbCopy), s.injectReady n 0x103 c :=
  ⟨{ mb 2 { busy := true, copy := some { copy0 with opcode := 0x30, byP8 := true, args := leBytes 2 0x103 ++ [3] } }
       (discS) with host.unlocked := true }, 2,
    { copy0 with opcode := 0x30, byP8 := true, args := leBytes 2 0x103 ++ [3] }, by decide +kernel⟩

theorem wit_InjectionsAreCountedAndReal_5 : ∃ (s : State) (n : Nat) (c : MbCopy), s.injectReady n 0x104 c ∧
  fieldAt c.args 2 1 < 5 :=
  ⟨{ mb 2 { busy := true, copy := some { copy0 with opcode := 0x30, byP8 := true, args := leBytes 2 0x104 ++ [3] } }
       (discS) with host.unlocked := true }, 2,
    { copy0 with opcode := 0x30, byP8 := true, args := leBytes 2 0x104 ++ [3] }, by decide +kernel⟩

theorem wit_InjectionsAreCountedAndReal_6 : ∃ (s : State) (n : Nat) (c : MbCopy), s.injectReady n 0x105 c ∧
  fieldAt c.args 2 1 < 5 :=
  ⟨{ mb 2 { busy := true, copy := some { copy0 with opcode := 0x30, byP8 := true, args := leBytes 2 0x105 ++ [3] } }
       (discS) with host.unlocked := true }, 2,
    { copy0 with opcode := 0x30, byP8 := true, args := leBytes 2 0x105 ++ [3] }, by decide +kernel⟩

theorem wit_InjectionsAreCountedAndReal_7 : ∃ (s : State) (n : Nat) (c : MbCopy), s.injectReady n 0x106 c ∧
  32 ≤ fieldAt c.args 2 1 ∧ fieldAt c.args 2 1 < 96 ∧ fieldAt c.args 4 4 < 65536 :=
  ⟨{ mb 2 { busy := true, copy := some { copy0 with opcode := 0x30, byP8 := true, args := leBytes 2 0x106 ++ [40, 0,
                                                      9, 0, 0, 0, 5] } } (discS) with host.unlocked := true }, 2,
    { copy0 with opcode := 0x30, byP8 := true, args := leBytes 2 0x106 ++ [40, 0, 9, 0, 0, 0, 5] }, by decide +kernel⟩

theorem wit_InjectionsAreCountedAndReal_8 : ∃ (s : State) (n : Nat) (c : MbCopy) (k : Nat) (l : CacheLine),
  s.injectReady n 0x106 c ∧ fieldAt c.args 2 1 < 32 ∧ fieldAt c.args 4 4 < 65536 ∧
  k = 16 * (fieldAt c.args 2 1 % 2 * 1024 + fieldAt c.args 4 4 / 64) + fieldAt c.args 2 1 / 2 ∧
  Map.get s.ca.l2 k = some l ∧ bit (fieldAt c.args 8 1) 0 = true :=
  ⟨{ mb 2 { busy := true, copy := some { copy0 with opcode := 0x30, byP8 := true, args := leBytes 2 0x106 ++ [6, 0, 9,
                                                      0, 0, 0, 5] } } (discS)
       with host.unlocked := true, ca.l2 := [(3,
              { line := 7, data := List.replicate 64 1, par := List.replicate 64 true })] }, 2,
    { copy0 with opcode := 0x30, byP8 := true, args := leBytes 2 0x106 ++ [6, 0, 9, 0, 0, 0, 5] }, 3,
    { line := 7, data := List.replicate 64 1, par := List.replicate 64 true }, by decide +kernel⟩

theorem wit_InjectionsAreCountedAndReal_9 : ∃ (s : State) (n : Nat) (c : MbCopy), s.injectReady n 0x107 c ∧
  fieldAt c.args 2 1 < 10 :=
  ⟨{ mb 2 { busy := true, copy := some { copy0 with opcode := 0x30, byP8 := true, args := leBytes 2 0x107 ++ [3, 1] }
              } (discS) with host.unlocked := true }, 2,
    { copy0 with opcode := 0x30, byP8 := true, args := leBytes 2 0x107 ++ [3, 1] }, by decide +kernel⟩

theorem wit_InjectionsAreCountedAndReal_10 : ∃ (s : State) (n : Nat) (c : MbCopy) (k : Nat), s.injectReady n 0x108 c ∧
  k = fieldAt c.args 2 1 :=
  ⟨{ mb 2 { busy := true, copy := some { copy0 with opcode := 0x30, byP8 := true, args := leBytes 2 0x108 ++ [5, 0] ++
                                                      leBytes 4 7 ++ leBytes 4 9 ++ leBytes 2 3 ++ leBytes 2 1 ++
                                                      leBytes 4 1 } } (discS) with host.unlocked := true }, 2,
    { copy0 with opcode := 0x30, byP8 := true, args := leBytes 2 0x108 ++ [5, 0] ++ leBytes 4 7 ++ leBytes 4 9 ++
                   leBytes 2 3 ++ leBytes 2 1 ++ leBytes 4 1 }, 5, by decide +kernel⟩

theorem wit_InjectionsAreCountedAndReal_11 : ∃ (s : State) (n : Nat) (c : MbCopy) (g : Nat), s.injectReady n 0x109 c ∧
  g = fieldAt c.args 4 8 ∧ g < s.granules :=
  ⟨{ mb 2 { busy := true, copy := some { copy0 with opcode := 0x30, byP8 := true, args := leBytes 2 0x109 ++ [0, 0] ++
                                                      leBytes 8 0x4321 } } (discS) with host.unlocked := true }, 2,
    { copy0 with opcode := 0x30, byP8 := true, args := leBytes 2 0x109 ++ [0, 0] ++ leBytes 8 0x4321 }, 0x4321,
    by decide +kernel⟩

theorem wit_InjectionsAreCountedAndReal_12 : ∃ (s : State) (n : Nat) (c : MbCopy), s.injectReady n 0x10A c :=
  ⟨{ mb 2 { busy := true, copy := some { copy0 with opcode := 0x30, byP8 := true, args := leBytes 2 0x10A ++ [3] } }
       (discS) with host.unlocked := true }, 2,
    { copy0 with opcode := 0x30, byP8 := true, args := leBytes 2 0x10A ++ [3] }, by decide +kernel⟩

theorem wit_InjectionsAreCountedAndReal_13 : ∃ (s : State) (n : Nat) (c : MbCopy), s.injectReady n 0x10B c :=
  ⟨{ mb 2 { busy := true, copy := some { copy0 with opcode := 0x30, byP8 := true, args := leBytes 2 0x10B ++ [3] } }
       (discS) with host.unlocked := true }, 2,
    { copy0 with opcode := 0x30, byP8 := true, args := leBytes 2 0x10B ++ [3] }, by decide +kernel⟩

theorem wit_InjectionsAreCountedAndReal_14 : ∃ (s : State) (n : Nat) (c : MbCopy), s.injectReady n 0x10C c :=
  ⟨{ mb 2 { busy := true, copy := some { copy0 with opcode := 0x30, byP8 := true, args := leBytes 2 0x10C ++ [0, 0] ++
                                                      leBytes 4 500 } } (discS) with host.unlocked := true }, 2,
    { copy0 with opcode := 0x30, byP8 := true, args := leBytes 2 0x10C ++ [0, 0] ++ leBytes 4 500 },
    by decide +kernel⟩

theorem wit_InjectionsAreCountedAndReal_15 : ∃ (s : State) (n : Nat) (c : MbCopy), s.injectReady n 0x10D c ∧
  fieldAt c.args 2 1 < 2 :=
  ⟨{ mb 2 { busy := true, copy := some { copy0 with opcode := 0x30, byP8 := true, args := leBytes 2 0x10D ++ [1] } }
       (discS) with host.unlocked := true }, 2,
    { copy0 with opcode := 0x30, byP8 := true, args := leBytes 2 0x10D ++ [1] }, by decide +kernel⟩

theorem wit_InjectionsAreCountedAndReal_16 : ∃ (s : State) (n : Nat) (c : MbCopy) (a : Nat), s.injectReady n 0x10E c ∧
  a = fieldAt c.args 4 8 / 64 ∧ fieldAt c.args 12 4 = 1 ∧ s.permits 11 (a * 64) 64 true ∧
  s.ca.merge = [] ∧ s.ca.stalled = [] ∧ 0 < s.mergeRoom :=
  ⟨{ mb 2 { busy := true, copy := some { copy0 with opcode := 0x30, byP8 := true, args := leBytes 2 0x10E ++ [0, 0] ++
                                                      leBytes 8 0x4000000 ++ leBytes 4 1 ++ leBytes 8 0x1122 } }
       (coreS) with host.unlocked := true }, 2,
    { copy0 with opcode := 0x30, byP8 := true, args := leBytes 2 0x10E ++ [0, 0] ++ leBytes 8 0x4000000 ++ leBytes 4 1
                   ++ leBytes 8 0x1122 }, 0x100000, by decide +kernel⟩

theorem wit_InjectionsAreCountedAndReal_17 : ∃ (s : State) (n : Nat) (c : MbCopy) (x : Nat × Instr), x ∈ [(0x100,
  Instr.injD2dBreak n), (0x101, Instr.injLeaseStop n), (0x102, Instr.injBemfBlank n), (0x103, Instr.injBemfSpurious
  n), (0x104, Instr.injLaneError n), (0x105, Instr.injLaneLoopFail n), (0x106, Instr.injParityFlip n), (0x107,
  Instr.injCheckerBreak n), (0x108, Instr.injReedCorrupt n), (0x109, Instr.injPoison n), (0x10A, Instr.injVerifyFail
  n), (0x10B, Instr.injEraseFrames n), (0x10C, Instr.injDefectFlag n), (0x10D, Instr.injTrainFail n), (0x10E,
  Instr.injPoolWrite n)] ∧ s.testReady n x.1 c ∧ s.st.granted = none ∧ (c.byP8 = false ∨ s.host.unlocked = false) :=
  ⟨mb 2 { busy := true, copy := some { copy0 with opcode := 0x30, args := leBytes 2 0x104 } } (discS), 2,
    { copy0 with opcode := 0x30, args := leBytes 2 0x104 }, (0x104, .injLaneError 2), by decide +kernel⟩

theorem wit_InjectionsAreCountedAndReal_18 : ∃ (s : State) (n : Nat) (c : MbCopy) (x : Nat × Instr), x ∈ [(0x101,
  Instr.injLeaseStop n), (0x104, Instr.injLaneError n), (0x105, Instr.injLaneLoopFail n), (0x106, Instr.injParityFlip
  n), (0x107, Instr.injCheckerBreak n), (0x10D, Instr.injTrainFail n)] ∧ s.injectReady n x.1 c ∧
  96 ≤ fieldAt c.args 2 1 :=
  ⟨{ mb 2 { busy := true, copy := some { copy0 with opcode := 0x30, byP8 := true, args := leBytes 2 0x104 ++ [96] } }
       (discS) with host.unlocked := true }, 2,
    { copy0 with opcode := 0x30, byP8 := true, args := leBytes 2 0x104 ++ [96] }, (0x104, .injLaneError 2),
    by decide +kernel⟩

theorem wit_InjectionsAreCountedAndReal_19 : ∃ (s : State) (n : Nat) (c : MbCopy), s.injectReady n 0x109 c ∧
  s.granules ≤ fieldAt c.args 4 8 :=
  ⟨{ mb 2 { busy := true, copy := some { copy0 with opcode := 0x30, byP8 := true, args := leBytes 2 0x109 ++ [0, 0] ++
                                                      leBytes 8 0x1000000 } } (discS) with host.unlocked := true }, 2,
    { copy0 with opcode := 0x30, byP8 := true, args := leBytes 2 0x109 ++ [0, 0] ++ leBytes 8 0x1000000 },
    by decide +kernel⟩

/-! ## Leases, commits, crossbar accesses and the pool (07) -/

theorem wit_LeasesAreRenewedRevokedAndGranted_1 : ∃ (s : State) (b : Nat) (e : Nat), b < 10 ∧
  s.lm.lease.getD b none = some e ∧ s.clock < e ∧ s.st.leaseStop.contains b = false :=
  ⟨poolS, 0, 9, by decide +kernel⟩

theorem wit_LeasesAreRenewedRevokedAndGranted_2 : ∃ (s : State) (b : Nat) (e : Nat), b < 10 ∧
  s.lm.lease.getD b none = some e ∧ e ≤ s.clock ∧ s.lm.engine.length = 10 :=
  ⟨{ poolS with clock := 9 }, 0, 9, by decide +kernel⟩

theorem wit_LeasesAreRenewedRevokedAndGranted_3 : ∃ (s : State) (b : Nat) (e : Nat), b < 10 ∧
  s.lm.lease.getD b none = some e ∧ e ≤ s.clock ∧ s.lm.engine.length = 10 :=
  ⟨{ poolS with clock := 9, st.leaseStop := [0] }, 0, 9, by decide +kernel⟩

theorem wit_LeasesAreRenewedRevokedAndGranted_4 : ∃ (s : State) (b : Nat) (e : Nat), b < 10 ∧
  s.lm.lease.getD b none = some e ∧ s.clock < e :=
  ⟨poolS, 0, 9, by decide +kernel⟩

theorem wit_LeasesAreRenewedRevokedAndGranted_5 : ∃ (s : State) (b : Nat), b < 10 ∧
  s.lm.engine.getD b .ok = .reset ∧ s.lm.segHeld.getD b none = none ∧ 0 < s.bobSize b ∧
  s.poolUp = true ∧ s.lm.lease.length = 10 :=
  ⟨{ poolS with lm.engine := [.reset, .ok, .ok, .ok, .ok, .ok, .ok, .ok, .ok, .ok] }, 0, by decide +kernel⟩

theorem wit_LeasesAreRenewedRevokedAndGranted_6 : ∃ (s : State) (b : Nat), b < 10 ∧ s.lm.engine.getD b .ok = .reset :=
  ⟨{ poolS with lm.engine := [.reset, .ok, .ok, .ok, .ok, .ok, .ok, .ok, .ok, .ok] }, 0, by decide +kernel⟩

theorem wit_LeasesAreRenewedRevokedAndGranted_7 : ∃ (s : State) (b : Nat) (c : Nat), b < 10 ∧
  s.lm.engine.getD b .ok = .failed c ∧ c + 1000000 ≤ s.clock :=
  ⟨{ poolS with lm.engine := [.failed 3, .ok, .ok, .ok, .ok, .ok, .ok, .ok, .ok, .ok], clock := 1000003 }, 0, 3,
    by decide +kernel⟩

theorem wit_LeasesAreRenewedRevokedAndGranted_8 : ∃ (s : State) (b : Nat) (r : Nat), b < 10 ∧
  s.lm.segHeld.getD b none = some r ∧ s.takes b 4 ∧ (s.lm.engine.getD b .ok).isPassed = false :=
  ⟨{ poolS with lm.segHeld := [some 2, none, none, none, none, none, none, none, none, none] }, 0, 2,
    by decide +kernel⟩

theorem wit_CommitsAndAccessesObeyTheTables_1 : ∃ (s : State) (a : Nat) (b : Nat) (e : Nat), a < 16 ∧
  b < 10 ∧ s.noDisc ∧ s.poolUp = true ∧ 0 < s.bobSize b ∧ s.commitOk a b e = true ∧ e < 2 ^ 64 ∧
  s.lm.recs.length = 10 :=
  ⟨{ poolS with lm.mem := Map.put [] 0x4000000 8 }.put .BB_HOLDER 0 3, 3, 0, 40, by decide +kernel⟩

theorem wit_CommitsAndAccessesObeyTheTables_2 : ∃ (s : State) (a : Nat) (b : Nat) (e : Nat), a < 16 ∧
  b < 10 ∧ s.commitOk a b e = false ∧ s.get .BB_HOLDER b ≠ a :=
  ⟨{ poolS with lm.mem := Map.put [] 0x4000000 8 }.put .BB_HOLDER 0 3, 4, 0, 40, by decide +kernel⟩

theorem wit_CommitsAndAccessesObeyTheTables_3 : ∃ (s : State) (a : Nat) (addr : Nat) (l : List Byte), a < 16 ∧
  isCore a = false ∧ inLine addr l.length = true ∧ s.permits a addr l.length true :=
  ⟨coreS, 9, 0x4000010, [1, 2], by decide +kernel⟩

theorem wit_CommitsAndAccessesObeyTheTables_4 : ∃ (s : State) (a : Nat) (addr : Nat) (l : List Byte), a < 16 ∧
  isCore a = false ∧ inLine addr l.length = true ∧ s.permits a addr l.length false ∧ s.entriesOf (addr / 64) = [] :=
  ⟨{ coreS with lm.mem := Map.put [] 0x4000010 8 }, 9, 0x4000010, [1, 2], by decide +kernel⟩

theorem wit_CommitsAndAccessesObeyTheTables_5 : ∃ (s : State) (a : Nat) (addr : Nat) (_w : Bool) (l : List Byte), a <
  16 ∧ inLine addr l.length = true ∧ s.poolUp = true ∧ s.heddleEntries a (addr / 4096) = [] ∧ (∀ b, b < 10 →
  s.get .BB_HOLDER b ≠ a) :=
  ⟨coreS, 7, 0x4000010, false, [1, 2], by decide +kernel⟩

theorem wit_CommitsAndAccessesObeyTheTables_6 : ∃ (s : State) (id : Nat) (m : Mark), s.lm.marks.find? (fun x => x.id
  == id) = some m ∧ max m.stop m.fetch + 1000000 ≤ s.time ∧ s.markDone m = true :=
  ⟨{ poolS with time := 2000000, lm.marks := [{ id := 3, bobbins := [0], start := 1, stop := 9, fetch := 9, reason :=
                                                  0 }] }, 3,
    { id := 3, bobbins := [0], start := 1, stop := 9, fetch := 9, reason := 0 }, by decide +kernel⟩

theorem wit_CommitsAndAccessesObeyTheTables_7 : ∃ (s : State) (id : Nat) (m : Mark), s.lm.marks.find? (fun x => x.id
  == id) = some m ∧ (s.time < max m.stop m.fetch + 1000000 ∨ s.markDone m = false) :=
  ⟨{ poolS with lm.marks := [{ id := 3, bobbins := [0], start := 1, stop := 9, fetch := 9, reason := 0 }] }, 3,
    { id := 3, bobbins := [0], start := 1, stop := 9, fetch := 9, reason := 0 }, by decide +kernel⟩

theorem wit_ThePoolIsLostAndTrainedAgain_1 : ∃ (s : State) (m : Nat), m < 4 ∧ s.poolUp = true :=
  ⟨poolS, 1, by decide +kernel⟩

theorem wit_ThePoolIsLostAndTrainedAgain_2 : ∃ (s : State) (a : Bool) (b : Bool), s.reg .POOL_STATE = 2 ∧
  (a && b) = false :=
  ⟨poolS, true, false, by decide +kernel⟩

theorem wit_ThePoolIsLostAndTrainedAgain_3 : ∃ (s : State) (a : Bool) (b : Bool), (s.reg .POOL_STATE ≠ 2 ∨ (a && b) =
  true) :=
  ⟨poolS, true, true, by decide +kernel⟩

theorem wit_ThePoolIsLostAndTrainedAgain_4 : ∃ (s : State) (e : Nat), s.lm.lostAt = some e ∧
  e + 10000 ≤ s.clock ∧ s.poolLost = true ∧ s.st.trainFail = [] ∧ s.noDisc :=
  ⟨{ poolS.set .POOL_STATE 3 with lm.lostAt := some 5, clock := 10005 }, 5, by decide +kernel⟩

theorem wit_ThePoolIsLostAndTrainedAgain_5 : ∃ (s : State) (f : Nat) (e : Nat), 0 < f ∧ f < 4 ∧
  s.lm.lostAt = some e ∧ e + 10000 ≤ s.clock ∧ s.poolLost = true :=
  ⟨{ poolS.set .POOL_STATE 3 with lm.lostAt := some 5, clock := 10005 }, 2, 5, by decide +kernel⟩

/-! ## Partner ports (08) -/

theorem wit_CameraDatagramsBecomeRecords_1 : ∃ (s : State) (p : Nat) (f : CamFrame) (b : Nat) (q : Nat), isCam p =
  true ∧ s.pw.mode = .run ∧ s.pw.entry = none ∧ s.portOn p = true ∧ s.pt.linkUp.getD p false = true ∧
  s.camDrop p f = none ∧ s.camKind p f.payload = some (some (b, q)) ∧ s.portStale p = false ∧
  s.pt.gap.contains p = false ∧ s.takes p f.payload.length :=
  ⟨portS, 1, dgram (krs [1, 2, 3]), 2, 9, by decide +kernel⟩

theorem wit_CameraDatagramsBecomeRecords_2 : ∃ (s : State) (p : Nat) (f : CamFrame), isCam p = true ∧
  s.pw.mode = .run ∧ s.pw.entry = none ∧ s.portOn p = true ∧ s.pt.linkUp.getD p false = true ∧
  s.camDrop p f = none ∧ s.camKind p f.payload = some none ∧ s.portStale p = false ∧
  s.pt.gap.contains p = false ∧ s.takes p f.payload.length :=
  ⟨portS.put .CAM_ACCEPT_RTP 1 1, 1, dgram ([128] ++ leBytes 12 0), by decide +kernel⟩

theorem wit_CameraDatagramsBecomeRecords_3 : ∃ (s : State) (p : Nat) (f : CamFrame) (x : Bool), isCam p = true ∧
  s.pw.mode = .run ∧ s.pw.entry = none ∧ s.portOn p = true ∧ s.pt.linkUp.getD p false = true ∧
  s.camDrop p f = some x :=
  ⟨portS, 1, { dgram [1] with fcsOk := false }, true, by decide +kernel⟩

theorem wit_CameraDatagramsBecomeRecords_4 : ∃ (s : State) (p : Nat) (f : CamFrame), isCam p = true ∧
  s.pw.mode = .run ∧ s.pw.entry = none ∧ s.portOn p = true ∧ s.pt.linkUp.getD p false = true ∧
  s.camDrop p f = none ∧ s.camKind p f.payload = none :=
  ⟨portS, 1, dgram [1], by decide +kernel⟩

theorem wit_CameraDatagramsBecomeRecords_5 : ∃ (s : State) (p : Nat) (a : Nat), isCam p = true ∧
  s.pw.mode = .run ∧ s.pw.entry = none ∧ s.portOn p = true ∧ s.pt.linkUp.getD p false = true ∧ a ≠ 0 :=
  ⟨portS, 1, 5, by decide +kernel⟩

theorem wit_CamerasAreTimedAndWatched_1 : ∃ (s : State) (p : Nat) (q : Nat), isCam p = true ∧
  s.gptpOut p = true ∧ s.on .TIME_UNSET = false ∧ q = (Map.get s.pt.seqs (4 * p)).getD 0 :=
  ⟨(portS.set .TIME_UNSET 0).put .CAM_GPTP_ENABLE 1 1, 1, 0, by decide +kernel⟩

theorem wit_CamerasAreTimedAndWatched_2 : ∃ (s : State) (p : Nat) (q : Nat), isCam p = true ∧ s.gptpOut p = true ∧
  q = (Map.get s.pt.seqs (4 * p + 1)).getD 0 :=
  ⟨(portS.set .TIME_STATE 3).put .CAM_GPTP_ENABLE 1 1, 1, 0, by decide +kernel⟩

theorem wit_CamerasAreTimedAndWatched_3 : ∃ (s : State) (p : Nat) (q : Nat), isCam p = true ∧ s.gptpOut p = true ∧
  q = (Map.get s.pt.seqs (4 * p + 2)).getD 0 :=
  ⟨portS.put .CAM_GPTP_ENABLE 1 1, 1, 0, by decide +kernel⟩

theorem wit_CamerasAreTimedAndWatched_4 : ∃ (s : State) (p : Nat), isCam p = true ∧ s.pw.mode = .run ∧
  s.pw.entry = none ∧ s.portOn p = true ∧ s.pt.linkUp.getD p false = true ∧ s.onAt .CAM_GPTP_ENABLE p = true :=
  ⟨portS.put .CAM_GPTP_ENABLE 1 1, 1, by decide +kernel⟩

theorem wit_CamerasAreTimedAndWatched_5 : ∃ (s : State) (p : Nat) (_q : Nat), isCam p = true ∧
  s.pw.mode = .run ∧ s.pw.entry = none ∧ s.portOn p = true ∧ s.pt.linkUp.getD p false = true ∧
  s.onAt .CAM_GPTP_ENABLE p = true :=
  ⟨portS.put .CAM_GPTP_ENABLE 1 1, 1, 4, by decide +kernel⟩

theorem wit_CamerasAreTimedAndWatched_6 : ∃ (s : State) (p : Nat) (q : Nat) (a : Nat) (b : Nat) (c : Nat) (d : Nat),
  isCam p = true ∧ s.pw.mode = .run ∧ s.pw.entry = none ∧ s.portOn p = true ∧ s.pt.linkUp.getD p false = true ∧
  s.onAt .CAM_GPTP_ENABLE p = true ∧ Map.get s.pt.pdelay p = some (q, a) ∧ Map.get s.pt.pdelayT p = some (q, b) ∧
  a ≤ d ∧ c - b ≤ d - a ∧ b ≤ c ∧ d < 2 ^ 32 :=
  ⟨{ portS.put .CAM_GPTP_ENABLE 1 1 with pt.pdelay := [(1, (4, 10))], pt.pdelayT := [(1, (4, 100))] }, 1, 4, 10, 100,
    130, 60, by decide +kernel⟩

theorem wit_CamerasAreTimedAndWatched_7 : ∃ (s : State) (p : Nat) (_m : GptpMsg), isCam p = true ∧
  s.pw.mode = .run ∧ s.pw.entry = none ∧ s.portOn p = true ∧ s.pt.linkUp.getD p false = true ∧
  s.onAt .CAM_GPTP_ENABLE p = false :=
  ⟨portS.put .CAM_GPTP_ENABLE 1 0, 1, .sync, by decide +kernel⟩

theorem wit_CamerasAreTimedAndWatched_8 : ∃ (s : State) (p : Nat), isCam p = true ∧
  s.linksSeen = true ∧ s.pt.linkUp.getD p false = true ∧ s.portOn p = true ∧ s.portStale p = false :=
  ⟨portS, 1, by decide +kernel⟩

theorem wit_CamerasAreTimedAndWatched_9 : ∃ (s : State) (p : Nat), isCam p = true ∧ s.linksSeen = true ∧
  s.portOn p = true ∧ s.portStale p = false :=
  ⟨portS, 1, by decide +kernel⟩

theorem wit_CamerasAreTimedAndWatched_10 : ∃ (s : State) (p : Nat) (v : Nat) (d : Bool), isCam p = true ∧
  s.linksSeen = true ∧ (v ≠ 1000 ∨ d = false) ∧ s.pt.linkUp.getD p false = true ∧ s.portOn p = true ∧
  s.portStale p = false :=
  ⟨portS, 1, 100, true, by decide +kernel⟩

theorem wit_CamerasAreTimedAndWatched_11 : ∃ (s : State) (p : Nat) (e : Nat), 1 ≤ p ∧ p ≤ 7 ∧
  s.pt.lastIn.getD p none = some e ∧ s.linksSeen = true ∧ s.portOn p = true ∧ s.portStale p = false ∧
  e + s.portTimeout p ≤ s.clock :=
  ⟨{ portS with clock := 50000000, pt.lastIn := List.replicate 8 (some 3) }, 5, 3, by decide +kernel⟩

theorem wit_CamerasAreTimedAndWatched_12 : ∃ (s : State) (p : Nat) (e : Nat), 1 ≤ p ∧ p ≤ 7 ∧
  s.pt.lastIn.getD p none = some e ∧ s.clock < e + s.portTimeout p :=
  ⟨{ portS with pt.lastIn := List.replicate 8 (some 3) }, 5, 3, by decide +kernel⟩

theorem wit_SerialAndCanFramesAreTaken_1 : ∃ (s : State) (p : Nat) (f : SerialFrame) (q : Nat) (k : Nat) (x : Nat),
  isSer p = true ∧ s.pw.mode = .run ∧ s.pw.entry = none ∧ s.portOn p = true ∧ f.broken = false ∧
  serialOk f.bytes = true ∧ q = fieldAt f.bytes 5 1 ∧ k = fieldAt f.bytes 2 2 ∧
  x = fieldAt f.bytes (6 + k) 4 ∧ fieldAt f.bytes 4 1 = 1 ∧ Map.get s.pt.serLast p ≠ some (q, x) ∧
  s.portStale p = false ∧ s.pt.gap.contains p = false ∧ s.takes p k :=
  ⟨portS, 5, { bytes := serialFrame 1 7 [1, 2, 3], broken := false }, 7, 3, fieldAt (serialFrame 1 7 [1, 2, 3]) 9 4,
    by decide +kernel⟩

theorem wit_SerialAndCanFramesAreTaken_2 : ∃ (s : State) (p : Nat) (f : SerialFrame) (q : Nat) (k : Nat) (x : Nat),
  isSer p = true ∧ s.pw.mode = .run ∧ s.pw.entry = none ∧ s.portOn p = true ∧ f.broken = false ∧
  serialOk f.bytes = true ∧ q = fieldAt f.bytes 5 1 ∧ k = fieldAt f.bytes 2 2 ∧
  x = fieldAt f.bytes (6 + k) 4 ∧ fieldAt f.bytes 4 1 = 1 ∧ Map.get s.pt.serLast p = some (q, x) ∧
  s.portStale p = false ∧ s.poolLost = false :=
  ⟨{ portS with pt.serLast := [(5, (7, fieldAt (serialFrame 1 7 [1, 2, 3]) 9 4))] }, 5,
    { bytes := serialFrame 1 7 [1, 2, 3], broken := false }, 7, 3, fieldAt (serialFrame 1 7 [1, 2, 3]) 9 4,
    by decide +kernel⟩

theorem wit_SerialAndCanFramesAreTaken_3 : ∃ (s : State) (p : Nat) (f : SerialFrame) (q : Nat) (k : Nat) (x : Nat),
  isSer p = true ∧ s.pw.mode = .run ∧ s.pw.entry = none ∧ s.portOn p = true ∧ f.broken = false ∧
  serialOk f.bytes = true ∧ q = fieldAt f.bytes 5 1 ∧ k = fieldAt f.bytes 2 2 ∧
  x = fieldAt f.bytes (6 + k) 4 ∧ fieldAt f.bytes 4 1 = 1 ∧ Map.get s.pt.serLast p ≠ some (q, x) ∧
  s.portStale p = false ∧ s.pt.gap.contains p = false ∧ s.poolLost = false ∧ s.lm.lease.getD p none = none :=
  ⟨{ portS with lm.lease := List.replicate 10 none }, 5, { bytes := serialFrame 1 7 [1, 2, 3], broken := false }, 7,
    3, fieldAt (serialFrame 1 7 [1, 2, 3]) 9 4, by decide +kernel⟩

theorem wit_SerialAndCanFramesAreTaken_4 : ∃ (s : State) (p : Nat) (f : SerialFrame) (q : Nat), isSer p = true ∧
  s.pw.mode = .run ∧ s.pw.entry = none ∧ s.portOn p = true ∧ f.broken = false ∧ serialOk f.bytes = true ∧
  q = fieldAt f.bytes 5 1 ∧ fieldAt f.bytes 4 1 = 2 ∧ s.portStale p = false ∧ s.poolLost = false :=
  ⟨portS, 5, { bytes := serialFrame 2 7 [], broken := false }, 7, by decide +kernel⟩

theorem wit_SerialAndCanFramesAreTaken_5 : ∃ (s : State) (p : Nat) (f : SerialFrame), isSer p = true ∧
  s.pw.mode = .run ∧ s.pw.entry = none ∧ s.portOn p = true ∧ (f.broken = true ∨ serialOk f.bytes = false) :=
  ⟨portS, 5, { bytes := [1], broken := false }, by decide +kernel⟩

theorem wit_SerialAndCanFramesAreTaken_6 : ∃ (s : State) (p : Nat) (a : SerAnswer), isSer p = true ∧
  s.serialOut p = true ∧ Map.get s.pt.answers p = some a ∧ s.answerReady p a = true ∧
  s.poisoned (outboxGranule p) = false :=
  ⟨{ portS with pt.answers := [(5, { seq := 7, nak := none, from' := some 0 })], pt.timeDue := [5], clock := 3000 },
    5, { seq := 7, nak := none, from' := some 0 }, by decide +kernel⟩

theorem wit_SerialAndCanFramesAreTaken_7 : ∃ (s : State) (p : Nat) (a : SerAnswer), isSer p = true ∧
  s.serialOut p = true ∧ Map.get s.pt.answers p = some a ∧ s.answerReady p a = true :=
  ⟨{ portS with pt.answers := [(5, { seq := 7, nak := none, from' := some 0 })], pt.timeDue := [5], clock := 3000 },
    5, { seq := 7, nak := none, from' := some 0 }, by decide +kernel⟩

theorem wit_SerialAndCanFramesAreTaken_8 : ∃ (s : State) (p : Nat) (a : SerAnswer) (_x : Bool), isSer p = true ∧
  s.serialOut p = true ∧ Map.get s.pt.answers p = some a ∧ s.answerReady p a = false :=
  ⟨{ portS with pt.answers := [(5, { seq := 7, nak := none, from' := some 0 })] }, 5,
    { seq := 7, nak := none, from' := some 0 }, false, by decide +kernel⟩

theorem wit_SerialAndCanFramesAreTaken_9 : ∃ (s : State) (p : Nat), isSer p = true ∧ s.linksSeen = true ∧
  s.portOn p = true :=
  ⟨portS, 5, by decide +kernel⟩

theorem wit_SerialAndCanFramesAreTaken_10 : ∃ (s : State) (p : Nat), isSer p = true ∧ s.serialOut p = true ∧
  s.onAt .SER_TIME_FRAMES p = true ∧ Map.has s.pt.answers p = false ∧
  s.pt.lineAt.getD p 0 + 10000 ≤ s.clock ∧ s.poisoned (outboxGranule p) = false :=
  ⟨{ portS.put .SER_TIME_FRAMES 5 1 with clock := 10000 }, 5, by decide +kernel⟩

theorem wit_SerialAndCanFramesAreTaken_11 : ∃ (s : State) (p : Nat) (x : Bool), isSer p = true ∧
  s.serialOut p = true ∧ s.onAt .SER_TIME_FRAMES p = true ∧ (x = true ∨ Map.has s.pt.answers p = true ∨ s.clock <
  s.pt.lineAt.getD p 0 + 10000) :=
  ⟨portS.put .SER_TIME_FRAMES 5 1, 5, true, by decide +kernel⟩

theorem wit_SerialAndCanFramesAreTaken_12 : ∃ (s : State) (f : CanFrame) (j : Nat) (js : List Nat), f.data.length ≤ 64
  ∧ s.pw.mode = .run ∧ s.pw.entry = none ∧ s.portOn 7 = true ∧ s.pt.busOff = false ∧ f.remote = false ∧
  f.ok = true ∧ (f.fdf = false ∨ s.on .CAN_FD_ENABLE = true) ∧ (List.range 64).filter (fun i => s.canMatch f i) = j ::
  js ∧ s.pt.canStale = false ∧ s.pt.gap.contains 7 = false ∧ Map.get s.pt.canLast (2 * f.id + b2n f.ide) = none ∧
  (∀ k, k < 8 → s.get .TL_START k = 0 ∧ s.get .TL_STOP k = 0) ∧ s.takes 7 (canBytes f).length :=
  ⟨(((portS.put .CM_KIND 3 1).put .CM_ID 3 5).put .CM_MASK 3 0x7FF).put .CM_BITS 3 8 |>.put .CM_RAW_MAX 3 255 |>.put
    .CM_SCALE 3 65536, { ok := true, remote := false, id := 5, ide := false, fdf := false, brs := false, dlc := 2,
                           data := [7, 1] }, 3, [], by decide +kernel⟩

theorem wit_SerialAndCanFramesAreTaken_13 : ∃ (s : State) (f : CanFrame), f.data.length ≤ 64 ∧
  s.pw.mode = .run ∧ s.pw.entry = none ∧ s.portOn 7 = true ∧ s.pt.busOff = false ∧ f.remote = false ∧
  f.ok = true ∧ (f.fdf = false ∨ s.on .CAN_FD_ENABLE = true) ∧ (List.range 64).filter (fun i => s.canMatch f i) = []
  :=
  ⟨portS, { ok := true, remote := false, id := 5, ide := false, fdf := false, brs := false, dlc := 2, data := [7, 1]
              }, by decide +kernel⟩

theorem wit_SerialAndCanFramesAreTaken_14 : ∃ (s : State) (f : CanFrame), f.data.length ≤ 64 ∧
  s.linksSeen = true ∧ s.portOn 7 = true ∧ s.pt.busOff = false ∧ (f.ok = false ∨ (f.fdf = true ∧
  s.on .CAN_FD_ENABLE = false)) :=
  ⟨(portS.set .REC 127).set .CAN_STATE 1,
    { ok := false, remote := false, id := 5, ide := false, fdf := false, brs := false, dlc := 2, data := [7, 1] },
    by decide +kernel⟩

theorem wit_SerialAndCanFramesAreTaken_15 : ∃ (s : State), s.linksSeen = true ∧ s.portOn 7 = true ∧
  s.pt.busOff = false :=
  ⟨portS, by decide +kernel⟩

theorem wit_SerialAndCanFramesAreTaken_16 : ∃ (s : State), s.pt.busOff = true :=
  ⟨{ portS with pt.busOff := true }, by decide +kernel⟩

/-! ## Time and tally (08) -/

theorem wit_TheTimeBaseFollowsPpsAndNmea_1 : ∃ (s : State) (w : Nat), s.timeUp = true ∧
  s.on .PPS_ENABLE = true ∧ s.pinHas 1 = true ∧ 1000 ≤ w ∧ s.tb.edge.all (fun e => decide (e.2 + 999000 ≤ s.clock) &&
  decide (s.clock ≤ e.2 + 1001000)) = true :=
  ⟨{ (((portS.set .NMEA_ENABLE 1).put .GP_FUNC 5 2).put .GP_FUNC 4 1).set .PPS_ENABLE 1
       with clock := 1000100, time := 1000100, tb.edge := some (100, 0) }, 1000, by decide +kernel⟩

theorem wit_TheTimeBaseFollowsPpsAndNmea_2 : ∃ (s : State) (w : Nat), s.timeUp = true ∧
  s.on .PPS_ENABLE = true ∧ s.pinHas 1 = true ∧ (w < 1000 ∨ s.tb.edge.all (fun e => decide (e.2 + 999000 ≤ s.clock) &&
  decide (s.clock ≤ e.2 + 1001000)) = false) :=
  ⟨{ (((portS.set .NMEA_ENABLE 1).put .GP_FUNC 5 2).put .GP_FUNC 4 1).set .PPS_ENABLE 1
       with clock := 100100, tb.edge := some (100, 0) }, 1000, by decide +kernel⟩

theorem wit_TheTimeBaseFollowsPpsAndNmea_3 : ∃ (s : State) (n : Nmea) (e : Nat) (c : Nat) (l : Nat), s.timeUp = true ∧
  s.on .NMEA_ENABLE = true ∧ s.pinHas 2 = true ∧ ((n.rmc && n.statusA) || n.zda) = true ∧ n.good = true ∧
  s.tb.edge = some (e, c) ∧ c + 100000 ≤ s.clock ∧ s.clock ≤ c + 900000 ∧ s.tb.labelled = false ∧
  l = n.second * 1000000 ∧ s.reg .TIME_STATE ≠ 2 ∧ (if s.tb.label = some (l - 1000000) ∧
  1000000 ≤ l then s.tb.run + 1 else 1) < 4 :=
  ⟨{ (((portS.set .NMEA_ENABLE 1).put .GP_FUNC 5 2).put .GP_FUNC 4 1) with clock := 500000, time := 500000, tb.edge :=
                                                                             some (100, 0) },
    { rmc := true, zda := false, good := true, statusA := true, second := 9 }, 100, 0, 9000000, by decide +kernel⟩

theorem wit_TheTimeBaseFollowsPpsAndNmea_4 : ∃ (s : State) (n : Nmea) (e : Nat) (c : Nat) (l : Nat), s.timeUp = true ∧
  s.on .NMEA_ENABLE = true ∧ s.pinHas 2 = true ∧ ((n.rmc && n.statusA) || n.zda) = true ∧ n.good = true ∧
  s.tb.edge = some (e, c) ∧ c + 100000 ≤ s.clock ∧ s.clock ≤ c + 900000 ∧ s.tb.labelled = false ∧
  l = n.second * 1000000 ∧ s.reg .TIME_STATE ≠ 2 ∧ 4 ≤ (if s.tb.label = some (l - 1000000) ∧
  1000000 ≤ l then s.tb.run + 1 else 1) ∧ s.on .TIME_UNSET = true ∧ s.noDisc :=
  ⟨{ (((portS.set .NMEA_ENABLE 1).put .GP_FUNC 5 2).put .GP_FUNC 4 1) with clock := 500000, time := 500000, tb.edge :=
                                                                             some (100, 0), tb.run := 3, tb.label :=
                                                                             some 8000000 },
    { rmc := true, zda := false, good := true, statusA := true, second := 9 }, 100, 0, 9000000, by decide +kernel⟩

theorem wit_TheTimeBaseFollowsPpsAndNmea_5 : ∃ (s : State) (n : Nmea) (e : Nat) (c : Nat) (l : Nat), s.timeUp = true ∧
  s.on .NMEA_ENABLE = true ∧ s.pinHas 2 = true ∧ ((n.rmc && n.statusA) || n.zda) = true ∧ n.good = true ∧
  s.tb.edge = some (e, c) ∧ c + 100000 ≤ s.clock ∧ s.clock ≤ c + 900000 ∧ s.tb.labelled = false ∧
  l = n.second * 1000000 ∧ s.reg .TIME_STATE = 2 ∧ l ≤ e + 1000 ∧ e ≤ l + 500000 :=
  ⟨{ (((portS.set .NMEA_ENABLE 1).put .GP_FUNC 5 2).put .GP_FUNC 4 1).set .TIME_STATE 2
       with clock := 500000, time := 500000, tb.edge := some (9002000, 0) },
    { rmc := true, zda := false, good := true, statusA := true, second := 9 }, 9002000, 0, 9000000, by decide +kernel⟩

theorem wit_TheTimeBaseFollowsPpsAndNmea_6 : ∃ (s : State) (n : Nmea) (e : Nat) (c : Nat) (l : Nat), s.timeUp = true ∧
  s.on .NMEA_ENABLE = true ∧ s.pinHas 2 = true ∧ ((n.rmc && n.statusA) || n.zda) = true ∧ n.good = true ∧
  s.tb.edge = some (e, c) ∧ c + 100000 ≤ s.clock ∧ s.clock ≤ c + 900000 ∧ s.tb.labelled = false ∧
  l = n.second * 1000000 ∧ s.reg .TIME_STATE = 2 ∧ (e + 500000 < l ∨ l + 500000 < e) :=
  ⟨{ (((portS.set .NMEA_ENABLE 1).put .GP_FUNC 5 2).put .GP_FUNC 4 1).set .TIME_STATE 2
       with clock := 500000, time := 500000, tb.edge := some (100, 0) },
    { rmc := true, zda := false, good := true, statusA := true, second := 9 }, 100, 0, 9000000, by decide +kernel⟩

theorem wit_TheTimeBaseFollowsPpsAndNmea_7 : ∃ (s : State) (n : Nmea), s.timeUp = true ∧
  s.on .NMEA_ENABLE = true ∧ s.pinHas 2 = true ∧ ((n.rmc && n.statusA) || n.zda) = true ∧
  (s.tb.edge = none ∨ n.good = false ∨ s.tb.edge.any (fun e => decide (s.clock < e.2 + 100000) || decide (e.2 + 900000
  < s.clock)) = true) :=
  ⟨{ (((portS.set .NMEA_ENABLE 1).put .GP_FUNC 5 2).put .GP_FUNC 4 1) with clock := 500000, time := 500000, tb.edge :=
                                                                             some (100, 0) },
    { ({ rmc := true, zda := false, good := true, statusA := true, second := 9 } : Nmea) with good := false },
    by decide +kernel⟩

theorem wit_TheTimeBaseFollowsPpsAndNmea_8 : ∃ (s : State) (e : Nat) (c : Nat), s.tb.edge = some (e, c) ∧
  c + 1500000 ≤ s.clock :=
  ⟨{ portS.set .TIME_STATE 2 with clock := 2000000, tb.edge := some (100, 0) }, 100, 0, by decide +kernel⟩

theorem wit_TheTimeBaseFollowsPpsAndNmea_9 : ∃ (s : State), s.reg .TIME_STATE = 3 ∧
  s.tb.holdoverAt + 600000000 ≤ s.clock :=
  ⟨{ portS.set .TIME_STATE 3 with clock := 700000000 }, by decide +kernel⟩

theorem wit_TallyIntervalsOpenAndClose_1 : ∃ (s : State) (p : Nat × Bool) (_a : Nat), p.1 < 24 ∧
  s.pw.mode = .run ∧ s.pw.entry = none ∧ s.noDisc ∧ s.get .GP_FUNC p.1 ≠ 8 :=
  ⟨{ ((portS.put .TL_START 1 0x25).put .TL_STOP 1 0x45) with clock := 9000, time := 9000 }, (5, true), 8000,
    by decide +kernel⟩

theorem wit_TallyIntervalsOpenAndClose_2 : ∃ (s : State) (p : Nat × Bool) (_a : Nat) (k : Nat) (o : TallyOpen), p.1 <
  24 ∧ k < 8 ∧ s.pw.mode = .run ∧ s.pw.entry = none ∧ s.get .GP_FUNC p.1 ≠ 8 ∧ s.takes 8 32 ∧
  Map.get s.tally k = some o ∧ s.get .TL_STOP k = edgeCode p ∧ s.get .TL_START k ≠ edgeCode p ∧ (∀ j, j < 8 →
  j ≠ k → s.get .TL_START j ≠ edgeCode p ∧ s.get .TL_STOP j ≠ edgeCode p) :=
  ⟨{ ((portS.put .TL_START 1 0x25).put .TL_STOP 1 0x45) with clock := 9000, time := 9000, tally := [(1,
                                                               { start := 5, coarse := false, odo := 3, since := 5 })]
                                                               }, (5, false), 8000, 1,
    { start := 5, coarse := false, odo := 3, since := 5 }, by decide +kernel⟩

theorem wit_TallyIntervalsOpenAndClose_3 : ∃ (s : State) (k : Nat) (m : Nat) (o : TallyOpen), k < 8 ∧
  s.pw.mode = .run ∧ s.pw.entry = none ∧ s.takes 8 32 ∧ Map.get s.tally k = some o ∧ m = s.get .TL_MAX_OPEN_S k ∧
  m ≠ 0 ∧ o.start + m * 1000000 ≤ s.time :=
  ⟨{ portS.put .TL_MAX_OPEN_S 1 2 with clock := 2000005, time := 2000005, tally := [(1,
                                         { start := 5, coarse := false, odo := 3, since := 5 })] }, 1, 2,
    { start := 5, coarse := false, odo := 3, since := 5 }, by decide +kernel⟩

theorem wit_TallyIntervalsOpenAndClose_4 : ∃ (s : State) (k : Nat) (o : TallyOpen), k < 8 ∧
  Map.get s.tally k = some o ∧ (s.get .TL_MAX_OPEN_S k = 0 ∨ s.time < o.start + s.get .TL_MAX_OPEN_S k * 1000000) :=
  ⟨{ portS with tally := [(1, { start := 5, coarse := false, odo := 3, since := 5 })] }, 1,
    { start := 5, coarse := false, odo := 3, since := 5 }, by decide +kernel⟩

/-! ## The spindle (09) -/

theorem wit_TheSpindleStartsAndStops_1 : ∃ (s : State) (rs : List (List Int)), (s.reg .SP_STATE = 0 ∨ s.reg .SP_STATE
  = 5 ∨ (s.reg .SP_STATE = 6 ∧ s.sp.why = .stop)) ∧ s.discWanted = true ∧ s.spindleBarred = false ∧
  s.pw.mode = .run ∧ s.pw.waking = none ∧ s.st.d2dUntil = none ∧ s.pw.d2dDown = false ∧
  s.st.laneLoopFail = [] ∧ analogueFirst [0x20, 0x21, 0x22, 0x23] rs = none :=
  ⟨{ discS with bu.active := true }, [[64, 512, 960], [100, -100], [500], [400]], by decide +kernel⟩

theorem wit_TheSpindleStartsAndStops_2 : ∃ (s : State) (rs : List (List Int)) (k : Nat) (u : Nat) (v : Int), (s.reg
  .SP_STATE = 0 ∨ s.reg .SP_STATE = 5 ∨ (s.reg .SP_STATE = 6 ∧ s.sp.why = .stop)) ∧
  s.discWanted = true ∧ s.spindleBarred = false ∧ s.pw.mode = .run ∧ s.pw.waking = none ∧
  s.st.d2dUntil = none ∧ s.pw.d2dDown = false ∧ analogueFirst [0x20, 0x21, 0x22, 0x23] rs = some (k, u, v) :=
  ⟨{ discS with bu.active := true }, [[64, 512, 960], [100, -90]], 0x21, (analogueFault 0x21 [100, -90]).get!.1,
    (analogueFault 0x21 [100, -90]).get!.2, by decide +kernel⟩

theorem wit_TheSpindleStartsAndStops_3 : ∃ (s : State), s.reg .SP_STATE = 1 ∧ 20000 ≤ s.spFor :=
  ⟨{ (discS).set .SP_STATE 1 with clock := 900000000 }, by decide +kernel⟩

theorem wit_TheSpindleStartsAndStops_4 : ∃ (s : State) (l : List (Nat × Bool)), s.reg .SP_STATE = 1 ∧
  20000 ≤ s.spFor ∧ l.any (fun c => !c.2) = true :=
  ⟨{ (discS).set .SP_STATE 1 with clock := 900000000 }, [(0, true), (5, false)], by decide +kernel⟩

theorem wit_TheSpindleStartsAndStops_5 : ∃ (s : State) (l : List (Nat × Bool)), s.reg .SP_STATE = 1 ∧
  20000 ≤ s.spFor ∧ l.any (fun c => !c.2) = false ∧ catchable l = true ∧ s.on .CATCH_ENABLE = true :=
  ⟨{ (discS).set .SP_STATE 1 |>.set .CATCH_ENABLE 1 with clock := 900000000 }, List.replicate 6 (500000, true),
    by decide +kernel⟩

theorem wit_TheSpindleStartsAndStops_6 : ∃ (s : State) (l : List (Nat × Bool)), s.reg .SP_STATE = 1 ∧
  20000 ≤ s.spFor ∧ l ≠ [] ∧ l.any (fun c => !c.2) = false ∧ (catchable l && s.on .CATCH_ENABLE) = false :=
  ⟨{ (discS).set .SP_STATE 1 with clock := 900000000 }, [(9, true)], by decide +kernel⟩

theorem wit_TheSpindleStartsAndStops_7 : ∃ (s : State), s.reg .SP_STATE = 2 ∧ 1000 * s.coldLatch 1 ≤ s.spFor :=
  ⟨{ (discS).set .SP_STATE 2 with clock := 900000000 }, by decide +kernel⟩

theorem wit_TheSpindleStartsAndStops_8 : ∃ (s : State), s.reg .SP_STATE = 3 ∧
  1200000000 ≤ s.coldLatch 2 * s.spFor ∧ s.sp.attempts + 1 < 3 :=
  ⟨{ (discS).set .SP_STATE 3 with clock := 900000000, sp.coldLatched := [800, 300, 400] }, by decide +kernel⟩

theorem wit_TheSpindleStartsAndStops_9 : ∃ (s : State), s.reg .SP_STATE = 3 ∧ 1200000000 ≤ s.coldLatch 2 * s.spFor ∧
  3 ≤ s.sp.attempts + 1 :=
  ⟨{ (discS).set .SP_STATE 3 with clock := 900000000, sp.coldLatched := [800, 300, 400], sp.attempts := 2 },
    by decide +kernel⟩

theorem wit_TheSpindleStartsAndStops_10 : ∃ (s : State), s.reg .SP_STATE = 6 ∧ s.sp.why = .retry ∧ 500000 ≤ s.spFor :=
  ⟨{ (discS).set .SP_STATE 6 with clock := 900000000, sp.why := .retry }, by decide +kernel⟩

theorem wit_TheSpindleStartsAndStops_11 : ∃ (s : State), s.reg .SP_STATE = 4 ∧ s.discWanted = false :=
  ⟨{ (discS).set .SP_STATE 4 with clock := 900000000 }, by decide +kernel⟩

theorem wit_TheSpindleStartsAndStops_12 : ∃ (s : State), ((s.reg .SP_STATE = 6 ∧ s.sp.why = .stop ∧
  150000 ≤ s.spFor) ∨ (s.reg .SP_STATE = 0 ∧ s.on .DISC_TURNING = true)) :=
  ⟨{ (discS).set .SP_STATE 6 with clock := 900000000 }, by decide +kernel⟩

theorem wit_TheSpindleStartsAndStops_13 : ∃ (s : State), s.reg .SP_STATE = 6 ∧ s.sp.why = .start ∧ 150000 ≤ s.spFor :=
  ⟨{ (discS).set .SP_STATE 6 with clock := 900000000, sp.why := .start }, by decide +kernel⟩

theorem wit_TheSpindleStartsAndStops_14 : ∃ (s : State), s.reg .SP_STATE = 6 ∧
  (s.sp.why = .stop ∨ s.sp.why = .start) ∧ 150000 ≤ s.spFor :=
  ⟨{ (discS).set .SP_STATE 6 with clock := 900000000 }, by decide +kernel⟩

theorem wit_TheSpindleStartsAndStops_15 : ∃ (s : State) (_x : Bool), s.reg .SP_STATE = 6 ∧ s.spFor < 150000 :=
  ⟨(discS).set .SP_STATE 6, false, by decide +kernel⟩

theorem wit_TheSpindleStartsAndStops_16 : ∃ (s : State), s.reg .SP_STATE = 7 ∧ 100000 ≤ s.spFor :=
  ⟨{ (discS).set .SP_STATE 7 |>.set .SPF_OVERCURRENT 1 with clock := 900000000 }, by decide +kernel⟩

theorem wit_TheSpindleRunsAndMeetsFaults_1 : ∃ (s : State) (p : Nat), s.reg .SP_STATE = 4 ∧
  s.sp.stopAsked = false ∧ s.sp.deferred = [] ∧ (s.expected = 0 ∨ (3 * s.expected ≤ 4 * p ∧
  4 * p ≤ 5 * s.expected)) ∧ s.bemfBlanked = false ∧ s.st.spurious = 0 :=
  ⟨{ (discS).set .SP_STATE 4 with clock := 900000000, sp.good := 35, sp.periods := [173600] }, 173611,
    by decide +kernel⟩

theorem wit_TheSpindleRunsAndMeetsFaults_2 : ∃ (s : State) (p : Nat) (f : Bool), (s.reg .SP_STATE = 3 ∨ s.reg
  .SP_STATE = 4 ∨ s.reg .SP_STATE = 5) ∧ s.bemfBlanked = false ∧ s.st.spurious = 0 ∧
  (f = false ∨ ¬(s.expected = 0 ∨ (3 * s.expected ≤ 4 * p ∧ 4 * p ≤ 5 * s.expected))) ∧
  (f = true ∨ s.sp.prevReversed = false) :=
  ⟨{ (discS).set .SP_STATE 4 with clock := 900000000 }, 5, false, by decide +kernel⟩

theorem wit_TheSpindleRunsAndMeetsFaults_3 : ∃ (s : State) (_p : Nat), s.reg .SP_STATE = 4 ∧
  s.bemfBlanked = false ∧ s.st.spurious = 0 ∧ s.sp.prevReversed = true :=
  ⟨{ (discS).set .SP_STATE 4 with clock := 900000000, sp.prevReversed := true }, 5, by decide +kernel⟩

theorem wit_TheSpindleRunsAndMeetsFaults_4 : ∃ (s : State), s.reg .SP_STATE = 4 ∧
  s.sp.stopAsked = false ∧ s.sp.deferred = [] ∧ s.sp.periods ≠ [] :=
  ⟨{ (discS).set .SP_STATE 4 with clock := 900000000, sp.periods := [173600] }, by decide +kernel⟩

theorem wit_TheSpindleRunsAndMeetsFaults_5 : ∃ (s : State), (s.reg .SP_STATE = 3 ∨ s.reg .SP_STATE = 4 ∨ s.reg
  .SP_STATE = 5) :=
  ⟨{ (discS).set .SP_STATE 4 with clock := 900000000 }, by decide +kernel⟩

theorem wit_TheSpindleRunsAndMeetsFaults_6 : ∃ (s : State) (_p : Nat) (_f : Bool), s.bemfBlanked = true :=
  ⟨{ (discS).set .SP_STATE 4 with sp.commutatedAt := some 0, sp.latched := [30] }, 173611, true, by decide +kernel⟩

theorem wit_TheSpindleRunsAndMeetsFaults_7 : ∃ (s : State), s.stalled = false :=
  ⟨(discS).set .SP_STATE 4, by decide +kernel⟩

theorem wit_TheSpindleRunsAndMeetsFaults_8 : ∃ (s : State) (k : Nat), k < 3 ∧ s.reg .SP_DEMAND_MA ≠ 0 ∧
  s.reg .SP_STATE = 4 ∧ s.sp.braking = false ∧ (s.slewDone.2 = 0 ∨ s.slewDone.1 = s.slewDone.2) :=
  ⟨{ ((discS).set .SP_STATE 4).set .SP_DEMAND_MA 700 with sp.commutatedAt := some 0, clock := 30, sp.latched := [30]
                                                            }, 1, by decide +kernel⟩

theorem wit_TheSpindleRunsAndMeetsFaults_9 : ∃ (s : State), s.reg .SP_STATE = 4 ∧ s.stalled = true ∧
  s.sp.starting = false ∧ (s.sp.stalls.filter (fun c => s.clock < c + 60000000)).length < 2 :=
  ⟨{ (discS).set .SP_STATE 4 with clock := 900000000, sp.periods := [173600] }, by decide +kernel⟩

theorem wit_TheSpindleRunsAndMeetsFaults_10 : ∃ (s : State), s.reg .SP_STATE = 4 ∧ s.stalled = true ∧
  2 ≤ (s.sp.stalls.filter (fun c => s.clock < c + 60000000)).length :=
  ⟨{ (discS).set .SP_STATE 4 with clock := 900000000, sp.periods := [173600], sp.stalls := [900000000, 899999999] },
    by decide +kernel⟩

theorem wit_TheSpindleRunsAndMeetsFaults_11 : ∃ (s : State) (k : Nat), k < 3 ∧
  (s.reg .SP_STATE = 2 ∨ s.reg .SP_STATE = 3 ∨ s.reg .SP_STATE = 4 ∨ s.reg .SP_STATE = 5 ∨ s.reg .SP_STATE = 6) :=
  ⟨{ (discS).set .SP_STATE 4 with clock := 900000000, sp.overcurrentAt := some 899999999 }, 1, by decide +kernel⟩

theorem wit_TheSpindleRunsAndMeetsFaults_12 : ∃ (s : State) (k : Nat), k < 3 ∧ s.reg .SP_STATE = 2 ∧ 5000 ≤ s.spFor :=
  ⟨{ (discS).set .SP_STATE 2 with clock := 900000000 }, 1, by decide +kernel⟩

theorem wit_TheSpindleRunsAndMeetsFaults_13 : ∃ (s : State), s.on .SPF_VMOT_LOW = false :=
  ⟨{ (discS).set .SP_STATE 4 with clock := 900000000 }, by decide +kernel⟩

theorem wit_TheSpindleRunsAndMeetsFaults_14 : ∃ (s : State), s.on .SPF_STAGE_HOT = false :=
  ⟨{ (discS).set .SP_STATE 4 with clock := 900000000 }, by decide +kernel⟩

theorem wit_TheSpindleRunsAndMeetsFaults_15 : ∃ (s : State), s.on .SPF_VMOT_LOW = true :=
  ⟨{ ({ discS with bu.active := true }).set .SP_STATE 0 |>.set .SPF_VMOT_LOW 1 with clock := 900000000 },
    by decide +kernel⟩

theorem wit_TheSpindleRunsAndMeetsFaults_16 : ∃ (s : State), s.on .SPF_STAGE_HOT = true :=
  ⟨{ ({ discS with bu.active := true }).set .SP_STATE 0 |>.set .SPF_STAGE_HOT 1 with clock := 900000000 },
    by decide +kernel⟩

/-! ## The sled, the coils and the loader (10) -/

theorem wit_TheSledMovesAndHomes_1 : ∃ (s : State) (u : Int) (c : Int), s.on .SLF_STAGE_HOT = false ∧
  s.sl.homing = none ∧ s.sl.reenergise = false ∧ (s.sl.standing = false ∨ (s.standMode = 0 ∧
  s.sl.loose = false)) ∧ (s.reg .DISC_SERVICE ≠ 3 ∨ s.reg .SL_STATE ≠ 4) ∧ c = s.sledClamp u ∧ c ≠ s.sledPos ∧
  s.on .SL_POS_VALID = true ∧ (s.on .SL_PROVISIONAL = false ∨ s.reg .LD_STATE = 2) :=
  ⟨{ ((discS).set .SL_POS_VALID 1) with clock := 900000000 }, 5000, 5000, by decide +kernel⟩

theorem wit_TheSledMovesAndHomes_2 : ∃ (s : State) (u : Int) (c : Int), s.on .SLF_STAGE_HOT = false ∧
  s.sl.homing = none ∧ s.sl.reenergise = false ∧ (s.sl.standing = false ∨ (s.standMode = 0 ∧
  s.sl.loose = false)) ∧ (s.reg .DISC_SERVICE ≠ 3 ∨ s.reg .SL_STATE ≠ 4) ∧ c = s.sledClamp u ∧
  s.on .SL_POS_VALID = false :=
  ⟨{ ((discS).set .SL_POS_VALID 1).set .SL_POS_VALID 0 with clock := 900000000 }, 5000, 5000, by decide +kernel⟩

theorem wit_TheSledMovesAndHomes_3 : ∃ (s : State) (u : Int) (c : Int), c = s.sledClamp u ∧
  (s.reg .DISC_SERVICE ≠ 3 ∨ s.reg .SL_STATE ≠ 4) ∧ (s.on .SLF_STAGE_HOT = true ∨ s.sl.homing.isSome = true ∨
  s.sl.reenergise = true) :=
  ⟨{ ((discS).set .SL_POS_VALID 1) with clock := 900000000, sl.homing := some .inward }, 5000, 5000,
    by decide +kernel⟩

theorem wit_TheSledMovesAndHomes_4 : ∃ (s : State) (u : Int) (c : Int), c = s.sledClamp u ∧
  (s.reg .DISC_SERVICE ≠ 3 ∨ s.reg .SL_STATE ≠ 4) ∧ s.on .SLF_STAGE_HOT = false ∧ s.sl.homing = none ∧
  s.sl.reenergise = false ∧ s.sl.standing = true ∧ (s.standMode ≠ 0 ∨ s.sl.loose = true) :=
  ⟨{ discS with sl.standing := true, sl.mode := 1 }, 5000, 5000, by decide +kernel⟩

theorem wit_TheSledMovesAndHomes_5 : ∃ (s : State) (u : Int) (c : Int), c = s.sledClamp u ∧
  s.reg .DISC_SERVICE = 3 ∧ s.reg .SL_STATE = 4 :=
  ⟨(discS.set .DISC_SERVICE 3).set .SL_STATE 4, 5000, 5000, by decide +kernel⟩

theorem wit_TheSledMovesAndHomes_6 : ∃ (s : State) (u : Int), s.sl.homing = none ∧ s.sl.target = some u :=
  ⟨{ ((discS).set .SL_POS_VALID 1) with clock := 900000000, sl.target := some (-7) }, -7, by decide +kernel⟩

theorem wit_TheSledMovesAndHomes_7 : ∃ (s : State) (u : Int), s.sl.homing = some .toMin ∧
  s.sl.target = some u ∧ s.sl.after = none :=
  ⟨{ ((discS).set .SL_POS_VALID 1) with clock := 900000000, sl.homing := some .toMin, sl.target := some 512 }, 512,
    by decide +kernel⟩

theorem wit_TheSledMovesAndHomes_8 : ∃ (s : State), s.sl.homing = some .outward :=
  ⟨{ ((discS).set .SL_POS_VALID 1) with clock := 900000000, sl.homing := some .outward }, by decide +kernel⟩

theorem wit_TheSledMovesAndHomes_9 : ∃ (s : State), (s.reg .SL_STATE = 0 ∨ s.reg .SL_STATE = 3) ∧
  s.sl.standing = false ∧ s.sl.reenergise = false ∧ s.sl.standAt + 1000 * s.reg .HOLD_DELAY_MS ≤ s.clock :=
  ⟨{ ((discS).set .SL_POS_VALID 1) with clock := 900000000, sl.standing := false }, by decide +kernel⟩

theorem wit_TheSledMovesAndHomes_10 : ∃ (s : State), s.sl.reenergise = true ∧ s.sl.after = none ∧
  s.sl.phaseAt + 20000 ≤ s.clock :=
  ⟨{ ((discS).set .SL_POS_VALID 1) with clock := 900000000, sl.reenergise := true }, by decide +kernel⟩

theorem wit_TheSledMovesAndHomes_11 : ∃ (s : State), s.sl.homing = some .release :=
  ⟨{ ((discS).set .SL_POS_VALID 1) with clock := 900000000, sl.homing := some .release }, by decide +kernel⟩

theorem wit_TheSledMovesAndHomes_12 : ∃ (s : State), s.sl.homing = some .inward ∧ s.reg .HOME_MODE = 0 :=
  ⟨{ ((discS).set .SL_POS_VALID 1) with clock := 900000000, sl.homing := some .inward }, by decide +kernel⟩

theorem wit_TheSledMovesAndHomes_13 : ∃ (s : State) (_a : Bool), s.sl.homing = none :=
  ⟨{ ((discS).set .SL_POS_VALID 1).set .SLED_POS 5000 with clock := 900000000 }, true, by decide +kernel⟩

theorem wit_TheSledMovesAndHomes_14 : ∃ (s : State) (u : Int), s.sl.homing = none ∧ s.sl.target = some u ∧
  s.on .SL_STALL_SENSE_ACTIVE = true :=
  ⟨{ ((discS).set .SL_POS_VALID 1).set .SL_STALL_SENSE_ACTIVE 1 with clock := 900000000, sl.target := some 7 }, 7,
    by decide +kernel⟩

theorem wit_TheSledMovesAndHomes_15 : ∃ (s : State), s.sl.homing = some .inward ∧ s.reg .HOME_MODE = 1 ∧
  s.on .SL_STALL_SENSE_ACTIVE = true :=
  ⟨{ ((discS).set .SL_POS_VALID 1).set .HOME_MODE 1 |>.set .SL_STALL_SENSE_ACTIVE 1
       with clock := 900000000, sl.homing := some .inward }, by decide +kernel⟩

theorem wit_TheSledMovesAndHomes_16 : ∃ (s : State), s.sl.homing = some .settle ∧ s.sl.phaseAt + 10000 ≤ s.clock :=
  ⟨{ ((discS).set .SL_POS_VALID 1) with clock := 900000000, sl.homing := some .settle }, by decide +kernel⟩

theorem wit_TheSledMovesAndHomes_17 : ∃ (s : State), s.sl.homing = some .inward :=
  ⟨{ ((discS).set .SL_POS_VALID 1) with clock := 900000000, sl.homing := some .inward }, by decide +kernel⟩

theorem wit_SledCoilAndLoaderFaults_1 : ∃ (_s : State) (k : Nat), k < 2 :=
  ⟨{ ((discS).set .SL_POS_VALID 1) with clock := 900000000, sl.target := some 9 }, 1, by decide +kernel⟩

theorem wit_SledCoilAndLoaderFaults_2 : ∃ (s : State), s.reg .SL_STATE = 4 ∧ s.on .SLF_OVERCURRENT = true ∧
  s.reg .DISC_SERVICE ≠ 3 ∧ s.sl.overcurrentAt.all (· + 100000 ≤ s.clock) = true :=
  ⟨{ ((discS).set .SL_POS_VALID 1).set .SLF_OVERCURRENT 1 |>.set .SL_STATE 4 with clock := 900000000 },
    by decide +kernel⟩

theorem wit_SledCoilAndLoaderFaults_3 : ∃ (s : State) (k : Nat), k < 2 ∧
  (s.sl.target.isSome = true ∨ s.sl.homing.isSome = true ∨ s.sl.reenergise = true) :=
  ⟨{ ((discS).set .SL_POS_VALID 1) with clock := 900000000, sl.target := some 9 }, 1, by decide +kernel⟩

theorem wit_SledCoilAndLoaderFaults_4 : ∃ (s : State), s.on .SLF_STAGE_HOT = false :=
  ⟨{ ((discS).set .SL_POS_VALID 1) with clock := 900000000, sl.target := some 9 }, by decide +kernel⟩

theorem wit_SledCoilAndLoaderFaults_5 : ∃ (s : State), s.on .SLF_STAGE_HOT = true ∧ s.sl.after = none :=
  ⟨{ ((discS).set .SL_POS_VALID 1).set .SLF_STAGE_HOT 1 with clock := 900000000 }, by decide +kernel⟩

theorem wit_SledCoilAndLoaderFaults_6 : ∃ (_s : State) (k : Nat), k < 3 :=
  ⟨{ ((discS).set .SL_POS_VALID 1).set .FOCUS_LOCK 1 with clock := 900000000 }, 1, by decide +kernel⟩

theorem wit_SledCoilAndLoaderFaults_7 : ∃ (_s : State) (k : Nat) (_b : Bool), k < 3 :=
  ⟨{ ((discS).set .SL_POS_VALID 1) with clock := 900000000 }, 1, true, by decide +kernel⟩

theorem wit_SledCoilAndLoaderFaults_8 : ∃ (s : State) (_d : Option Disc), s.reg .LD_STATE = 1 ∧ s.sl.back = false :=
  ⟨runS.set .LD_STATE 1, discS.md.cart, by decide +kernel⟩

theorem wit_SledCoilAndLoaderFaults_9 : ∃ (s : State) (_d : Option Disc), s.reg .LD_STATE = 3 ∧ s.sl.back = false :=
  ⟨discS.set .LD_STATE 3, none, by decide +kernel⟩

theorem wit_SledCoilAndLoaderFaults_10 : ∃ (s : State) (a : Bool) (_d : Option Disc), ((s.reg .LD_STATE = 1 ∧
  a = false) ∨ (s.reg .LD_STATE = 3 ∧ a = true)) ∧ s.sl.back = true :=
  ⟨{ discS.set .LD_STATE 3 with sl.back := true, sl.retry := true }, true, none, by decide +kernel⟩

theorem wit_SledCoilAndLoaderFaults_11 : ∃ (s : State), (s.reg .LD_STATE = 1 ∨ s.reg .LD_STATE = 3) ∧
  s.sl.loaderAt + 1000 * s.reg .LD_TIMEOUT_MS ≤ s.clock ∧ s.sl.retry = false :=
  ⟨{ discS.set .LD_STATE 3 with clock := 90000000 }, by decide +kernel⟩

theorem wit_SledCoilAndLoaderFaults_12 : ∃ (s : State), (s.reg .LD_STATE = 1 ∨ s.reg .LD_STATE = 3) ∧
  s.sl.loaderAt + 1000 * s.reg .LD_TIMEOUT_MS ≤ s.clock ∧ s.sl.retry = true :=
  ⟨{ discS.set .LD_STATE 3 with sl.retry := true, clock := 90000000 }, by decide +kernel⟩

theorem wit_SledCoilAndLoaderFaults_13 : ∃ (s : State), s.reg .LD_STATE = 2 :=
  ⟨discS, by decide +kernel⟩

/-! ## The servo (11) -/

theorem wit_FocusTrackAndSeekFollowTheSequencer_1 : ∃ (s : State) (n : Nat) (l : Nat) (k : Nat) (_o : Int), l < 4 ∧
  k < 112500 ∧ s.reg .SV_STATE = 1 ∧ n + s.sv.layer = 4 :=
  ⟨{ (((discS).set .SP_STATE 4).set .SV_STATE 1) with clock := 900000000 }, 4, 0, 77, 0, by decide +kernel⟩

theorem wit_FocusTrackAndSeekFollowTheSequencer_2 : ∃ (s : State) (n : Nat) (l : Nat) (k : Nat) (_o : Int), l < 4 ∧
  k < 112500 ∧ s.reg .SV_STATE = 1 ∧ n + s.sv.layer ≠ 4 :=
  ⟨{ (((discS).set .SP_STATE 4).set .SV_STATE 1) with clock := 900000000 }, 3, 0, 77, 0, by decide +kernel⟩

theorem wit_FocusTrackAndSeekFollowTheSequencer_3 : ∃ (s : State) (_n : Nat) (l : Nat) (k : Nat) (_o : Int), l < 4 ∧
  k < 112500 ∧ s.reg .SV_STATE = 5 ∧ l = s.sv.layer ∧ s.sv.jumpTo = l :=
  ⟨{ (((discS).set .SP_STATE 4).set .SV_STATE 5) with clock := 900000000 }, 0, 0, 77, 0, by decide +kernel⟩

theorem wit_FocusTrackAndSeekFollowTheSequencer_4 : ∃ (s : State) (_n : Nat) (l : Nat) (k : Nat) (_o : Int), l < 4 ∧
  k < 112500 ∧ s.reg .SV_STATE = 5 ∧ l ≠ s.sv.layer :=
  ⟨{ (((discS).set .SP_STATE 4).set .SV_STATE 5) with clock := 900000000 }, 0, 1, 77, 0, by decide +kernel⟩

theorem wit_FocusTrackAndSeekFollowTheSequencer_5 : ∃ (s : State), s.reg .SV_STATE = 1 ∧
  s.sv.sweepAt + 1000 * s.reg .FA_SWEEP_MS ≤ s.clock ∧ s.sv.sweeps < 2 :=
  ⟨{ (((discS).set .SP_STATE 4).set .SV_STATE 1) with clock := 900000000 }, by decide +kernel⟩

theorem wit_FocusTrackAndSeekFollowTheSequencer_6 : ∃ (s : State), s.reg .SV_STATE = 1 ∧
  s.sv.sweepAt + 1000 * s.reg .FA_SWEEP_MS ≤ s.clock ∧ 2 ≤ s.sv.sweeps :=
  ⟨{ (((discS).set .SP_STATE 4).set .SV_STATE 1) with clock := 900000000, sv.sweeps := 2 }, by decide +kernel⟩

theorem wit_FocusTrackAndSeekFollowTheSequencer_7 : ∃ (s : State), s.reg .SV_STATE = 5 ∧
  s.sv.jumpAt + 2000 ≤ s.clock :=
  ⟨{ (((discS).set .SP_STATE 4).set .SV_STATE 5) with clock := 900000000 }, by decide +kernel⟩

theorem wit_FocusTrackAndSeekFollowTheSequencer_8 : ∃ (s : State), s.reg .SV_STATE = 3 :=
  ⟨{ (((discS).set .SP_STATE 4).set .SV_STATE 3) with clock := 900000000, bu.gate := true }, by decide +kernel⟩

theorem wit_FocusTrackAndSeekFollowTheSequencer_9 : ∃ (s : State), s.on .FOCUS_LOCK = true :=
  ⟨{ (((discS).set .SP_STATE 4).set .SV_STATE 3) |>.set .FOCUS_LOCK 1 with clock := 900000000, bu.gate := true },
    by decide +kernel⟩

theorem wit_FocusTrackAndSeekFollowTheSequencer_10 : ∃ (s : State) (k : Nat), s.reg .SV_STATE = 6 ∧
  (s.sv.goal = none ∨ s.sv.goal = some k) ∧ s.sv.seek = none ∧ s.sv.waiting = none :=
  ⟨{ (((discS).set .SP_STATE 4).set .SV_STATE 6) with clock := 900000000, sv.goal := some 9 }, 9, by decide +kernel⟩

theorem wit_FocusTrackAndSeekFollowTheSequencer_11 : ∃ (s : State) (k : Nat) (g : Nat), s.reg .SV_STATE = 6 ∧
  s.sv.goal = some g ∧ g ≠ k :=
  ⟨{ (((discS).set .SP_STATE 4).set .SV_STATE 6) with clock := 900000000, sv.goal := some 9 }, 8, 9,
    by decide +kernel⟩

theorem wit_FocusTrackAndSeekFollowTheSequencer_12 : ∃ (s : State) (l : Nat) (k : Nat), l < 4 ∧ k < 112500 ∧
  s.reg .SV_STATE = 3 ∧ s.seekWaits = false :=
  ⟨{ (((discS).set .SP_STATE 4).set .SV_STATE 3) |>.set .SV_LAYER 1 with clock := 900000000 }, 1, 500,
    by decide +kernel⟩

theorem wit_FocusTrackAndSeekFollowTheSequencer_13 : ∃ (s : State) (l : Nat) (k : Nat), l < 4 ∧ k < 112500 ∧
  s.reg .SV_STATE ≠ 0 ∧ s.reg .SV_STATE ≠ 7 ∧ s.reg .SV_STATE ≠ 4 ∧ s.seekWaits = true :=
  ⟨{ (((discS).set .SP_STATE 4).set .SV_STATE 1) with clock := 900000000 }, 1, 500, by decide +kernel⟩

theorem wit_FocusTrackAndSeekFollowTheSequencer_14 : ∃ (s : State) (l : Nat) (k : Nat), l < 4 ∧ k < 112500 ∧
  (s.reg .SV_STATE = 0 ∨ s.reg .SV_STATE = 7) :=
  ⟨{ (((discS).set .SP_STATE 4).set .SV_STATE 7) with clock := 900000000 }, 1, 500, by decide +kernel⟩

theorem wit_FocusTrackAndSeekFollowTheSequencer_15 : ∃ (s : State) (l : Nat) (k : Nat), l < 4 ∧ k < 112500 ∧
  s.reg .SV_STATE = 4 ∧ s.on .SHOCK_HOLD = false :=
  ⟨{ (((discS).set .SP_STATE 4).set .SV_STATE 4) with clock := 900000000, sv.goal := some 9 }, 0, 500,
    by decide +kernel⟩

theorem wit_FocusTrackAndSeekFollowTheSequencer_16 : ∃ (s : State) (_n : Nat) (l : Nat) (k : Nat) (_o : Int), l < 4 ∧
  k < 112500 ∧ s.reg .SV_STATE = 5 ∧ l = s.sv.layer ∧ s.sv.jumpTo < 4 ∧ s.sv.jumpTo ≠ l :=
  ⟨{ (((discS).set .SP_STATE 4).set .SV_STATE 5) with clock := 900000000, sv.layer := 1, sv.jumpTo := 3 }, 0, 1, 0,
    77, by decide +kernel⟩

theorem wit_FocusTrackAndSeekFollowTheSequencer_17 : ∃ (s : State) (_k : Nat), s.reg .SV_STATE = 4 :=
  ⟨{ (((discS).set .SP_STATE 4).set .SV_STATE 4) with clock := 900000000 }, 500, by decide +kernel⟩

theorem wit_TheGateTripsAndTheSampleRuns_1 : ∃ (s : State) (te : Bool) (fe : Bool) (acc : Bool) (_a : Nat) (_b : Nat),
  (te || fe || (acc && (s.on .ACC_TRIP && s.reg .ACC_STATE == 1))) = true :=
  ⟨{ (((discS).set .SP_STATE 4).set .SV_STATE 3) with clock := 900000000, bu.gate := true }, true, false, false, 500,
    3, by decide +kernel⟩

theorem wit_TheGateTripsAndTheSampleRuns_2 : ∃ (s : State) (acc : Bool) (_a : Nat) (_b : Nat), (acc && (s.on .ACC_TRIP
  && s.reg .ACC_STATE == 1)) = false :=
  ⟨{ (((discS).set .SP_STATE 4).set .SV_STATE 3) with clock := 900000000 }, true, 500, 3, by decide +kernel⟩

theorem wit_TheGateTripsAndTheSampleRuns_3 : ∃ (s : State), s.on .SHOCK_HOLD = true ∧
  s.reg .SV_STATE = 3 ∧ s.sv.overs.any (· == true) = false ∧ max s.sv.tripAt s.sv.followAt + s.quiet ≤ s.clock :=
  ⟨{ (((discS).set .SP_STATE 4).set .SV_STATE 3) |>.set .SHOCK_HOLD 1 with clock := 900000000, sv.shock := some
                                                                             { since := 1, at' := 1, trips := 1 } },
    by decide +kernel⟩

theorem wit_TheGateTripsAndTheSampleRuns_4 : ∃ (s : State), (s.on .SHOCK_HOLD = false ∨ s.reg .SV_STATE ≠ 3 ∨
  s.sv.overs.any (· == true) = true ∨ s.clock < max s.sv.tripAt s.sv.followAt + s.quiet) :=
  ⟨{ (((discS).set .SP_STATE 4).set .SV_STATE 3) with clock := 900000000 }, by decide +kernel⟩

theorem wit_TheGateTripsAndTheSampleRuns_5 : ∃ (s : State) (b : List Byte), b.length = 6 ∧
  s.on .ACC_ENABLE = true ∧ s.on .CLK_SERVO = true ∧ b.all (· == 0) = false ∧ b.all (· == 255) = false :=
  ⟨{ (((discS).set .SP_STATE 4).set .SV_STATE 3) |>.set .CLK_SERVO 1 |>.set .ACC_ENABLE 1 with clock := 900000000 },
    [1, 2, 3, 0, 255, 255], by decide +kernel⟩

theorem wit_TheGateTripsAndTheSampleRuns_6 : ∃ (s : State) (b : List Byte) (ok : Bool), b.length = 6 ∧
  s.on .ACC_ENABLE = true ∧ s.on .CLK_SERVO = true ∧ (ok = false ∨ b.all (· == 0) = true ∨ b.all (· == 255) = true) :=
  ⟨{ (((discS).set .SP_STATE 4).set .SV_STATE 3) |>.set .CLK_SERVO 1 |>.set .ACC_ENABLE 1 with clock := 900000000 },
    [0, 0, 0, 0, 0, 0], true, by decide +kernel⟩

theorem wit_TheGateTripsAndTheSampleRuns_7 : ∃ (s : State), s.on .ACC_ENABLE = true ∧
  s.on .CLK_SERVO = true ∧ s.sv.accAt + 1000 ≤ s.clock :=
  ⟨{ (((discS).set .SP_STATE 4).set .SV_STATE 3) |>.set .CLK_SERVO 1 |>.set .ACC_ENABLE 1 with clock := 900000000 },
    by decide +kernel⟩

theorem wit_TheGateTripsAndTheSampleRuns_8 : ∃ (s : State), s.reg .ACC_STATE = 2 ∧
  s.on .CLK_SERVO = true ∧ s.sv.accInitAt + 1000000 ≤ s.clock :=
  ⟨{ (((discS).set .SP_STATE 4).set .SV_STATE 3) |>.set .CLK_SERVO 1 |>.set .ACC_STATE 2 with clock := 900000000 },
    by decide +kernel⟩

theorem wit_TheGateTripsAndTheSampleRuns_9 : ∃ (s : State), s.on .DEFECT = false :=
  ⟨{ (((discS).set .SP_STATE 4).set .SV_STATE 3) with clock := 900000000 }, by decide +kernel⟩

theorem wit_TheGateTripsAndTheSampleRuns_11 : ∃ (s : State), s.on .DEFECT = true ∧
  s.on .DEFECT_HOLD = true ∧ s.sv.defectAt.all (fun x => decide (x + s.reg .DEF_HOLD_US < s.clock)) = true :=
  ⟨{ (((discS).set .SP_STATE 4).set .SV_STATE 3) |>.set .DEFECT 1 |>.set .DEFECT_HOLD 1 with clock := 900000000 },
    by decide +kernel⟩

theorem wit_TheGateTripsAndTheSampleRuns_12 : ∃ (s : State) (_ac : Int × Int) (_bd : Int × Int) (_e : Int) (_f : Int)
  (_w : Option Nat), (s.reg .SP_STATE ≠ 4 ∨ s.on .CLK_SERVO = false) :=
  ⟨{ (((discS).set .SP_STATE 4).set .SV_STATE 3) with clock := 900000000 }, (5, 7), (6, 8), 9, 10, none,
    by decide +kernel⟩

theorem wit_TheGateTripsAndTheSampleRuns_13 : ∃ (s : State) (a : Int) (b : Int) (c : Int) (d : Int) (_e : Int) (_f :
  Int) (fe : Int) (_w : Option Nat), s.reg .SP_STATE = 4 ∧ s.on .CLK_SERVO = true ∧
  s.on .DEFECT_HOLD = false ∧ s.sv.rampLeft = 0 ∧ s.sv.coilRamp = none ∧
  fe = (s.spotFe a b c d).1 - s.sv.inForce.getD 0 0 :=
  ⟨spotS, 9000, 1, 2, 3, 4, 5, (spotS.spotFe 9000 1 2 3).1 - spotS.sv.inForce.getD 0 0, none, by decide +kernel,
    by decide +kernel, by decide +kernel, by decide +kernel, by decide +kernel, rfl⟩

theorem wit_TheGateTripsAndTheSampleRuns_14 : ∃ (s : State), s.on .CLK_SERVO = true :=
  ⟨{ (((discS).set .SP_STATE 4).set .SV_STATE 3) |>.set .CLK_SERVO 1 with clock := 900000000, bu.gate := true },
    by decide +kernel⟩

/-! ## Writing, reading and the laser (12, 15) -/

theorem wit_ClustersAreEncodedSignedAndVerified_1 : ∃ (s : State) (k : Block) (i : Nat), s.bu.block = some k ∧
  k.enc = none ∧ k.writing = none ∧ i = k.index ∧ i < k.clusters.length ∧ k.trailers.length = i ∧
  k.nextAca ≠ noAca ∧ s.canSign = true ∧ s.sec.coreDown = false ∧ s.gateAllowed = false :=
  ⟨{ (discS) with clock := 5000000000, bu.block := some
                    { kind := .data, bobbin := 0, start := 0, stop := 100, id := 5, layer := 0, clusters := [⟨.test,
                        noMetadata⟩, ⟨.test, noMetadata⟩], chainPrev := 4, selvSeq := 1, firstAca := 10, nextAca := 10
                        } }, { kind := .data, bobbin := 0, start := 0, stop := 100, id := 5, layer := 0, clusters :=
                                 [⟨.test, noMetadata⟩, ⟨.test, noMetadata⟩], chainPrev := 4, selvSeq := 1, firstAca :=
                                 10, nextAca := 10 }, 0, by decide +kernel⟩

theorem wit_ClustersAreEncodedSignedAndVerified_2 : ∃ (s : State) (k : Block) (e : Encoded) (d : Nat), s.bu.block =
  some k ∧ k.enc = some e ∧ e.ready = false ∧ s.sec.devKey = some d ∧ s.gateAllowed = false :=
  ⟨{ (discS) with clock := 5000000000, bu.block := some
                    { kind := .data, bobbin := 0, start := 0, stop := 100, id := 5, layer := 0, clusters := [⟨.test,
                        noMetadata⟩, ⟨.test, noMetadata⟩], chainPrev := 4, selvSeq := 1, firstAca := 10, nextAca :=
                        10, enc := some { index := 0, aca := 10, trailer := noTrailer, ready := false } } },
    { kind := .data, bobbin := 0, start := 0, stop := 100, id := 5, layer := 0, clusters := [⟨.test, noMetadata⟩,
        ⟨.test, noMetadata⟩], chainPrev := 4, selvSeq := 1, firstAca := 10, nextAca := 10, enc := some
        { index := 0, aca := 10, trailer := noTrailer, ready := false } },
    { index := 0, aca := 10, trailer := noTrailer, ready := false }, 5, by decide +kernel⟩

theorem wit_ClustersAreEncodedSignedAndVerified_3 : ∃ (s : State) (k : Block) (e : Encoded), s.bu.block = some k ∧
  k.enc = some e ∧ e.ready = false ∧ s.sec.devKey ≠ none ∧ e.sigFails = 0 :=
  ⟨{ (discS) with clock := 5000000000, bu.block := some
                    { kind := .data, bobbin := 0, start := 0, stop := 100, id := 5, layer := 0, clusters := [⟨.test,
                        noMetadata⟩, ⟨.test, noMetadata⟩], chainPrev := 4, selvSeq := 1, firstAca := 10, nextAca :=
                        10, enc := some { index := 0, aca := 10, trailer := noTrailer, ready := false } } },
    { kind := .data, bobbin := 0, start := 0, stop := 100, id := 5, layer := 0, clusters := [⟨.test, noMetadata⟩,
        ⟨.test, noMetadata⟩], chainPrev := 4, selvSeq := 1, firstAca := 10, nextAca := 10, enc := some
        { index := 0, aca := 10, trailer := noTrailer, ready := false } },
    { index := 0, aca := 10, trailer := noTrailer, ready := false }, by decide +kernel⟩

theorem wit_ClustersAreEncodedSignedAndVerified_4 : ∃ (s : State) (k : Block) (e : Encoded), s.bu.block = some k ∧
  k.enc = some e ∧ e.ready = false ∧ s.sec.devKey ≠ none ∧ e.sigFails ≠ 0 :=
  ⟨{ (discS) with clock := 5000000000, bu.block := some
                    { kind := .data, bobbin := 0, start := 0, stop := 100, id := 5, layer := 0, clusters := [⟨.test,
                        noMetadata⟩, ⟨.test, noMetadata⟩], chainPrev := 4, selvSeq := 1, firstAca := 10, nextAca :=
                        10, enc := some { index := 0, aca := 10, trailer := noTrailer, ready := false, sigFails := 1 }
                        } }, { kind := .data, bobbin := 0, start := 0, stop := 100, id := 5, layer := 0, clusters :=
                                 [⟨.test, noMetadata⟩, ⟨.test, noMetadata⟩], chainPrev := 4, selvSeq := 1, firstAca :=
                                 10, nextAca := 10, enc := some { index := 0, aca := 10, trailer := noTrailer, ready
                                                                    := false, sigFails := 1 } },
    { index := 0, aca := 10, trailer := noTrailer, ready := false, sigFails := 1 }, by decide +kernel⟩

theorem wit_ClustersAreEncodedSignedAndVerified_5 : ∃ (s : State) (k : Block) (a : Nat) (v : Verdict) (rs : List
  FrameResult), s.bu.block = some k ∧ k.writing = some a ∧ s.rd = [] ∧ s.pw.pfail = none ∧
  s.md.cart.isSome = true ∧ rs = (s.verifyFrames v).2 ∧ s.verdictPasses k v.cs rs = true :=
  ⟨{ (discS) with clock := 5000000000, bu.block := some
                    { kind := .data, bobbin := 0, start := 0, stop := 100, id := 5, layer := 0, clusters := [⟨.test,
                        noMetadata⟩, ⟨.test, noMetadata⟩], chainPrev := 4, selvSeq := 1, firstAca := 10, nextAca :=
                        10, writing := some 10 } },
    { kind := .data, bobbin := 0, start := 0, stop := 100, id := 5, layer := 0, clusters := [⟨.test, noMetadata⟩,
        ⟨.test, noMetadata⟩], chainPrev := 4, selvSeq := 1, firstAca := 10, nextAca := 10, writing := some 10 }, 10,
    { cs := true, runIn := [], frames := List.replicate 384 { fs := some 0, flag := false, vt := 0, row := .fixed 0 },
        tcl := 2600 }, List.replicate 384 { fs := some 0, flag := false, vt := 0, fixes := some 0 },
    by decide +kernel⟩

theorem wit_ClustersAreEncodedSignedAndVerified_6 : ∃ (s : State) (k : Block) (a : Nat) (v : Verdict) (rs : List
  FrameResult), s.bu.block = some k ∧ k.writing = some a ∧ s.rd = [] ∧ s.pw.pfail = none ∧
  s.md.cart.isSome = true ∧ rs = (s.verifyFrames v).2 ∧ s.verdictPasses k v.cs rs = false :=
  ⟨{ (discS) with clock := 5000000000, bu.block := some
                    { kind := .data, bobbin := 0, start := 0, stop := 100, id := 5, layer := 0, clusters := [⟨.test,
                        noMetadata⟩, ⟨.test, noMetadata⟩], chainPrev := 4, selvSeq := 1, firstAca := 10, nextAca :=
                        10, writing := some 10 } },
    { kind := .data, bobbin := 0, start := 0, stop := 100, id := 5, layer := 0, clusters := [⟨.test, noMetadata⟩,
        ⟨.test, noMetadata⟩], chainPrev := 4, selvSeq := 1, firstAca := 10, nextAca := 10, writing := some 10 }, 10,
    { cs := false, runIn := [], frames := [], tcl := 2600 }, List.replicate 384
    { fs := none, flag := false, vt := 0, fixes := none }, by decide +kernel⟩

theorem wit_ReadsAreCountedAndTheLaserIsGuarded_1 : ∃ (s : State) (j : ReadJob) (i : Nat) (p : ReadPart) (r :
  ReadOutcome), s.job = some j ∧ j.cursor = some i ∧ j.parts[i]? = some p ∧ j.reading = true ∧
  j.states.getD i .todo = .todo ∧ r.cut = false ∧ r.parity = false ∧ j.parity = false :=
  ⟨{ discS with q := { pairs := [(1, pair0)], cache := [1], cmds :=
                         [{ cmd0 with opcode := 0x131, args := leBytes 8 0 ++ leBytes 8 5 ++ leBytes 24 0, started :=
                                        true, buf := [(0x90000, 67648)] }] }, rd :=
                  [{ qp := 1, tag := 7, parts := [{ home := 10, addr := 10, block := 5, index := 0, from' := 0, len :=
                                                      0 }], states := [.todo], reading := true }] },
    { qp := 1, tag := 7, parts := [{ home := 10, addr := 10, block := 5, index := 0, from' := 0, len := 0 }], states
        := [.todo], reading := true }, 0, { home := 10, addr := 10, block := 5, index := 0, from' := 0, len := 0 },
    { runIn := [], frames := List.replicate 384 { fs := some 0, flag := false, vt := 0, row := .fixed 0 }, colErr :=
        0, cut := false, parity := false }, by decide +kernel⟩

theorem wit_ReadsAreCountedAndTheLaserIsGuarded_2 : ∃ (s : State) (j : ReadJob) (i : Nat) (p : ReadPart) (r :
  ReadOutcome), s.job = some j ∧ j.cursor = some i ∧ j.parts[i]? = some p ∧ j.reading = true ∧ r.cut = true :=
  ⟨{ discS with q := { pairs := [(1, pair0)], cache := [1], cmds :=
                         [{ cmd0 with opcode := 0x131, args := leBytes 8 0 ++ leBytes 8 5 ++ leBytes 24 0, started :=
                                        true, buf := [(0x90000, 67648)] }] }, rd :=
                  [{ qp := 1, tag := 7, parts := [{ home := 10, addr := 10, block := 5, index := 0, from' := 0, len :=
                                                      0 }], states := [.todo], reading := true }] },
    { qp := 1, tag := 7, parts := [{ home := 10, addr := 10, block := 5, index := 0, from' := 0, len := 0 }], states
        := [.todo], reading := true }, 0, { home := 10, addr := 10, block := 5, index := 0, from' := 0, len := 0 },
    { runIn := [], frames := [], colErr := 0, cut := true, parity := false }, by decide +kernel⟩

theorem wit_ReadsAreCountedAndTheLaserIsGuarded_4 : ∃ (s : State) (_e : Nat) (_h : Nat), s.bu.gate = true ∧
  s.writingAca ≠ noAca ∧ s.reg .LAS_STATE = 1 :=
  ⟨{ (discS).set .LAS_STATE 1 with clock := 5000000000, bu.block := some
                                     { kind := .data, bobbin := 0, start := 0, stop := 100, id := 5, layer := 0,
                                         clusters := [⟨.test, noMetadata⟩, ⟨.test, noMetadata⟩], chainPrev := 4,
                                         selvSeq := 1, firstAca := 10, nextAca := 10, writing := some 10 }, bu.gate :=
                                     true }, 900, 300, by decide +kernel⟩

theorem wit_ReadsAreCountedAndTheLaserIsGuarded_5 : ∃ (s : State), s.reg .LAS_STATE = 1 ∧
  s.on .APC_LOCK = false ∧ s.las.onAt + 2000 ≤ s.clock :=
  ⟨{ (discS).set .LAS_STATE 1 with clock := 5000000000, bu.block := some
                                     { kind := .data, bobbin := 0, start := 0, stop := 100, id := 5, layer := 0,
                                         clusters := [⟨.test, noMetadata⟩, ⟨.test, noMetadata⟩], chainPrev := 4,
                                         selvSeq := 1, firstAca := 10, nextAca := 10, writing := some 10 }, bu.gate :=
                                     true }, by decide +kernel⟩

theorem wit_ReadsAreCountedAndTheLaserIsGuarded_6 : ∃ (s : State), s.reg .LAS_STATE = 1 :=
  ⟨{ (discS).set .LAS_STATE 1 with clock := 5000000000, bu.block := some
                                     { kind := .data, bobbin := 0, start := 0, stop := 100, id := 5, layer := 0,
                                         clusters := [⟨.test, noMetadata⟩, ⟨.test, noMetadata⟩], chainPrev := 4,
                                         selvSeq := 1, firstAca := 10, nextAca := 10, writing := some 10 }, bu.gate :=
                                     true }, by decide +kernel⟩

theorem wit_ReadsAreCountedAndTheLaserIsGuarded_7 : ∃ (s : State), s.reg .LAS_STATE = 1 :=
  ⟨{ (discS).set .LAS_STATE 1 with clock := 5000000000, bu.block := some
                                     { kind := .data, bobbin := 0, start := 0, stop := 100, id := 5, layer := 0,
                                         clusters := [⟨.test, noMetadata⟩, ⟨.test, noMetadata⟩], chainPrev := 4,
                                         selvSeq := 1, firstAca := 10, nextAca := 10, writing := some 10 } },
    by decide +kernel⟩

/-! ## Lanes and calibration (12, 13) -/

theorem wit_LanesSwapAndCalibrationRuns_1 : ∃ (s : State) (k : Nat) (j : Nat) (_a : Option Nat) (_b : Option Nat), k =
  s.reg .SHADOWED_LANE ∧ k < 5 ∧ j < 5 ∧ j ≠ k ∧ s.get .SH_STATE j = 1 ∧ (∀ i, i < 5 → i ≠ j →
  s.get .SH_STATE i ≠ 1) :=
  ⟨discS.set .SHADOWED_LANE 0, 0, 4, some 3, none, by decide +kernel⟩

theorem wit_LanesSwapAndCalibrationRuns_2 : ∃ (s : State) (l : Nat), l < 5 ∧
  s.las.testing = some l ∧ s.st.laneLoopFail.contains l = false ∧ (s.las.disagree.getD l []).length < 3 :=
  ⟨{ discS.put .SH_STATE 2 2 with las.testing := some 2 }, 2, by decide +kernel⟩

theorem wit_LanesSwapAndCalibrationRuns_3 : ∃ (s : State) (l : Nat) (p : Bool), l < 5 ∧ s.las.testing = some l ∧
  s.get .SH_STATE l ≠ 3 ∧ (p = false ∨ s.st.laneLoopFail.contains l = true ∨ 3 ≤ (s.las.disagree.getD l []).length) :=
  ⟨{ discS.put .SH_STATE 2 2 with las.testing := some 2 }, 2, false, by decide +kernel⟩

theorem wit_LanesSwapAndCalibrationRuns_4 : ∃ (s : State) (k : Nat), k = s.reg .SHADOWED_LANE ∧ k < 5 :=
  ⟨discS.set .SHADOWED_LANE 0, 0, by decide +kernel⟩

theorem wit_LanesSwapAndCalibrationRuns_5 : ∃ (s : State) (v : Int), -500 ≤ v ∧ v ≤ 1600 ∧ s.cal.sensors = [] :=
  ⟨((discS.set .CAL_DUE 0).put .READ_VALID 1 1).set .TEMP_TRIGGER 1, 300, by decide +kernel⟩

theorem wit_LanesSwapAndCalibrationRuns_6 : ∃ (_s : State) (v : Int), (v < -500 ∨ 1600 < v) :=
  ⟨discS, 1700, by decide +kernel⟩

theorem wit_LanesSwapAndCalibrationRuns_7 : ∃ (s : State) (k : Nat), s.cal.sensors.contains k = false :=
  ⟨discS, 2, by decide +kernel⟩

theorem wit_LanesSwapAndCalibrationRuns_8 : ∃ (s : State) (l : Nat), l = s.reg .SV_LAYER ∧ l < 4 ∧
  s.calDue l false = true ∧ s.canCalibrate l = true :=
  ⟨{ (((discS.set .SV_STATE 3).set .SV_LAYER 0).set .CAL_DUE 1) with md.mounted := false }, 0, by decide +kernel⟩

theorem wit_LanesSwapAndCalibrationRuns_9 : ∃ (s : State) (l : Nat) (f : Option (List Nat)) (g : Option (List Nat))
  (_h : Option Balance) (_o : Option Int) (_se : Option (List Int)) (_ga : List Nat), s.cal.running = some (l, false)
  ∧ l < 4 ∧ f.all (fun x => x.length == 11) = true ∧ g.all (fun x => x.length == 9) = true :=
  ⟨{ discS.set .CAL_DUE 0xFF with cal.running := some (1, false) }, 1, some [10, 20, 30, 40, 50, 60, 50, 40, 30, 20,
    10], none, some { main0 := 5, side0 := 9, main1 := 3, side1 := 4 }, some 5, none, [1000, 1000, 1000],
    by decide +kernel⟩

theorem wit_LanesSwapAndCalibrationRuns_10 : ∃ (s : State) (l : Nat) (_sc : List (Option Nat)) (_f : Bool), s.opcLayer
  = some l ∧ l < 4 ∧ s.get .LC_NEXT_TEST l = noAca :=
  ⟨{ (discS.put .LC_NEXT_TEST 1 noAca).set .CAL_DUE 0xFF with cal.running := some (1, true) }, 1, [], false,
    by decide +kernel⟩

theorem wit_LanesSwapAndCalibrationRuns_11 : ∃ (s : State) (l : Nat) (sc : List (Option Nat)) (k : Nat) (p : Nat × Nat
  × Nat × Nat), s.opcLayer = some l ∧ l < 4 ∧ s.get .LC_NEXT_TEST l ≠ noAca ∧
  opcStep (s.reg .OPC_SYM_MAX) (opcScores sc) = some k ∧ p = s.opcPowers l (scaleRound (s.opcCentre l * (70 + 4 * k))
  (100 + s.reg .OPC_MARGIN_PCT) 10000) ∧ powersOk p = true :=
  ⟨{ discS.set .CAL_DUE 0xFF with cal.running := some (1, true), cal.second := some 3000 }, 1, List.replicate 168 none
    ++ List.replicate 216 (some 0), 7,
    ({ discS.set .CAL_DUE 0xFF with cal.running := some (1, true), cal.second := some 3000 } : State).opcPowers 1
    (scaleRound (({ discS.set .CAL_DUE 0xFF with cal.running := some (1, true), cal.second := some 3000 } :
    State).opcCentre 1 * 98) (100 +
    ({ discS.set .CAL_DUE 0xFF with cal.running := some (1, true), cal.second := some 3000 } : State).reg
    .OPC_MARGIN_PCT) 10000), by decide +kernel⟩

theorem wit_LanesSwapAndCalibrationRuns_12 : ∃ (s : State) (l : Nat) (_sc : List (Option Nat)), s.opcLayer = some l ∧
  l < 4 ∧ s.get .LC_NEXT_TEST l ≠ noAca :=
  ⟨{ discS.set .CAL_DUE 0xFF with cal.running := some (1, true) }, 1, [], by decide +kernel⟩

theorem wit_LanesSwapAndCalibrationRuns_13 : ∃ (s : State) (n : Nat) (d : Nat) (u : List Int) (v : List Int) (w : List
  Int) (y : List Int) (a : List Int) (g : Int), n < 2 ∧ u.length = 4096 ∧ v.length = 4096 ∧ w.length = 4096 ∧
  y.length = 4096 ∧ a = s.ffAccel n u v w ∧ s.on .FF_FIT = true ∧ s.reg .SV_STATE = 3 ∧ s.reg .ACC_STATE = 1 ∧
  1000 ≤ (a.filter (fun x => decide (100 < x.natAbs))).length ∧ ffFit a y = (d, g, true) ∧ g.natAbs ≤ 30000 :=
  ⟨fitS, 1, 0, List.replicate 4096 200, List.replicate 4096 7, List.replicate 4096 9, List.replicate 4096 0,
    List.replicate 4096 200, 0, by decide, List.length_replicate, List.length_replicate, List.length_replicate,
    List.length_replicate, by rw [ffAccel_steady, show fitS.ffPick 1 (200, 7, 9) = 200 by decide +kernel],
    by decide +kernel, by decide +kernel, by decide +kernel,
    by simp [-List.reduceReplicate],
    by
      rw [ffFit_steady 200 _ List.length_replicate (by decide) (by simp [-List.reduceReplicate])]
      simp [-List.reduceReplicate],
    by decide⟩

theorem wit_LanesSwapAndCalibrationRuns_14 : ∃ (s : State) (n : Nat) (d : Nat) (u : List Int) (v : List Int) (w : List
  Int) (y : List Int) (a : List Int) (g : Int) (b : Bool), n < 2 ∧ u.length = 4096 ∧ v.length = 4096 ∧
  w.length = 4096 ∧ y.length = 4096 ∧ a = s.ffAccel n u v w ∧ s.on .FF_FIT = true ∧ s.reg .SV_STATE = 3 ∧
  s.reg .ACC_STATE = 1 ∧ 1000 ≤ (a.filter (fun x => decide (100 < x.natAbs))).length ∧ ffFit a y = (d, g, b) ∧
  (b = false ∨ 30000 < g.natAbs) :=
  ⟨fitS, 1, 0, List.replicate 4096 200, List.replicate 4096 7, List.replicate 4096 9, swings 2045 30,
    List.replicate 4096 200, 0, false, by decide, List.length_replicate, List.length_replicate, List.length_replicate,
    by simp [-List.reduceReplicate], by rw [ffAccel_steady, show fitS.ffPick 1 (200, 7, 9) = 200 by decide +kernel],
    by decide +kernel, by decide +kernel, by decide +kernel, by simp [-List.reduceReplicate],
    by
      rw [ffFit_steady 200 _ (by simp [-List.reduceReplicate]) (by decide) (swings_sum 2045 30), swings_squares]
      decide,
    .inl rfl⟩

/-! ## Shared memory, self-integrity, black box, pins (14, 15, 17, 18) -/

theorem wit_TheMergingBufferTakesAndDrainsWrites_1 : ∃ (s : State) (core : Nat) (addr : Nat) (l : List Byte), core < 2
  ∧ inLine addr l.length = true ∧ s.coresRun = true ∧ s.un.cores.contains (10 + core) = false ∧
  s.permits (10 + core) addr l.length true ∧ s.ca.stalled = [] ∧
  (s.l2Find (addr / 64)).any s.placeTested = false ∧ s.ca.merge.find? (fun e => e.line == addr / 64 && !e.closed) =
  none ∧ s.ca.merge.length < s.mergeRoom :=
  ⟨coreS, 1, 0x4000004, [1, 2], by decide +kernel⟩

theorem wit_TheMergingBufferTakesAndDrainsWrites_2 : ∃ (s : State) (core : Nat) (addr : Nat) (l : List Byte) (e :
  MergeEntry), core < 2 ∧ inLine addr l.length = true ∧ s.coresRun = true ∧
  s.un.cores.contains (10 + core) = false ∧ s.permits (10 + core) addr l.length true ∧ s.ca.stalled = [] ∧
  (s.l2Find (addr / 64)).any s.placeTested = false ∧ s.ca.merge.find? (fun e => e.line == addr / 64 && !e.closed) =
  some e :=
  ⟨{ coreS with ca := { merge := [{ id := 4, line := 1048576, bytes := [(0, 7), (1, 8)], par := [(0, false), (1,
                                      false)], core := 1 }] } }, 1, 0x4000001, [1, 2],
    { id := 4, line := 1048576, bytes := [(0, 7), (1, 8)], par := [(0, false), (1, false)], core := 1 },
    by decide +kernel⟩

theorem wit_TheMergingBufferTakesAndDrainsWrites_3 : ∃ (s : State) (core : Nat) (addr : Nat) (l : List Byte), core < 2
  ∧ inLine addr l.length = true ∧ s.coresRun = true ∧ s.un.cores.contains (10 + core) = false ∧
  s.permits (10 + core) addr l.length true ∧ s.ca.stalled = [] ∧
  (s.l2Find (addr / 64)).any s.placeTested = false ∧ s.ca.merge.find? (fun e => e.line == addr / 64 && !e.closed) =
  none ∧ s.mergeRoom ≤ s.ca.merge.length :=
  ⟨{ coreS with ca := { merge := List.replicate 32 { id := 5, line := 7, bytes := [], par := [], core := 0 } } }, 1,
    0x4000004, [1, 2], by decide +kernel⟩

theorem wit_TheMergingBufferTakesAndDrainsWrites_4 : ∃ (s : State) (e : MergeEntry) (rest : List MergeEntry),
  s.ca.merge = e :: rest ∧ s.underTest (e.line / 64) = false ∧ s.poolUp = true ∧ s.ca.stalled = [] ∧
  s.ca.range = none ∧ e.bad = false ∧ Map.wf e.bytes = true :=
  ⟨{ coreS with ca := { merge := [{ id := 4, line := 1048576, bytes := [(0, 7), (1, 8)], par := [(0, false), (1,
                                      false)], core := 1 },
                          { id := 5, line := 7, bytes := [], par := [], core := 0 }], drains :=
                          [{ core := 1, ids := [4], since := 0 }], reads :=
                          [{ agent := 9, addr := 0x4000000, len := 64, id := 4 }] } },
    { id := 4, line := 1048576, bytes := [(0, 7), (1, 8)], par := [(0, false), (1, false)], core := 1 },
    [{ id := 5, line := 7, bytes := [], par := [], core := 0 }], by decide +kernel⟩

theorem wit_TheMergingBufferTakesAndDrainsWrites_5 : ∃ (s : State) (e : MergeEntry) (rest : List MergeEntry),
  s.ca.merge = e :: rest ∧ s.underTest (e.line / 64) = false ∧ s.poolUp = true ∧ s.ca.stalled = [] ∧
  s.ca.range = none ∧ e.bad = true :=
  ⟨{ coreS with ca := { merge := [{ id := 4, line := 1048576, bytes := [(0, 7), (1, 8)], par := [(0, false), (1,
                                      false)], core := 1, bad := true }] } },
    { id := 4, line := 1048576, bytes := [(0, 7), (1, 8)], par := [(0, false), (1, false)], core := 1, bad := true },
    [], by decide +kernel⟩

theorem wit_TheMergingBufferTakesAndDrainsWrites_6 : ∃ (s : State) (e : MergeEntry) (rest : List MergeEntry),
  s.ca.merge = e :: rest ∧ s.underTest (e.line / 64) = true :=
  ⟨{ coreS with ca := { merge := [{ id := 4, line := 1048576, bytes := [(0, 7), (1, 8)], par := [(0, false), (1,
                                      false)], core := 1 }] }, st.window := some
                  { region := none, granule := 16384, openAt := 0 } },
    { id := 4, line := 1048576, bytes := [(0, 7), (1, 8)], par := [(0, false), (1, false)], core := 1 }, [],
    by decide +kernel⟩

theorem wit_TheMergingBufferTakesAndDrainsWrites_7 : ∃ (s : State) (a : Nat) (addr : Nat) (e : MergeEntry), a < 16 ∧
  isCore a = false ∧ s.permits a (addr / 64 * 64) 64 false ∧ (s.entriesOf (addr / 64)).getLast? = some e :=
  ⟨{ coreS with ca := { merge := [{ id := 4, line := 1048576, bytes := [(0, 7), (1, 8)], par := [(0, false), (1,
                                      false)], core := 1 }] } }, 9, 0x4000004,
    { id := 4, line := 1048576, bytes := [(0, 7), (1, 8)], par := [(0, false), (1, false)], core := 1 },
    by decide +kernel⟩

theorem wit_TheMergingBufferTakesAndDrainsWrites_8 : ∃ (s : State) (a : Nat) (addr : Nat), a < 16 ∧
  isCore a = false ∧ s.entriesOf (addr / 64) = [] :=
  ⟨coreS, 9, 0x4000004, by decide +kernel⟩

theorem wit_TheMergingBufferTakesAndDrainsWrites_9 : ∃ (s : State) (core : Nat), core < 2 ∧ s.coresRun = true :=
  ⟨{ coreS with ca := { merge := [{ id := 4, line := 1048576, bytes := [(0, 7), (1, 8)], par := [(0, false), (1,
                                      false)], core := 1 }] } }, 1, by decide +kernel⟩

theorem wit_TheMergingBufferTakesAndDrainsWrites_10 : ∃ (s : State) (core : Nat) (_fl : List Nat), core < 2 ∧
  (s.pw.mode = .run ∨ s.pw.mode = .doze) ∧ s.ca.drains.any (fun d => d.core == core && decide (d.since + 1000 ≤
  s.clock)) = true :=
  ⟨{ coreS with ca := { drains := [{ core := 1, ids := [4], since := 0 }] }, clock := 1000 }, 1, [],
    by decide +kernel⟩

theorem wit_TheMergingBufferTakesAndDrainsWrites_11 : ∃ (s : State) (core : Nat) (_fl : List Nat), core < 2 ∧
  s.ca.drains.any (fun d => d.core == core && decide (d.since + 1000 ≤ s.clock)) = false :=
  ⟨{ coreS with ca := { drains := [{ core := 1, ids := [4], since := 0 }] }, clock := 999 }, 1, [], by decide +kernel⟩

theorem wit_TheL2ObeysTheRangeEngineAndOutlivesItsParity_1 : ∃ (s : State) (_a : Nat) (n : Nat), 1 ≤ n ∧
  n ≤ 131072 ∧ s.coresRun = true ∧ s.ca.range = none :=
  ⟨{ coreS with ca := { l2 := [(16 * l2Set 1048576, .of 1048576 (List.replicate 64 3) false)] } }, 1048576, 2,
    by decide +kernel⟩

theorem wit_TheL2ObeysTheRangeEngineAndOutlivesItsParity_2 : ∃ (s : State) (a : Nat) (k : Nat), s.coresRun = true ∧
  s.ca.range = none ∧ s.l2On = true ∧ s.l2Find a = none ∧ s.entriesOf a = [] ∧
  (s.l2Places a).find? (fun k => !Map.has s.ca.l2 k) = some k :=
  ⟨{ coreS with ca := { l2 := [(16 * l2Set 1048576, .of 1048576 (List.replicate 64 3) false)] } }, 65537, 16 * l2Set
    65537, by decide +kernel⟩

theorem wit_TheL2ObeysTheRangeEngineAndOutlivesItsParity_3 : ∃ (s : State) (_a : Nat) (n : Nat), 1 ≤ n ∧
  n ≤ 131072 ∧ s.coresRun = true ∧ s.ca.range = none :=
  ⟨{ coreS with ca := { l2 := [(16 * l2Set 1048576, .of 1048576 (List.replicate 64 3) false)] } }, 1048576, 2,
    by decide +kernel⟩

theorem wit_TheL2ObeysTheRangeEngineAndOutlivesItsParity_4 : ∃ (s : State) (a : Nat) (k : Nat) (c : CacheLine),
  s.coresRun = true ∧ s.ca.range = none ∧ s.l2Find a = some k ∧ Map.get s.ca.l2 k = some c ∧
  (c.locked = false ∨ s.entriesOf a = []) :=
  ⟨{ coreS with ca := { l2 := [(16 * l2Set 1048576, .of 1048576 (List.replicate 64 3) false)] } }, 1048576, 16 * l2Set
    1048576, .of 1048576 (List.replicate 64 3) false, by decide +kernel⟩

theorem wit_TheL2ObeysTheRangeEngineAndOutlivesItsParity_5 : ∃ (s : State) (_a : Nat) (n : Nat), 1 ≤ n ∧
  n ≤ 131072 ∧ s.coresRun = true ∧ s.ca.range = none :=
  ⟨{ coreS with ca := { l2 := [(16 * l2Set 1048576, .of 1048576 (List.replicate 64 3) false)] } }, 1048576, 2,
    by decide +kernel⟩

theorem wit_TheL2ObeysTheRangeEngineAndOutlivesItsParity_6 : ∃ (s : State) (a : Nat) (k : Nat) (c : CacheLine),
  s.coresRun = true ∧ s.ca.range = none ∧ s.l2Find a = some k ∧ Map.get s.ca.l2 k = some c ∧ c.locked = false :=
  ⟨{ coreS with ca := { l2 := [(16 * l2Set 1048576, .of 1048576 (List.replicate 64 3) false)] } }, 1048576, 16 * l2Set
    1048576, .of 1048576 (List.replicate 64 3) false, by decide +kernel⟩

theorem wit_TheL2ObeysTheRangeEngineAndOutlivesItsParity_7 : ∃ (s : State) (a : Nat), s.coresRun = true ∧
  s.ca.range = none ∧ s.l2Find a = none :=
  ⟨coreS, 1048576, by decide +kernel⟩

theorem wit_TheL2ObeysTheRangeEngineAndOutlivesItsParity_8 : ∃ (s : State) (_a : Nat) (n : Nat), 1 ≤ n ∧
  n ≤ 131072 ∧ s.coresRun = true ∧ s.ca.range = none :=
  ⟨{ coreS with ca := { l2 := [(16 * l2Set 1048576, .of 1048576 (List.replicate 64 3) true)] } }, 1048576, 2,
    by decide +kernel⟩

theorem wit_TheL2ObeysTheRangeEngineAndOutlivesItsParity_9 : ∃ (s : State) (r : RangeOp), s.ca.range = some r :=
  ⟨{ coreS with ca := { range := some { kind := .lock, line := 4, count := 2, skipped := 1 } } },
    { kind := .lock, line := 4, count := 2, skipped := 1 }, by decide +kernel⟩

theorem wit_TheL2ObeysTheRangeEngineAndOutlivesItsParity_10 : ∃ (s : State) (a : Nat) (k : Nat) (c : CacheLine) (_same
  : Bool), s.l2Find a = some k ∧ Map.get s.ca.l2 k = some c ∧ Map.get s.ca.hits k = none :=
  ⟨{ coreS with ca := { l2 := [(16 * l2Set 1048576, .of 1048576 (List.replicate 64 3) true)] } }, 1048576, 16 * l2Set
    1048576, .of 1048576 (List.replicate 64 3) true, true, by decide +kernel⟩

theorem wit_TheL2ObeysTheRangeEngineAndOutlivesItsParity_11 : ∃ (s : State) (a : Nat) (k : Nat) (c : CacheLine) (_same
  : Bool), s.l2Find a = some k ∧ Map.get s.ca.l2 k = some c ∧ 2 ≤ (((Map.get s.ca.hits k).getD []).filter (fun x =>
  s.clock < x + 60000000)).length :=
  ⟨{ coreS with ca := { l2 := [(16 * l2Set 1048576, .of 1048576 (List.replicate 64 3) false)], hits := [(16 * l2Set
                          1048576, [0, 0])] } }, 1048576, 16 * l2Set 1048576, .of 1048576 (List.replicate 64 3) false,
    false, by decide +kernel⟩

theorem wit_TheL2ObeysTheRangeEngineAndOutlivesItsParity_12 : ∃ (s : State) (a : Nat) (k : Nat), s.l2Find a = some k ∧
  Map.get s.ca.hits k = none ∧ s.ca.locks.any (fun r => decide (r.1 ≤ a) && decide (a < r.1 + r.2)) = false :=
  ⟨{ coreS with ca := { l2 := [(16 * l2Set 1048576, .of 1048576 (List.replicate 64 3) false)] } }, 1048576, 16 * l2Set
    1048576, by decide +kernel⟩

theorem wit_TheL2ObeysTheRangeEngineAndOutlivesItsParity_13 : ∃ (s : State) (a : Nat) (k : Nat), s.l2Find a = some k ∧
  Map.get s.ca.hits k = none ∧ s.ca.locks.any (fun r => decide (r.1 ≤ a) && decide (a < r.1 + r.2)) = true ∧
  s.l2On = true ∧ (s.l2Drop k).l2Find a = none ∧ (s.l2Places a).contains k = true ∧
  (s.l2Drop k).lockedIn a < s.lockLimit :=
  ⟨{ coreS with ca := { l2 := [(16 * l2Set 1048576, .of 1048576 (List.replicate 64 3) true)], locks := [(1048576, 1)]
                          } }, 1048576, 16 * l2Set 1048576, by decide +kernel⟩

theorem wit_TheL2ObeysTheRangeEngineAndOutlivesItsParity_14 : ∃ (s : State) (i : Nat) (e : MergeEntry), s.ca.merge[i]?
  = some e :=
  ⟨{ coreS with ca := { merge := [{ id := 4, line := 1048576, bytes := [(0, 7), (1, 8)], par := [(0, false), (1,
                                      false)], core := 1 }] } }, 0,
    { id := 4, line := 1048576, bytes := [(0, 7), (1, 8)], par := [(0, false), (1, false)], core := 1 },
    by decide +kernel⟩

theorem wit_ParityErrorsAndTheEntropySourceAreWatched_1 : ∃ (s : State) (_same : Bool), s.coresRun = true :=
  ⟨coreS, true, by decide +kernel⟩

theorem wit_ParityErrorsAndTheEntropySourceAreWatched_2 : ∃ (s : State) (_same : Bool), s.coresRun = true :=
  ⟨coreS, true, by decide +kernel⟩

theorem wit_ParityErrorsAndTheEntropySourceAreWatched_3 : ∃ (s : State) (_same : Bool), s.coresRun = true :=
  ⟨coreS, false, by decide +kernel⟩

theorem wit_ParityErrorsAndTheEntropySourceAreWatched_4 : ∃ (s : State) (_same : Bool) (q : Nat), s.coresRun = true ∧
  q < 65536 ∧ s.q.cache.contains q = true ∧ s.poisoned (contextGranule q) = false :=
  ⟨coreS, true, 1, by decide +kernel⟩

theorem wit_ParityErrorsAndTheEntropySourceAreWatched_5 : ∃ (s : State) (_same : Bool) (q : Nat) (p : QPair),
  s.coresRun = true ∧ q < 65536 ∧ s.q.cache.contains q = true ∧ Map.get s.q.pairs q = some p ∧ p.halted = none :=
  ⟨coreS, true, 1, pair0, by decide +kernel⟩

theorem wit_ParityErrorsAndTheEntropySourceAreWatched_6 : ∃ (s : State) (_same : Bool) (q : Nat) (_b : Bool),
  s.coresRun = true ∧ q < 65536 ∧ s.q.cache.contains q = false :=
  ⟨coreS, true, 9, true, by decide +kernel⟩

theorem wit_ParityErrorsAndTheEntropySourceAreWatched_7 : ∃ (s : State) (_same : Bool) (b : Nat), s.coresRun = true ∧
  b < 262144 ∧ s.lm.allPoison = false :=
  ⟨{ coreS with lm.poison := [3, 17], lm.ledger := [3, 17, 18] }, true, 2, by decide +kernel⟩

theorem wit_ParityErrorsAndTheEntropySourceAreWatched_8 : ∃ (s : State) (_same : Bool) (b : Nat), s.coresRun = true ∧
  b < 262144 :=
  ⟨{ coreS with lm.poison := [3, 17], lm.ledger := [3, 17, 18] }, true, 2, by decide +kernel⟩

theorem wit_ParityErrorsAndTheEntropySourceAreWatched_9 : ∃ (s : State) (_same : Bool) (_w : Bool), s.coresRun = true
  :=
  ⟨{ (discS) with clock := 5000000000, bu.block := some
                    { kind := .data, bobbin := 0, start := 0, stop := 100, id := 5, layer := 0, clusters := [⟨.test,
                        noMetadata⟩, ⟨.test, noMetadata⟩], chainPrev := 4, selvSeq := 1, firstAca := 10, nextAca := 10
                        } }, false, true, by decide +kernel⟩

theorem wit_ParityErrorsAndTheEntropySourceAreWatched_10 : ∃ (s : State) (_same : Bool), s.coresRun = true :=
  ⟨(discS.put .BQ_COEF 5 7).set .SV_STATE 3, false, by decide +kernel⟩

theorem wit_ParityErrorsAndTheEntropySourceAreWatched_11 : ∃ (s : State) (_same : Bool) (core : Nat), (s.pw.mode =
  .run ∨ s.pw.mode = .doze) ∧ core < 2 :=
  ⟨coreS, false, 1, by decide +kernel⟩

theorem wit_ParityErrorsAndTheEntropySourceAreWatched_12 : ∃ (s : State) (_same : Bool) (a : Nat) (g : Nat) (_w :
  Bool), s.coresRun = true ∧ a < 16 ∧ g < 2097152 :=
  ⟨coreS, true, 9, 20000, true, by decide +kernel⟩

theorem wit_ParityErrorsAndTheEntropySourceAreWatched_13 : ∃ (s : State) (_same : Bool) (a : Nat) (g : Nat),
  s.coresRun = true ∧ a < 16 ∧ g < 2097152 :=
  ⟨coreS, true, 9, 20000, by decide +kernel⟩

theorem wit_ParityErrorsAndTheEntropySourceAreWatched_14 : ∃ (s : State) (_same : Bool) (a : Nat) (g : Nat),
  s.coresRun = true ∧ a < 16 ∧ g < 2097152 :=
  ⟨coreS, true, 9, 20000, by decide +kernel⟩

theorem wit_ParityErrorsAndTheEntropySourceAreWatched_15 : ∃ (s : State), s.coresRun = true ∧
  s.un.security = false ∧ s.reg .ENTROPY_STATE = 0 :=
  ⟨coreS.set .ENTROPY_STATE 0, by decide +kernel⟩

theorem wit_ParityErrorsAndTheEntropySourceAreWatched_16 : ∃ (s : State), s.reg .ENTROPY_STATE ≠ 0 :=
  ⟨coreS, by decide +kernel⟩

theorem wit_ParityErrorsAndTheEntropySourceAreWatched_17 : ∃ (s : State) (_rct : Bool), s.coresRun = true ∧
  s.un.security = false ∧ s.reg .ENTROPY_STATE = 0 :=
  ⟨coreS.set .ENTROPY_STATE 0, true, by decide +kernel⟩

theorem wit_ParityErrorsAndTheEntropySourceAreWatched_18 : ∃ (s : State) (_rct : Bool), s.coresRun = true ∧
  s.un.security = false ∧ s.reg .ENTROPY_STATE = 1 ∧ (s.sec.entropyFails.filter (fun x => s.clock < x +
  10000000)).length < 2 :=
  ⟨coreS, false, by decide +kernel⟩

theorem wit_ParityErrorsAndTheEntropySourceAreWatched_19 : ∃ (s : State) (_rct : Bool), s.coresRun = true ∧
  s.un.security = false ∧ s.reg .ENTROPY_STATE = 1 ∧ 2 ≤ (s.sec.entropyFails.filter (fun x => s.clock < x +
  10000000)).length :=
  ⟨{ coreS with sec.entropyFails := [0, 0] }, false, by decide +kernel⟩

theorem wit_TheBlackBoxAndThePins_1 : ∃ (s : State) (r : BbRecord) (rest : List BbRecord), s.pw.wardenUp = true ∧
  s.bb.queue = r :: rest ∧ s.bb.stalled = [] ∧ (r.sev = 2 ∨ s.window r.code r.source = none) ∧
  s.on .BBS_BANK0_FAULT = false ∧ s.on .BBS_BANK1_FAULT = false ∧ s.reg .PINNED ≤ 64 :=
  ⟨{ coreS with bb.queue := [{ seq := 0, time := 9, code := 0x0440, source := 11, sev := 1, flags := 0, boot := 1,
                                 data := 5 }] },
    { seq := 0, time := 9, code := 0x0440, source := 11, sev := 1, flags := 0, boot := 1, data := 5 }, [],
    by decide +kernel⟩

theorem wit_TheBlackBoxAndThePins_2 : ∃ (s : State) (r : BbRecord) (rest : List BbRecord), s.pw.wardenUp = true ∧
  s.bb.queue = r :: rest ∧ s.bb.stalled = [] ∧ (r.sev = 2 ∨ s.window r.code r.source = none) ∧
  rest.length < 26 ∧ s.unread < 56 ∧ Code.noticed.contains r.code = true :=
  ⟨{ coreS with bb.queue := [{ seq := 0, time := 9, code := 0x0440, source := 11, sev := 1, flags := 0, boot := 1,
                                 data := 5 }] },
    { seq := 0, time := 9, code := 0x0440, source := 11, sev := 1, flags := 0, boot := 1, data := 5 }, [],
    by decide +kernel⟩

theorem wit_TheBlackBoxAndThePins_3 : ∃ (s : State) (r : BbRecord) (rest : List BbRecord) (_a : Bool) (_b : Bool) (_p
  : Bool) (_q : Bool), s.pw.wardenUp = true ∧ s.bb.queue = r :: rest ∧ s.bb.stalled = [] ∧
  (r.sev = 2 ∨ s.window r.code r.source = none) ∧ s.on .BBS_BANK0_FAULT = false ∧ s.on .BBS_BANK1_FAULT = false :=
  ⟨{ coreS with bb.queue := [{ seq := 0, time := 9, code := 0x0440, source := 11, sev := 1, flags := 0, boot := 1,
                                 data := 5 }] },
    { seq := 0, time := 9, code := 0x0440, source := 11, sev := 1, flags := 0, boot := 1, data := 5 }, [], false,
    true, true, true, by decide +kernel⟩

theorem wit_TheBlackBoxAndThePins_4 : ∃ (s : State) (r : BbRecord) (rest : List BbRecord) (w : Window) (_a : Bool) (_b
  : Bool) (_p : Bool) (_q : Bool), s.pw.wardenUp = true ∧ s.bb.queue = r :: rest ∧ s.bb.stalled = [] ∧
  r.sev ≠ 2 ∧ s.window r.code r.source = some w ∧ s.clock < w.openAt + 1000000 ∧ 16 ≤ w.seen :=
  ⟨{ coreS with bb.queue := [{ seq := 0, time := 9, code := 0x0440, source := 11, sev := 1, flags := 0, boot := 1,
                                 data := 5 }], bb.windows :=
                  [{ code := 0x0440, source := 11, openAt := 0, seen := 16 }] },
    { seq := 0, time := 9, code := 0x0440, source := 11, sev := 1, flags := 0, boot := 1, data := 5 }, [],
    { code := 0x0440, source := 11, openAt := 0, seen := 16 }, true, true, true, true, by decide +kernel⟩

theorem wit_TheBlackBoxAndThePins_5 : ∃ (s : State) (_a : Bool) (_b : Bool) (_p : Bool) (_q : Bool), s.pw.wardenUp =
  true ∧ s.bb.queue = [] :=
  ⟨coreS, true, true, true, true, by decide +kernel⟩

theorem wit_TheBlackBoxAndThePins_6 : ∃ (s : State) (code : Nat) (source : Nat) (w : Window), s.window code source =
  some w ∧ w.openAt + 1000000 ≤ s.clock :=
  ⟨{ coreS with bb.queue := [{ seq := 0, time := 9, code := 0x0440, source := 11, sev := 1, flags := 0, boot := 1,
                                 data := 5 }], bb.windows :=
                  [{ code := 0x0440, source := 11, openAt := 0, seen := 19 }], clock := 1000000 }, 0x0440, 11,
    { code := 0x0440, source := 11, openAt := 0, seen := 19 }, by decide +kernel⟩

theorem wit_TheBlackBoxAndThePins_7 : ∃ (s : State) (code : Nat) (source : Nat) (w : Window), s.window code source =
  some w ∧ s.clock < w.openAt + 1000000 :=
  ⟨{ coreS with bb.queue := [{ seq := 0, time := 9, code := 0x0440, source := 11, sev := 1, flags := 0, boot := 1,
                                 data := 5 }], bb.windows :=
                  [{ code := 0x0440, source := 11, openAt := 0, seen := 19 }], clock := 999999 }, 0x0440, 11,
    { code := 0x0440, source := 11, openAt := 0, seen := 19 }, by decide +kernel⟩

theorem wit_TheBlackBoxAndThePins_8 : ∃ (s : State) (pins : BitVec 8) (up : Bool) (m : Nat), s.pw.mode = .doze ∧
  s.pw.entry = none ∧ s.pw.waking = none ∧ s.wakeEnabled 0 = true ∧
  m = (((List.range 8).filter (fun p => bit pins.toNat p && s.wakeEdge p up)).map (2 ^ ·)).sum ∧ m ≠ 0 :=
  ⟨{ (coreS.set .WAKE_ENABLE 1).put .GPW_RISING 1 1 with pw.mode := .doze }, 0x0A#8, true, 2, by decide +kernel⟩

theorem wit_TheBlackBoxAndThePins_9 : ∃ (s : State) (pins : BitVec 8) (up : Bool) (m : Nat), s.pw.mode ≠ .off ∧
  m = (((List.range 8).filter (fun p => bit pins.toNat p && s.wakeEdge p up)).map (2 ^ ·)).sum ∧ m = 0 :=
  ⟨coreS.put .GPW_RISING 1 1, 0x0A#8, false, 0, by decide +kernel⟩

theorem wit_TheBlackBoxAndThePins_10 : ∃ (s : State) (_pins : BitVec 8) (_up : Bool), s.pw.mode = .run ∧
  s.pw.entry = none :=
  ⟨coreS.put .GPW_RISING 1 1, 0x0A#8, true, by decide +kernel⟩

theorem wit_TheBlackBoxAndThePins_11 : ∃ (s : State) (mv : List (List Nat)) (_v : Nat), mv.length = 6 ∧
  (∀ l ∈ mv, l.length = 8) ∧ s.coresRun = true :=
  ⟨coreS.put .GP_FUNC 17 8, List.replicate 6 (List.replicate 8 900), 1800, by decide +kernel⟩

theorem wit_TheBlackBoxAndThePins_12 : ∃ (s : State) (_low : Bool) (op : TapOp), s.pw.mode ≠ .off ∧
  (op = .bypass ∨ op = .idcode ∨ op = .samplePreload ∨ op = .extest) :=
  ⟨coreS, true, .extest, by decide +kernel⟩

theorem wit_TheBlackBoxAndThePins_13 : ∃ (s : State) (_low : Bool) (_l : List Bool), s.pw.mode ≠ .off ∧
  s.tap.instr = 1 :=
  ⟨coreS, true, List.replicate 40 true, by decide +kernel⟩

theorem wit_TheBlackBoxAndThePins_14 : ∃ (s : State) (low : Bool) (_l : List Bool), s.pw.mode ≠ .off ∧
  s.tap.instr ≠ 1 ∧ (low = false ∨ s.tap.instr = 0) :=
  ⟨{ coreS with tap.instr := 0 }, true, [true, false, true], by decide +kernel⟩

theorem wit_TheBlackBoxAndThePins_15 : ∃ (s : State) (low : Bool) (_l : List Bool), s.pw.mode ≠ .off ∧
  2 ≤ s.tap.instr ∧ low = true :=
  ⟨{ coreS with tap.instr := 3 }, true, [true, false, true], by decide +kernel⟩

end Sys2Proof.Tests
end

section
/-! SUPPORT. What every command leaves true of the state it acts on, and the rules that carry it through the ways the
model builds a next state. -/

set_option Elab.async false

namespace Sys2Proof.Machine

/-- The host memory as written by the K760 is canonical, and there are four mailbox slots with canonical bytes. -/
def HostS.memOk (x : HostS) : Prop := Mem.wf x.mem = true ∧ x.slots.length = 4 ∧ ∀ m ∈ x.slots, Mem.wf m.mem = true

theorem wf_freshSlots : ∀ m ∈ ([{}, {}, {}, {}] : List Slot), Mem.wf m.mem = true := by decide

theorem wf_foldl_write {α : Type} (l : List α) {a : α → Nat} {b : α → Byte} {m : Mem} (h : Mem.wf m = true) :
    Mem.wf (l.foldl (fun m x => m.write (a x) (b x)) m) = true :=
  List.foldlRecOn (motive := fun m => Mem.wf m = true) l _ h fun m hm _ _ => Mem.wf_write m _ _ hm

/-- `s` keeps of `r` what no command may change or break: the queue of waiting commands, the canonical register table,
the canonical memories. -/
structure Keeps (r s : State) : Prop where
  pending : s.pending = r.pending
  regs : r.regsOk → s.regsOk
  host : r.host.memOk → s.host.memOk
  pool : Mem.wf r.lm.mem = true → Mem.wf s.lm.mem = true

/-- A command that answers a next state keeps of `r` what `Keeps` says. -/
def Answers (r : State) (o : Host.Outcome State Fault Refusal) : Prop := ∀ t, o = .next t → Keeps r t

namespace Keeps

theorem refl (s : State) : Keeps s s := ⟨rfl, id, id, id⟩

section
variable {r s t : State} (h : Keeps r s)
include h

theorem memOk (hr : r.memOk) : s.memOk := by
  obtain ⟨hl, hh⟩ := hr
  exact ⟨h.pool hl, h.host hh⟩

theorem next : Answers r (.next s) := by
  rintro t ⟨⟩
  exact h

/-- A register write cuts the value to the register's width and drops a register at its reset value (00 R14, R22). -/
theorem put {n : RegName} {i v : Nat} : Keeps r (s.put n i v) where
  pending := h.pending
  host := h.host
  pool := h.pool
  regs hr := by
    obtain ⟨hwf, hent⟩ := h.regs hr
    refine ⟨regPut_wf _ _ _ _ hwf, fun e he => ?_⟩
    rcases mem_regPut _ _ _ _ _ he with ⟨rfl, hne⟩ | he
    · exact ⟨n, i, rfl, Nat.mod_lt _ (Nat.two_pow_pos _), hne⟩
    · exact hent e he

/-- Registers that return to reset leave the table. -/
theorem filterRegs {p : Nat × Nat → Bool} : Keeps r { s with regs := s.regs.filter p } where
  pending := h.pending
  host := h.host
  pool := h.pool
  regs hr := by
    obtain ⟨hwf, hent⟩ := h.regs hr
    exact ⟨Map.wf_filter _ _ hwf, fun e he => hent e (List.mem_of_mem_filter he)⟩

section
variable {clock time free : Nat} {pw : PowerS} {host : HostS} {q : QueueS} {bb : BlackBoxS} {bead : BeadS} {lm : LoomS}
  {md : MediumS} {bu : BurstS} {sec : SecS} {sp : SpindleS} {sl : SledS} {sv : ServoS} {las : LaserS}
  {ch chV : ChannelS} {rd : List ReadJob} {cal : CalS} {st : SelfTestS} {ca : CacheS} {un : UnitsS} {pt : PortS}
  {tb : TimeS} {tally : Map TallyOpen} {gp : GpioS} {bo : BootS} {tap : TapS}

/-- Fields other than the queue and the registers may change, so long as the memories stay canonical. (The state is
written out field by field so that unification reads `s` off its first two fields.) -/
theorem frame (hh : s.host.memOk → host.memOk := by exact fun x => x)
    (hl : Mem.wf s.lm.mem = true → Mem.wf lm.mem = true := by exact fun x => x) :
    Keeps r ⟨s.pending, s.regs, clock, time, free, pw, host, q, bb, bead, lm, md, bu, sec, sp, sl, sv, las, ch, chV, rd,
      cal, st, ca, un, pt, tb, tally, gp, bo, tap⟩ :=
  ⟨h.pending, h.regs, fun x => hh (h.host x), fun x => hl (h.pool x)⟩

end

theorem ite {c : Prop} [Decidable c] (g : Keeps r t) : Keeps r (if c then s else t) := by
  split
  · exact h
  · exact g

/-- A state, or what follows from it in one of the two cases. -/
theorem iteAfter {c : Prop} [Decidable c] (g : Keeps r s → Keeps r t) : Keeps r (if c then t else s) := .ite (g h) h

theorem foldl {α : Type} {f : State → α → State} {l : List α} (hf : ∀ t a, Keeps r t → Keeps r (f t a)) :
    Keeps r (l.foldl f s) := List.foldlRecOn l f h fun t ht a _ => hf t a ht

end

section
variable {r : State} {α β : Type} {p q : β × State}

theorem iteSnd {c : Prop} [Decidable c] (h : Keeps r p.2) (g : Keeps r q.2) : Keeps r (if c then p else q).2 := by
  split
  · exact h
  · exact g

theorem iteFst {p q : State × β} {c : Prop} [Decidable c] (h : Keeps r p.1) (g : Keeps r q.1) :
    Keeps r (if c then p else q).1 := by
  split
  · exact h
  · exact g

theorem foldlSnd {f : β × State → α → β × State} {l : List α} (h : Keeps r p.2)
    (hf : ∀ p a, Keeps r p.2 → Keeps r (f p a).2) : Keeps r (l.foldl f p).2 :=
  List.foldlRecOn (motive := fun p => Keeps r p.2) l f h fun p hp a _ => hf p a hp

theorem of_fst {q : State × β} {s : State} {b : β} (h : Keeps r q.1) (e : q = (s, b)) : Keeps r s := by
  rwa [e] at h

theorem of_snd {s : State} {b : β} (h : Keeps r p.2) (e : p = (b, s)) : Keeps r s := by
  rwa [e] at h

end

end Keeps

theorem Answers.ite {r : State} {c : Prop} [Decidable c] {o o' : Host.Outcome State Fault Refusal} (h : Answers r o)
    (h' : Answers r o') : Answers r (if c then o else o') := by
  split
  · exact h
  · exact h'

namespace Keeps

/-! ## Every function that the commands are built of -/

section

variable {r s : State} (h : Keeps r s)
include h

/-! ### Registers -/

theorem set {n : RegName} {v : Nat} : Keeps r (s.set n v) := h.put

theorem setInt {n : RegName} {v : Int} : Keeps r (s.setInt n v) := h.set

theorem add {n : RegName} {i k : Nat} : Keeps r (s.add n i k) := h.put

theorem bump {n : RegName} : Keeps r (s.bump n) := h.add

theorem resetRegs {p : RegName → Bool} : Keeps r (s.resetRegs p) := h.filterRegs

/-! ### Free values and bead counters -/

theorem draw : Keeps r s.draw.2 := h.frame

theorem beadAdd {i k : Nat} : Keeps r (s.beadAdd i k) := .put (.ite h.put h)

theorem beadMax {i v : Nat} : Keeps r (s.beadMax i v) := .put (.ite h.put h)

theorem pulse {code v : Nat} : Keeps r (s.pulse code v) := by
  unfold State.pulse
  split
  · exact h
  · refine h.foldl fun t _ ht => ?_
    split
    · split
      · exact ht.beadAdd
      · exact ht.beadMax
      · exact ht
    · exact ht

/-! ### The L2 -/

theorem poisonGranule {g : Nat} : Keeps r (s.poisonGranule g) := .ite h h.frame.bump.pulse

theorem readReturns {bs : List Byte} {poison : Bool} : Keeps r (s.readReturns bs poison) := h.frame

theorem l2Put {k : Nat} {c : CacheLine} : Keeps r (s.l2Put k c) := h.frame

theorem l2Drop {k : Nat} : Keeps r (s.l2Drop k) := h.frame

theorem l2Fill {line : Nat} {locked : Bool} : Keeps r (s.l2Fill line locked) := by
  unfold State.l2Fill
  split
  · exact h
  · extract_lets
    split
    · exact h.l2Put
    · split
      · exact h
      · exact h.draw.l2Put.pulse

theorem mergeTake {core addr : Nat} {bs : List Byte} {t : State} (e : s.mergeTake core addr bs = some t) :
    Keeps r t := by
  unfold State.mergeTake at e
  extract_lets _ hit at e
  have hhit (u : State) (hu : Keeps r u) : Keeps r (hit u) := by
    simp only [hit]
    split
    · exact hu
    · split
      · exact hu
      · exact hu.l2Put
  split at e
  · cases e
  · split at e
    · cases e
      exact hhit _ h.frame
    · split at e
      · cases e
        exact hhit _ h.frame
      · cases e

theorem unstall {l : List (Nat × Nat × List Byte)} : Keeps r (s.unstall l) := by
  induction l generalizing s with
  | nil => exact h.frame
  | cons w ws ih =>
    unfold State.unstall
    split
    · rename_i t e
      exact ih (h.mergeTake e)
    · exact h.frame

theorem readsReturn {id : Nat} : Keeps r (s.readsReturn id) := h.frame.foldl fun _ _ ht => ht.readReturns

theorem drainsPass {id : Nat} : Keeps r (s.drainsPass id) := h.frame

theorem l2Refill {line : Nat} : Keeps r (s.l2Refill line) := by
  unfold State.l2Refill
  split
  · exact h
  · split
    · exact h
    · exact h.l2Put

theorem rangeFills : Keeps r s.rangeFills := by
  unfold State.rangeFills
  split
  · exact h
  · exact h.frame.foldl fun _ _ ht => .ite ht.l2Refill ht.l2Fill

theorem drainOldest : Keeps r s.drainOldest := by
  unfold State.drainOldest
  split
  · exact h
  · extract_lets _ s1 _ s2 s3 s4
    have h1 : Keeps r s1 := h.frame
    have h2 : Keeps r s2 := .ite (h1.frame (hl := wf_foldl_write _)) h1
    have h3 : Keeps r s3 := .ite h2.poisonGranule h2
    have h4 : Keeps r s4 := h3.readsReturn.drainsPass
    exact h4.unstall.rangeFills

theorem drainOld {n : Nat} : Keeps r (s.drainOld n) := by
  induction n generalizing s with
  | zero => exact h
  | succ n ih => exact ih h.drainOldest

theorem drainFirst : Keeps r s.drainFirst := h.pulse.drainOld

theorem l2Invalidate {line : Nat} : Keeps r (s.l2Invalidate line) := by
  unfold State.l2Invalidate
  split
  · exact h.l2Refill
  · split
    · exact h
    · exact h.l2Drop

theorem invalidateBytes {addr n : Nat} : Keeps r (s.invalidateBytes addr n) := h.foldl fun _ _ ht => ht.l2Invalidate

/-! ### Reports, marks and the pool -/

theorem hostWrite {a : Nat} {bs : List Byte} : Keeps r (s.hostWrite a bs) := by
  unfold State.hostWrite
  split
  · exact h.frame fun ⟨hm, hs⟩ => ⟨Mem.wf_writeN _ _ _ hm, hs⟩
  · exact h

theorem msixSend {v : Nat} : Keeps r (s.msixSend v) := .ite h (.ite (.ite h h.frame) h.hostWrite.pulse)

theorem msixFlush : Keeps r s.msixFlush := .ite h (h.frame.foldl fun _ _ ht => ht.msixSend)

theorem notice {n : Notice} : Keeps r (s.notice n) :=
  .ite (.msixSend (.set (.frame (.ite h.frame h)))) (.pulse (.bump (.ite h.frame h)))

theorem noticeDrained {n : Notice} : Keeps r (s.noticeDrained n) := h.drainFirst.notice

theorem queueRecord {x : BbRecord} : Keeps r (s.queueRecord x) :=
  .ite (.ite h.frame h.frame) (.ite h.frame (.ite h.bump.pulse.notice h.bump.pulse))

theorem reportFull {code data source : Nat} {injected : Bool} : Keeps r (s.reportFull code data source injected) :=
  .ite (.queueRecord (.ite h.set.set h)) (.ite h.set.set h)

theorem report {code obj val second : Nat} : Keeps r (s.report code obj val second) := h.reportFull

theorem reportBoot {code obj val : Nat} : Keeps r (s.reportBoot code obj val) := h.reportFull

theorem restartIdle : Keeps r s.restartIdle := h.frame

theorem setSlot {n : Nat} {f : Slot → Slot}
    (hf : ∀ m, Mem.wf m.mem = true → Mem.wf (f m).mem = true := by exact fun _ h => h) : Keeps r (s.setSlot n f) := by
  refine h.frame fun ⟨hm, hl, hs⟩ => ⟨hm, by simpa using hl, fun m hmem => ?_⟩
  obtain ⟨i, hi, rfl⟩ := List.mem_iff_getElem.1 hmem
  rw [List.getElem_modify]
  split
  · exact hf _ (hs _ (List.getElem_mem _))
  · exact hs _ (List.getElem_mem _)

theorem answer {slot : Nat} {x : MbResp} : Keeps r (s.answer slot x) := h.setSlot

theorem cancelEntry : Keeps r s.cancelEntry := by
  unfold State.cancelEntry
  split
  · exact h
  · extract_lets _ _ _ s1
    have h1 : Keeps r s1 := h.frame.set.restartIdle.pulse
    split
    · exact h1.answer
    · exact h1

theorem beginWake {cause : Nat} : Keeps r (s.beginWake cause) := by
  unfold State.beginWake
  split
  · exact .ite h (.ite h.frame h.frame.set.set.pulse)
  · exact .ite h (.ite h.frame h.frame.set.set.pulse)
  · exact .ite h (.ite h.frame h.frame.set.set.pulse)
  · exact h

theorem sourceFires {cause : Nat} : Keeps r (s.sourceFires cause) := by
  unfold State.sourceFires
  split
  · exact .ite h.frame h
  · split
    · exact h.set
    · exact h.set
    · exact h.set
    · exact h

theorem wakeOn {cause : Nat} {hostWrite : Bool} : Keeps r (s.wakeOn cause hostWrite) :=
  .ite h.sourceFires.beginWake h.sourceFires

theorem arrive {cause : Nat} {hostWrite : Bool} : Keeps r (s.arrive cause hostWrite) := by
  unfold State.arrive
  split
  · exact h.wakeOn
  · exact .ite h.sourceFires (.ite h.cancelEntry.wakeOn h.cancelEntry.sourceFires)

theorem activity {cause : Nat} : Keeps r (s.activity cause) :=
  .ite h.cancelEntry.restartIdle.wakeOn (.ite h.cancelEntry.restartIdle h.cancelEntry.restartIdle.sourceFires)

theorem updateHealth : Keeps r s.updateHealth := .ite h h.set.report

theorem parityMet {row : Nat} {same : Bool} : Keeps r (s.parityMet row same) :=
  .ite h.frame.bump.add.pulse.report.bump.pulse.report h.frame.bump.add.pulse.report

theorem reportDiscOut {code obj val : Nat} : Keeps r (s.reportDiscOut code obj val) :=
  h.report.set.set.report.updateHealth

/-! ### The black box -/

theorem checked {ok : Bool} : Answers r (checked ok s) := by
  unfold Machine.checked
  split
  · exact h.next
  · rintro t ⟨⟩

theorem bbSlotWrite {slot : Nat} {x : BbRecord} {ok : Bool × Bool} : Keeps r (s.bbSlotWrite slot x ok) := by
  unfold State.bbSlotWrite
  extract_lets _ s1
  have h1 : Keeps r s1 := .ite h (.ite h.frame h.frame.set.report)
  exact .ite h1 (.ite h1.frame h1.frame.set.report)

theorem bbWrite {x : BbRecord} {ring pinOk : Bool × Bool} : Keeps r (s.bbWrite x ring pinOk).1 := by
  unfold State.bbWrite
  extract_lets _ _ _ _ _ s1 s2 _ s3 _ s4
  have h1 : Keeps r s1 := h.bbSlotWrite.bbSlotWrite.set
  have h2 : Keeps r s2 := .ite (.ite h1.set h1) h.bbSlotWrite
  have h3 : Keeps r s3 := .ite h2.frame h2.frame
  have h4 : Keeps r s4 := h3.set.set.pulse.updateHealth
  exact h4

theorem closeWindow {w : Window} : Keeps r (s.closeWindow w) := .ite h.frame.report h.frame

theorem bbTake {x : BbRecord} {ring pinOk : Bool × Bool} : Keeps r (s.bbTake x ring pinOk).1 := by
  unfold State.bbTake
  split
  · exact h.bbWrite
  · extract_lets s1
    have h1 : Keeps r s1 := by
      unfold s1
      split
      · exact .ite h.closeWindow h
      · exact h
    split
    · exact h1.frame.bbWrite
    · exact .iteFst h1.frame.bbWrite h1.frame.bump

theorem bbAccept {ring pinOk : Bool × Bool} : Keeps r (s.bbAccept ring pinOk).1 := by
  unfold State.bbAccept
  split
  · exact h
  · extract_lets _ s1
    have h1 : Keeps r s1 := by
      unfold s1
      split
      · exact h.frame
      · exact h.frame
    exact h1.bbTake

theorem bbDrain {n : Nat} : Keeps r (s.bbDrain n).1 := by
  induction n generalizing s with
  | zero => exact h
  | succ n ih =>
    unfold State.bbDrain
    split
    · exact h
    · exact ih h.bbAccept

theorem execBbRecordWrite_answers {bank0 bank1 : BankCheck} : Answers r (execBbRecordWrite bank0 bank1 s) := by
  unfold execBbRecordWrite
  split
  · exact h.next
  · split
    · rename_i t1 _ e
      have h1 : Keeps r t1 := h.bbAccept.of_fst e
      refine .next ?_
      split
      · exact h1
      · exact h1.noticeDrained

theorem execBbSuppressWindowClose_answers {code source : Nat} : Answers r (execBbSuppressWindowClose code source s) :=
    by
  unfold execBbSuppressWindowClose
  split
  · exact h.next
  · exact .next (.ite h.closeWindow h)

theorem bbTorn {k : Nat} : Keeps r (s.bbTorn k) := .ite h.frame (.ite h.frame (.ite h.frame h.frame))

theorem bbCopy {x : BbRecord} {k : Nat} : Keeps r (State.bbCopy x s k) := by
  unfold State.bbCopy
  extract_lets _ t1
  have h1 : Keeps r t1 := .ite h.frame (.ite h.frame (.ite h.frame h.frame))
  exact .ite h1.set.set h1

theorem bbCut : Keeps r s.bbCut := by
  unfold State.bbCut
  split
  · exact h
  · exact .ite ((h.draw.foldl fun _ _ ht => ht.bbCopy).frame) h

theorem bbScan : Keeps r s.bbScan := by
  unfold State.bbScan
  extract_lets s1 _ _ s2 _ _ _ _ s3
  have h1 : Keeps r s1 := h.foldl fun _ _ ht => ht.bbTorn
  have h2 : Keeps r s2 := by
    refine h1.foldl fun t _ ht => ?_
    split
    · exact .ite ht (.ite ht.frame.bump ht.frame.bump)
    · exact ht.frame.bump
    · exact ht.frame.bump
    · exact ht
  have h3 : Keeps r s3 := h2.set.set.frame
  exact .ite h3.report h3

/-! ### The host side: windows, mailboxes, the service port -/

theorem acceptGo {n : Nat} {byP8 : Bool} : Keeps r (s.acceptGo n byP8) := h.frame.setSlot.pulse

theorem acceptWaiting : Keeps r s.acceptWaiting := .ite (h.foldl fun _ _ ht => ht.acceptGo) h

theorem refuseWrite {byP8 : Bool} : Keeps r (s.refuseWrite byP8) := .ite h h.bump

theorem ctrlWrite {n w : Nat} {byP8 : Bool} : Keeps r (s.ctrlWrite n w byP8) := by
  unfold State.ctrlWrite
  split
  · exact .refuseWrite (.ite h.setSlot h)
  · exact .ite (.ite h.setSlot.setSlot.frame.acceptGo h.setSlot.setSlot.frame) h.setSlot

theorem p8Select : Keeps r s.p8Select := h.frame.arrive

theorem p8Keep {offset : Nat} {data : List Byte} : Keeps r (s.p8Keep offset data) := .ite h.frame h

theorem p8Access {offset : Nat} {data : List Byte} {f : State → State} (hf : ∀ t, Keeps r t → Keeps r (f t)) :
    Keeps r (s.p8Access offset data f) :=
  .ite (hf _ h.p8Select.cancelEntry.restartIdle) h.p8Select.p8Keep

theorem mailboxWrite {ctrl : Bool} : Keeps r (s.mailboxWrite ctrl) := h.arrive.cancelEntry.restartIdle

theorem release : Keeps r s.release := .ite h.frame.setSlot.frame h.frame.setSlot

theorem askRelease : Keeps r s.askRelease := .ite h.frame h.release

theorem noteFlight {slot : Nat} : Keeps r (s.noteFlight slot) := h.frame

theorem execMbComplete_answers {slot : Nat} : Answers r (execMbComplete slot s) := by
  unfold execMbComplete
  refine .checked ?_
  split
  · extract_lets s1
    have h1 : Keeps r s1 := .ite (h.noteFlight.setSlot fun _ _ => rfl)
      (h.drainFirst.setSlot fun _ hm => Mem.wf_writeN _ _ _ (Mem.wf_writeN _ _ _ hm)).msixSend
    exact .ite h1.release h1
  · exact h

theorem claimWrite {byP8 : Bool} : Keeps r (s.claimWrite byP8) := .ite h.frame (.ite h.refuseWrite h)

theorem releaseWrite {byP8 : Bool} : Keeps r (s.releaseWrite byP8) := .ite h.askRelease (.ite h.refuseWrite h)

theorem slotByteWrite {n o : Nat} {b : Byte} : Keeps r (s.slotByteWrite n o b) :=
  .ite h (.ite h.setSlot (h.setSlot fun _ hm => Mem.wf_write _ _ _ hm))

theorem p8Bytes {o : Nat} {run l : List Byte} : Keeps r (s.p8Bytes o run l) := by
  induction l generalizing s o run with
  | nil => exact h
  | cons b bs ih =>
    refine ih (.ite h.ctrlWrite (.ite ?_ (.ite h h.slotByteWrite)))
    split
    · exact h.claimWrite
    · exact h.releaseWrite
    · exact h

theorem serveP8 : Keeps r s.serveP8 := h.frame.foldl fun _ _ ht => ht.p8Bytes

theorem fieldBytes {slot offset : Nat} {data : List Byte} {byP8 : Bool} :
    Keeps r (s.fieldBytes slot offset data byP8) := by
  unfold State.fieldBytes
  extract_lets _ s1 s2
  have h1 : Keeps r s1 := .ite h.ctrlWrite h
  have h2 : Keeps r s2 := by
    unfold s2
    split
    · split
      · exact h1.claimWrite
      · exact h1.releaseWrite
      · exact h1
    · exact h1
  exact .ite h2 (.ite h2.refuseWrite (h2.foldl fun _ _ ht => ht.slotByteWrite))

theorem execMsixMaskWrite_answers {w : MsixWrite} : Answers r (execMsixMaskWrite w s) := by
  unfold execMsixMaskWrite
  extract_lets
  refine .checked ?_
  split
  · exact h
  · split
    · exact .ite h.frame.msixFlush h.frame
    · exact h.frame.msixFlush
    · exact h.frame.msixFlush

/-! ### Queue pairs -/

theorem setPair {qp : Nat} {f : QPair → QPair} : Keeps r (s.setPair qp f) := h.frame

theorem signal {qp : Nat} : Keeps r (s.signal qp) := by
  unfold State.signal
  split
  · exact h
  · exact .ite h.setPair.msixSend h.setPair

theorem writeCqe {qp tag status result : Nat} {coarse atOnce : Bool} :
    Keeps r (s.writeCqe qp tag status result coarse atOnce) := by
  unfold State.writeCqe
  split
  · exact h
  · exact .ite h.setPair.pulse.hostWrite.signal h.setPair.pulse.hostWrite

theorem cacheTouch {qp : Nat} : Keeps r (s.cacheTouch qp) := by
  unfold State.cacheTouch
  split
  · exact h.frame.pulse
  · extract_lets
    split
    · exact h.pulse.frame
    · split
      · exact h.pulse.frame
      · exact .ite h.pulse h.pulse.frame

theorem haltEntry {qp : Nat} : Keeps r (s.haltEntry qp) := by
  unfold State.haltEntry
  split
  · exact h
  · split
    · exact h
    · split
      · exact h
      · extract_lets s1
        have h1 : Keeps r s1 := h.drainFirst.writeCqe
        split
        · exact h1.setPair
        · exact h1.setPair.frame.answer

theorem postOne {c : QCmd} {status result : Nat} {coarse : Bool} : Keeps r (s.postOne c status result coarse) :=
  h.drainFirst.frame.setPair.writeCqe.pulse

theorem setCmd {c : QCmd} {f : QCmd → QCmd} : Keeps r (s.setCmd c f) := h.frame

theorem endOne {c : QCmd} {status result : Nat} {coarse : Bool} : Keeps r (s.endOne c status result coarse) :=
  .ite h.postOne h.setCmd.frame

theorem endAborts {outcome n : Nat} {l : List (Nat × Nat)} : Keeps r (s.endAborts outcome l n) := by
  induction n generalizing s outcome l with
  | zero => exact h
  | succ n ih =>
    refine h.foldl fun t k ht => ?_
    split
    · exact ht
    · exact .ite ht (ih ht.endOne.pulse).haltEntry

theorem finish {c : QCmd} {status result : Nat} {coarse : Bool} : Keeps r (s.finish c status result coarse) :=
  .ite h h.endOne.endAborts.haltEntry

theorem finishWith {c : QCmd} {status count detail : Nat} : Keeps r (s.finishWith c status count detail) := h.finish

theorem haltCmd {reason : Nat} {c : QCmd} : Keeps r (s.haltCmd reason c) :=
  .ite h (.ite h.finishWith (.ite h.draw.finishWith h))

theorem halt {qp reason : Nat} : Keeps r (s.halt qp reason) := by
  unfold State.halt
  split
  · exact h
  · exact .ite h ((h.setPair.pulse.foldl fun _ _ ht => ht.haltCmd).haltEntry)

theorem doorbell {qp : Nat} {sqTail cqHead : Option Nat} : Keeps r (s.doorbell qp sqTail cqHead) := by
  unfold State.doorbell
  split
  · exact h.bump
  · split
    · exact h.bump
    · extract_lets _ s1
      have h1 : Keeps r s1 := by
        unfold s1
        split
        · exact h.cacheTouch
        · exact .ite h.cacheTouch.setPair h.cacheTouch.halt
      split
      · exact h1
      · exact .ite h1.setPair h1.halt

theorem bellWrite {offset : Nat} {data : List Byte} : Keeps r (s.bellWrite offset data) :=
  .ite h.doorbell (.ite h.doorbell h.doorbell)

theorem takeBlocked {n : Nat} : Keeps r (s.takeBlocked n) := by
  induction n generalizing s with
  | zero => exact h
  | succ n ih =>
    unfold State.takeBlocked
    split
    · exact h
    · exact .ite (ih h.frame.bellWrite) h

theorem cacheWaiting : Keeps r s.cacheWaiting := by
  unfold State.cacheWaiting
  extract_lets _ s1
  have h1 : Keeps r s1 := by
    unfold s1
    split
    · exact h
    · exact .ite h.frame.cacheTouch h
  exact h1.takeBlocked

theorem execDoorbellWrite_answers {offset size value : Nat} : Answers r (execDoorbellWrite offset size value s) := by
  unfold execDoorbellWrite
  exact .checked (.ite h (.ite h.bump (.ite h.arrive.restartIdle.pulse.cacheWaiting.bellWrite
      h.arrive.restartIdle.pulse.cacheWaiting.frame)))

theorem useTurn {qp k : Nat} {fresh : Bool} : Keeps r (s.useTurn qp k fresh) := h.frame

theorem execSqFetch_answers {qp : Nat} {entry buffer descriptors : List Byte} :
    Answers r (execSqFetch qp entry buffer descriptors s) := by
  unfold execSqFetch
  refine .checked ?_
  extract_lets s1
  have h1 : Keeps r s1 := .ite h h.cacheWaiting
  split
  · exact h1
  · split
    · exact h1
    · split
      · exact h1
      · extract_lets _ _ s2 s3
        have h2 : Keeps r s2 := h1.useTurn.frame
        have h3 : Keeps r s3 := h2.cacheTouch.setPair
        exact .ite h3.halt (.ite h3.frame h3.frame.finishWith)

theorem execFencedStart_answers {qp tag : Nat} : Answers r (execFencedStart qp tag s) := by
  unfold execFencedStart
  refine .next ?_
  split
  · exact .ite h.useTurn.setCmd h
  · exact h

theorem runCmd {qp tag opcode : Nat} {f : QCmd → State → State} (hf : ∀ c t, Keeps r t → Keeps r (f c t)) :
    Answers r (s.runCmd qp tag opcode f) := by
  unfold State.runCmd
  refine .next ?_
  split
  · exact h
  · split
    · split
      · exact h.finishWith
      · exact hf _ _ h
    · exact h

theorem resolveAbort {c : QCmd} : Keeps r (State.resolveAbort c s) := by
  unfold State.resolveAbort
  extract_lets
  split
  · exact h
  · split
    · exact .ite h.finish.pulse (.ite h.finishWith.finish.pulse (.ite h.finish.pulse h.setCmd.setCmd))
    · split
      · exact h.finish.pulse
      · exact .ite h.finish.pulse h.finish.pulse

theorem execCoalTimerExpiry_answers {qp : Nat} : Answers r (execCoalTimerExpiry qp s) := by
  unfold execCoalTimerExpiry
  refine .checked ?_
  split
  · exact h
  · exact .ite h.signal h

theorem execHostReadTimeout_answers {qp : Nat} {tag : Option Nat} : Answers r (execHostReadTimeout qp tag s) := by
  unfold execHostReadTimeout
  refine .checked ?_
  extract_lets s1
  have h1 : Keeps r s1 := h.bump.bump.pulse
  split
  · exact h1.report.halt
  · split
    · exact h1.report
    · exact .ite h1.report h1.report.finishWith

theorem execPoisonedTlp_answers {qp : Nat} {tag : Option Nat} : Answers r (execPoisonedTlp qp tag s) := by
  unfold execPoisonedTlp
  refine .checked ?_
  extract_lets
  split
  · exact h.bump.report.halt
  · split
    · exact h.bump.report
    · exact .ite h.bump.report h.bump.report.finishWith

theorem writeHeld : Keeps r s.writeHeld := by
  unfold State.writeHeld
  split
  · exact h
  · extract_lets _ _ s1
    have h1 : Keeps r s1 := by
      refine h.frame.foldl fun t _ ht => ?_
      split
      · split
        · exact ht.postOne
        · exact ht
      · exact ht
    exact h1.foldl fun _ _ ht => ht.haltEntry

/-! ### The rows of the mailboxes -/

theorem runMbx {slot opcode : Nat} {sel : MbCopy → Bool} {f : MbCopy → State → State}
    (hf : ∀ c t, Keeps r t → Keeps r (f c t)) :
    Answers r (s.runMbx slot opcode sel f) := by
  unfold State.runMbx
  refine .checked ?_
  split
  · exact .ite (hf _ _ h) h
  · exact h

theorem execQpCreate_answers {slot : Nat} : Answers r (execQpCreate slot s) := by
  unfold execQpCreate
  refine h.runMbx (fun c t ht => ?_)
  extract_lets
  split
  · exact ht.answer
  · split
    · exact ht.answer
    · exact .ite ht.answer (.ite ht.answer ht.frame.answer)

theorem execQpDelete_answers {slot : Nat} : Answers r (execQpDelete slot s) := by
  unfold execQpDelete
  refine h.runMbx (fun c t ht => ?_)
  extract_lets
  split
  · exact ht.answer
  · exact .ite ht (.ite ht.frame.answer (.ite ht.setPair.haltEntry ht.setPair.halt))

theorem needEntropy {slot : Nat} {c : MbCopy} {f : State → State} (hf : ∀ t, Keeps r t → Keeps r (f t)) :
    Keeps r (s.needEntropy slot c f) :=
  .ite (hf _ h) (.ite h.answer (.ite h.answer h))

/-! ### The Loom -/

theorem cleanGranule {g : Nat} : Keeps r (s.cleanGranule g) := by
  unfold State.cleanGranule
  split
  · exact h.frame (hl := Mem.wf_zero _ _ _)
  · exact h

theorem bobFlags {b : Nat} : Keeps r (s.bobFlags b) := h.put.put.put

theorem raiseHead {b x : Nat} : Keeps r (s.raiseHead b x) := by
  unfold State.raiseHead
  extract_lets _ _ s1 _ _ _ _ _ _ _ _ s2
  have h1 : Keeps r s1 := h.foldl fun _ _ ht => .ite ht.cleanGranule ht
  have h2 : Keeps r s2 := h1.frame.put.frame
  exact .ite h (.ite h2.put.put h1.frame.put)

theorem wrapFree {b need n : Nat} : Keeps r (s.wrapFree b need n) := by
  induction n generalizing s with
  | zero => exact h
  | succ n ih => exact .ite h (ih h.raiseHead)

theorem makeRoom {b len keep : Nat} : Keeps r (s.makeRoom b len keep).2 :=
  .iteSnd (.iteSnd h.wrapFree (.iteSnd h.wrapFree.raiseHead h.wrapFree)) (.iteSnd h.raiseHead h)

theorem ringWrite {b o : Nat} {bs : List Byte} : Keeps r (s.ringWrite b o bs) := by
  unfold State.ringWrite
  exact h.frame (hl := fun hm => Mem.wf_writeN _ _ _ (Mem.wf_writeN _ _ _ hm))

theorem raiseCeilings {b : Nat} : Keeps r (s.raiseCeilings b) := .ite (.put (.ite h.put h)) (.ite h.put h)

theorem portDrop {p : Nat} : Keeps r (s.portDrop p) := .pulse (.ite h.add (.ite h.add h.bump))

theorem commitRec {b : Nat} {x : Rec} : Keeps r (s.commitRec b x) :=
  h.frame.put.put.raiseCeilings.bobFlags.pulse.pulse.restartIdle

theorem writeRec {b : Nat} {payload : List Byte} {flags source time : Nat} :
    Keeps r (s.writeRec b payload flags source time) :=
  h.ringWrite.commitRec

theorem segClose {b reason : Nat} : Keeps r (s.segClose b reason) :=
  .ite h (.ite h.makeRoom.writeRec.add h.makeRoom.frame)

theorem heddle {k base limit rights bobbin lease : Nat} : Keeps r (s.heddle k base limit rights bobbin lease) :=
  h.put.put.put.put.put.put.put.put.put

theorem grantLease {b : Nat} : Keeps r (s.grantLease b) := .ite h h.put.heddle.put.put.frame

theorem dropLease {b : Nat} : Keeps r (s.dropLease b) := by
  unfold State.dropLease
  split
  · exact h
  · exact .frame (.put (.ite h h.heddle))

theorem appendsMeet {b : Nat} : Keeps r (s.appendsMeet b) := .ite (h.foldl fun _ _ ht => ht.finishWith) h

theorem revokeLease {b reason : Nat} : Keeps r (s.revokeLease b reason) := by
  unfold State.revokeLease
  split
  · exact h
  · extract_lets s1 s2 s3
    have h1 : Keeps r s1 := h.dropLease.put.appendsMeet
    have h2 : Keeps r s2 := h1.segClose.add
    have h3 : Keeps r s3 := .ite h2.bump h2
    exact h3.frame.pulse.report

theorem revokeAgent {agent : Nat} : Keeps r (s.revokeAgent agent) := h.foldl fun _ _ ht => .ite ht.revokeLease ht

theorem handover : Keeps r s.handover := h.foldl fun _ _ ht => .ite ht ht.heddle.heddle.put

theorem reed {k base limit rmask wmask : Nat} : Keeps r (s.reed k base limit rmask wmask) := h.put.put.put.put.put

theorem deriveReed : Keeps r s.deriveReed := (h.foldl fun _ _ ht => ht.reed).foldl fun _ _ ht => .ite ht.put ht.reed

theorem deriveHeddle : Keeps r s.deriveHeddle := (h.foldl fun _ _ ht => ht.heddle).foldl fun _ _ ht => .ite ht ht.heddle

theorem formBobbins : Keeps r s.formBobbins := .foldl (.ite h h.report) fun _ _ ht => ht.put.put

theorem emptyBobbins : Keeps r s.emptyBobbins :=
  (h.frame (hl := fun _ => rfl)).foldl fun _ _ ht => ht.put.put.put.put.put.put.put.put.put

theorem saveTails : Keeps r s.saveTails := h.foldl fun _ _ ht => ht.put.put.put

theorem invalidateRing {b o n : Nat} : Keeps r (s.invalidateRing b o n) := h.invalidateBytes.invalidateBytes

theorem grantAll : Keeps r s.grantAll := h.foldl fun _ _ ht => ht.grantLease

/-! ### The channel -/

theorem giveFrame {f : FrameSeen} : Keeps r (s.giveFrame f).1 := by
  unfold State.giveFrame
  extract_lets
  split
  · exact h.frame
  · exact h.frame

theorem giveFrames {l : List FrameSeen} : Keeps r (s.giveFrames l).1 := by
  induction l generalizing s with
  | nil => exact h
  | cons f fs ih => exact ih h.giveFrame

theorem seedTaps {l : Nat} : Keeps r (s.seedTaps l) := h.frame

theorem readFrames {fast : Bool} {x : ReadOutcome} : Keeps r (s.readFrames fast x).1 := h.giveFrames.frame

theorem verifyFrames {v : Verdict} : Keeps r (s.verifyFrames v).1 := h.frame

/-! ### Writing -/

theorem levelCurrent {level p : Nat} : Keeps r (s.levelCurrent level p).2 := by
  unfold State.levelCurrent
  extract_lets
  split
  · exact h.draw
  · split
    · exact h
    · dsimp only
      exact h.set.bump.pulse.report

theorem writeLevels : Keeps r s.writeLevels := by
  unfold State.writeLevels
  extract_lets
  split
  rename_i t1 e
  have h1 : Keeps r t1 := h.set.levelCurrent.of_snd e
  split
  rename_i t2 e
  have h2 : Keeps r t2 := h1.levelCurrent.of_snd e
  split
  rename_i t3 e
  have h3 : Keeps r t3 := h2.levelCurrent.of_snd e
  split
  rename_i t4 e
  exact (h3.levelCurrent.of_snd e).frame

/-! ### Bursts and flushes -/

theorem addDone {b a z : Nat} : Keeps r (s.addDone b a z) := h.frame.put.bobFlags

theorem skipRec {b : Nat} {x : Rec} : Keeps r (s.skipRec b x) := .report (.addDone (.ite h h.bump.pulse))

theorem assembleOne {b o n : Nat} {recs : List Rec} : Keeps r (s.assembleOne b o n recs).2 := by
  unfold State.assembleOne
  extract_lets
  split
  · exact h.put.pulse
  · exact h

theorem assemble {b o z n : Nat} {recs : List Rec} : Keeps r (s.assemble b o z recs n).2 := by
  induction n generalizing s o with
  | zero => exact h
  | succ n ih => exact .iteSnd h (ih h.assembleOne)

theorem startBlock {b : Nat} {recs : List Rec} {layer head : Nat} : Keeps r (s.startBlock b recs layer head) := by
  unfold State.startBlock
  extract_lets
  split
  rename_i t e
  exact (h.assemble.of_snd e).frame

theorem skipBad {b : Nat} {l : List Rec} : Keeps r (s.skipBad b l).1 := by
  induction l generalizing s with
  | nil => exact h
  | cons c cs ih =>
    unfold State.skipBad
    split
    · exact h
    · exact ih h.skipRec

theorem userFull : Keeps r s.userFull := .foldl (.ite h h.set.report) fun _ _ ht => ht.finishWith

theorem checkFlushes : Keeps r s.checkFlushes := h.foldl fun _ _ ht => ht.finishWith

theorem nextBlock {n : Nat} : Keeps r (s.nextBlock n) := by
  induction n generalizing s with
  | zero => exact h
  | succ n ih =>
    unfold State.nextBlock
    split
    · exact h
    · split
      rename_i t _ e
      have hu : Keeps r t.checkFlushes := (h.skipBad.of_fst e).checkFlushes
      split
      · exact ih hu
      · split
        · exact ih hu
        · extract_lets
          split
          · exact .ite hu.startBlock hu
          · exact hu.userFull
          · exact hu

theorem burn {a : Nat} {c : Cluster} : Keeps r (s.burn a c) := by
  unfold State.burn
  split
  · exact h
  · exact h.frame

theorem advance {k : Block} {a : Nat} : Keeps r (s.advance k a) := by
  unfold State.advance
  extract_lets
  split
  · exact h.frame
  · exact h.frame
  · exact h.frame
  · exact h.frame
  · exact h.frame

theorem addDefect {d : DefectEntry} : Keeps r (s.addDefect d) := h.frame

theorem addEntry {e : DirEntry} : Keeps r (s.addEntry e) := h.frame

theorem setBlock {f : Block → Block} : Keeps r (s.setBlock f) := h.frame

theorem breakCluster : Keeps r s.breakCluster := by
  unfold State.breakCluster
  split
  · exact h.frame
  · split
    · exact h.frame
    · exact h.burn.advance.addEntry.addDefect.setBlock.frame.pulse.report

theorem dropBlock : Keeps r s.dropBlock := by
  unfold State.dropBlock
  split
  · exact h
  · extract_lets _ s1 s2
    have h1 : Keeps r s1 := by
      unfold s1
      split
      · exact h
      · exact h.burn.advance
    have h2 : Keeps r s2 := by
      unfold s2
      split
      · exact h1.addEntry
      · exact h1
    exact h2.frame

theorem abandonBlock : Keeps r s.abandonBlock := by
  unfold State.abandonBlock
  split
  · exact h
  · exact .ite h.dropBlock.frame.pulse.report h.dropBlock.frame

theorem discOut {code obj val : Nat} : Keeps r (s.discOut code obj val) :=
  h.abandonBlock.frame.reportDiscOut.foldl fun _ _ ht => ht.finishWith

theorem commitFlushes {k : Block} : Keeps r (s.commitFlushes k) := h.frame

theorem beginCluster {k : Block} : Keeps r (s.beginCluster k) := by
  unfold State.beginCluster
  extract_lets _ _ _ s1 _ s2 u _ s3
  have h1 : Keeps r s1 := h.frame.setBlock
  have h2 : Keeps r s2 := .ite h1.frame h1
  have hu : Keeps r u := h2.writeLevels
  have h3 : Keeps r s3 := hu.frame
  exact .ite h3.commitFlushes h3

theorem tryOpenGate : Keeps r s.tryOpenGate := by
  unfold State.tryOpenGate
  split
  · exact h
  · exact .ite h.frame (.ite h (.beginCluster (.ite h h.bump)))

theorem encode : Keeps r s.encode := by
  unfold State.encode
  split
  · exact h
  · exact .ite h h.setBlock

theorem openSession : Keeps r s.openSession := by
  unfold State.openSession
  split
  · exact h
  · exact h.frame

theorem trigger {bobs : List Nat} {mark : Bool} {flush : Option (Nat × Nat)} : Keeps r (s.trigger bobs mark flush) :=
  .ite (.ite h.frame h) (.ite h.frame (.ite h.arrive h.arrive.openSession.restartIdle.pulse.frame))

theorem dropBurst : Keeps r s.dropBurst := .ite h.dropBlock.frame h

theorem dropFlush {qp tag : Nat} : Keeps r (s.dropFlush qp tag) := .ite h.frame.dropBurst h

theorem endFlushes : Keeps r s.endFlushes := h.frame.dropBurst

theorem commitNow {c : QCmd} {tails : List (Nat × Nat)} : Keeps r (s.commitNow c tails) := .ite h.setCmd h

theorem countFlushes {b o : Nat} : Keeps r (s.countFlushes b o) := h.frame

theorem keepHead {stream v : Nat} : Keeps r (s.keepHead stream v) := h.frame

theorem countPfail : Keeps r s.countPfail := h.frame

theorem selvedgeVerified {k : Block} {a : Nat} : Keeps r (s.selvedgeVerified k a) :=
  h.addEntry.addDone.keepHead.frame.countPfail.countFlushes.pulse.checkFlushes

/-! ### Sessions -/

theorem orphan {k : Block} : Keeps r (s.orphan k) := by
  unfold State.orphan
  split
  · exact h.addEntry
  · exact h

theorem layerEnded {k : Block} : Keeps r (s.layerEnded k) := h.orphan.addEntry.frame

theorem dropCopy : Keeps r s.dropCopy := h.frame.bump

theorem restartBlock {k : Block} : Keeps r (s.restartBlock k) := by
  unfold State.restartBlock
  split
  · exact h.frame.userFull
  · exact .ite h h.frame

theorem finishMount : Keeps r s.finishMount := by
  unfold State.finishMount
  extract_lets _ _ _ _ s1 s2 s3 s4
  have h1 : Keeps r s1 := h.frame.set.updateHealth
  have h2 : Keeps r s2 := .ite h1.report h1.report
  have h3 : Keeps r s3 := .ite h2.report h2
  have h4 : Keeps r s4 := h3.foldl fun _ _ ht => ht.finishWith
  exact .ite h4 h4.frame.trigger

theorem sessionDone {e : Session} : Keeps r (s.sessionDone e) :=
  .ite h.frame.report.finishMount (.ite h.frame.report.frame.trigger h.frame.report)

theorem startClose : Keeps r s.startClose := h.frame

theorem startSystem {kind : BlockKind} {e : Session} : Keeps r (s.startSystem kind e) := by
  unfold State.startSystem
  split
  · exact h
  · exact h.frame

theorem nextWork : Keeps r s.nextWork := by
  unfold State.nextWork
  split
  · split
    · exact h
    · split
      · exact h.layerEnded
      · exact h.dropCopy
      · exact h.frame
  · exact h.restartBlock
  · exact .ite h h.startSystem
  · split
    · exact h.startClose
    · split
      · exact h
      · split
        · split
          · exact h.startSystem
          · exact h.sessionDone
        · exact .ite (.ite h.nextBlock h.nextBlock.frame) h
  · exact h

theorem resume : Keeps r s.resume := h.nextWork.nextWork.tryOpenGate

theorem cutWrite : Keeps r s.cutWrite := h.breakCluster.nextWork

theorem systemVerified {k : Block} {a : Nat} : Keeps r (s.systemVerified k a) := by
  unfold State.systemVerified
  extract_lets _ _ _ _ _ s1
  have h1 : Keeps r s1 := h.frame.keepHead
  split
  · exact h1.frame.frame
  · exact h1.frame.frame.bump.pulse
  · exact h1.frame

theorem copyVerified {k : Block} {a : Nat} : Keeps r (s.copyVerified k a) := by
  unfold State.copyVerified
  split
  · exact h.frame
  · exact h.frame.addDefect.report

theorem goOn : Keeps r s.goOn := by
  unfold State.goOn
  split
  · exact h
  · exact .ite h.resume (.ite h.frame.bump.pulse (.ite h.beginCluster h.frame))

theorem clusterPassed {k : Block} {a : Nat} : Keeps r (s.clusterPassed k a) := by
  unfold State.clusterPassed
  extract_lets _ s1
  have h1 : Keeps r s1 := h.burn.advance.bump.pulse
  split
  · split
    · exact h1.frame.selvedgeVerified.resume
    · exact h1.copyVerified.resume
    · exact h1.systemVerified.resume
  · exact .ite h1.frame.abandonBlock h1.frame.goOn

theorem exhausted {k : Block} {a : Nat} : Keeps r (s.exhausted k a) := by
  unfold State.exhausted
  extract_lets _ _ _ s1
  have h1 : Keeps r s1 := h.bump.frame.report
  split
  · exact h.bump.frame.discOut
  · split
    · exact h1.set.abandonBlock.frame.resume
    · exact h1.set.dropCopy.resume
    · exact h1.set.frame.resume

theorem systemSkip {k : Block} {a : Nat} : Keeps r (s.systemSkip k a) := .ite h h.addDefect

theorem clusterFailed {k : Block} {a : Nat} : Keeps r (s.clusterFailed k a) := by
  unfold State.clusterFailed
  extract_lets _ s1 _ _ _ _ _ _ _ s2 s3
  have h1 : Keeps r s1 := h.burn.advance.bump.pulse
  have h2 : Keeps r s2 := h1.systemSkip.frame
  have h3 : Keeps r s3 := .ite h2 h2.addDefect.bump.pulse
  exact .ite h1.systemSkip.exhausted (.ite h2.abandonBlock (.ite h2.resume h3.goOn))

theorem verdict {v : Verdict} : Keeps r (s.verdict v) := by
  unfold State.verdict
  split
  · exact h
  · split
    · exact h
    · exact .ite h.verifyFrames.frame.clusterPassed (.ite
        h.verifyFrames.frame.burn.advance.systemSkip.bump.pulse.set.frame.discOut h.verifyFrames.frame.clusterFailed)

theorem securityReset : Keeps r s.securityReset := .ite h h.set

theorem signatureAbandon : Keeps r s.signatureAbandon :=
  .resume (.ite h.abandonBlock.securityReset.frame.set.frame h.abandonBlock.securityReset.frame)

theorem execSignatureDone_answers {ok : Bool} : Answers r (execSignatureDone ok s) := by
  unfold execSignatureDone
  refine .next ?_
  split
  · split
    · exact h
    · exact .ite h (.ite h.setBlock.bump.pulse.tryOpenGate (.ite h.bump.report.setBlock
        h.bump.report.signatureAbandon))
  · exact h

/-! ### The archive -/

theorem unverifiable {reason id : Nat} : Keeps r (s.unverifiable reason id) := h.set.set.bump.pulse.report

theorem reconstruct {a : Nat} {c : Cluster} : Keeps r (s.reconstruct a c) :=
  .ite h (.ite (.ite h h.addDefect) (.ite (h.foldl fun _ _ ht => .ite ht ht.addDefect) h))

theorem adopt {e : Extent} : Keeps r (s.adopt e) := by
  unfold State.adopt
  extract_lets
  split
  · exact h.addEntry
  · split
    · exact h.unverifiable.addEntry
    · exact h.addEntry

theorem findHead {stream : Nat} : Keeps r (s.findHead stream) := by
  unfold State.findHead
  split
  · exact h
  · extract_lets
    split
    · exact h
    · split
      · exact .ite h.keepHead h.frame.report
      · exact h.frame.report

theorem findSystemHead {d : Disc} : Keeps r (s.findSystemHead d) := by
  unfold State.findSystemHead
  extract_lets
  split
  · exact .ite h h.keepHead
  · exact h.keepHead
  · exact h

theorem readSystem {d : Disc} : Keeps r (s.readSystem d) := h.frame

theorem rebuildSlips {d : Disc} : Keeps r (s.rebuildSlips d) := h.foldl fun _ _ ht => ht.reconstruct

theorem numbersFound {user : List (List (Nat × Cluster))} {spare : List (Nat × Cluster)} :
    Keeps r (s.numbersFound user spare) :=
  h.frame

theorem mountKac80 {d : Disc} : Keeps r (s.mountKac80 d) := by
  unfold State.mountKac80
  extract_lets _ s1 s2 s3 s4
  have h1 : Keeps r s1 := h.readSystem.rebuildSlips
  have h2 : Keeps r s2 := .ite h.readSystem (.numbersFound (.ite h1 ((h1.draw.frame.foldl fun _ _ ht =>
      ht.reconstruct).foldl fun _ _ ht => ht.adopt)))
  have h3 : Keeps r s3 := (h2.foldl fun _ _ ht => ht.findHead).findSystemHead
  have h4 : Keeps r s4 := h3.foldl fun _ _ ht => ht.put.put
  split
  · exact h4.frame.finishMount
  · exact .ite h4.frame.startClose.resume h4.frame.finishMount

/-! ### Spindle and loader -/

theorem laserRead {layer : Nat} : Keeps r (s.laserRead layer) :=
  .set (.set (.set (.set (.set (.levelCurrent (.ite h h.frame))))))

theorem laserOff : Keeps r s.laserOff := .set (.set (.set (.set (.set (.ite h h.set)))))

theorem coilsOff : Keeps r s.coilsOff := (h.foldl fun _ _ ht => ht.put).frame

theorem servoOff : Keeps r s.servoOff := .frame (.coilsOff (.set (.set (.set (.ite h h.set)))))

theorem startAcquire {layer : Nat} : Keeps r (s.startAcquire layer) := h.laserRead.set.set.set.set.frame

theorem wakeServo : Keeps r s.wakeServo := .ite h.startAcquire.frame h

theorem showSpeed : Keeps r s.showSpeed := h.set.set.set.set

theorem spState {st : Nat} : Keeps r (s.spState st) := by
  unfold State.spState
  extract_lets _ _ _ s1 _ s2
  have h1 : Keeps r s1 := h.set.set.frame
  have h2 : Keeps r s2 := .ite h1.frame h1
  exact .ite h2.servoOff.laserOff h2

theorem spSense : Keeps r s.spSense := h.spState.set.set.frame

theorem spShort {why : ShortWhy} : Keeps r (s.spShort why) := h.spState.set.set.frame

theorem spFloat : Keeps r s.spFloat := h.spState.set.set.frame

theorem spAlign : Keeps r s.spAlign := h.spState.bump.pulse.set.frame

theorem spRun : Keeps r s.spRun := h.spState.set.frame.showSpeed

theorem spFailed : Keeps r s.spFailed := .ite h.frame.bump.spShort.frame.discOut h.frame.spShort

theorem endReads : Keeps r s.endReads := h.frame

theorem countStall {code : Nat} : Keeps r (s.countStall code) :=
  .ite h.cutWrite.endReads.frame.frame.discOut h.cutWrite.endReads.frame.report

theorem speedLoop {p : Nat} : Keeps r (s.speedLoop p) := h.set.frame

theorem schedule : Keeps r s.schedule := h.frame

theorem toothEvent {a : ToothEvent} : Keeps r (s.toothEvent a) := by
  unfold State.toothEvent
  split
  · exact .ite h.spRun h
  · exact .ite h.frame (.ite h.spState.frame.set h)
  · exact .ite h.spShort h
  · exact h

theorem eventDue {e : ToothEvent} {times : Nat} : Keeps r (s.eventDue e times) :=
  .ite h.toothEvent.set.report (.ite h.frame.bump.pulse h.toothEvent)

theorem newEvent {e : ToothEvent} : Keeps r (s.newEvent e) := .ite h h.eventDue

theorem toothEvents : Keeps r s.toothEvents := by
  unfold State.toothEvents
  extract_lets _ _ _ s1 s2 s3 s4
  have h1 : Keeps r s1 := h.frame.foldl fun _ _ ht => ht.eventDue
  have h2 : Keeps r s2 := .ite h1.newEvent h1
  have h3 : Keeps r s3 := .ite h2.newEvent h2
  have h4 : Keeps r s4 := .ite h3.newEvent h3
  exact .ite h4.newEvent h4

theorem tooth {p k : Nat} : Keeps r (s.tooth p k) :=
  .showSpeed (.toothEvents (.schedule (.ite h.frame.speedLoop h.frame)))

theorem speedTooth {p : Nat} : Keeps r (s.speedTooth p) := by
  unfold State.speedTooth
  split
  · exact h
  · exact .ite h.frame.set (.ite (.tryOpenGate (.wakeServo (.frame (.set (.ite h.frame.set h.frame))))) h.frame)

theorem acceptTooth {p : Nat} : Keeps r (s.acceptTooth p) := h.frame.tooth.speedTooth

theorem reverse : Keeps r s.reverse := by
  unfold State.reverse
  extract_lets _ _ s1 u2
  have h1 : Keeps r s1 := h.bump.pulse.countStall
  have h2 : Keeps r u2 := h1.spShort
  exact .ite h1.spShort (.ite h1.spFailed h2.frame)

theorem execBemfCrossing_answers {periodNs : Nat} {forward : Bool} :
    Answers r (execBemfCrossing periodNs forward s) := by
  unfold execBemfCrossing
  exact .next (.ite h (.ite h.acceptTooth (.ite h.frame.bump.pulse.frame (.ite h.frame.bump.pulse.frame.reverse
      h.frame.bump.pulse.frame))))

theorem pwmTick : Keeps r s.pwmTick := .ite (.ite h.frame h.frame) h

theorem laneStates : Keeps r s.laneStates := .ite (.ite h.set.set.set h.set.set) h.set.set.set

theorem laneHealth : Keeps r s.laneHealth := h.laneStates.updateHealth

theorem mapEntry {ramNo kind index spare source : Nat} : Keeps r (s.mapEntry ramNo kind index spare source) :=
  .ite h h.put.put.put.put.put.put.put.set.set.bump.pulse.report.updateHealth

theorem retireLane {k : Nat} : Keeps r (s.retireLane k) := by
  unfold State.retireLane
  extract_lets _ _ _ s1 s2
  have h1 : Keeps r s1 := .ite h.put.bump.put h.put.bump
  have h2 : Keeps r s2 := .laneHealth (.ite h1.set h1)
  exact .ite h (.ite h2.mapEntry.discOut h2.mapEntry.report)

theorem accInit : Keeps r s.accInit := h.frame

theorem spinUp {readings : List (List Int)} {laneFails : List Nat} : Keeps r (s.spinUp readings laneFails) := by
  unfold State.spinUp
  extract_lets s1 _ _ _ fault s2 _ _ s3
  have h1 : Keeps r s1 := .ite h h.set.accInit
  have h2 : Keeps r s2 := h1.frame.pulse
  have h3 : Keeps r s3 := h2.frame.foldl fun _ _ ht => ht.retireLane
  clear_value fault s2 s3
  split
  · exact h2.bump.discOut
  · exact .ite h3 h3.set.spSense

theorem execSenseEnd_answers {crossings : List (Nat × Bool)} : Answers r (execSenseEnd crossings s) := by
  unfold execSenseEnd
  exact .next (.ite h (.ite h.bump.pulse.report.spShort (.ite h.spRun.frame.bump.pulse.schedule.showSpeed (.ite
      h.spAlign h.spShort))))

theorem execSpindleStall_answers : Answers r (execSpindleStall s) := by
  unfold execSpindleStall
  exact .next (.ite h (.ite h.bump.pulse.countStall.spFloat (.ite h.bump.pulse.countStall.spFailed
      h.bump.pulse.countStall.spSense.frame)))

theorem loaderStart {inward : Bool} : Keeps r (s.loaderStart inward) := h.set.set.set.frame

theorem pollEject : Keeps r s.pollEject := .ite h.loaderStart h

theorem atRest : Keeps r s.atRest :=
  .ite h.spAlign (.pollEject (.showSpeed (.frame (.set (.set (.set (.spState (.ite h.set h))))))))

theorem execSpindleOvercurrent_answers {phase : Nat} : Answers r (execSpindleOvercurrent phase s) := by
  unfold execSpindleOvercurrent
  exact .checked (.ite h (.ite h.bump.pulse.cutWrite.endReads.frame.spFloat.spState.set.frame.discOut
      h.bump.pulse.cutWrite.endReads.frame.spFloat.spState.set.report))

theorem barSpindle : Keeps r s.barSpindle := .ite h.cutWrite.spFloat h

theorem unbarSpindle : Keeps r s.unbarSpindle := .ite h.spSense.frame.set h

/-! ### The sled -/

theorem standIn {mode : Nat} : Keeps r (s.standIn mode) := h.frame

theorem standNow : Keeps r s.standNow := .ite h.frame h

theorem retainPos : Keeps r s.retainPos := .ite h.set.set h

theorem posLost {count : Bool} : Keeps r (s.posLost count) := .ite (.bump (.ite h.set.set h.set)) (.ite h.set.set h.set)

theorem sledStopped : Keeps r s.sledStopped := h.set.frame

theorem loadAngle {low : Nat} : Keeps r (s.loadAngle low) := h.draw.set

theorem sledMove {u : Int} : Keeps r (s.sledMove u) := .ite h (.frame (.set (.ite h.pulse h)))

theorem startHoming : Keeps r s.startHoming := h.set.frame

theorem sledTo {u : Int} : Keeps r (s.sledTo u) := by
  unfold State.sledTo
  extract_lets
  split
  · exact h
  · exact .ite h.frame (.ite h.frame.frame (.ite h.frame.startHoming (.ite h.frame.startHoming h.frame.sledMove)))

theorem sledDemand {u : Int} : Keeps r (s.sledDemand u) := .sledTo (.ite h h.bump.report)

theorem sledResume : Keeps r s.sledResume := by
  unfold State.sledResume
  split
  · exact h
  · exact h.frame.sledTo

theorem applyTable : Keeps r s.applyTable := (((h.foldl fun _ _ ht => ht.put).frame).set).set

theorem sledTick : Keeps r s.sledTick := by
  unfold State.sledTick
  split
  · exact h
  · extract_lets _ _ _ _ _ _ _ _ _ _ t1
    have h1 : Keeps r t1 := .ite h.frame h.frame.setInt
    exact .ite (.applyTable (.ite h1 h1.set)) (.ite h1 h1.set)

theorem chopTick : Keeps r s.chopTick := .ite h.frame (.frame (.ite h.loadAngle h))

theorem sledRuns : Keeps r s.sledRuns := .ite (.ite h.sledTick.chopTick.frame h.sledTick.chopTick) h

theorem sledStand : Keeps r s.sledStand := h.set.set.frame.retainPos

theorem execSledMoveEnd_answers : Answers r (execSledMoveEnd s) := by
  unfold execSledMoveEnd
  refine .next ?_
  split
  · exact h.frame
  · exact h.setInt.set.sledStand.set.bump.frame.pulse.sledResume
  · exact h.setInt.sledStand.tryOpenGate
  · exact h

theorem sledReferenced : Keeps r s.sledReferenced := h.set.set.frame

theorem execHomeSwitchEdge_answers {asserted : Bool} : Answers r (execHomeSwitchEdge asserted s) := by
  unfold execHomeSwitchEdge
  refine .next ?_
  extract_lets
  split
  · exact h.set.frame
  · exact .ite h.set.sledReferenced h.set
  · exact h.set
  · exact .ite h.set.posLost.report h.set

theorem execSledStall_answers : Answers r (execSledStall s) := by
  unfold execSledStall
  refine .next ?_
  split
  · exact .ite h.loadAngle.sledReferenced h
  · split
    · exact h
    · extract_lets _ _ s1
      have h1 : Keeps r s1 := h.loadAngle.sledStopped.set.standIn.posLost.retainPos.bump.pulse
      exact .ite h1.frame.frame.discOut h1.frame.report.startHoming
  · exact h

theorem execHomingFail_answers : Answers r (execHomingFail s) := by
  unfold execHomingFail
  exact .next (.ite h (.ite h.set.bump.sledStopped.frame.set.frame.discOut
      h.set.bump.sledStopped.frame.report.startHoming))

theorem execSledOvercurrent_answers {coil : Nat} : Answers r (execSledOvercurrent coil s) := by
  unfold execSledOvercurrent
  exact .checked (.ite (.discOut (.frame (.retainPos (.frame (.set (.posLost (.set (.ite h.sledStopped h))))))))
      (.report (.retainPos (.frame (.set (.posLost (.set (.ite h.sledStopped h))))))))

theorem sledHold : Keeps r s.sledHold := .frame (.standIn (.ite h.sledStopped.frame.set h))

theorem sledShutdown : Keeps r s.sledShutdown := .retainPos (.frame (.ite h.sledStopped.frame.set.posLost h))

theorem sledPowerDown : Keeps r s.sledPowerDown := .frame (.standIn (.ite h.retainPos.set.set h.retainPos))

theorem sledPowerUp : Keeps r s.sledPowerUp := .ite h.set.standIn.set.set.set h.set.standIn.set.set

theorem unmount : Keeps r s.unmount := h.frame.frame

theorem calAllDue : Keeps r s.calAllDue := h.set.foldl fun _ _ ht => ht.put.put

theorem endCartridge {action status detail : Nat} : Keeps r (s.endCartridge action status detail) :=
  h.foldl fun _ _ ht => ht.finishWith

theorem execLoaderEndSwitch_answers {inner : Bool} {disc : Option Disc} :
    Answers r (execLoaderEndSwitch inner disc s) := by
  unfold execLoaderEndSwitch
  exact .next (.ite (.ite h.set.set.frame h.set.set) (.ite h.set.set.set.bump.pulse.calAllDue.frame (.ite
      h.set.set.set.bump.pulse.unmount.set.endCartridge h.set.set)))

theorem execCartridgePull_answers : Answers r (execCartridgePull s) := by
  unfold execCartridgePull
  exact .next (.ite h (.foldl (.set (.unmount (.set (.set (.report (.pulse (.bump (.ite
      h.abandonBlock.servoOff.laserOff.spFloat h.abandonBlock.servoOff.laserOff)))))))) fun _ _ ht => ht.finishWith))

/-! ### Appends -/

theorem buffer {x : BufRec} : Keeps r (s.buffer x) := .ite h.frame h.add

theorem flushTriggers {b p all : Nat} {full : Bool} : Keeps r (s.flushTriggers b p all full) := by
  unfold State.flushTriggers
  extract_lets _ _ s1 s2
  have h1 : Keeps r s1 := .ite h.trigger h
  have h2 : Keeps r s2 := .ite h1.trigger h1
  exact .ite h2.trigger h2

theorem tryAppend {b : Nat} {payload : List Byte} {flags source time : Nat} :
    Keeps r (s.tryAppend b payload flags source time).2 :=
  .iteSnd h.add (.iteSnd h.makeRoom.writeRec.flushTriggers h.makeRoom.add.bobFlags)

theorem appendLog {b : Nat} {payload : List Byte} {flags source time : Nat} :
    Keeps r (s.appendLog b payload flags source time) :=
  .ite h.tryAppend h.buffer

theorem unbuffer : Keeps r s.unbuffer := h.frame.foldl fun _ _ ht => ht.tryAppend

theorem execLeaseRenew_answers {bobbin : Nat} : Answers r (execLeaseRenew bobbin s) := by
  unfold execLeaseRenew
  refine .checked ?_
  split
  · exact h
  · exact .ite h.revokeLease (.ite h h.frame)

theorem execLeaseExpiry_answers {bobbin : Nat} : Answers r (execLeaseExpiry bobbin s) := by
  unfold execLeaseExpiry
  refine .checked ?_
  split
  · exact h
  · exact .ite h.revokeLease.frame h

theorem enginePassed {b : Nat} : Keeps r (s.enginePassed b) := .ite h.frame h.grantLease

theorem execEngineLoopbackRetry_answers {bobbin : Nat} : Answers r (execEngineLoopbackRetry bobbin s) := by
  unfold execEngineLoopbackRetry
  refine .checked ?_
  split
  · exact .ite h.frame h
  · exact h

theorem losePool {mask : Nat} : Keeps r (s.losePool mask) := by
  unfold State.losePool
  split
  · exact h
  · extract_lets _ s1 _ _ s2 s3 _ s4 _ _ _ s5 u6
    have h1 : Keeps r s1 := h.saveTails.set.foldl fun _ _ ht => ht.revokeLease
    clear_value s1
    have h2 : Keeps r s2 := h1.frame.bump.add.report
    have h3 : Keeps r s3 := h2.foldl fun _ _ ht => .ite ht ht.put
    have h4 : Keeps r s4 := h3.foldl fun _ _ ht => ht.halt
    have h5 : Keeps r s5 := h4.frame.foldl fun _ _ ht => ht.finishWith
    have h6 : Keeps r u6 := h5.abandonBlock
    exact h6.frame.startClose.resume

theorem mismatch {g : Nat} : Keeps r (s.mismatch g) := by
  unfold State.mismatch
  extract_lets _ s1 _ s2
  have h1 : Keeps r s1 := h.bump.pulse.report
  have h2 : Keeps r s2 := h1.frame.deriveReed.deriveHeddle
  exact .ite h2.losePool h2

theorem wrapAhead {agent addr n : Nat} : Keeps r (s.wrapAhead agent addr n) := by
  unfold State.wrapAhead
  split
  · exact h
  · exact .ite h (.ite h.makeRoom h)

theorem segHeldAppend {b : Nat} : Keeps r (s.segHeldAppend b) := by
  unfold State.segHeldAppend
  split
  · exact h
  · exact .ite h.frame.segClose.grantLease h.frame.segClose

theorem execMarkRetire_answers {markId : Nat} : Answers r (execMarkRetire markId s) := by
  unfold execMarkRetire
  refine .next ?_
  split
  · exact h
  · exact .ite (h.frame.foldl fun _ _ ht => ht.bobFlags) h

theorem execPoolLoss_answers {channels : Nat} : Answers r (execPoolLoss channels s) := by
  unfold execPoolLoss
  exact .checked (.ite (.losePool (.ite (.set (.ite h.set h)) (.ite h.set h))) (.ite (.set (.ite h.set h)) (.ite h.set
      h)))

theorem reopen {reason : Nat} : Keeps r (s.reopen reason) := (h.foldl fun _ _ ht => ht.segClose).grantAll

theorem execPoolRetrain_answers {failed : Nat} : Answers r (execPoolRetrain failed s) := by
  unfold execPoolRetrain
  exact .checked (.ite h (.ite h.frame.set.set
      h.frame.set.set.emptyBobbins.set.report.deriveReed.deriveHeddle.reopen.unbuffer))

/-! ### Host resets -/

theorem hostReset : Keeps r s.hostReset := by
  unfold State.hostReset
  extract_lets _ _ _ s1 _ _ clear
  have h1 : Keeps r s1 := h.endFlushes
  have hclear (n : Nat) (m : Slot) (hm : Mem.wf m.mem = true) : Mem.wf (clear n m).mem = true := by
    unfold clear
    split
    · exact hm
    · split
      · exact hm
      · rfl
  clear_value s1 clear
  refine .set (.set (.frame h1 ?_))
  rintro ⟨hm, hl, hs⟩
  refine ⟨hm, List.length_mapIdx.trans hl, fun m hmem => ?_⟩
  obtain ⟨i, hi, rfl⟩ := List.mem_mapIdx.1 hmem
  exact hclear _ _ (hs _ (List.getElem_mem hi))

theorem execHostResetComplete_answers : Answers r (execHostResetComplete s) := by
  unfold execHostResetComplete
  refine .next ?_
  split
  · exact h
  · extract_lets
    split
    · exact h
    · exact .acceptWaiting (.ite ((h.bbDrain.reportFull.bbAccept.frame.set.set.foldl fun _ _ ht =>
        ht.noticeDrained).set) (h.bbDrain.reportFull.bbAccept.frame.set.set.foldl fun _ _ ht => ht.noticeDrained))

/-! ### Read jobs -/

theorem rampTo {t : List Int} : Keeps r (s.rampTo t) := .ite h (.ite h.frame.frame h.frame.frame)

theorem useLayer {l : Nat} : Keeps r (s.useLayer l) := h.rampTo

theorem setJob {j : ReadJob} : Keeps r (s.setJob j) := h.frame

theorem aimAt {l : Nat} {ofs : Int × Int} : Keeps r (s.aimAt l ofs) := h.rampTo

theorem startRead {j : ReadJob} : Keeps r (s.startRead j).1 := by
  unfold State.startRead
  split
  · exact h
  · exact .iteFst h (.iteFst (.ite h h.aimAt) (.ite (.seedTaps (.ite h h.aimAt)) (.ite h h.aimAt)))

theorem aimRead : Keeps r s.aimRead := by
  unfold State.aimRead
  split
  · exact .ite h h.startRead.setJob
  · exact h

/-! ### The servo -/

theorem rampStep : Keeps r s.rampStep := .ite h h.frame

theorem breakByGate : Keeps r s.breakByGate := .ite h.frame h.cutWrite.frame.bump

theorem noteShock {trips peakTe peakFe : Nat} {open' broken : Bool} {aca : Nat} :
    Keeps r (s.noteShock trips peakTe peakFe open' broken aca) :=
  h.frame

theorem gateTrip {te fe acc : Bool} {peakTe peakFe : Nat} : Keeps r (s.gateTrip te fe acc peakTe peakFe) := by
  unfold State.gateTrip
  split
  · exact h
  · extract_lets _ s1 s2 _ _ _ s3
    have h1 : Keeps r s1 := .ite (.bump (.ite h.bump h)) (.ite h.bump h)
    have h2 : Keeps r s2 := .ite h1.bump h1
    have h3 : Keeps r s3 := h2.set.pulse.noteShock
    exact .ite h3.frame.abandonBlock h3.frame.breakByGate

theorem positionCheck {track : Nat} {ofs : Int} : Keeps r (s.positionCheck track ofs) :=
  .ite h.set.set h.set.setInt.bump.report

theorem jumpToward {l from' : Nat} : Keeps r (s.jumpToward l from') := h.set.set.set.set.frame.bump.pulse

theorem trackSeek {track : Nat} : Keeps r (s.trackSeek track) := .ite h.set.set.frame.sledDemand h.set.set.frame

theorem startSeek {layer track : Nat} : Keeps r (s.startSeek layer track) :=
  .ite h.bump.pulse.frame.trackSeek h.bump.pulse.frame.frame.jumpToward

theorem mountNow : Keeps r s.mountNow := by
  unfold State.mountNow
  split
  · exact h
  · exact .ite h.mountKac80 h.frame.report.endCartridge

theorem onFollow : Keeps r s.onFollow := by
  unfold State.onFollow
  split
  · exact h
  · split
    · exact .ite h h.startSeek
    · exact .ite h.mountNow.resume h.resume

theorem follow : Keeps r s.follow := h.set.set.frame

theorem execSettleComplete_answers {track : Nat} : Answers r (execSettleComplete track s) := by
  unfold execSettleComplete
  refine .next ?_
  split
  · exact h
  · extract_lets s1 _ _ u2 _ _ u3
    have h1 : Keeps r s1 := h.set.showSpeed
    have h2 : Keeps r u2 := h1.bump
    have h3 : Keeps r u3 := h1.follow
    split
    · exact .ite h1.frame.discOut h2.frame.trackSeek
    · split
      · exact .ite h1.trackSeek h3.frame.onFollow
      · exact h3.frame.onFollow

theorem focusClosed {layer track : Nat} : Keeps r (s.focusClosed layer track) :=
  ((h.set.set.set.set.foldl fun _ _ ht => ht.put).frame).useLayer

theorem afterFocus {layer target : Nat} : Keeps r (s.afterFocus layer target) := .ite h.set h.jumpToward

theorem execFocusClose_answers {crossings wedgeLayer : Nat} {coilOfsNm : Int} {wedgeTrack : Nat} :
    Answers r (execFocusClose crossings wedgeLayer coilOfsNm wedgeTrack s) := by
  unfold execFocusClose
  exact .checked (.ite (.ite h h.focusClosed.bump.pulse.positionCheck.showSpeed.afterFocus) (.ite (.ite
      h.focusClosed.seedTaps.afterFocus h.bump.report.startAcquire.frame) h))

theorem loseFocus : Keeps r s.loseFocus := h.breakByGate.startAcquire.frame

theorem focusLost : Keeps r s.focusLost := h.bump.pulse.set.frame.loseFocus

theorem execShockHoldClear_answers : Answers r (execShockHoldClear s) := by
  unfold execShockHoldClear
  refine .next ?_
  split
  · exact h
  · extract_lets _ _ s1 s2
    have h1 : Keeps r s1 := h.set.frame.bump
    have h2 : Keeps r s2 := by
      unfold s2
      split
      · exact h.set
      · exact h1.report.appendLog
    exact h2.onFollow

theorem accFail : Keeps r s.accFail := .ite h h.set.report.frame

theorem accGood {bytes : List Byte} : Keeps r (s.accGood bytes) := by
  unfold State.accGood
  extract_lets _ _ _ _ s1 u2 _ _ s3
  have h1 : Keeps r s1 := h.setInt.setInt.setInt
  have h2 : Keeps r u2 := h1.bump
  have h3 : Keeps r s3 := .ite h2.frame.set h2.frame
  exact .ite (.ite (.ite h3.frame.frame.noteShock h3.frame.frame) h3.frame.frame.gateTrip) h3.frame

theorem defectOn : Keeps r s.defectOn := .ite h h.set.set.bump.pulse.frame

theorem coilsRamp {after : Nat} : Keeps r (s.coilsRamp after) := h.frame

theorem coilTick : Keeps r s.coilTick := by
  unfold State.coilTick
  split
  · exact h
  · exact .ite (h.foldl fun _ _ ht => ht.put.put) ((h.foldl fun _ _ ht => ht.put.put).frame)

theorem missSample : Keeps r s.missSample :=
  .ite h.cutWrite.report.frame.startAcquire.coilsRamp h.cutWrite.report.servoOff

theorem biquad {loop k : Nat} {x : Int} : Keeps r (s.biquad loop k x).2 := by
  unfold State.biquad
  extract_lets
  split
  · rename_i t1 e
    refine .frame (.of_snd ?_ e)
    split
    · exact h.draw
    · exact h

theorem loopFilter {loop : Nat} {x : Int} : Keeps r (s.loopFilter loop x).2 := by
  unfold State.loopFilter
  split
  · rename_i t1 e
    have h1 : Keeps r t1 := .of_snd (.foldlSnd h fun _ _ ht => ht.biquad) e
    exact h1

theorem coilDemand {coil : Nat} {d : Int} : Keeps r (s.coilDemand coil d) := .put (.put (.ite h h.add.pulse))

theorem openDemand {loop : Nat} : Keeps r (s.openDemand loop).2 := by
  unfold State.openDemand
  extract_lets
  split
  · exact h
  · split
    · split
      · rename_i t1 e
        have h1 : Keeps r t1 := h.draw.of_snd e
        exact h1
    · exact h

theorem runLoop {loop : Nat} {e : Int} : Keeps r (s.runLoop loop e) := by
  unfold State.runLoop
  split
  · exact h
  · split
    · split
      rename_i t e
      exact (h.loopFilter.of_snd e).coilDemand
    · split
      rename_i t e
      exact (h.openDemand.of_snd e).coilDemand

theorem sledFollow : Keeps r s.sledFollow := by
  unfold State.sledFollow
  split
  · exact h
  · split
    rename_i t e
    have ht : Keeps r t := h.draw.of_snd e
    exact .ite ht (.ite ht ht.sledTo)

theorem sampleTrips {fe te : Int} : Keeps r (s.sampleTrips fe te) := by
  unfold State.sampleTrips
  extract_lets _ _ _ _ _ _ _ s1
  have h1 : Keeps r s1 := .ite h.frame.frame h.frame
  exact .ite h1.gateTrip (.ite h1.noteShock h1)

theorem loopErrors {fe te ef tilt : Int} {wedge : Bool} : Keeps r (s.loopErrors fe te ef tilt wedge).2.2.2 := by
  unfold State.loopErrors
  extract_lets
  split
  · exact .ite h.frame h
  · exact .frame (.ite h.frame h)

theorem spotFe {a b c d : Int} : Keeps r (s.spotFe a b c d).2 := by
  unfold State.spotFe
  extract_lets
  split
  · split
    · rename_i t1 e
      have h1 : Keeps r t1 := h.draw.of_snd e
      exact h1
  · exact h

theorem passWedge {wedge : Option Nat} : Keeps r (s.passWedge wedge) := by
  unfold State.passWedge
  split
  · exact h
  · extract_lets at' _ s1
    have h1 : Keeps r s1 := h.frame
    clear_value at' s1
    split
    · exact .ite h1.set h1
    · exact h1

theorem execServoLoopSample_answers {ac bd : Int × Int} {e f : Int} {wedge : Option Nat} :
    Answers r (execServoLoopSample ac bd e f wedge s) := by
  unfold execServoLoopSample
  exact .next (.ite h.coilsOff (.iteAfter
    (h.rampStep.spotFe.passWedge.loopErrors.setInt.setInt.setInt.runLoop.runLoop.runLoop
      |>.sledFollow.sampleTrips.showSpeed)
    fun hs => hs.tryOpenGate.aimRead))

theorem execCoilRmsTrip_answers {coil : Nat} : Answers r (execCoilRmsTrip coil s) := by
  unfold execCoilRmsTrip
  exact .checked (.ite (.discOut (.frame (.coilsRamp (.ite h.put.bump.pulse.frame.focusLost
      h.put.bump.pulse.frame.breakByGate)))) (.report (.coilsRamp (.ite h.put.bump.pulse.frame.focusLost
      h.put.bump.pulse.frame.breakByGate))))

/-! ### The laser -/

theorem slopeShow : Keeps r s.slopeShow := .ite h ((h.set.foldl fun _ _ ht => .ite ht.frame.report ht).updateHealth)

theorem slopeRef : Keeps r s.slopeRef := .ite h.set h

theorem monitorFault : Keeps r s.monitorFault :=
  .ite h.cutWrite.laserOff.set.report.startAcquire.frame h.cutWrite.laserOff.set.set.frame.discOut

/-! ### Reading -/

theorem rangesWrite {l : List (Nat × Nat)} {bs : List Byte} : Keeps r (s.rangesWrite l bs) := by
  induction l generalizing s bs with
  | nil => exact h
  | cons x xs ih => exact ih h.hostWrite

theorem finishExport {c : QCmd} {j : ReadJob} {e : DirEntry} : Keeps r (s.finishExport c j e) := by
  unfold State.finishExport
  extract_lets
  split
  · exact h.rangesWrite.finishWith
  · split
    · exact h.rangesWrite.unverifiable.finishWith
    · exact h.rangesWrite.finishWith

theorem finishDiscRead {c : QCmd} {j : ReadJob} : Keeps r (s.finishDiscRead c j) := by
  unfold State.finishDiscRead
  extract_lets
  split
  · exact h.rangesWrite.finishWith
  · split
    · exact h.rangesWrite.unverifiable.finishWith
    · exact h.rangesWrite.finishWith

theorem pollRead : Keeps r s.pollRead := by
  unfold State.pollRead
  split
  · exact h
  · split
    · split
      · exact h
      · extract_lets s1
        have h1 : Keeps r s1 := by
          unfold s1
          split
          · exact h.finishExport
          · exact h.finishDiscRead
        exact h1.frame
    · exact h.aimRead

theorem reallocate {p : ReadPart} : Keeps r (s.reallocate p).2 := by
  unfold State.reallocate
  extract_lets _ _ _ _ s1
  have h1 : Keeps r s1 := h.openSession
  split
  · exact h.bump
  · split
    · exact h.bump
    · dsimp only
      exact h1.frame.tryOpenGate

theorem partDecoded {j : ReadJob} {i : Nat} {p : ReadPart} {step erased need : Nat} :
    Keeps r (s.partDecoded j i p step erased need) := by
  unfold State.partDecoded
  extract_lets s1
  have h1 : Keeps r s1 := .ite h h.add.bump.pulse
  exact .ite h1.setJob (.ite h1.setJob.bump.report (.ite h1.setJob.reallocate.setJob h1.setJob.reallocate))

theorem partLost {j : ReadJob} {i : Nat} {p : ReadPart} : Keeps r (s.partLost j i p) := h.bump.pulse.report.setJob

theorem stepFive {bad t : Nat} : Keeps r (s.stepFive bad t).2 := by
  unfold State.stepFive
  split
  · exact h
  · split
    · split
      · rename_i t1 e
        have h1 : Keeps r t1 := h.draw.of_snd e
        exact h1
    · exact h

theorem climb {j : ReadJob} {i t n : Nat} {p : ReadPart} {rows : RowSet} : Keeps r (s.climb j i p rows t n) := by
  induction n generalizing s j with
  | zero => exact h
  | succ n ih =>
    exact .ite h.partLost (.ite (.ite h.stepFive.partDecoded (ih h.stepFive)) (.ite (ih h) h.setJob))

theorem readCounted {j : ReadJob} {i : Nat} {p : ReadPart} {old : Option RowSet} {x : ReadOutcome} :
    Keeps r (s.readCounted j i p old x) := by
  unfold State.readCounted
  split
  · rename_i t1 _ e
    have h1 : Keeps r t1 := h.readFrames.of_fst e
    extract_lets _ _ _ _ _ s2 s3
    have h2 : Keeps r s2 := h1.frame.bump.pulse.add
    have h3 : Keeps r s3 := .ite h2 h2.pulse
    split
    · split
      · exact .partDecoded (.ite h1.frame.bump.pulse.add h1.frame.bump.pulse.add.pulse)
      · exact .setJob (.ite h1.frame.bump.pulse.add h1.frame.bump.pulse.add.pulse)
    · exact .ite h1.frame.pulse.partDecoded h1.frame.pulse.climb

theorem readCut {j : ReadJob} {i : Nat} {p : ReadPart} : Keeps r (s.readCut j i p) := .ite h.bump.partLost h.bump.setJob

theorem readParity {j : ReadJob} {i : Nat} {p : ReadPart} {old : Option RowSet} {used : Nat} :
    Keeps r (s.readParity j i p old used) := by
  unfold State.readParity
  extract_lets
  split
  · exact h.setJob
  · exact .ite h.climb h.setJob

theorem execReadAttemptDone_answers {x : ReadOutcome} : Answers r (execReadAttemptDone x s) := by
  unfold execReadAttemptDone
  refine .next ?_
  split
  · exact h
  · split
    · exact h.pollRead
    · split
      rename_i u j e
      have hu : Keeps r u := .of_fst (.iteFst h h.startRead) e
      refine .ite hu.setJob ?_
      extract_lets _ _ u1
      have h1 : Keeps r u1 := .ite hu.bump hu
      clear_value u1
      split
      extract_lets _ u2 u3
      have h2 : Keeps r u2 := .ite h1.readCut (.ite h1.readParity h1.readCounted)
      have h3 : Keeps r u3 := .ite h2.aimAt h2
      exact h3.pollRead

theorem scratchParity {toWrite : Bool} : Keeps r (s.scratchParity toWrite) := by
  unfold State.scratchParity
  extract_lets s1
  have h1 : Keeps r s1 := h.bump.parityMet
  split
  · exact h1.setBlock
  · split
    · exact h1
    · exact h1.setJob

theorem beginRead {c : QCmd} {j : ReadJob} : Keeps r (s.beginRead c j) := h.arrive.setCmd.frame.pollRead

theorem execExportBlock_answers {qp tag : Nat} : Answers r (execExportBlock qp tag s) := by
  unfold execExportBlock
  refine h.runCmd (fun c t ht => ?_)
  split
  · exact ht.pollRead
  · split
    · exact ht.finishWith
    · split
      · exact .ite ht.finishWith ht
      · split
        · exact ht.finishWith
        · extract_lets
          split
          · exact ht.finishWith
          · exact ht.finishWith
          · exact .ite ht.finishWith ht.beginRead

theorem execDiscRead_answers {qp tag : Nat} : Answers r (execDiscRead qp tag s) := by
  unfold execDiscRead
  refine h.runCmd (fun c t ht => ?_)
  split
  · exact ht.pollRead
  · extract_lets
    split
    · exact ht.finishWith
    · split
      · exact ht.finishWith
      · split
        · exact .ite ht.finishWith ht
        · split
          · exact ht.finishWith
          · exact .ite ht.finishWith (.ite ht.finishWith ht.beginRead)

theorem execDiscDir_answers {qp tag : Nat} : Answers r (execDiscDir qp tag s) := by
  unfold execDiscDir
  refine h.runCmd (fun c t ht => ?_)
  split
  · exact ht.finishWith
  · exact .ite ht (.ite ht.finishWith ht.rangesWrite.finishWith)

theorem execCartridgeEject_answers {qp tag : Nat} : Answers r (execCartridgeEject qp tag s) := by
  unfold execCartridgeEject
  exact h.runCmd (fun _ _ ht => .ite ht (.ite ht.finishWith (.ite ht.finishWith (.ite (.ite ht.finishWith ht) (.ite
      ht.arrive.setCmd.frame.loaderStart (.pollEject (.ite ht.arrive.setCmd.frame.startClose.resume
      ht.arrive.setCmd.frame)))))))

theorem execCartridgeLoad_answers {qp tag : Nat} : Answers r (execCartridgeLoad qp tag s) := by
  unfold execCartridgeLoad
  exact h.runCmd (fun _ _ ht => .ite ht (.ite (.ite ht.finishWith ht) (.ite (.ite ht.finishWith (.ite ht.finishWith
      ht.arrive.setCmd)) (.ite ht.arrive.setCmd.loaderStart (.ite ht.finishWith ht)))))

/-! ### Calibration -/

theorem makeDue {mask : Nat} : Keeps r (s.makeDue mask) := .ite h (.ite h.set.bump.frame h.set)

theorem notDue {layer : Nat} {opc : Bool} : Keeps r (s.notDue layer opc) :=
  .ite (.frame (.ite (.set (.ite h.set h)) (.ite h.set h))) (.ite (.set (.ite h.set h)) (.ite h.set h))

theorem afterCal : Keeps r s.afterCal := h.onFollow.pollRead

theorem fit {n : RegName} {l : Nat} {x : Option Int} : Keeps r (s.fit n l x) := by
  unfold State.fit
  split
  · exact h.bump
  · exact h.put

theorem rescale {loop g : Nat} : Keeps r (s.rescale loop g) :=
  .ite (.put (.ite h.put h)) (.report (.put (.ite h.put h)))

theorem setSeeds {l : Nat} {seeds : Option (List Int)} : Keeps r (s.setSeeds l seeds) := by
  unfold State.setSeeds
  split
  · split
    · exact h.bump
    · exact h.put.foldl fun _ _ ht => ht.put
  · exact h.put

theorem execReadCalDone_answers {focusSweep tiltSweep : Option (List Nat)} {balance : Option Balance}
    {trackOfs : Option Int} {seeds : Option (List Int)} {gains : List Nat} :
    Answers r (execReadCalDone focusSweep tiltSweep balance trackOfs seeds gains s) := by
  unfold execReadCalDone
  refine .checked ?_
  split
  · extract_lets _ _ s1 _ s2 s3 _ s4 s5
    have h1 : Keeps r s1 := h.frame.fit.fit
    have h2 : Keeps r s2 := h1.fit.fit.setSeeds
    have h3 : Keeps r s3 := h2.foldl fun _ _ ht => ht.rescale
    have h4 : Keeps r s4 := h3.put.put.put.bump.pulse.report.notDue
    have h5 : Keeps r s5 := h4.slopeRef.slopeShow.useLayer
    exact h5.rampTo.updateHealth.afterCal
  · exact h

theorem opcEnd {l : Nat} : Keeps r (s.opcEnd l) := h.frame.notDue

theorem opcGood {l : Nat} {p : Nat × Nat × Nat × Nat} : Keeps r (s.opcGood l p) :=
  h.put.put.put.put.put.put.put.put.bump.pulse.report.opcEnd

theorem opcDrive {l pc k : Nat} : Keeps r (s.opcDrive l pc k) := by
  unfold State.opcDrive
  extract_lets
  split
  rename_i t1 e
  have h1 : Keeps r t1 := h.levelCurrent.of_snd e
  split
  rename_i t2 e
  have h2 : Keeps r t2 := h1.levelCurrent.of_snd e
  split
  rename_i t3 e
  have h3 : Keeps r t3 := h2.levelCurrent.of_snd e
  split
  rename_i t4 e
  exact (h3.levelCurrent.of_snd e).frame

theorem opcTest {l a : Nat} {scores : List Nat} {followed : Bool} : Keeps r (s.opcTest l a scores followed) := by
  unfold State.opcTest
  extract_lets _ u1 _ _ s2
  have h1 : Keeps r u1 := h.set
  have h2 : Keeps r s2 := h1.frame.foldl fun _ _ ht => ht.opcDrive
  split
  · exact h2.burn.put.opcGood.afterCal
  · exact h2.burn.put.frame
  · exact h2.burn.put.bump.report.opcEnd.afterCal

theorem execOpcRun_answers {frames : List (Option Nat)} {followed : Bool} :
    Answers r (execOpcRun frames followed s) := by
  unfold execOpcRun
  refine .next ?_
  split
  · exact h
  · exact .ite h.put.report.opcEnd.afterCal h.opcTest

theorem sensorFail {sensor : Nat} : Keeps r (s.sensorFail sensor) := .ite h h.frame.report

theorem execTempCheck_answers {tempDc : Int} : Answers r (execTempCheck tempDc s) := by
  unfold execTempCheck
  exact .next (.ite (.makeDue (.frame (.ite (.makeDue (.ite h.setInt.sensorFail h.setInt)) (.ite h.setInt.sensorFail
      h.setInt)))) (.ite (.makeDue (.ite h.setInt.sensorFail h.setInt)) (.ite h.setInt.sensorFail h.setInt)))

theorem stopCal : Keeps r s.stopCal := h.frame

/-! ### Repair -/

theorem takeSpare {ramNo kind index source : Nat} {t : State} (e : s.takeSpare ramNo kind index source = some t) :
    Keeps r t := by
  simp only [State.takeSpare, Option.ite_none_right_eq_some, Option.some.injEq] at e
  obtain ⟨-, rfl⟩ := e
  exact h.mapEntry

theorem coverColumns {m source : Nat} {cells : FailCells} {l : List Nat} :
    Keeps r (s.coverColumns m source cells l).2 := by
  induction l generalizing s cells with
  | nil => exact h
  | cons c cs ih =>
    unfold State.coverColumns
    split
    · exact ih h
    · rename_i t e
      exact ih (h.takeSpare e)

theorem coverRows {m source : Nat} {cells : FailCells} {l : List Nat} : Keeps r (s.coverRows m source cells l).2 := by
  induction l generalizing s with
  | nil => exact h
  | cons c cs ih =>
    unfold State.coverRows
    split
    · rename_i t _ e
      exact ih (h.takeSpare e)
    · split
      · rename_i t e
        exact ih (h.takeSpare e)
      · exact h
    · exact h

theorem repair {m : Nat} {cells : FailCells} {source : Nat} : Keeps r (s.repair m cells source).2 :=
  h.coverColumns.coverRows

theorem degrade {row : Nat} : Keeps r (s.degrade row) := .ite h h.set.set.report.updateHealth

theorem dropUnit {row unit : Nat} : Keeps r (s.dropUnit row unit) := by
  unfold State.dropUnit
  split
  · exact .ite h (.ite h.frame.frame.set.frame.degrade h.frame.frame.set)
  · exact .ite h (.ite h.frame.degrade h.frame)
  · exact .ite h h.frame.set
  · exact .ite h (.ite h.frame.set.discOut h.frame.set)
  · exact h.retireLane
  · exact h.frame.degrade
  · exact h.frame.discOut.degrade
  · exact h.frame.degrade
  · exact h.frame.losePool.degrade
  · exact .ite h.frame.discOut h.frame

theorem checkerFailed {row unit : Nat} : Keeps r (s.checkerFailed row unit) := h.set.report.dropUnit

/-! ### Boot and resets -/

theorem putKey {k v : Nat} : Keeps r (s.putKey k v) := by
  unfold State.putKey
  split
  · exact h.put
  · exact h

theorem loadSettings {m : Map Nat} : Keeps r (s.loadSettings m) := h.filterRegs.foldl fun _ _ ht => ht.putKey

theorem saveSettings : Keeps r s.saveSettings := h.frame

theorem driveAlone : Keeps r s.driveAlone := h.laserOff.coilsOff.spFloat.sledHold

theorem pfailOutcome {outcome : Nat} : Keeps r (s.pfailOutcome outcome) := h.set.report

theorem burnBroken : Keeps r s.burnBroken := by
  unfold State.burnBroken
  split
  · exact h
  · split
    · exact h
    · exact h.burn

theorem poisonFlight {inFlight : List Nat} : Keeps r (s.poisonFlight inFlight) :=
  .ite (h.foldl fun _ _ ht => ht.poisonGranule) h

theorem tornRecords {inFlight : List Nat} : Keeps r (s.tornRecords inFlight) :=
  h.foldl fun _ _ ht => .ite ht.portDrop ht

theorem banksOff : Keeps r s.banksOff := h.set.frame

theorem slotsLost : Keeps r s.slotsLost := by
  unfold State.slotsLost
  exact h.frame fun ⟨hm, _⟩ => ⟨hm, rfl, wf_freshSlots⟩

theorem forget : Keeps r s.forget := h.resetRegs.frame

/-- What a logic die that has been reset starts from: stated of any state, so that the kernel need not unfold the reset
to see that the pool is untouched. -/
theorem toBoot : Keeps r { s with
    pw.mode := .boot, pw.swapAt := s.clock, pw.entry := none, pw.waking := none, pw.hibTried := false, pw.hold := false,
    pw.d2dDown := false, pw.d2dFailed := false,
    bo.readyAt := none, lm.engine := List.replicate 10 .ok, lm.segHeld := List.replicate 10 none } := h.frame

theorem logicReset {inFlight : List Nat} : Keeps r (s.logicReset inFlight) := by
  unfold State.logicReset
  extract_lets s1 s2 s3
  have h1 : Keeps r s1 := h.poisonFlight.tornRecords.burnBroken.driveAlone.hostReset.slotsLost
  have h2 : Keeps r s2 := h1.forget.foldl fun _ _ ht => ht.dropLease
  have h3 : Keeps r s3 := h2.banksOff.calAllDue
  exact h3.toBoot

theorem pfailCut : Keeps r s.pfailCut := by
  unfold State.pfailCut
  split
  · exact h
  · exact .ite h h.pfailOutcome.frame

theorem masterReset {inFlight : List Nat} : Keeps r (s.masterReset inFlight) := by
  unfold State.masterReset
  split
  · exact h
  · exact h
  · exact h
  · exact h.pfailCut.logicReset.frame

/-- Without its supply the part keeps the queue of the model, the registers of NOR and MRAM, and the host its memory;
the pool is empty. -/
theorem powerLost {mode : PowerMode} {up : Bool} : Keeps r (s.powerLost mode up) :=
  h.filterRegs.frame (fun ⟨hm, _⟩ => ⟨hm, rfl, wf_freshSlots⟩) fun _ => rfl

theorem refFails : Keeps r s.refFails := .ite h.frame.set.frame.report h.frame.set

theorem execMainPgoodFall_answers : Answers r (execMainPgoodFall s) := by
  unfold execMainPgoodFall
  exact .next (.ite h (.ite h.frame (.frame (.ite (.ite h.pfailOutcome h) (.frame (.logicReset (.ite h.pfailOutcome
      h)))))))

theorem saveControl : Keeps r s.saveControl := .ite h.frame h.frame

theorem setAttempts {k n : Nat} : Keeps r (s.setAttempts k n) := h.frame.set.saveControl

theorem setNext {k : Nat} : Keeps r (s.setNext k) := h.set.set.saveControl

theorem takeControl {c : ControlCopy} : Keeps r (s.takeControl c) := h.frame.set.set.set.set.set.set.set.set.set.set

theorem loadControl {ok : Bool × Bool} : Keeps r (s.loadControl ok) :=
  .ite h (.ite h.takeControl (.ite h.takeControl h.takeControl))

theorem chooseSlot {ok : Bool × Bool} : Keeps r (s.chooseSlot ok).2 := by
  unfold State.chooseSlot
  extract_lets _ _ _ _ _ _ s1 _ s2
  have h1 : Keeps r s1 := .ite h.set.setAttempts h.set
  have h2 : Keeps r s2 := .ite h1.set h1.set.setNext.bump.reportBoot
  exact .iteSnd h1 (.iteSnd h2 h1)

theorem bootSettings {ver : Nat} {ok migrationOk : Bool} : Keeps r (s.bootSettings ver ok migrationOk) := by
  unfold State.bootSettings
  extract_lets _ defaults _ s1 cur s2
  have h1 : Keeps r s1 := .ite h.set.frame.set h.set
  have hd : Keeps r (defaults s1) := h1.loadSettings.set.report
  have h2 : Keeps r s2 := by
    unfold s2
    clear s2
    clear_value cur
    split
    · exact hd
    · refine .ite h1.loadSettings.set (.ite (.ite h1.loadSettings.set.frame hd) ?_)
      split
      · exact .ite h1.loadSettings.set hd
      · exact hd
  exact .ite h2.set h2

theorem mendGranule {b g o : Nat} : Keeps r (s.mendGranule b g o) := by
  unfold State.mendGranule
  extract_lets
  split
  · exact h.cleanGranule
  · split
    · exact h
    · split
      · exact h.put.frame
      · exact h.frame (hl := Mem.wf_zero _ _ _)

theorem rebuild {b : Nat} : Keeps r (s.rebuild b) := by
  unfold State.rebuild
  split
  · exact h
  · extract_lets _ _ _ s1 _ _ s2
    have h1 : Keeps r s1 := .ite h.bump.bump.pulse h.bump
    have h2 : Keeps r s2 := by
      unfold s2
      split
      · exact h1.frame
      · exact h1.frame.put.put
    exact (h2.foldl fun _ _ ht => ht.mendGranule).bobFlags

theorem bootPool {poolMib bad : Nat} : Keeps r (s.bootPool poolMib bad) := by
  unfold State.bootPool
  extract_lets _ _ _ _ _ s1 s2 s3 s4
  have h1 : Keeps r s1 := h.frame.set.set
  have h2 : Keeps r s2 := h1.set.foldl fun _ _ ht => ht.rebuild
  have h3 : Keeps r s3 := .ite (h1.foldl fun _ _ ht => ht.put) h1
  have h4 : Keeps r s4 := h3.set.formBobbins.emptyBobbins.set
  split
  · exact h2.deriveReed.deriveHeddle.reopen.unbuffer
  · exact .ite h4.losePool h4.deriveReed.deriveHeddle.grantAll.unbuffer

theorem bootPorts : Keeps r s.bootPorts := ((h.foldl fun _ _ ht => ht.put).foldl fun _ _ ht => ht.put).set

theorem brokenUnit {row : Nat} : Keeps r (s.brokenUnit row).2 := by
  unfold State.brokenUnit
  split
  · rename_i t1 e
    have h1 : Keeps r t1 := h.draw.of_snd e
    exact h1

theorem bootChecker {row unit : Nat} : Keeps r (s.bootChecker row unit) :=
  .ite h.checkerFailed h.frame.report.updateHealth

theorem bootTests {inp : BootInputs} : Keeps r (s.bootTests inp) := by
  unfold State.bootTests
  extract_lets s1 _ _ _ s2 s3
  have h1 : Keeps r s1 := .ite h h.resetRegs.report
  have h2 : Keeps r s2 := h1.frame.foldl fun _ _ ht => ht.bootChecker
  have h3 : Keeps r s3 := by
    refine h2.foldl fun t c ht => ?_
    split
    rename_i u e
    exact (ht.brokenUnit.of_snd e).bootChecker
  exact h3.foldl fun _ _ ht => .ite ht.repair ht.repair.dropUnit

theorem enterRecovery : Keeps r s.enterRecovery := h.set.set.bump.set.set.set.set.reportBoot.acceptWaiting

theorem reachRun {inp : BootInputs} {slot : Nat} : Keeps r (s.reachRun inp slot) := by
  unfold State.reachRun
  extract_lets s1 _ _ _ _ _ _ s2 s3 _ s4 s5
  have h1 : Keeps r s1 := h.set.set.set.set
  have h2 : Keeps r s2 := .ite h1.frame.set.set h1.frame.set.set
  have h3 : Keeps r s3 := h2.sledPowerUp.restartIdle
  have h4 : Keeps r s4 := .ite h3.set.set h3.set
  have h5 : Keeps r s5 := .ite h4.draw.noticeDrained h4
  exact h5.laneHealth.acceptWaiting.serveP8

theorem takeGains : Keeps r s.takeGains := h.frame

theorem bootRun {inp : BootInputs} {slot : Nat} : Keeps r (s.bootRun inp slot) := by
  unfold State.bootRun
  extract_lets _ _ s1 s2 s3 s4 _ _ u5 _ s6
  have h1 : Keeps r s1 := h.set.set.set.set
  have h2 : Keeps r s2 := h1.bootSettings
  have h3 : Keeps r s3 := h2.foldl fun _ _ ht => ht.put
  have h4 : Keeps r s4 := h3.applyTable.takeGains
  have h5 : Keeps r u5 := h4.bootPool.set
  have h6 : Keeps r s6 := .ite h5.frame.report h4.bootPool
  exact h6.bootPorts.calAllDue.reachRun

theorem execBoot_answers {inp : BootInputs} : Answers r (execBoot inp s) := by
  unfold execBoot
  refine .next ?_
  split
  · exact h
  · extract_lets s1
    have h1 : Keeps r s1 := h.bump.bootTests
    split
    · exact h1.set.enterRecovery
    · split
      · rename_i t2 e
        have h2 : Keeps r t2 := h1.set.loadControl.chooseSlot.of_snd e
        exact h2.enterRecovery
      · rename_i t3 e
        have h3 : Keeps r t3 := h1.set.loadControl.chooseSlot.of_snd e
        exact h3.bootRun

/-! ### Caches, merging buffer and core accesses -/

theorem l2Hit {k : Nat} : Keeps r (s.l2Hit k) := by
  unfold State.l2Hit
  extract_lets
  split
  · exact h.frame
  · split
    · rename_i t1 e
      have h1 : Keeps r t1 := h.frame.takeSpare e
      exact h1
    · exact .ite h.frame.dropUnit h.frame.l2Drop.frame

theorem l2Recover {k : Nat} {c : CacheLine} {same : Bool} : Keeps r (s.l2Recover k c same) := h.parityMet.l2Put.l2Hit

theorem execL2DataParity_answers {line : Nat} {sameBytes : Bool} : Answers r (execL2DataParity line sameBytes s) := by
  unfold execL2DataParity
  refine .next ?_
  split
  · exact h
  · split
    · exact h
    · exact h.l2Recover

theorem l2Check {line : Nat} : Keeps r (s.l2Check line) := by
  unfold State.l2Check
  split
  · exact h
  · split
    · exact h
    · exact .ite h h.l2Recover

theorem coreRead {addr n : Nat} : Keeps r (s.coreRead addr n) := by
  unfold State.coreRead
  extract_lets _ _ _ t1 s2
  have h1 : Keeps r t1 := h.l2Check.pulse
  have h2 : Keeps r s2 := by
    unfold s2
    split
    · exact h.l2Check.pulse
    · exact .ite h1.l2Fill h1
  exact h2.readReturns

theorem coreWrite {core addr : Nat} {bs : List Byte} : Keeps r (s.coreWrite core addr bs) := by
  unfold State.coreWrite
  extract_lets
  split
  · exact h.frame
  · split
    · rename_i t1 e
      have h1 : Keeps r t1 := h.mergeTake e
      exact h1
    · exact h.frame

theorem deviceWait {agent addr n id : Nat} : Keeps r (s.deviceWait agent addr n id) := h.frame.frame.pulse

theorem deviceWrite {agent addr : Nat} {bs : List Byte} : Keeps r (s.deviceWrite agent addr bs) := by
  unfold State.deviceWrite
  split
  · exact h.frame
  · exact h.frame (hl := Mem.wf_writeN _ _ _)

theorem deviceRead {agent addr n : Nat} : Keeps r (s.deviceRead agent addr n) := by
  unfold State.deviceRead
  split
  · exact h.deviceWait
  · exact .ite h.readReturns (.ite h.readReturns h.readReturns)

theorem access {agent addr : Nat} {write : Bool} {data : List Byte} : Keeps r (s.access agent addr write data) := by
  unfold State.access
  split
  · exact h.coreWrite
  · exact .ite h.readReturns h.coreRead
  · exact h.deviceWrite
  · exact h.deviceRead

theorem crossbar {agent addr : Nat} {write : Bool} {data : List Byte} : Keeps r (s.crossbar agent addr write data) :=
    by
  unfold State.crossbar
  extract_lets _ _ s1
  have h1 : Keeps r s1 := .ite h.wrapAhead h
  split
  · exact .ite h h.readReturns
  · split
    · exact .revokeAgent (.pulse (.bump (.ite h1 h1.readReturns)))
    · exact .ite (.revokeAgent (.mismatch (.ite h1 h1.readReturns))) h1.access

theorem execDeviceReadMatch_answers {agent addr : Nat} : Answers r (execDeviceReadMatch agent addr s) := by
  unfold execDeviceReadMatch
  refine .checked ?_
  split
  · exact h
  · exact h.crossbar

theorem rangeFill {line : Nat} {locked : Bool} : Keeps r (s.rangeFill line locked) := by
  unfold State.rangeFill
  split
  · exact .ite h.l2Refill h.l2Fill
  · split
    · exact h
    · exact h.frame

theorem rangeSkip : Keeps r s.rangeSkip := by
  unfold State.rangeSkip
  split
  · exact h
  · exact h.frame

theorem l2Lock {line : Nat} {on : Bool} : Keeps r (s.l2Lock line on) := by
  unfold State.l2Lock
  split
  · exact h
  · split
    · exact h
    · exact h.l2Put

theorem rangeLine {kind : RangeKind} {line : Nat} : Keeps r (s.rangeLine kind line) := by
  unfold State.rangeLine
  extract_lets
  split
  · exact .ite h h.rangeFill
  · exact .ite h.rangeFill h.l2Invalidate
  · exact .ite h (.ite h.rangeSkip h.l2Lock)
  · exact h.l2Lock

theorem rangeStart {kind : RangeKind} {line count : Nat} : Keeps r (s.rangeStart kind line count) :=
  .ite h (h.frame.foldl fun _ _ ht => ht.rangeLine)

theorem execRangeOpDone_answers : Answers r (execRangeOpDone s) := by
  unfold execRangeOpDone
  refine .next ?_
  split
  · exact h
  · exact .ite h.frame h

theorem execL2TagParity_answers {line : Nat} : Answers r (execL2TagParity line s) := by
  unfold execL2TagParity
  refine .next ?_
  split
  · exact h
  · exact .ite h.parityMet.l2Drop.l2Hit.l2Fill h.parityMet.l2Drop.l2Hit

theorem execMergeParity_answers {entry : Nat} : Answers r (execMergeParity entry s) := by
  unfold execMergeParity
  refine .next ?_
  split
  · exact h
  · exact h.parityMet.frame

/-! ### Integrity -/

theorem rebuildBitmap {b : Nat} {ledgerPoisoned : Bool} : Keeps r (s.rebuildBitmap b ledgerPoisoned) :=
  .ite (h.foldl fun _ _ ht => ht.poisonGranule) h.frame

theorem parityRecover {u : ParityUnit} {same : Bool} : Keeps r (s.parityRecover u same) := by
  unfold State.parityRecover
  split
  · exact .ite h (.ite h.parityMet.halt h.parityMet)
  · exact h.parityMet.rebuildBitmap
  · exact h.scratchParity
  · exact h.parityMet
  · exact h.parityMet.report.masterReset
  · exact ((h.parityMet.missSample.foldl fun _ _ ht => ht.put).set).frame
  · exact h.parityMet
  · exact h.parityMet
  · exact .ite h.parityMet (.ite h.parityMet.poisonGranule h.parityMet.readReturns.report)

theorem entropyGone : Keeps r s.entropyGone := by
  unfold State.entropyGone
  refine h.foldl fun t _ ht => ?_
  split
  · exact .ite ht.answer ht
  · exact ht

theorem execEntropyHealthFail_answers {rct : Bool} : Answers r (execEntropyHealthFail rct s) := by
  unfold execEntropyHealthFail
  exact .next (.ite h (.ite (.ite h.bump h.bump) (.ite (.entropyGone (.report (.set (.frame (.ite h.bump h.bump)))))
      (.set (.frame (.ite h.bump h.bump))))))

/-! ### The die-to-die link -/

theorem d2dLoss {inFlight : List Nat} : Keeps r (s.d2dLoss inFlight) := by
  unfold State.d2dLoss
  split
  · exact h
  · extract_lets _ _ t1 t2
    have h1 : Keeps r t1 := h.frame.stopCal.cutWrite.driveAlone.servoOff
    have h2 : Keeps r t2 := .ite (h1.foldl fun _ _ ht => ht.poisonGranule) h1
    exact .ite h2.set.report h2

theorem d2dUp {ustepIndex : Nat} : Keeps r (s.d2dUp ustepIndex) :=
  .ite (.retainPos (.posLost (.report (.ite h.frame.set h.frame)))) (.report (.ite h.frame.set h.frame))

/-! ### Self tests -/

theorem endTest {slot : Nat} {v : Verdict16} : Keeps r (s.endTest slot v) := h.frame.restartIdle.answer

theorem failTest {slot status detail : Nat} : Keeps r (s.failTest slot status detail) := h.restartIdle.answer

theorem runTest {slot id : Nat} {f : MbCopy → State → State} (hf : ∀ c t, Keeps r t → Keeps r (f c t)) :
    Answers r (s.runTest slot id f) :=
  h.runMbx (fun _ _ ht => hf _ _ ht)

theorem windowRun : Keeps r s.windowRun := h.bump.pulse

theorem poolFail {g : Nat} : Keeps r (s.poolFail g) :=
  .ite h.poisonGranule.bump.pulse.frame.frame.report.updateHealth h.poisonGranule.bump.pulse.frame

theorem poolWindow {g : Nat} {fail : Bool} : Keeps r (s.poolWindow g fail) := .ite h.windowRun.poolFail h.windowRun

theorem regionLost {m : Nat} : Keeps r (s.regionLost m) := by
  unfold State.regionLost
  split
  · exact h.parityMet
  · split
    · exact h.scratchParity
    · exact .ite h.parityRecover (.ite h.parityRecover (.ite h.parityRecover (.ite h.parityRecover h.parityMet)))

theorem sramWindow {m : Nat} {cells : FailCells} : Keeps r (s.sramWindow m cells) :=
  .ite h.windowRun (.ite h.windowRun.bump.pulse.repair h.windowRun.bump.pulse.repair.dropUnit.regionLost)

theorem endRegionTest : Keeps r s.endRegionTest := by
  unfold State.endRegionTest
  split
  · exact h
  · extract_lets _ _ t1 s2 s3
    have h1 : Keeps r t1 := h.frame.poolWindow
    have h2 : Keeps r s2 := by
      unfold s2
      split
      · exact .ite h.frame.sramWindow.regionLost h.frame.sramWindow
      · exact .ite h1.poisonGranule h1
    have h3 : Keeps r s3 := h2.foldl fun _ _ ht => ht.access
    exact h3.unstall

theorem beginRegionTest {w : TestWindow} : Keeps r (s.beginRegionTest w) := h.endRegionTest.frame

theorem windowTick : Keeps r s.windowTick := .ite h.endRegionTest h

theorem nextRegion : Keeps r s.nextRegion.2 := h.frame

theorem execPoolWindowTimer_answers {fail saveParity otherPoison : Bool} :
    Answers r (execPoolWindowTimer fail saveParity otherPoison s) := by
  unfold execPoolWindowTimer
  refine .next ?_
  split
  · exact h
  · extract_lets u1
    have h1 : Keeps r u1 := h.endRegionTest
    split
    · exact h1.frame
    · exact h1.frame.frame.beginRegionTest

theorem takeTurn {m : Nat} : Keeps r (s.takeTurn m) := .ite h.frame (.ite h.frame h)

theorem failFields {v : Verdict16} {granule : Option Nat} : Keeps r (s.failFields v granule).2 := by
  unfold State.failFields
  split
  · rename_i t1 e
    have h1 : Keeps r t1 := h.draw.of_snd e
    split
    · rename_i t2 e
      have h2 : Keeps r t2 := h1.draw.of_snd e
      exact h2

theorem endWindow {slot id before : Nat} {failed : Bool} {granule : Option Nat} {duration : Nat} :
    Keeps r (s.endWindow slot id before failed granule duration) := by
  unfold State.endWindow
  extract_lets
  split
  · split
    rename_i t e
    exact (h.failFields.of_snd e).endTest
  · exact h.endTest

theorem execWindowNow_answers {slot : Nat} {cells : FailCells} {duration : Nat} :
    Answers r (execWindowNow slot cells duration s) := by
  unfold execWindowNow
  refine h.runTest (fun c t ht => ?_)
  extract_lets _ _ _ s1
  have h1 : Keeps r s1 := ht.endRegionTest.takeTurn
  split
  · exact ht.failTest
  · split
    · exact ht
    · split
      · exact h1.endTest
      · split
        · split
          · exact h1.endTest
          · exact h1.poolWindow.endWindow
        · exact h1.sramWindow.endWindow

theorem macroPass {m : Nat} {fails : List (Nat × FailCells)} : Keeps r (s.macroPass m fails) :=
  h.foldl fun _ _ ht => ht.sramWindow

theorem poolPass {fails : List (Nat × FailCells)} : Keeps r (s.poolPass fails) :=
  h.foldl fun _ _ ht => .ite ht ht.poolWindow

theorem execWindowPass_answers {slot : Nat} {fails : List (Nat × FailCells)} {duration : Nat} :
    Answers r (execWindowPass slot fails duration s) := by
  unfold execWindowPass
  refine h.runTest (fun c t ht => ?_)
  extract_lets s1
  have h1 : Keeps r s1 := ht.endRegionTest
  split
  · exact h1.failTest
  · exact .ite h1.endTest (.ite h1.poolPass.endWindow h1.macroPass.endWindow)

theorem servoTest {slot id : Nat} {f : MbCopy → State → State} (hf : ∀ c t, Keeps r t → Keeps r (f c t)) :
    Answers r (s.servoTest slot id f) :=
  h.runTest (fun _ _ ht => .ite (hf _ _ ht) (.ite ht (.ite (.ite ht.failTest ht.frame) (hf _ _ ht))))

theorem execServoTestStart_answers : Answers r (execServoTestStart s) := by
  unfold execServoTestStart
  refine .next ?_
  extract_lets w _
  clear_value w
  split
  · exact h
  · split
    · exact h.frame
    · exact h.frame

theorem freeTest {slot id : Nat} {f : MbCopy → State → State} (hf : ∀ c t, Keeps r t → Keeps r (f c t)) :
    Answers r (s.freeTest slot id f) :=
  h.runTest (fun _ _ ht => .ite ht (hf _ _ ht))

theorem analogueFailed {id unit : Nat} : Keeps r (s.analogueFailed id unit) := by
  unfold State.analogueFailed
  extract_lets
  split
  · exact h.bump.retireLane
  · exact h.bump.sensorFail
  · exact h.bump.d2dLoss
  · exact h.bump.discOut

theorem analogueEnd {slot test id n : Nat} {fault : Option (Nat × Int)} {duration : Nat} :
    Keeps r (s.analogueEnd slot test id n fault duration) := by
  unfold State.analogueEnd
  extract_lets
  split
  · exact h.pulse.endTest
  · exact h.pulse.analogueFailed.endTest

theorem analogueRun {slot id : Nat} {x : Timed (List Int)} : Keeps r (s.analogueRun slot id x) := h.analogueEnd

theorem shuttleEnd {slot test n : Nat} {failed : List Nat} {duration : Nat} :
    Keeps r (s.shuttleEnd slot test n failed duration) := by
  unfold State.shuttleEnd
  extract_lets _ bad _ _ t
  have ht : Keeps r t := h.frame.pulse
  clear_value bad t
  split
  · exact ht.endTest
  · split
    rename_i u e
    exact ((ht.bump.foldl fun _ _ hu => hu.retireLane).draw.of_snd e).endTest

theorem execAllAnalogue_answers {slot : Nat} {failed : List Nat} {readings : Timed (List (List Int))} :
    Answers r (execAllAnalogue slot failed readings s) := by
  unfold execAllAnalogue
  refine h.servoTest (fun x t ht => ?_)
  split
  · exact ht.analogueEnd
  · split
    · exact ht.shuttleEnd
    · split
      · exact ht.analogueEnd
      · exact ht.analogueEnd

theorem inject {slot id : Nat} {bad : MbCopy → State → Option Nat} {f : MbCopy → State → State}
    (hf : ∀ c t, Keeps r t → Keeps r (f c t)) :
    Answers r (s.inject slot id bad f) := by
  unfold State.inject
  refine h.freeTest (fun c t ht => ?_)
  split
  · exact ht.failTest
  · split
    · exact ht.failTest
    · exact ((hf _ _ ht.bump.pulse.reportFull).draw).endTest

theorem flipL2 {m o : Nat} {parity : Bool} {k : Nat} : Keeps r (s.flipL2 m o parity k) := by
  unfold State.flipL2
  extract_lets
  split
  · exact h
  · exact h.l2Put

/-! ### Tallies -/

theorem tallyRecord {ch flags start stop odoStart odoStop : Nat} {coarse : Bool} :
    Keeps r (s.tallyRecord ch flags start stop odoStart odoStop coarse) :=
  h.set.add.appendLog

theorem tallyOpen {ch t : Nat} {coarse : Bool} : Keeps r (s.tallyOpen ch t coarse) := h.frame.put

theorem tallyShut {ch : Nat} : Keeps r (s.tallyShut ch) := h.frame.put

theorem tallyEnd {ch : Nat} {o : TallyOpen} {flags t : Nat} {coarse : Bool} :
    Keeps r (s.tallyEnd ch o flags t coarse) :=
  h.tallyRecord

theorem tallyTick {ch t : Nat} {start stop coarse : Bool} : Keeps r (s.tallyTick ch t start stop coarse) := by
  unfold State.tallyTick
  split
  · exact h.tallyOpen
  · exact h.tallyRecord.add
  · exact h.tallyRecord
  · exact h
  · exact h.tallyEnd.tallyShut
  · exact h.tallyEnd.tallyOpen
  · exact h.tallyEnd.tallyOpen
  · exact h

theorem tallyEvents {codes : List Nat} {t : Nat} {coarse : Bool} : Keeps r (s.tallyEvents codes t coarse) :=
  h.foldl fun _ _ ht => ht.tallyTick

theorem pinLevel {e : Nat × Bool} : Keeps r (s.pinLevel e) := h.frame

theorem execTallyEdgeDebounced_answers {edges : List (Nat × Bool)} {firstAt : Nat} :
    Answers r (execTallyEdgeDebounced edges firstAt s) := by
  unfold execTallyEdgeDebounced
  exact .checked (.ite h (.ite (h.foldl fun _ _ ht => ht.pinLevel) (((h.foldl fun _ _ ht =>
      ht.pinLevel).activity).tallyEvents)))

theorem execTallyMaxOpen_answers {channel : Nat} : Answers r (execTallyMaxOpen channel s) := by
  unfold execTallyMaxOpen
  refine .checked ?_
  split
  · exact h
  · exact .ite h h.activity.tallyEnd.tallyShut

theorem tallyRewired {ch : Nat} : Keeps r (s.tallyRewired ch) := by
  unfold State.tallyRewired
  split
  · exact h
  · exact h.tallyEnd.tallyShut

/-! ### Time -/

theorem timeRecord {kind : Nat} {offset : Int} {before after : Nat} : Keeps r (s.timeRecord kind offset before after) :=
  h.appendLog

theorem timeStep {offset : Int} : Keeps r (s.timeStep offset) := h.frame.bump.pulse.report.timeRecord

theorem discipline {offset : Int} : Keeps r (s.discipline offset) := .ite h.timeStep h.frame

theorem timeLock {offset : Int} : Keeps r (s.timeLock offset) :=
  .ite h.set.set.report.timeRecord.frame.timeStep h.set.set.report.timeRecord.frame.discipline

theorem timeFree : Keeps r s.timeFree := .ite h.set h.set.timeRecord

theorem labelEdge {e l : Nat} : Keeps r (s.labelEdge e l) := by
  unfold State.labelEdge
  extract_lets _ _ _ _ _ t1 _ _ _ _ _ t2
  have h1 : Keeps r t1 := h.frame.bump.frame
  have h2 : Keeps r t2 := h.frame.set.frame
  exact .ite (.ite h1.frame.timeFree h1) (.ite h2.discipline (.ite h2.timeLock h2))

theorem execNmeaSentence_answers {n : Nmea} : Answers r (execNmeaSentence n s) := by
  unfold execNmeaSentence
  refine .next ?_
  split
  · exact h
  · split
    · exact h.bump
    · exact .ite h.bump (.ite h h.labelEdge)

theorem execPpsTimeout_answers : Answers r (execPpsTimeout s) := by
  unfold execPpsTimeout
  refine .next ?_
  split
  · exact h
  · exact .ite h (.ite h.frame.set.frame.report.timeRecord h.frame)

/-! ### The ports -/

theorem goStale {p : Nat} : Keeps r (s.goStale p) := by
  unfold State.goStale
  split
  · exact h
  · extract_lets s1 u2 _ s3 _ _ t4
    have h1 : Keeps r s1 := .ite h.put.add (.ite h.put.add h.bump)
    have h2 : Keeps r u2 := .ite h1 h1.set
    have h3 : Keeps r s3 := .ite h2.frame h1
    have h4 : Keeps r t4 := .frame (.ite h3.put h3)
    exact h4.report

theorem heard {p : Nat} : Keeps r (s.heard p) := by
  unfold State.heard
  extract_lets _ _ _ s1
  have h1 : Keeps r s1 := .ite h.frame.put h.frame
  exact .ite h.frame (.ite h1.put (.ite h1.put (.ite h1.frame h1.frame.set)))

/-- The function is unfolded as a whole, before it meets its arguments: asked whether `s.portRecord …` and its body are
the same, the kernel would evaluate the append inside it. -/
theorem portRecord {p sub flags : Nat} {payload : List Byte} {time : Nat} {coarse : Bool} :
    Keeps r (s.portRecord p sub flags payload time coarse).2 := by
  rcases e : s.portRecord p sub flags payload time coarse with ⟨ok, t⟩
  generalize hf : @State.portRecord = f at e
  delta State.portRecord at hf
  subst hf
  beta_reduce at e
  extract_lets u gap at e
  split at e
  rename_i t1 e1
  have h1 : Keeps r t1 := h.activity.tryAppend.of_snd e1
  split at e
  · cases e
    exact h1.frame.add
  · cases e
    exact h1

theorem krsSeq {p sub seq : Nat} : Keeps r (s.krsSeq p sub seq) := .ite h.frame.add.pulse h.frame

/-- Unfolded as a whole for the reason given at `portRecord`. -/
theorem takeCam {p : Nat} {payload : List Byte} {krs : Option (Nat × Nat)} {time : Nat} {coarse : Bool} :
    Keeps r (s.takeCam p payload krs time coarse) := by
  generalize e : s.takeCam p payload krs time coarse = t
  generalize hf : @State.takeCam = f at e
  delta State.takeCam at hf
  subst hf
  beta_reduce at e
  extract_lets u at e
  have hu : Keeps r u := by
    unfold u
    split
    · exact h.krsSeq
    · exact h
  clear_value u
  split at e
  rename_i t1 e1
  have h1 : Keeps r t1 := hu.portRecord.of_snd e1
  subst e
  exact .ite h1.add.put.pulse h1

theorem sends {p : Nat} {l : List PortTx} : Keeps r (s.sends p l) := h.frame

theorem takeArp {p target : Nat} : Keeps r (s.takeArp p target) := .ite h.sends h

theorem pdelayEnd {p seq t3 t4 : Nat} : Keeps r (s.pdelayEnd p seq t3 t4) := by
  unfold State.pdelayEnd
  split
  · exact .ite h.put h
  · exact h

theorem takeGptp {p : Nat} {m : GptpMsg} {time : Nat} : Keeps r (s.takeGptp p m time) := by
  unfold State.takeGptp
  split
  · exact h.add
  · exact h.draw.sends
  · exact h.frame
  · exact h.pdelayEnd
  · exact h

theorem answerDue {p seq : Nat} {nak from' : Option Nat} : Keeps r (s.answerDue p seq nak from') := .ite h h.frame

theorem takeSerial {p : Nat} {bs : List Byte} {time : Nat} {coarse waited : Bool} :
    Keeps r (s.takeSerial p bs time coarse waited) := by
  unfold State.takeSerial
  extract_lets
  split
  · exact h.portDrop
  · split
    · exact h.heard.answerDue
    · split
      · exact h.heard.add.pulse.answerDue
      · split
        rename_i t e
        have ht : Keeps r t := h.heard.portRecord.of_snd e
        exact .ite ht.add.put.pulse.frame.answerDue ht.answerDue

theorem canDecode {f : CanFrame} {j : Nat} : Keeps r (s.canDecode f j).2 := .iteSnd h.bump h.put

theorem canRecord {f : CanFrame} {j time : Nat} {coarse : Bool} : Keeps r (s.canRecord f j time coarse) := by
  unfold State.canRecord
  extract_lets
  split
  · exact h.bump
  · split
    rename_i t e
    have ht : Keeps r t := h.portRecord.of_snd e
    exact .ite ht.frame ht

theorem takeCan {f : CanFrame} {time : Nat} {coarse : Bool} : Keeps r (s.takeCan f time coarse) := by
  unfold State.takeCan
  split
  · exact h.bump
  · extract_lets s1
    have h1 : Keeps r s1 := h.heard.bump.pulse.set
    split
    · rename_i t2 e
      have h2 : Keeps r t2 := by
        refine .of_snd (.foldlSnd h1 fun p i hp => ?_) e
        split
        rename_i e'
        exact hp.canDecode.of_snd e'
      exact .canRecord (.ite h2 h2.tallyEvents)

theorem takeInput {i : PortIn} {waited : Bool} : Keeps r (s.takeInput i waited) := by
  unfold State.takeInput
  split
  · exact h.takeCam
  · exact h.takeArp
  · exact h.takeGptp
  · exact h.takeSerial
  · exact h.takeCan

theorem fifoPush {i : PortIn} : Keeps r (s.fifoPush i) :=
  .ite (.activity (.ite h.frame h.portDrop)) (.arrive (.ite h.frame h.portDrop))

theorem fifoDrain : Keeps r s.fifoDrain := h.frame.foldl fun _ _ ht => ht.takeInput

theorem arrives {p size : Nat} {body : PortBody} : Keeps r (s.arrives p size body) := by
  unfold State.arrives
  extract_lets
  split
  · exact h.takeInput
  · exact h.takeInput
  · exact h.fifoPush
  · exact h

theorem execCamDatagram_answers {port : Nat} {frame : CamFrame} : Answers r (execCamDatagram port frame s) := by
  unfold execCamDatagram
  refine .checked ?_
  split
  · exact h.portDrop
  · split
    · exact h
    · split
      · exact h
      · split
        · exact h.add
        · exact h.add
        · split
          · exact h.add
          · exact h.heard.arrives

theorem gptpSeq {p kind : Nat} : Keeps r (s.gptpSeq p kind).2 := h.frame

theorem camDown {p : Nat} : Keeps r (s.camDown p) := .ite h.frame.goStale h.frame

theorem execPortTimeout_answers {port : Nat} : Answers r (execPortTimeout port s) := by
  unfold execPortTimeout
  refine .checked ?_
  split
  · exact h
  · exact .ite h.goStale h

theorem serialIn {p : Nat} {f : SerialFrame} : Keeps r (s.serialIn p f) :=
  .ite h.portDrop (.ite h (.ite h.frame.portDrop h.frame.arrives))

theorem collide {p : Nat} : Keeps r (s.collide p) := h.add.pulse

theorem serialSends {p : Nat} {l : List PortTx} : Keeps r (s.serialSends p l) := .ite h.portDrop h.frame.sends

theorem execSerialAnswer_answers {port : Nat} {collision : Bool} : Answers r (execSerialAnswer port collision s) := by
  unfold execSerialAnswer
  refine .checked ?_
  split
  · exact h
  · exact .ite h.frame (.ite h (.ite h.frame.collide (.ite h.frame.frame.serialSends h.frame.serialSends)))

theorem canErrors {good : Bool} : Keeps r (s.canErrors good) := .ite h.set.set h.set

theorem portSwitched {p : Nat} : Keeps r (s.portSwitched p) := by
  unfold State.portSwitched
  extract_lets _ _ _ t1
  have h1 : Keeps r t1 := .ite h.frame.put h.frame
  exact .ite h1.put (.ite h1.put h1.frame.set)

/-! ### GPIO and the lock step -/

theorem gpioOut {owner value : Nat} : Keeps r (s.gpioOut owner value) := by
  unfold State.gpioOut
  extract_lets _ _ _ bad u
  have hu : Keeps r u := h.set
  clear_value bad
  split
  · exact hu
  · exact hu.bump.report

theorem gpioMasked {owner mask value : Nat} : Keeps r (s.gpioMasked owner mask value) := h.gpioOut

theorem lockWrite {m : Nat} : Keeps r (s.lockWrite m) := by
  unfold State.lockWrite
  extract_lets _ _ u1
  have h1 : Keeps r u1 := h.set
  split
  · exact h.set.frame
  · exact .ite h1.frame h.bump.set.frame
  · exact .ite h.set.set.report h.bump.set.frame

theorem execGpioWakeEdge_answers {pins : BitVec 8} {rising : Bool} : Answers r (execGpioWakeEdge pins rising s) := by
  unfold execGpioWakeEdge
  exact .next (.ite h (.ite (h.foldl fun _ _ ht => ht.pinLevel) (.ite (((h.foldl fun _ _ ht =>
      ht.pinLevel).arrive).set) ((h.foldl fun _ _ ht => ht.pinLevel).arrive))))

/-! ### Power -/

theorem beginEntry {e : Entry} : Keeps r (s.beginEntry e) := h.set.frame

theorem endEntry : Keeps r s.endEntry := h.set.frame

theorem dozeCommit : Keeps r s.dozeCommit := h.frame.set.handover.restartIdle

theorem beadNapEnter {i : Nat} : Keeps r (s.beadNapEnter i) := .ite h (.ite h.frame.beadAdd h.frame)

theorem beadNapExit {d i : Nat} : Keeps r (s.beadNapExit d i) := by
  unfold State.beadNapExit
  split
  · extract_lets
    split
    · exact h.frame
    · split
      · exact h.frame.beadAdd
      · exact h.frame.beadMax
      · exact h.frame
  · exact h

theorem napCommit : Keeps r s.napCommit := by
  unfold State.napCommit
  extract_lets _ _ s1 s2 s3
  have h1 : Keeps r s1 := h.frame
  have h2 : Keeps r s2 := h1.set.set.set
  have h3 : Keeps r s3 := h2.sledPowerDown.foldl fun _ _ ht => ht.beadNapEnter
  clear_value s3
  exact h3.frame.restartIdle

theorem hostLost : Keeps r s.hostLost := by
  unfold State.hostLost
  extract_lets _ _ u
  have hu : Keeps r u := h.frame fun ⟨hm, _⟩ => ⟨hm, rfl, wf_freshSlots⟩
  exact hu.set.set.set.set.set

theorem hibCommit : Keeps r s.hibCommit := by
  unfold State.hibCommit
  extract_lets s1 s2 l pw bo s3
  have h1 : Keeps r s1 := h.saveTails.hostLost.forget.banksOff
  have h2 : Keeps r s2 := h1.set.set.set
  clear_value s2
  have h3 : Keeps r s3 := h2.frame (hl := fun _ => rfl)
  exact h3.set.restartIdle

theorem hibBurst : Keeps r s.hibBurst := .ite h (.resume (.frame (.ite h h.openSession.pulse)))

theorem hibEntry {cmd : Option Nat} {force : Bool} : Keeps r (s.hibEntry cmd force) :=
  .ite h.beginEntry (.ite h.beginEntry.hibBurst h.beginEntry.frame)

theorem hibDoze {e : Entry} : Keeps r (s.hibDoze e) := .ite (.dozeCommit (.ite h.frame h)) (.ite h.frame h)

theorem entryNap {e : Entry} : Keeps r (s.entryNap e) := .ite h.napCommit h.napCommit.endEntry.frame

theorem entryHib {e : Entry} : Keeps r (s.entryHib e) := .ite h (.hibCommit (.ite h.report h))

theorem hibStep : Keeps r s.hibStep := by
  unfold State.hibStep
  split
  · exact h
  · split
    · exact h
    · extract_lets s1
      have h1 : Keeps r s1 := .ite h.hibDoze h
      split
      · exact h1
      · exact .ite (.entryHib (.ite h1.entryNap h1)) (.ite h1.entryNap h1)

theorem power {slot target : Nat} {f : MbCopy → State → State} (hf : ∀ c t, Keeps r t → Keeps r (f c t)) :
    Answers r (s.power slot target f) :=
  h.runMbx (fun _ _ ht => hf _ _ ht)

theorem powerDone {slot code : Nat} : Keeps r (s.powerDone slot code) := h.answer

theorem powerEntry {slot target : Nat} {refused : Bool} {go : Entry → State} {start : State → State}
    (hgo : ∀ e, Keeps r (go e)) (hstart : ∀ t, Keeps r t → Keeps r (start t)) :
    Keeps r (s.powerEntry slot target refused go start) :=
    by
  unfold State.powerEntry
  split
  · exact .ite (hgo _) h
  · exact .ite h.answer (.ite h (hstart _ h))

theorem powerDoze {slot : Nat} : Keeps r (s.powerDoze slot) := .ite h.dozeCommit.endEntry.powerDone h

theorem execPowerDoze_answers {slot : Nat} : Answers r (execPowerDoze slot s) := by
  unfold execPowerDoze
  exact h.power (fun _ _ ht => ht.powerEntry (fun _ => ht.powerDoze) (fun _ hu => .ite hu.powerDone
      hu.beginEntry.powerDoze))

theorem execPowerNap_answers {slot : Nat} : Answers r (execPowerNap slot s) := by
  unfold execPowerNap
  extract_lets
  exact h.power (fun _ _ ht => ht.powerEntry (fun _ => .ite ht.dozeCommit ht) (fun _ hu => .ite
      hu.beginEntry.dozeCommit hu.beginEntry))

theorem powerHibAnswer {slot : Nat} {e : Entry} : Keeps r (s.powerHibAnswer slot e) := .ite h h.hibDoze.frame.powerDone

theorem execPowerHibernate_answers {slot : Nat} : Answers r (execPowerHibernate slot s) := by
  unfold execPowerHibernate
  refine h.power fun c t ht => ?_
  extract_lets
  exact ht.powerEntry (fun _ => ht.powerHibAnswer) fun _ hu => hu.hibEntry

theorem execNapCommit_answers : Answers r (execNapCommit s) := by
  unfold execNapCommit
  refine .next ?_
  split
  · exact h
  · split
    · exact .ite h.frame.powerDone h
    · exact .ite h.entryNap h
    · exact .ite h.entryNap h
    · exact h

theorem wakeExit : Keeps r s.wakeExit := by
  unfold State.wakeExit
  extract_lets _ _ _ _ _ _ s1 _ _ s2 s3
  have h1 : Keeps r s1 := .ite (h.frame.set.set.sledPowerUp.foldl fun _ _ ht => ht.beadNapExit) h.frame
  have h2 : Keeps r s2 := h1.frame.set.handover.unbuffer.fifoDrain
  have h3 : Keeps r s3 := .ite h2.hibBurst h2.restartIdle
  exact .ite h3.resume h3

theorem pfailShutdown {p : PFail} : Keeps r (s.pfailShutdown p) := by
  unfold State.pfailShutdown
  extract_lets s1 _ s2 s3
  have h1 : Keeps r s1 := h.servoOff.laserOff
  have h2 : Keeps r s2 := .ite h1.spShort h1
  have h3 : Keeps r s3 := .ite h2.sledShutdown h2
  exact h3.set.frame.pfailOutcome

theorem pfailBudget : Keeps r s.pfailBudget := by
  unfold State.pfailBudget
  split
  · exact h
  · exact .ite h (.ite h.frame h.abandonBlock)

theorem pfailFollow : Keeps r s.pfailFollow := by
  unfold State.pfailFollow
  extract_lets s1
  have h1 : Keeps r s1 := .ite h.pfailBudget h
  split
  · exact h1
  · exact .ite h1 h1.pfailShutdown

theorem pfailFlush {p : PFail} : Keeps r (s.pfailFlush p) := by
  unfold State.pfailFlush
  extract_lets _ _ _ _ _ s1
  have h1 : Keeps r s1 := .ite h.frame h.frame.openSession.pulse
  split
  · exact .ite h.frame h.frame.frame
  · exact .ite h1.frame (.ite h1.frame h.frame.frame)

theorem abortTest : Keeps r s.abortTest := by
  unfold State.abortTest
  split
  · exact h
  · split
    · exact h.endTest
    · exact h.frame

theorem pfailBlock {tRem : Nat} : Keeps r (s.pfailBlock tRem).2 := by
  unfold State.pfailBlock
  split
  · exact h
  · split
    · exact .iteSnd h.frame (.iteSnd h h.abandonBlock)
    · exact h.dropBlock.dropCopy
    · exact h.dropBlock

theorem execPfailAssert_answers {tRem : Nat} : Answers r (execPfailAssert tRem s) := by
  unfold execPfailAssert
  refine .next ?_
  split
  · exact h
  · extract_lets _ _ u1 _ s2 _ _ s3
    have h1 : Keeps r u1 := h.bump.set.set
    have h2 : Keeps r s2 := h.bump.set.cancelEntry
    have h3 : Keeps r s3 := .ite h2.frame.noticeDrained h2.frame
    split
    · exact h1.frame
    · split
      · rename_i t4 e
        have h4 : Keeps r t4 := h3.stopCal.abortTest.pfailBlock.of_snd e
        extract_lets _ _ s5 s6
        have h5 : Keeps r s5 := by
          unfold s5
          split
          · exact h4.frame
          · exact .ite h4.frame.pfailFlush h4.frame
        have h6 : Keeps r s6 := .ite h5.resume h5
        exact h6.pfailFollow

theorem execPfailSpinupTimeout_answers : Answers r (execPfailSpinupTimeout s) := by
  unfold execPfailSpinupTimeout
  refine .next ?_
  split
  · exact h
  · exact .ite h h.frame.pfailFollow

theorem flushAgain : Keeps r s.flushAgain := .ite h h.trigger

theorem readyAgain : Keeps r s.readyAgain := .ite h.set h

theorem pfailReturn : Keeps r s.pfailReturn := by
  unfold State.pfailReturn
  extract_lets _ _ _ u1 _ s2
  have h1 : Keeps r u1 := h.frame.spSense
  have h2 : Keeps r s2 := .ite h1.frame h.frame
  split
  · exact h2.frame.readyAgain.acceptWaiting
  · exact h2.frame.readyAgain.acceptWaiting
  · exact h2.readyAgain.acceptWaiting.flushAgain.resume
  · exact h2

theorem execPfailRelease_answers {railsOk : Bool} : Answers r (execPfailRelease railsOk s) := by
  unfold execPfailRelease
  refine .next ?_
  split
  · exact h
  · split
    · exact h
    · extract_lets u1 _ _ _ t2
      have h1 : Keeps r u1 := h.set
      have h2 : Keeps r t2 := .ite h1.frame h1.frame.set.pfailOutcome
      split
      · exact h2.beginWake
      · exact h2.pfailReturn

theorem execServoPllUnlock_answers {channelPll relocked : Bool} :
    Answers r (execServoPllUnlock channelPll relocked s) := by
  unfold execServoPllUnlock
  exact .next (.ite h (.ite h.cutWrite.report.tryOpenGate (.discOut (.servoOff (.ite h.cutWrite.report
      h.cutWrite.report.set)))))

theorem linkTrains : Keeps r s.linkTrains := h.set.set

theorem linkTo {l : LinkState} : Keeps r (s.linkTo l) :=
  .writeHeld (.ite h.frame.set.set.set.set (.ite h.frame.set.set.linkTrains h.frame.set.set))

theorem execLinkPowerStateChange_answers {l : LinkState} : Answers r (execLinkPowerStateChange l s) := by
  unfold execLinkPowerStateChange
  exact .next (.ite h (.ite (.hibStep (.ite (.arrive (.ite h.linkTo h)) (.ite h.linkTo h))) (.ite (.arrive (.ite
      h.linkTo h)) (.ite h.linkTo h))))

/-! ### The commands of the queues -/

theorem poolReadOn {c : QCmd} {b o upTo : Nat} : Keeps r (s.poolReadOn c b o upTo) := by
  unfold State.poolReadOn
  extract_lets _ _ _ _ u _ bad
  have hu : Keeps r u := h.rangesWrite
  clear_value bad
  split
  · exact h.finishWith
  · split
    · exact hu.setCmd
    · split
      · exact hu.finishWith
      · exact hu.finishWith

theorem execPoolRead_answers {qp : Nat} {work : PartOf} : Answers r (execPoolRead qp work s) := by
  unfold execPoolRead
  refine h.runCmd (fun c t ht => ?_)
  extract_lets
  split
  · exact ht.finishWith
  · exact .ite ht.finishWith (.ite ht.finishWith (.ite ht.finishWith ht.poolReadOn))

/-- The append stands as a variable `g`: asked whether a call and its body are the same, the kernel would evaluate the
append inside it. -/
theorem applyRecords {b : Nat} {l : List (List Byte)} : Keeps r (s.applyRecords b l).2 := by
  obtain ⟨f, hf⟩ : ∃ f, @State.applyRecords = f := ⟨_, rfl⟩
  obtain ⟨g, hg⟩ : ∃ g, @State.tryAppend = g := ⟨_, rfl⟩
  have hk : ∀ {u : State}, Keeps r u → ∀ x, Keeps r (g u b x (b2n u.coarse) 0 u.now).2 :=
    fun hu _ => hg ▸ hu.tryAppend
  rw [hf]
  delta State.applyRecords State.applyRecords._f at hf
  rw [hg] at hf
  subst hf
  clear hg
  induction l generalizing s with
  | nil => exact h
  | cons x xs ih =>
    rcases e : g s b x (b2n s.coarse) 0 s.now with ⟨ok, t⟩
    have ht : Keeps r t := (hk h x).of_snd e
    cases ok
    · simp only [e]
      exact ht.add
    · simp only [e]
      exact ih ht

theorem poolAppendOn {c : QCmd} {b : Nat} {l : List (List Byte)} {upTo : Nat} : Keeps r (s.poolAppendOn c b l upTo) :=
    by
  unfold State.poolAppendOn
  extract_lets
  exact .ite h.applyRecords.invalidateRing.setCmd (.finishWith (.ite h.applyRecords.invalidateRing
      h.applyRecords.invalidateRing.add))

theorem execPoolAppend_answers {qp : Nat} {work : PartOf} : Answers r (execPoolAppend qp work s) := by
  unfold execPoolAppend
  refine h.runCmd (fun c t ht => ?_)
  extract_lets
  split
  · exact ht
  · split
    · exact ht.finishWith
    · exact ht.finishWith
    · exact .ite ht.finishWith (.ite ht.finishWith (.ite ht.finishWith ht.poolAppendOn))

theorem makeMark {bobs : List Nat} {start stop fetch reason : Nat} :
    Keeps r (s.makeMark bobs start stop fetch reason) :=
  (h.frame.foldl fun _ _ ht => ht.bobFlags).trigger

theorem execEventMark_answers {qp tag : Nat} : Answers r (execEventMark qp tag s) := by
  unfold execEventMark
  exact h.runCmd (fun _ _ ht => .ite ht.finishWith (.ite ht.finishWith (.ite ht.finishWith (.ite ht.finishWith (.ite
      ht.finishWith (.ite (.ite ht.finishWith ht) ht.makeMark.finishWith))))))

theorem flushOn {c : QCmd} : Keeps r (s.flushOn c) := .ite h.checkFlushes (.ite h h.trigger)

theorem execFlush_answers {qp tag : Nat} : Answers r (execFlush qp tag s) := by
  unfold execFlush
  refine h.runCmd (fun c t ht => ?_)
  extract_lets
  split
  · exact ht.flushOn
  · split
    · exact ht.finishWith
    · split
      · exact ht
      · split
        · exact ht.finishWith
        · exact .ite ht.setCmd.checkFlushes ht.setCmd.trigger.commitNow.resume

theorem hostSet {t : Nat} {force : Bool} : Keeps r (s.hostSet t force) :=
  .timeRecord (.ite (.report (.set (.ite h.frame.set h.frame))) (.set (.ite h.frame.set h.frame)))

theorem highest {l : List Nat} : Keeps r (s.highest l).2 := by
  unfold State.highest
  split
  · exact h
  · split
    · rename_i t1 e
      have h1 : Keeps r t1 := h.draw.of_snd e
      exact h1

theorem execTallyRead_answers {qp tag : Nat} : Answers r (execTallyRead qp tag s) := by
  unfold execTallyRead
  refine h.runCmd (fun c t ht => ?_)
  split
  · exact ht.finishWith
  · exact .ite ht.finishWith ht.highest.rangesWrite.finishWith

theorem beadClear {i : Nat} : Keeps r (s.beadClear i) := h.put.put

theorem beadConfig {i event mode : Nat} {clear : Bool} : Keeps r (s.beadConfig i event mode clear) :=
  .ite (.frame (.put (.put (.ite h.beadClear h)))) (.put (.put (.ite h.beadClear h)))

theorem execCntConfig_answers {qp tag : Nat} : Answers r (execCntConfig qp tag s) := by
  unfold execCntConfig
  refine h.runCmd (fun c t ht => ?_)
  split
  · exact ht.finishWith
  · exact ht.beadConfig.saveSettings.finish

theorem execCntSnapshot_answers {qp tag : Nat} : Answers r (execCntSnapshot qp tag s) := by
  unfold execCntSnapshot
  refine h.runCmd (fun c t ht => ?_)
  split
  · exact ht.finishWith
  · exact .finish (.set (.ite (ht.rangesWrite.foldl fun _ _ hu => hu.beadClear) ht.rangesWrite))

theorem execBbRead_answers {qp tag : Nat} : Answers r (execBbRead qp tag s) := by
  unfold execBbRead
  refine h.runCmd (fun c t ht => ?_)
  split
  · exact ht.finishWith
  · exact ht.highest.rangesWrite.finishWith

/-! ### Firmware and keys -/

theorem setStaged {slot n : Nat} : Keeps r (s.setStaged slot n) := .saveControl (.ite h.set h.set)

theorem setComplete {slot : Nat} {on : Bool} : Keeps r (s.setComplete slot on) :=
  .saveControl (.ite h.set.set.set h.set.set.set)

theorem program {slot o : Nat} {bs : List Byte} : Keeps r (s.program slot o bs) := by
  unfold State.program
  split
  · exact .ite h.frame h
  · exact h

theorem eraseSlot {slot : Nat} : Keeps r (s.eraseSlot slot) := h.frame

theorem stageChunk {slot k : Nat} {bs : List Byte} : Keeps r (s.stageChunk slot k bs) := by
  unfold State.stageChunk
  split
  · exact .ite h.eraseSlot.program.setStaged.setComplete.setNext h.eraseSlot.program.setStaged.setComplete
  · exact .ite h.program.setStaged.setComplete h.program.setStaged

theorem execFwStage_answers {qp tag : Nat} : Answers r (execFwStage qp tag s) := by
  unfold execFwStage
  refine h.runCmd (fun c t ht => ?_)
  extract_lets
  split
  · exact ht
  · split
    · exact ht.finishWith
    · split
      · exact ht.finishWith
      · exact .ite ht.finishWith (.ite ht.finishWith (.ite ht.finishWith (.ite ht.finishWith
          ht.stageChunk.finishWith)))

theorem execFwActivate_answers {slot : Nat} : Answers r (execFwActivate slot s) := by
  unfold execFwActivate
  exact h.runMbx (fun _ _ ht => .ite ht (.ite ht.answer (.ite ht.answer (.answer (.ite ht.setNext
      ht.setNext.setAttempts.report)))))

theorem commission {d : Nat} : Keeps r (s.commission d) := by
  unfold State.commission
  extract_lets _ _ _ t1 t2
  have h1 : Keeps r t1 := h.frame
  have h2 : Keeps r t2 := h1.set.set.set.set
  exact h2.reportFull

theorem execCommission_answers {slot : Nat} : Answers r (execCommission slot s) := by
  unfold execCommission
  refine h.runMbx fun c t ht => .ite ht.answer (ht.needEntropy fun u hu => ?_)
  split
  rename_i e
  exact (hu.draw.of_snd e).commission.answer

theorem streamKey {b key : Nat} : Keeps r (s.streamKey b key) := h.frame.put.put.set.set

theorem streamRow {slot action : Nat} {f : MbCopy → Nat → State → State} (hf : ∀ c b t, Keeps r t → Keeps r (f c b t)) :
    Answers r (s.streamRow slot action f) :=
  h.runMbx (fun _ _ ht => .ite ht.answer (.ite ht.answer (hf _ _ _ ht)))

theorem epochFull {slot : Nat} : Keeps r (s.epochFull slot) := h.draw.answer

theorem execStreamKeyOff_answers {slot : Nat} : Answers r (execStreamKeyOff slot s) := by
  unfold execStreamKeyOff
  refine h.streamRow fun c b t ht => ?_
  extract_lets _ u
  have hu : Keeps r u := ht.frame
  exact hu.set.answer

theorem execStreamKeyHost_answers {slot : Nat} : Answers r (execStreamKeyHost slot s) := by
  unfold execStreamKeyHost
  exact h.streamRow fun c b t ht => .ite ht.epochFull ht.streamKey.answer

theorem execStreamKeyDevice_answers {slot : Nat} : Answers r (execStreamKeyDevice slot s) := by
  unfold execStreamKeyDevice
  refine h.streamRow fun c b t ht => .ite ht.epochFull (ht.needEntropy fun u hu => ?_)
  split
  rename_i e
  exact (hu.draw.of_snd e).streamKey.answer

theorem execSvcChallenge_answers {slot : Nat} : Answers r (execSvcChallenge slot s) := by
  unfold execSvcChallenge
  refine h.runMbx fun c t ht => .ite ht.answer (ht.needEntropy fun u hu => ?_)
  split
  rename_i e
  exact (hu.draw.of_snd e).frame.answer

/-! ### PARAM_GET, PARAM_SET, the TAP -/

theorem noteShadow {w : PSet} {off : Nat} : Keeps r (s.noteShadow w off) := .ite h.set (.ite h.put h)

theorem writeField {x : PageField × Nat} : Keeps r (s.writeField x) := by
  unfold State.writeField
  extract_lets
  split
  · exact h
  · split
    · exact h.put
    · exact h.put
    · exact h.put
    · exact h.put
    · exact h

theorem takeNow {k : Nat} {v : Int} : Keeps r (s.takeNow k v) := h.frame

theorem hookPower {s0 : State} {ws : List (PageField × Nat)} : Keeps r (s.hookPower s0 ws) := by
  unfold State.hookPower
  extract_lets _ _ _ _ s1
  have h1 : Keeps r s1 := .ite (.report (.ite (.ite h.frame h) (.set (.ite h.frame h)))) (.ite h.frame h)
  exact .ite h1.set h1

theorem hookLoom {s0 : State} {w : PSet} {ws : List (PageField × Nat)} : Keeps r (s.hookLoom s0 w ws) := by
  unfold State.hookLoom
  extract_lets _ _ _ s1 s2
  have h1 : Keeps r s1 := .ite h.bobFlags h
  have h2 : Keeps r s2 := .ite h1.trigger h1
  exact .ite (.ite h.trigger h) (.ite (.ite h2.trigger h2) h)

theorem hookPorts {s0 : State} {w : PSet} {ws : List (PageField × Nat)} : Keeps r (s.hookPorts s0 w ws) := by
  unfold State.hookPorts
  extract_lets
  split
  · exact .ite h.portSwitched h
  · split
    · exact .ite h.portSwitched h
    · split
      · exact .ite h.portSwitched h
      · exact .ite (h.foldl fun _ _ ht => .ite ht ht.put) (.ite (h.foldl fun _ _ ht => .ite ht.tallyRewired ht) h)

theorem hookDrive {w : PSet} {ws : List (PageField × Nat)} : Keeps r (s.hookDrive w ws) := by
  unfold State.hookDrive
  extract_lets _ s1 _ _ _ s2 s3 s4 _ s5 u6
  have h1 : Keeps r s1 := .ite h.standNow h
  have h2 : Keeps r s2 := .ite (.takeNow (.ite h.set h)) (.ite h.set h)
  have h3 : Keeps r s3 := .ite h2.takeNow h2
  have h4 : Keeps r s4 := .ite h3.takeNow h3
  have h5 : Keeps r s5 := .ite h.takeNow.updateHealth h
  have h6 : Keeps r u6 := h5.set
  split
  · exact .ite h h.set
  · exact .ite (.ite (.ite h1.set.applyTable h1.set.frame) h1) (.ite (.ite h4.takeNow h4) (.ite (.ite h6.frame h5) h))

theorem hookCal {ws : List (PageField × Nat)} : Keeps r (s.hookCal ws) := by
  unfold State.hookCal
  split
  · exact h.makeDue
  · exact h

theorem hookGpio {ws : List (PageField × Nat)} : Keeps r (s.hookGpio ws) := by
  unfold State.hookGpio
  extract_lets s1 s2
  have h1 : Keeps r s1 := by
    unfold s1
    split
    · exact h.gpioOut
    · exact h
  have h2 : Keeps r s2 := by
    unfold s2
    split
    · exact h1.gpioMasked
    · exact h1
  split
  · exact h2.lockWrite
  · exact h2

theorem rcvPlace {w : PSet} : Keeps r (s.rcvPlace w) :=
  .ite h (.frame (.set (.set (.program (.ite h.eraseSlot.setStaged.setComplete h)))))

theorem rcvClose : Keeps r s.rcvClose.2 := by
  unfold State.rcvClose
  extract_lets _ _ s1 u2
  have h1 : Keeps r s1 := h.set.setStaged.setComplete
  have h2 : Keeps r u2 := h1.setNext.setAttempts.set
  split
  · exact h.set.set
  · exact h2.frame

theorem applyPage {w : PSet} : Keeps r (s.applyPage w) := by
  unfold State.applyPage
  extract_lets _ t1 t2 t3 t4
  have h1 : Keeps r t1 := .foldl (.ite h.set h) fun _ _ ht => ht.writeField
  have h2 : Keeps r t2 := h1.hookPower.hookLoom
  have h3 : Keeps r t3 := h2.hookPorts.hookDrive.hookCal
  have h4 : Keeps r t4 := h3.hookGpio.rcvPlace
  exact .ite h4.saveSettings h4

theorem setPage {slot : Nat} {w : PSet} : Keeps r (s.setPage slot w) := by
  unfold State.setPage
  extract_lets
  split
  · split
    · rename_i t1 e
      have h1 : Keeps r t1 := h.applyPage.rcvClose.of_snd e
      exact h1.answer
    · rename_i t2 e
      have h2 : Keeps r t2 := h.applyPage.rcvClose.of_snd e
      exact h2.answer
  · exact h.applyPage.answer

theorem paramSet {slot : Nat} {c : MbCopy} : Keeps r (State.paramSet slot c s) := by
  unfold State.paramSet
  split
  · rename_i t1 e
    have h1 : Keeps r t1 := h.draw.of_snd e
    split
    · exact .answer (.ite (.noteShadow (.ite h1 h)) (.ite h1 h))
    · exact h.setPage

theorem execParamGet_answers {slot : Nat} : Answers r (execParamGet slot s) := by
  unfold execParamGet
  refine h.runMbx (fun c t ht => ?_)
  extract_lets
  split
  · exact ht.answer
  · split
    · exact ht.answer
    · exact ht.answer

theorem execGpioOutWrite_answers {writer : PinOwner} {slot : Nat} {value : BitVec 24} :
    Answers r (execGpioOutWrite writer slot value s) := by
  unfold execGpioOutWrite
  split
  · exact h.runMbx (fun _ _ ht => ht.paramSet)
  · exact .next (.ite h h.gpioOut)
  · exact .next (.ite h.gpioOut h)

theorem execJtagTapOperation_answers {op : TapOp} {resetLow : Bool} :
    Answers r (execJtagTapOperation op resetLow s) := by
  unfold execJtagTapOperation
  refine .next ?_
  split
  · exact h
  · split
    · exact .ite h.frame (.ite h.draw.frame h.frame)
    · exact h.frame

/-! ### Commands that are one use of a shared form -/

theorem execParamSet_answers {slot : Nat} : Answers r (execParamSet slot s) := by
  unfold execParamSet
  exact h.runMbx fun _ _ ht => ht.paramSet

theorem execPowerHoldRun_answers {slot : Nat} : Answers r (execPowerHoldRun slot s) := by
  unfold execPowerHoldRun
  exact h.power fun _ _ ht => ht.frame.powerDone

theorem execPowerReleaseHold_answers {slot : Nat} : Answers r (execPowerReleaseHold slot s) := by
  unfold execPowerReleaseHold
  exact h.power fun _ _ ht => ht.frame.powerDone

theorem execKeyRead_answers {slot : Nat} : Answers r (execKeyRead slot s) := by
  unfold execKeyRead
  exact h.runMbx fun _ _ ht => .ite ht.answer ht.answer

theorem execSvcUnlock_answers {slot : Nat} : Answers r (execSvcUnlock slot s) := by
  unfold execSvcUnlock
  exact h.runMbx fun _ _ ht => .ite ht.answer (.ite ht.answer (.ite ht.frame.frame.answer ht.frame.frame.answer))

theorem execBbErase_answers {slot : Nat} : Answers r (execBbErase slot s) := by
  unfold execBbErase
  refine h.runMbx fun c t ht => .ite ht.answer ?_
  extract_lets _ _ t1 t2 rec
  have h1 : Keeps r t1 := ht.frame
  have h2 : Keeps r t2 := h1.set.set
  clear_value t2
  split
  rename_i u _ e
  have hu : Keeps r u := h2.bbWrite.of_fst e
  exact hu.set.set.set.answer

theorem execLaserDac_answers {slot : Nat} {codes : Timed (List Int)} : Answers r (execLaserDac slot codes s) := by
  unfold execLaserDac
  exact h.servoTest fun _ _ ht => ht.analogueRun

theorem execCoilSense_answers {slot : Nat} {ma : Timed (List Int)} : Answers r (execCoilSense slot ma s) := by
  unfold execCoilSense
  exact h.servoTest fun _ _ ht => ht.analogueRun

theorem execMotorSense_answers {slot : Nat} {ma : Timed (List Int)} : Answers r (execMotorSense slot ma s) := by
  unfold execMotorSense
  exact h.servoTest fun _ _ ht => ht.analogueRun

theorem execAdcTone_answers {slot : Nat} {snr : Timed (List Int)} : Answers r (execAdcTone slot snr s) := by
  unfold execAdcTone
  exact h.servoTest fun _ _ ht => ht.analogueRun

theorem execShuttleLoop_answers {slot : Nat} {failed : List Nat} {duration : Nat} :
    Answers r (execShuttleLoop slot failed duration s) := by
  unfold execShuttleLoop
  exact h.servoTest fun _ _ ht => ht.shuttleEnd

theorem execTempCross_answers {slot : Nat} {temps : Timed (List Int)} : Answers r (execTempCross slot temps s) := by
  unfold execTempCross
  exact h.freeTest fun _ _ ht => ht.analogueRun

theorem execD2dLoop_answers {slot : Nat} {errors : Timed Nat} : Answers r (execD2dLoop slot errors s) := by
  unfold execD2dLoop
  exact h.freeTest fun _ _ ht => ht.analogueRun

theorem execInjD2dBreak_answers {slot : Nat} : Answers r (execInjD2dBreak slot s) := by
  unfold execInjD2dBreak
  exact h.inject fun _ _ ht => ht.frame

theorem execInjLeaseStop_answers {slot : Nat} : Answers r (execInjLeaseStop slot s) := by
  unfold execInjLeaseStop
  exact h.inject fun _ _ ht => ht.frame

theorem execInjBemfBlank_answers {slot : Nat} : Answers r (execInjBemfBlank slot s) := by
  unfold execInjBemfBlank
  exact h.inject fun _ _ ht => ht.frame

theorem execInjBemfSpurious_answers {slot : Nat} : Answers r (execInjBemfSpurious slot s) := by
  unfold execInjBemfSpurious
  exact h.inject fun _ _ ht => ht.frame

theorem execInjLaneError_answers {slot : Nat} : Answers r (execInjLaneError slot s) := by
  unfold execInjLaneError
  exact h.inject fun _ _ ht => ht.frame

theorem execInjLaneLoopFail_answers {slot : Nat} : Answers r (execInjLaneLoopFail slot s) := by
  unfold execInjLaneLoopFail
  exact h.inject fun _ _ ht => ht.frame

theorem execInjParityFlip_answers {slot : Nat} : Answers r (execInjParityFlip slot s) := by
  unfold execInjParityFlip
  exact h.inject fun _ _ ht => .ite ht.flipL2 ht.frame

theorem execInjCheckerBreak_answers {slot : Nat} : Answers r (execInjCheckerBreak slot s) := by
  unfold execInjCheckerBreak
  exact h.inject fun _ _ ht => ht.frame

theorem execInjReedCorrupt_answers {slot : Nat} : Answers r (execInjReedCorrupt slot s) := by
  unfold execInjReedCorrupt
  exact h.inject fun _ _ ht => ht.put.put.put.put.put

theorem execInjPoison_answers {slot : Nat} : Answers r (execInjPoison slot s) := by
  unfold execInjPoison
  exact h.inject fun _ _ ht => ht.poisonGranule

theorem execInjVerifyFail_answers {slot : Nat} : Answers r (execInjVerifyFail slot s) := by
  unfold execInjVerifyFail
  exact h.inject fun _ _ ht => ht.frame

theorem execInjEraseFrames_answers {slot : Nat} : Answers r (execInjEraseFrames slot s) := by
  unfold execInjEraseFrames
  exact h.inject fun _ _ ht => ht.frame

theorem execInjDefectFlag_answers {slot : Nat} : Answers r (execInjDefectFlag slot s) := by
  unfold execInjDefectFlag
  exact h.inject fun _ _ ht => ht.frame.defectOn

theorem execInjTrainFail_answers {slot : Nat} : Answers r (execInjTrainFail slot s) := by
  unfold execInjTrainFail
  exact h.inject fun _ _ ht => ht.frame

theorem execInjPoolWrite_answers {slot : Nat} : Answers r (execInjPoolWrite slot s) := by
  unfold execInjPoolWrite
  exact h.inject fun _ _ ht => ht.foldl fun _ _ hu => hu.crossbar

theorem execNop_answers {qp tag : Nat} : Answers r (execNop qp tag s) := by
  unfold execNop
  exact h.runCmd fun _ _ ht => ht.finish

theorem execFence_answers {qp tag : Nat} : Answers r (execFence qp tag s) := by
  unfold execFence
  exact h.runCmd fun _ _ ht => ht.finish

theorem execAbort_answers {qp tag : Nat} : Answers r (execAbort qp tag s) := by
  unfold execAbort
  exact h.runCmd fun _ _ ht => .ite ht (.ite ht.resolveAbort.dropFlush ht.resolveAbort)

theorem execTimeSet_answers {qp tag : Nat} : Answers r (execTimeSet qp tag s) := by
  unfold execTimeSet
  exact h.runCmd fun _ _ ht => .ite ht.finishWith (.ite ht.hostSet.finish (.ite ht.hostSet.finish ht.finishWith))

theorem execTimeGet_answers {qp tag : Nat} : Answers r (execTimeGet qp tag s) := by
  unfold execTimeGet
  exact h.runCmd fun _ _ ht => ht.finish

theorem execHoldupLockSet_answers {slot : Nat} : Answers r (execHoldupLockSet slot s) := by
  unfold execHoldupLockSet
  exact h.runMbx fun _ _ ht => ht.paramSet

theorem execHoldupUnlock_answers {slot : Nat} : Answers r (execHoldupUnlock slot s) := by
  unfold execHoldupUnlock
  exact h.runMbx fun _ _ ht => ht.paramSet

theorem execUstepApply_answers {slot : Nat} : Answers r (execUstepApply slot s) := by
  unfold execUstepApply
  exact h.runMbx fun _ _ ht => ht.paramSet

theorem execBqApply_answers {slot : Nat} : Answers r (execBqApply slot s) := by
  unfold execBqApply
  exact h.runMbx fun _ _ ht => ht.paramSet

theorem execCalNow_answers {slot : Nat} : Answers r (execCalNow slot s) := by
  unfold execCalNow
  exact h.runMbx fun _ _ ht => ht.paramSet

theorem execSetDefaults_answers {slot : Nat} : Answers r (execSetDefaults slot s) := by
  unfold execSetDefaults
  exact h.runMbx fun _ _ ht => ht.paramSet

theorem execGpioMaskedUpdate_answers {slot : Nat} : Answers r (execGpioMaskedUpdate slot s) := by
  unfold execGpioMaskedUpdate
  exact h.runMbx fun _ _ ht => ht.paramSet

theorem execGpioLockKey_answers {slot : Nat} : Answers r (execGpioLockKey slot s) := by
  unfold execGpioLockKey
  exact h.runMbx fun _ _ ht => ht.paramSet

theorem execCanmapWrite_answers {slot : Nat} : Answers r (execCanmapWrite slot s) := by
  unfold execCanmapWrite
  exact h.runMbx fun _ _ ht => ht.paramSet

theorem execTallySourceWrite_answers {slot : Nat} : Answers r (execTallySourceWrite slot s) := by
  unfold execTallySourceWrite
  exact h.runMbx fun _ _ ht => ht.paramSet

theorem execRcvDataWrite_answers {slot : Nat} : Answers r (execRcvDataWrite slot s) := by
  unfold execRcvDataWrite
  exact h.runMbx fun _ _ ht => ht.paramSet

theorem execRcvClose_answers {slot : Nat} : Answers r (execRcvClose slot s) := by
  unfold execRcvClose
  exact h.runMbx fun _ _ ht => ht.paramSet

/-! ### The passing of time -/

theorem sampleBead {i : Nat} : Keeps r (s.sampleBead i) := by
  unfold State.sampleBead
  extract_lets
  split
  · exact h
  · split
    · exact h.frame
    · split
      · exact .ite h.frame.beadAdd h.frame
      · exact .ite h.frame.beadAdd h.frame
      · exact h.frame.beadMax
      · exact h.frame

theorem sampleBeads : Keeps r s.sampleBeads := by
  unfold State.sampleBeads
  split
  · exact h
  · exact h
  · exact h
  · exact h.foldl fun _ _ ht => ht.sampleBead

theorem rcTick : Keeps r s.rcTick := .ite (.ite h.frame (.ite h.frame h.frame)) h

theorem timePasses : Keeps r s.timePasses := by
  unfold State.timePasses
  split
  · exact h
  · split
    · exact h.frame
    · split
      · rename_i t1 e
        have h1 : Keeps r t1 := h.draw.of_snd e
        exact .ite (.frame (.iteSnd h h1)) (.ite (.frame (.iteSnd h h1)) (.frame (.iteSnd h h1)))

theorem runTimes : Keeps r s.runTimes := by
  unfold State.runTimes
  extract_lets _ _ s1 _ s2
  have h1 : Keeps r s1 := .ite (.ite h.frame.bump h.frame) h
  have h2 : Keeps r s2 := .ite (.ite h1.frame.bump h1.frame) h1
  exact .ite h2.frame h2

theorem tick : Keeps r s.tick := by
  unfold State.tick
  extract_lets s1 s2
  have h1 : Keeps r s1 := h.frame.timePasses.rcTick.runTimes.pwmTick.sledRuns.coilTick.windowTick
  have h2 : Keeps r s2 := .ite h1.pfailFollow h1
  exact h2.sampleBeads

end

end Keeps

/-! ## Every command -/

/-- A command that answers a next state keeps the queue, the canonical register table and the canonical memories. -/
theorem exec_answers {r s : State} (h : Keeps r s) (c : Instr) : Answers r (exec c s) := by
  cases c with
  | w0BadAccess _ _ _ _ => exact .checked (.ite (.ite h h.frame) (.bump (.ite h h.frame)))
  | mbGo _ _ _ => exact .checked (.ite (h.p8Access (fun _ ht => ht.ctrlWrite)) (.ite h.mailboxWrite.ctrlWrite h))
  | mbComplete _ => exact h.execMbComplete_answers
  | mbDoneClear _ _ => exact .checked (.ite (h.p8Access (fun _ ht => ht.ctrlWrite)) (.ite h.mailboxWrite.ctrlWrite h))
  | mbClaim _ _ => exact .next (.ite (h.p8Access (fun _ ht => ht.claimWrite)) (.ite h.mailboxWrite.claimWrite h))
  | mbRelease _ => exact .next (.ite (h.p8Access (fun _ ht => ht.releaseWrite)) (.ite h.mailboxWrite.releaseWrite h))
  | p8ClaimTimeout => exact .next (.ite h.askRelease h)
  | p8Write _ _ => exact (h.p8Access (fun _ ht => ht.p8Bytes)).next
  | p8Read _ _ => exact h.p8Select.frame.next
  | p8Status => exact h.p8Select.frame.next
  | ntTailWrite _ => exact .next (.ite h.arrive.set h)
  | doorbellWrite _ _ _ => exact h.execDoorbellWrite_answers
  | d3hotEntry => exact .next (.ite h.frame h)
  | d0Return => exact .next (.ite h.frame.writeHeld.msixFlush h)
  | linkRetrainTimeout => exact .next (.ite h h.hostReset.frame.bump.pulse)
  | functionLevelReset => exact .next (.ite h h.hostReset.bump.pulse)
  | hotReset => exact .next (.ite h h.hostReset.bump.pulse)
  | perstAssert => exact .next (.ite h h.hostReset.bump.pulse.set.set.set.frame)
  | perstRelease _ _ => exact .checked (.ite h (.arrive (.ite h.frame.set.linkTrains.set.writeHeld h.frame)))
  | hostResetComplete => exact h.execHostResetComplete_answers
  | hostReadTimeout _ _ => exact h.execHostReadTimeout_answers
  | poisonedTlp _ _ => exact h.execPoisonedTlp_answers
  | qpCreate _ => exact h.execQpCreate_answers
  | qpDelete _ => exact h.execQpDelete_answers
  | sqFetch _ _ _ _ => exact h.execSqFetch_answers
  | fencedStart _ _ => exact h.execFencedStart_answers
  | coalTimerExpiry _ => exact h.execCoalTimerExpiry_answers
  | paramGet _ => exact h.execParamGet_answers
  | paramSet _ => exact h.execParamSet_answers
  | powerHoldRun _ => exact h.execPowerHoldRun_answers
  | powerDoze _ => exact h.execPowerDoze_answers
  | powerNap _ => exact h.execPowerNap_answers
  | powerHibernate _ => exact h.execPowerHibernate_answers
  | powerReleaseHold _ => exact h.execPowerReleaseHold_answers
  | fwActivate _ => exact h.execFwActivate_answers
  | commission _ => exact h.execCommission_answers
  | keyRead _ => exact h.execKeyRead_answers
  | streamKeyOff _ => exact h.execStreamKeyOff_answers
  | streamKeyHost _ => exact h.execStreamKeyHost_answers
  | streamKeyDevice _ => exact h.execStreamKeyDevice_answers
  | svcChallenge _ => exact h.execSvcChallenge_answers
  | svcUnlock _ => exact h.execSvcUnlock_answers
  | bbErase _ => exact h.execBbErase_answers
  | windowNow _ _ _ => exact h.execWindowNow_answers
  | windowPass _ _ _ => exact h.execWindowPass_answers
  | laserDac _ _ => exact h.execLaserDac_answers
  | coilSense _ _ => exact h.execCoilSense_answers
  | motorSense _ _ => exact h.execMotorSense_answers
  | adcTone _ _ => exact h.execAdcTone_answers
  | shuttleLoop _ _ _ => exact h.execShuttleLoop_answers
  | tempCross _ _ => exact h.execTempCross_answers
  | d2dLoop _ _ => exact h.execD2dLoop_answers
  | allAnalogue _ _ _ => exact h.execAllAnalogue_answers
  | injD2dBreak _ => exact h.execInjD2dBreak_answers
  | injLeaseStop _ => exact h.execInjLeaseStop_answers
  | injBemfBlank _ => exact h.execInjBemfBlank_answers
  | injBemfSpurious _ => exact h.execInjBemfSpurious_answers
  | injLaneError _ => exact h.execInjLaneError_answers
  | injLaneLoopFail _ => exact h.execInjLaneLoopFail_answers
  | injParityFlip _ => exact h.execInjParityFlip_answers
  | injCheckerBreak _ => exact h.execInjCheckerBreak_answers
  | injReedCorrupt _ => exact h.execInjReedCorrupt_answers
  | injPoison _ => exact h.execInjPoison_answers
  | injVerifyFail _ => exact h.execInjVerifyFail_answers
  | injEraseFrames _ => exact h.execInjEraseFrames_answers
  | injDefectFlag _ => exact h.execInjDefectFlag_answers
  | injTrainFail _ => exact h.execInjTrainFail_answers
  | injPoolWrite _ => exact h.execInjPoolWrite_answers
  | servoTestStart => exact h.execServoTestStart_answers
  | nop _ _ => exact h.execNop_answers
  | fence _ _ => exact h.execFence_answers
  | abort _ _ => exact h.execAbort_answers
  | poolRead _ _ => exact h.execPoolRead_answers
  | poolAppend _ _ => exact h.execPoolAppend_answers
  | eventMark _ _ => exact h.execEventMark_answers
  | flush _ _ => exact h.execFlush_answers
  | discDir _ _ => exact h.execDiscDir_answers
  | exportBlock _ _ => exact h.execExportBlock_answers
  | discRead _ _ => exact h.execDiscRead_answers
  | cartridgeEject _ _ => exact h.execCartridgeEject_answers
  | cartridgeLoad _ _ => exact h.execCartridgeLoad_answers
  | timeSet _ _ => exact h.execTimeSet_answers
  | timeGet _ _ => exact h.execTimeGet_answers
  | tallyRead _ _ => exact h.execTallyRead_answers
  | cntConfig _ _ => exact h.execCntConfig_answers
  | cntSnapshot _ _ => exact h.execCntSnapshot_answers
  | bbRead _ _ => exact h.execBbRead_answers
  | fwStage _ _ => exact h.execFwStage_answers
  | holdupLockSet _ => exact h.execHoldupLockSet_answers
  | holdupUnlock _ => exact h.execHoldupUnlock_answers
  | ustepApply _ => exact h.execUstepApply_answers
  | ustepTableActivate => exact .next (.ite h.applyTable h)
  | bqApply _ => exact h.execBqApply_answers
  | bqActivate _ => exact .checked (.ite ((((h.foldl fun _ _ ht => ht.put).frame).put).set) h)
  | calNow _ => exact h.execCalNow_answers
  | setDefaults _ => exact h.execSetDefaults_answers
  | gpioOutWrite _ _ _ => exact h.execGpioOutWrite_answers
  | gpioMaskedUpdate _ => exact h.execGpioMaskedUpdate_answers
  | gpioLockKey _ => exact h.execGpioLockKey_answers
  | canmapWrite _ => exact h.execCanmapWrite_answers
  | tallySourceWrite _ => exact h.execTallySourceWrite_answers
  | rcvDataWrite _ => exact h.execRcvDataWrite_answers
  | rcvClose _ => exact h.execRcvClose_answers
  | recoveryReboot => exact .next (.ite h.forget.set.frame h)
  | dozeIdleExpiry => exact .next (.ite h.dozeCommit h)
  | napIdleExpiry => exact .next (.ite h.beginEntry h)
  | napCommit => exact h.execNapCommit_answers
  | hibIdleExpiry => exact .next (.ite (.ite h.frame h.hibEntry) h)
  | hibernateCommit => exact h.hibStep.next
  | wakeEvent _ => exact .checked (.ite h.arrive h)
  | wakeExitComplete => exact .next (.ite h.wakeExit h)
  | rtcAlarmFire => exact .next (.ite h.frame.arrive h)
  | pfailAssert _ => exact h.execPfailAssert_answers
  | pfailSpinupTimeout => exact h.execPfailSpinupTimeout_answers
  | pfailRelease _ => exact h.execPfailRelease_answers
  | slowCrystalStop => exact .next (.ite h h.frame.set.set.set.set.report)
  | wardenRcCalibrate _ _ => exact .next (.ite h.frame h)
  | crystalReturn => exact .next (.ite h.frame.set.set h)
  | referenceStartTimeout => exact .next (.ite h (.ite h.refFails.frame (.ite h.refFails.frame h.refFails)))
  | servoPllUnlock _ _ => exact h.execServoPllUnlock_answers
  | corePllLoss _ _ => exact .next (.ite h.report.masterReset h)
  | powerOnReset => exact h.burnBroken.bbCut.powerLost.frame.set.set.bbScan.next
  | pwrMainEnRaise => exact .next (.ite h.frame h)
  | mainPgoodRise => exact .next (.ite h (.ite h.frame.set.frame h.frame.set))
  | mainPgoodTimeout => exact .next (.ite h.refFails h)
  | mainPgoodFall => exact h.execMainPgoodFall_answers
  | railLowVlasVana => exact h.cutWrite.laserOff.coilsOff.next
  | masterReset _ _ => exact h.masterReset.next
  | boot _ => exact h.execBoot_answers
  | goodDelayExpiry => exact .next (.ite (.report (.setAttempts (.set (.ite h.set h.set)))) h)
  | d2dLinkLoss _ => exact h.d2dLoss.next
  | d2dRetrainDone _ _ => exact .checked (.ite h (.ite h.d2dUp h.frame.discOut))
  | clusterVerifyVerdict _ => exact h.verdict.pollRead.pfailFollow.next
  | leaseRenew _ => exact h.execLeaseRenew_answers
  | leaseExpiry _ => exact h.execLeaseExpiry_answers
  | engineLoopbackDone _ _ => exact .checked (.ite h (.ite h.enginePassed h.frame.report))
  | engineLoopbackRetry _ => exact h.execEngineLoopbackRetry_answers
  | crossbarAccess _ _ _ _ => exact h.crossbar.checked
  | tailCommit _ _ _ => exact .checked (.ite h (.ite h.commitRec.flushTriggers (.ite h.revokeLease h)))
  | segCloseHeldAppend _ => exact h.segHeldAppend.checked
  | markRetire _ => exact h.execMarkRetire_answers
  | poolLoss _ => exact h.execPoolLoss_answers
  | poolRetrain _ => exact h.execPoolRetrain_answers
  | mr4Poll _ _ => exact .next (.ite h.losePool h)
  | camDatagram _ _ => exact h.execCamDatagram_answers
  | arpRequest _ _ => exact .checked (.ite h.arrives h)
  | gptpFrame _ _ => exact .checked (.ite h (.ite h.add h.arrives))
  | syncTimer _ => exact .checked (.ite h.gptpSeq.sends h)
  | announceTimer _ => exact .checked (.ite h.gptpSeq.sends h)
  | pdelayTimer _ => exact .checked (.ite h.gptpSeq.frame.sends h)
  | camLinkDown _ => exact .checked (.ite h.camDown h)
  | camLinkUp _ _ _ => exact .checked (.ite h (.ite (.ite h.frame.put h.frame) h.camDown))
  | portTimeout _ => exact h.execPortTimeout_answers
  | serialDataFrame _ _ => exact h.serialIn.checked
  | serialHeartbeat _ _ => exact h.serialIn.checked
  | serialAnswer _ _ => exact h.execSerialAnswer_answers
  | serialGapDiscard _ => exact .checked (.ite h.portDrop h)
  | timeFrameTimer _ _ => exact .checked (.ite h (.ite h.frame (.ite h.frame.collide h.frame.serialSends)))
  | canFrame _ => exact .checked (.ite h.portDrop (.ite h (.ite h.canErrors h.canErrors.arrives)))
  | canBusOff => exact .next (.ite h h.frame.set.bump.report)
  | canBusoffRecovery => exact .next (.ite h h.frame.set.set.set)
  | ppsEdge _ _ => exact .next (.ite h (.ite h.bump h.frame.set.bump.pulse))
  | nmeaSentence _ => exact h.execNmeaSentence_answers
  | ppsTimeout => exact h.execPpsTimeout_answers
  | holdoverExpiry => exact .next (.ite h.timeFree h)
  | tallyEdgeDebounced _ _ => exact h.execTallyEdgeDebounced_answers
  | tallyMaxOpen _ => exact h.execTallyMaxOpen_answers
  | spinupRequest _ _ => exact .checked (.ite h.spinUp h)
  | senseEnd _ => exact h.execSenseEnd_answers
  | alignEnd => exact .next (.ite h.spState h)
  | rampTimeout => exact .next (.ite h.spFailed h)
  | shortRetryEnd => exact .next (.ite h.spSense h)
  | bemfCrossing _ _ => exact h.execBemfCrossing_answers
  | toothSynth => exact .next (.ite h h.bump.pulse.frame.tooth)
  | commutation => exact .next (.ite h h.frame)
  | spindleStall => exact h.execSpindleStall_answers
  | stopRequest => exact .next (.ite h.frame h)
  | shortCycle _ => exact .next (.ite h (.ite h.atRest (.ite h.frame h)))
  | spindleOvercurrent _ => exact h.execSpindleOvercurrent_answers
  | spindleFaultRetry => exact .next (.ite h (.ite h.set.spState h.set.spSense))
  | spindleOpenPhase _ => exact .checked (.ite h h.spFloat.set.discOut)
  | vmotLow => exact .next (.ite h h.set.report.barSpindle)
  | vmotRecover => exact .next (.ite h.set.unbarSpindle h)
  | spindleStageHot => exact .next (.ite h h.set.report.barSpindle)
  | spindleStageCool => exact .next (.ite h.set.unbarSpindle h)
  | sledSeekDemand _ => exact h.sledDemand.next
  | sledMoveEnd => exact h.execSledMoveEnd_answers
  | holdDelayExpiry => exact .next (.ite h.standIn.frame.retainPos h)
  | sledReenergiseEnd => exact .next (.ite h.frame.set.sledResume h)
  | homeSwitchEdge _ => exact h.execHomeSwitchEdge_answers
  | sledStall => exact h.execSledStall_answers
  | homingSettle => exact .next (.ite h.frame h)
  | homingFail => exact h.execHomingFail_answers
  | sledOvercurrent _ => exact h.execSledOvercurrent_answers
  | sledRehomeTimer => exact .next (.ite h.set.startHoming h)
  | sledOpenCoil _ => exact .checked (.ite h.set.set.frame.discOut h)
  | sledStageHot => exact .next (.ite h (.frame (.ite h.set.report.sledStopped.frame.set.standIn h.set.report)))
  | sledStageCool => exact .next (.ite h.set.sledResume h)
  | coilRmsTrip _ => exact h.execCoilRmsTrip_answers
  | coilOpenShort _ _ => exact .checked (.discOut (.ite h.put h.put))
  | loaderEndSwitch _ _ => exact h.execLoaderEndSwitch_answers
  | loaderTimeout => exact .next (.ite h (.ite h.frame h.set.bump.frame.report.endCartridge.endCartridge))
  | cartridgePull => exact h.execCartridgePull_answers
  | focusClose _ _ _ _ => exact h.execFocusClose_answers
  | focusSweepEnd => exact .next (.ite h (.ite h.frame h.bump.coilsOff.set.frame.discOut))
  | layerJumpTimeout => exact .next (.ite h h.bump.report.startAcquire.frame)
  | trackLoss => exact .next (.ite h h.bump.pulse.breakByGate.set.set.frame)
  | focusLoss => exact .next (.ite h.focusLost h)
  | settleComplete _ => exact h.execSettleComplete_answers
  | seekRequest _ _ => exact .checked (.ite h (.ite (.ite h.trackSeek h.frame) (.ite h.frame h.startSeek)))
  | seekDone _ => exact .next (.ite h.set.set.showSpeed h)
  | writeGateTrip _ _ _ _ _ => exact h.gateTrip.next
  | shockHoldClear => exact h.execShockHoldClear_answers
  | accSample _ _ => exact .checked (.ite h (.ite (.ite h.bump.frame.accFail h.bump.frame) h.accGood))
  | accTimeout => exact .next (.ite h.accFail h)
  | accReinit => exact .next (.ite h.accInit h)
  | defectFlagAssert => exact h.defectOn.next
  | defectFlagRelease => exact .next (.ite h h.set.set.frame)
  | defectHoldOverrun => exact .next (.ite h.set.bump.report h)
  | sampleMissed => exact .next (.ite h.missSample h)
  | laneDisagree _ _ => exact .next (.ite h h.bump.pulse.report.put.put.set.frame.laneHealth)
  | laneLoopbackDone _ _ => exact .checked (.ite h (.ite h.frame.retireLane h.frame.put.laneHealth))
  | shadowRotate => exact .next (.ite h.frame h.frame.set)
  | readAttemptDone _ => exact h.execReadAttemptDone_answers
  | apcUpdate _ _ => exact .next (.ite h.set.set.slopeRef.slopeShow.writeLevels h)
  | apcLockTimeout => exact .next (.ite h.monitorFault h)
  | monitorDeviation => exact .next (.ite h.monitorFault h)
  | laserOverpower => exact .next (.ite h.laserOff.set.set.discOut h)
  | scratchParity _ => exact h.scratchParity.next
  | tempCheck _ => exact h.execTempCheck_answers
  | readCalStart => exact .next (.ite h.frame h)
  | readCalDone _ _ _ _ _ _ => exact h.execReadCalDone_answers
  | opcRun _ _ => exact h.execOpcRun_answers
  | ffFitWindow _ _ _ _ _ => exact .checked (.ite h (.ite h.bump (.rampTo (.bump (.ite h.setInt.set h.setInt.set)))))
  | tempSensorStale _ => exact h.sensorFail.next
  | coreWatchdogExpiry _ _ => exact .checked (.ite h.report.masterReset h)
  | securityWatchdogExpiry => exact .next (.ite h.report.securityReset.frame h)
  | coreWrite _ _ _ => exact .checked (.ite h.crossbar h)
  | mergeDrain => exact .next (.ite h h.drainOldest)
  | deviceReadMatch _ _ => exact h.execDeviceReadMatch_answers
  | drainBarrier _ => exact .checked (.ite h (.ite h.pulse h.pulse.frame))
  | drainTimeout _ _ => exact .checked (.ite h.report.masterReset h)
  | rangePreload _ _ => exact h.rangeStart.checked
  | rangeInvalidate _ _ => exact h.rangeStart.checked
  | rangeLock _ _ => exact h.rangeStart.checked
  | rangeUnlock _ _ => exact h.rangeStart.checked
  | rangeOpDone => exact h.execRangeOpDone_answers
  | l2DataParity _ _ => exact h.execL2DataParity_answers
  | l2TagParity _ => exact h.execL2TagParity_answers
  | mergeParity _ => exact h.execMergeParity_answers
  | parityError _ _ => exact .checked (.ite h.parityRecover h)
  | clusterEncode => exact .next (.tryOpenGate (.encode (.ite h.nextWork h)))
  | signatureDone _ => exact h.execSignatureDone_answers
  | entropyReady => exact .next (.ite h.set.frame h)
  | entropyHealthFail _ => exact h.execEntropyHealthFail_answers
  | sramWindowTimer _ _ => exact .next (.ite h h.endRegionTest.frame.nextRegion.beginRegionTest)
  | poolWindowTimer _ _ _ => exact h.execPoolWindowTimer_answers
  | bbRecordWrite _ _ => exact h.execBbRecordWrite_answers
  | bbSuppressWindowClose _ _ => exact h.execBbSuppressWindowClose_answers
  | gpioWakeEdge _ _ => exact h.execGpioWakeEdge_answers
  | auxSample _ _ => exact .checked (.ite h (h.foldl fun _ _ ht => ht.put))
  | mbFieldWrite _ _ _ _ => exact .checked (.ite (h.p8Access (fun _ ht => ht.fieldBytes)) (.ite h (.ite h.bump
      h.mailboxWrite.fieldBytes)))
  | msixMaskWrite _ => exact h.execMsixMaskWrite_answers
  | linkPowerStateChange _ => exact h.execLinkPowerStateChange_answers
  | supplyRemoved => exact h.burnBroken.bbCut.powerLost.next
  | servoLoopSample _ _ _ _ _ => exact h.execServoLoopSample_answers
  | dsHeartbeatTick => exact .next (.ite h.set h)
  | jtagTapOperation _ _ => exact h.execJtagTapOperation_answers

/-! ## The statements -/

/-- The two registers a power-on sets away from their Reset column are the only ones listed. -/
theorem reset_regs : State.reset.regs = [(regKey .TIME_UNSET 0, 1), (regKey .SLOW_RC 0, 1)] := by decide

theorem reset_regsOk : State.reset.regsOk := by
  refine ⟨by decide, fun e he => ?_⟩
  simp only [reset_regs, List.mem_cons, List.not_mem_nil, or_false] at he
  rcases he with rfl | rfl
  · exact ⟨.TIME_UNSET, 0, rfl, by decide, by decide⟩
  · exact ⟨.SLOW_RC, 0, rfl, by decide, by decide⟩

theorem reset_memOk : State.reset.memOk := by
  unfold State.memOk
  decide

/-- A register that a power-on does not set reads its Reset column (00 R22). -/
theorem reset_get {n : RegName} (i : Nat) (ht : n ≠ .TIME_UNSET) (hs : n ≠ .SLOW_RC) :
    State.reset.get n i = Reg.reset ⟨n, i⟩ := by
  have kt : regKey n i ≠ regKey .TIME_UNSET 0 := regKey_ne fun e => ht e.1
  have ks : regKey n i ≠ regKey .SLOW_RC 0 := regKey_ne fun e => hs e.1
  simp [State.get_eq, regGet, reset_regs, Map.get, kt, ks]

/-- Settles O6: the table lists TIME_UNSET and SLOW_RC alone, and every other register reads its Reset column. -/
theorem resetIsCanonical : Obligations.ResetIsCanonical :=
  ⟨reset_regsOk, reset_memOk, rfl, by decide, by decide, fun _ i h => reset_get i h.1 h.2, rfl, by decide⟩

/-- A step takes the first waiting command off the queue, or lets time pass; of the rest of the state it keeps what
`Keeps` says. -/
theorem step_keeps {s t : State} (e : step s = .next t) : Keeps { s with pending := s.pending.tail } t := by
  unfold step at e
  split at e
  next hp =>
    cases e
    obtain ⟨hq, hr, hh, hl⟩ := (Keeps.refl s).tick
    exact ⟨hq.trans (by simp [hp]), hr, hh, hl⟩
  next c rest hp =>
    simp only [hp, List.tail_cons]
    exact exec_answers (.refl _) c t e

/-- Settles O4: a command answers a state that keeps the table canonical (`exec_answers`), and so does the passing of
time (`Keeps.tick`). -/
theorem stepsKeepRegistersCanonical : Obligations.StepsKeepRegistersCanonical := fun _ _ h e => (step_keeps e).regs h

end Sys2Proof.Machine
end

section
/-! SUPPORT. The die-to-die link (01 R42-R45): what the end of a command leaves as it was, what the work after a write
cut short leaves of the link and the pool, the drive die on its own, a disc taken out of service. -/

namespace Sys2Proof.Machine

/-! ## The end of a command -/

/-- The registers that the end of a command can move: those of reports and notices, and the count of granules poisoned
as the entries before its completion drain (14 R633, R643). -/
def endRegs : List RegName := .POISON_SET :: bookRegs

/-- `s` is `r` as far as the end of a command reaches: its completion entry, messages, drained core writes and the
queue pairs change, the disc, the burst, the keys and the power state do not. -/
structure EndKeeps (r s : State) : Prop where
  pw : s.pw = r.pw
  md : s.md = r.md
  bu : s.bu = r.bu
  sec : s.sec = r.sec
  get : RegsKept endRegs r s

namespace EndKeeps

theorem refl (s : State) : EndKeeps s s := ⟨rfl, rfl, rfl, rfl, fun _ _ _ => rfl⟩

section
variable {r s t : State} (h : EndKeeps r s)
include h

theorem reg {n : RegName} (hn : n ∉ endRegs := by decide) : s.reg n = r.reg n := h.get _ _ hn

/-- A state with the registers, the power state, the disc, the burst and the keys of `s`. -/
theorem same (hr : t.regs = s.regs := by rfl) (hp : t.pw = s.pw := by rfl) (hm : t.md = s.md := by rfl)
    (hb : t.bu = s.bu := by rfl) (hs : t.sec = s.sec := by rfl) : EndKeeps r t where
  pw := hp.trans h.pw
  md := hm.trans h.md
  bu := hb.trans h.bu
  sec := hs.trans h.sec
  get n i hn := by
    rw [State.get_eq, hr]
    exact h.get n i hn

theorem told (ht : Told bookRegs s t) : EndKeeps r t := by
  obtain ⟨⟨_, _, _, _, _, _, rfl⟩, hk, -, -⟩ := ht
  exact ⟨h.pw, h.md, h.bu, h.sec, fun n i hn => (hk n i (List.not_mem_of_not_mem_cons hn)).trans (h.get n i hn)⟩

theorem ite {c : Prop} [Decidable c] (g : EndKeeps r t) : EndKeeps r (if c then s else t) := by
  split
  · exact h
  · exact g

theorem foldl {α : Type} {f : State → α → State} {l : List α} (hf : ∀ t a, EndKeeps r t → EndKeeps r (f t a)) :
    EndKeeps r (l.foldl f s) := List.foldlRecOn l f h fun t ht a _ => hf t a ht

theorem pulse {code v : Nat} : EndKeeps r (s.pulse code v) := h.told (pulse_told _ _ _)

theorem report {code obj val second : Nat} : EndKeeps r (s.report code obj val second) :=
  h.told (report_told _ _ _ _ _)

theorem hostWrite {a : Nat} {bs : List Byte} : EndKeeps r (s.hostWrite a bs) := h.told (hostWrite_told _ _ _)

theorem msixSend {v : Nat} : EndKeeps r (s.msixSend v) := h.told (msixSend_told _ _)

/-! ### Core writes drain before the entry (14 R629, R633) -/

theorem poisonGranule {g : Nat} : EndKeeps r (s.poisonGranule g) := by
  unfold State.poisonGranule
  have hp : EndKeeps r ({ s with lm.poison := insertSorted g s.lm.poison, lm.ledger := insertSorted g s.lm.ledger }.bump
      .POISON_SET) :=
    ⟨h.pw, h.md, h.bu, h.sec, fun n i hn => (regGet_regPut_name _ _ _ _ (List.ne_of_not_mem_cons hn)).trans
      (h.get n i hn)⟩
  exact h.ite hp.pulse

theorem l2Fill {line : Nat} {locked : Bool} : EndKeeps r (s.l2Fill line locked) := by
  unfold State.l2Fill
  split
  · exact h
  · extract_lets
    split
    · exact h.same
    · split
      · exact h
      · exact h.same.pulse

theorem l2Refill {line : Nat} : EndKeeps r (s.l2Refill line) := by
  unfold State.l2Refill
  split
  · exact h
  · split
    · exact h
    · exact h.same

/-- A core write that finds room changes the merging buffer and the L2 alone. -/
theorem mergeTake {core addr : Nat} {bs : List Byte} {t : State} (e : s.mergeTake core addr bs = some t) :
    EndKeeps r t := by
  unfold State.mergeTake at e
  extract_lets _ hit at e
  have hhit (u : State) (hu : EndKeeps r u) : EndKeeps r (hit u) := by
    simp only [hit]
    split
    · exact hu
    · split
      · exact hu
      · exact hu.same
  split at e
  · cases e
  · split at e
    · cases e
      exact hhit _ h.same
    · split at e
      · cases e
        exact hhit _ h.same
      · cases e

theorem unstall {l : List (Nat × Nat × List Byte)} : EndKeeps r (s.unstall l) := by
  induction l generalizing s with
  | nil => exact h.same
  | cons w ws ih =>
    unfold State.unstall
    split
    next e => exact ih (h.mergeTake e)
    next => exact h.same

theorem readsReturn {id : Nat} : EndKeeps r (s.readsReturn id) := h.same.foldl fun _ _ ht => ht.same

theorem rangeFills : EndKeeps r s.rangeFills := by
  unfold State.rangeFills
  split
  · exact h
  · exact h.same.foldl fun _ _ ht => .ite ht.l2Refill ht.l2Fill

theorem drainOldest : EndKeeps r s.drainOldest := by
  unfold State.drainOldest
  split
  · exact h
  · extract_lets _ s1 _ s2 s3 s4
    have h2 : EndKeeps r s2 := .ite h.same h.same
    have h3 : EndKeeps r s3 := .ite h2.poisonGranule h2
    have h4 : EndKeeps r s4 := h3.readsReturn.same
    exact h4.unstall.rangeFills

theorem drainOld {n : Nat} : EndKeeps r (s.drainOld n) := by
  induction n generalizing s with
  | zero => exact h
  | succ n ih => exact ih h.drainOldest

theorem drainFirst : EndKeeps r s.drainFirst := h.pulse.drainOld

/-! ### The entry, the ABORTs that waited, QP_HALTED (05 R184, R210, R215) -/

theorem signal {qp : Nat} : EndKeeps r (s.signal qp) := by
  unfold State.signal
  split
  · exact h
  · exact .ite h.same.msixSend h.same

theorem writeCqe {qp tag status result : Nat} {coarse atOnce : Bool} :
    EndKeeps r (s.writeCqe qp tag status result coarse atOnce) := by
  unfold State.writeCqe
  split
  · exact h
  · exact .ite h.same.pulse.hostWrite.signal h.same.pulse.hostWrite

theorem haltEntry {qp : Nat} : EndKeeps r (s.haltEntry qp) := by
  unfold State.haltEntry
  split
  · exact h
  · split
    · exact h
    · split
      · exact h
      · extract_lets s1
        have h1 : EndKeeps r s1 := h.drainFirst.writeCqe
        split
        · exact h1.same
        · exact h1.same

theorem endOne {c : QCmd} {status result : Nat} {coarse : Bool} : EndKeeps r (s.endOne c status result coarse) :=
  .ite h.drainFirst.same.writeCqe.pulse h.same

theorem endAborts {outcome n : Nat} {l : List (Nat × Nat)} : EndKeeps r (s.endAborts outcome l n) := by
  induction n generalizing s outcome l with
  | zero => exact h
  | succ n ih =>
    refine h.foldl fun t k ht => ?_
    split
    · exact ht
    · exact .ite ht (ih ht.endOne.pulse).haltEntry

theorem finishWith {c : QCmd} {status count detail : Nat} : EndKeeps r (s.finishWith c status count detail) :=
  .ite h h.endOne.endAborts.haltEntry

end

end EndKeeps

/-! ## The work that follows a write cut short -/

/-- The registers of the laser's four currents (12 R534). -/
def laserCurrents : List RegName := [.LAS_I_BIAS, .LAS_I_COOL, .LAS_I_PEAK, .LAS_I_OD]

/-- No current flows in the laser. -/
def State.LaserDark (s : State) : Prop := ∀ n ∈ laserCurrents, s.reg n = 0

namespace State.LaserDark

variable {s : State} (h : s.LaserDark)
include h

theorem put {n : RegName} {i v : Nat} (hn : n ∉ laserCurrents) : (s.put n i v).LaserDark :=
  fun k hk => (regGet_regPut_name _ _ _ _ (ne_of_mem_of_not_mem hk hn)).trans (h k hk)

theorem zero {n : RegName} : (s.set n 0).LaserDark := fun k hk => by
  by_cases e : k = n
  · subst e
    simp
  · exact (regGet_regPut_name _ _ _ _ e).trans (h k hk)

end State.LaserDark

theorem EndKeeps.dark {s t : State} (g : EndKeeps s t) (h : s.LaserDark) : t.LaserDark := fun n hn =>
  have hk : ∀ n ∈ laserCurrents, n ∉ endRegs := by decide
  (g.reg (hk n hn)).trans (h n hn)

theorem laserOff_dark (s : State) : s.laserOff.LaserDark := by
  intro n hn
  simp only [laserCurrents, List.mem_cons, List.not_mem_nil, or_false] at hn
  rcases hn with rfl | rfl | rfl | rfl <;> simp [State.laserOff, State.reg_eq]

/-- `s` has the state of the link and of the pool that `r` has, and no current in the laser where `r` has none (01 R42;
07 R338). -/
structure LinkKeeps (r s : State) : Prop where
  down : s.pw.d2dDown = r.pw.d2dDown
  pool : s.reg .POOL_STATE = r.reg .POOL_STATE
  dark : r.LaserDark → s.LaserDark

namespace LinkKeeps

theorem refl (s : State) : LinkKeeps s s := ⟨rfl, rfl, id⟩

section
variable {r s t : State} (h : LinkKeeps r s)
include h

section
variable {pending : List Instr} {clock time free : Nat} {pw : PowerS} {host : HostS} {q : QueueS} {bb : BlackBoxS}
  {bead : BeadS} {lm : LoomS} {md : MediumS} {bu : BurstS} {sec : SecS} {sp : SpindleS} {sl : SledS} {sv : ServoS}
  {las : LaserS} {ch chV : ChannelS} {rd : List ReadJob} {cal : CalS} {st : SelfTestS} {ca : CacheS} {un : UnitsS}
  {pt : PortS} {tb : TimeS} {tally : Map TallyOpen} {gp : GpioS} {bo : BootS} {tap : TapS}

/-- Every field may change but the registers and the link's own. (Written out, so that unification finds `s` by its
registers.) -/
theorem same (hd : pw.d2dDown = s.pw.d2dDown := by rfl) :
    LinkKeeps r ⟨pending, s.regs, clock, time, free, pw, host, q, bb, bead, lm, md, bu, sec, sp, sl, sv, las, ch, chV,
      rd, cal, st, ca, un, pt, tb, tally, gp, bo, tap⟩ :=
  ⟨hd.trans h.down, h.pool, h.dark⟩

end

theorem ends (g : EndKeeps s t) : LinkKeeps r t where
  down := (congrArg _ g.pw).trans h.down
  pool := g.reg.trans h.pool
  dark hr := g.dark (h.dark hr)

theorem put {n : RegName} {i v : Nat} (hn : n ∉ RegName.POOL_STATE :: laserCurrents := by decide) :
    LinkKeeps r (s.put n i v) where
  down := h.down
  pool := (regGet_regPut_name _ _ _ _ (List.ne_of_not_mem_cons hn).symm).trans h.pool
  dark hr := (h.dark hr).put (List.not_mem_of_not_mem_cons hn)

theorem set {n : RegName} {v : Nat} (hn : n ∉ RegName.POOL_STATE :: laserCurrents := by decide) :
    LinkKeeps r (s.set n v) := h.put hn

theorem bump {n : RegName} (hn : n ∉ RegName.POOL_STATE :: laserCurrents := by decide) : LinkKeeps r (s.bump n) :=
  h.put hn

/-- A register set to zero, a laser current among them. -/
theorem zero {n : RegName} (hn : n ≠ .POOL_STATE := by decide) : LinkKeeps r (s.set n 0) where
  down := h.down
  pool := (regGet_regPut_name _ _ _ _ hn.symm).trans h.pool
  dark hr := (h.dark hr).zero

theorem ite {c : Prop} [Decidable c] (g : LinkKeeps r t) : LinkKeeps r (if c then s else t) := by
  split
  · exact h
  · exact g

theorem foldl {α : Type} {f : State → α → State} {l : List α} (hf : ∀ t a, LinkKeeps r t → LinkKeeps r (f t a)) :
    LinkKeeps r (l.foldl f s) := List.foldlRecOn l f h fun t ht a _ => hf t a ht

theorem pulse {code v : Nat} : LinkKeeps r (s.pulse code v) := h.ends (EndKeeps.refl s).pulse

theorem report {code obj val second : Nat} : LinkKeeps r (s.report code obj val second) :=
  h.ends (EndKeeps.refl s).report

theorem finishWith {c : QCmd} {status count detail : Nat} : LinkKeeps r (s.finishWith c status count detail) :=
  h.ends (EndKeeps.refl s).finishWith

/-! ### The burst's next block (01 R37, R38; 02 R79) -/

theorem skipRec {b : Nat} {x : Rec} : LinkKeeps r (s.skipRec b x) := by
  unfold State.skipRec
  extract_lets s1
  have h1 : LinkKeeps r s1 := .ite h h.bump.pulse
  exact h1.same.put.put.put.put.report

theorem skipBad {b : Nat} {l : List Rec} : LinkKeeps r (s.skipBad b l).1 := by
  induction l generalizing s with
  | nil => exact h
  | cons x xs ih =>
    unfold State.skipBad
    split
    · exact h
    · exact ih h.skipRec

theorem assembleOne {b o n : Nat} {recs : List Rec} : LinkKeeps r (s.assembleOne b o n recs).2 := by
  unfold State.assembleOne
  extract_lets
  split
  · exact h.put.pulse
  · exact h

theorem assemble {b o z n : Nat} {recs : List Rec} : LinkKeeps r (s.assemble b o z recs n).2 := by
  induction n generalizing s o with
  | zero => exact h
  | succ n ih =>
    unfold State.assemble
    split
    · exact h
    · exact ih h.assembleOne

theorem startBlock {b : Nat} {recs : List Rec} {layer head : Nat} :
    LinkKeeps r (s.startBlock b recs layer head) := by
  unfold State.startBlock
  dsimp only
  exact h.assemble.same

theorem userFull : LinkKeeps r s.userFull := .foldl (.ite h h.set.report) fun _ _ ht => ht.finishWith

theorem nextBlock {n : Nat} : LinkKeeps r (s.nextBlock n) := by
  induction n generalizing s with
  | zero => exact h
  | succ n ih =>
    unfold State.nextBlock
    split
    · exact h
    next b l _ _ =>
      have hu : LinkKeeps r (s.skipBad b l).1.checkFlushes := h.skipBad.foldl fun _ _ ht => ht.finishWith
      dsimp only
      split
      · exact ih hu
      · split
        · exact ih hu
        · split
          · exact .ite hu.startBlock hu
          · exact hu.userFull
          · exact hu

/-! ### The cluster cut short, the end of a block (02 R80, R89) -/

theorem burn {a : Nat} {c : Cluster} : LinkKeeps r (s.burn a c) := by
  unfold State.burn
  split
  · exact h
  · exact h.same

theorem advance {k : Block} {a : Nat} : LinkKeeps r (s.advance k a) := by
  unfold State.advance
  extract_lets
  split <;> exact h.same

theorem breakCluster : LinkKeeps r s.breakCluster := by
  unfold State.breakCluster
  split
  · exact h.same
  · split
    · exact h.same
    · exact h.burn.advance.same.pulse.report

theorem orphan {k : Block} : LinkKeeps r (s.orphan k) := by
  unfold State.orphan
  split
  · exact h.same
  · exact h

theorem layerEnded {k : Block} : LinkKeeps r (s.layerEnded k) := h.orphan.same

theorem restartBlock {k : Block} : LinkKeeps r (s.restartBlock k) := by
  unfold State.restartBlock
  split
  · exact h.same.userFull
  · exact .ite h h.same

/-! ### A burst triggered again, the end of a session (01 R37-R41; 02 R82) -/

theorem cancelEntry : LinkKeeps r s.cancelEntry := by
  unfold State.cancelEntry
  split
  · exact h
  · extract_lets _ _ _ s1
    have h1 : LinkKeeps r s1 := h.same.set.same.pulse
    split
    · exact h1.same
    · exact h1

theorem sourceFires {cause : Nat} : LinkKeeps r (s.sourceFires cause) := by
  unfold State.sourceFires
  split
  · exact .ite h.same h
  · split
    · exact h.set
    · exact h.set
    · exact h.set
    · exact h

theorem beginWake {cause : Nat} : LinkKeeps r (s.beginWake cause) := by
  have hw : LinkKeeps r (if s.pw.waking.isSome then s
      else if s.pw.mode == .hibernate && s.pw.pfail.isSome then
        { s with pw.wakeLater := s.pw.wakeLater.or (some cause) }
      else (({ s with pw.waking := some s.pw.mode }.set .WAKE_CAUSE cause).set .WAKE_FROM s.pw.mode.code).pulse
        Ev.wakes) :=
    .ite h (.ite h.same h.same.set.set.pulse)
  unfold State.beginWake
  split
  · exact hw
  · exact hw
  · exact hw
  · exact h

theorem wakeOn {cause : Nat} {hostWrite : Bool} : LinkKeeps r (s.wakeOn cause hostWrite) :=
  .ite h.sourceFires.beginWake h.sourceFires

theorem arrive {cause : Nat} {hostWrite : Bool} : LinkKeeps r (s.arrive cause hostWrite) := by
  unfold State.arrive
  split
  · exact h.wakeOn
  · exact .ite h.sourceFires (.ite h.cancelEntry.wakeOn h.cancelEntry.sourceFires)

theorem openSession : LinkKeeps r s.openSession := by
  unfold State.openSession
  split
  · exact h
  · exact h.same

theorem trigger {bobs : List Nat} {mark : Bool} {flush : Option (Nat × Nat)} :
    LinkKeeps r (s.trigger bobs mark flush) :=
  .ite (.ite h.same h) (.ite h.same (.ite h.arrive h.arrive.openSession.same.pulse.same))

theorem updateHealth : LinkKeeps r s.updateHealth := .ite h h.set.report

theorem finishMount : LinkKeeps r s.finishMount := by
  unfold State.finishMount
  extract_lets _ _ _ _ s1 s2 s3 s4
  have h1 : LinkKeeps r s1 := h.same.set.updateHealth
  have h2 : LinkKeeps r s2 := .ite h1.report h1.report
  have h3 : LinkKeeps r s3 := .ite h2.report h2
  have h4 : LinkKeeps r s4 := h3.foldl fun _ _ ht => ht.finishWith
  exact .ite h4 h4.same.trigger

theorem sessionDone {e : Session} : LinkKeeps r (s.sessionDone e) :=
  .ite h.same.report.finishMount (.ite h.same.report.same.trigger h.same.report)

theorem startSystem {kind : BlockKind} {e : Session} : LinkKeeps r (s.startSystem kind e) := by
  unfold State.startSystem
  split
  · exact h
  · exact h.same

theorem nextWork : LinkKeeps r s.nextWork := by
  unfold State.nextWork
  split
  · split
    · exact h
    · split
      · exact h.layerEnded
      · exact h.same.bump
      · exact h.same
  · exact h.restartBlock
  · exact .ite h h.startSystem
  · split
    · exact h.same
    · split
      · exact h
      · split
        · split
          · exact h.startSystem
          · exact h.sessionDone
        · exact .ite (.ite h.nextBlock h.nextBlock.same) h
  · exact h

theorem cutWrite : LinkKeeps r s.cutWrite := h.breakCluster.nextWork

/-! ### The drive die on its own (01 R42; 09 R436; 10 R488) -/

theorem laserOff : LinkKeeps r s.laserOff := .zero (.zero (.zero (.zero (.zero (.ite h h.set)))))

theorem coilsOff : LinkKeeps r s.coilsOff := by
  unfold State.coilsOff
  exact (h.foldl fun _ _ ht => ht.put).same

theorem servoOff : LinkKeeps r s.servoOff := by
  unfold State.servoOff
  extract_lets s1 s2
  have h1 : LinkKeeps r s1 := .ite h h.set
  have h2 : LinkKeeps r s2 := h1.set.set.set
  exact h2.coilsOff.same

theorem spState {st : Nat} : LinkKeeps r (s.spState st) := by
  unfold State.spState
  extract_lets _ _ _ s1 _ s2
  have h1 : LinkKeeps r s1 := h.set.set.same
  have h2 : LinkKeeps r s2 := .ite h1.same h1
  exact .ite h2.servoOff.laserOff h2

theorem spFloat : LinkKeeps r s.spFloat := by
  unfold State.spFloat
  exact h.spState.set.set.same

theorem sledStopped : LinkKeeps r s.sledStopped := by
  unfold State.sledStopped
  exact h.set.same

theorem sledHold : LinkKeeps r s.sledHold := by
  have h1 : LinkKeeps r (if s.sl.target.isSome || s.sl.homing.isSome then
      { s.sledStopped with sl.homing := none }.set .SL_STATE 0 else s) := .ite h.sledStopped.same.set h
  exact h1.same.same

theorem driveAlone : LinkKeeps r s.driveAlone := h.laserOff.coilsOff.spFloat.sledHold

end

end LinkKeeps

/-! ## The drive stopped (01 R42) -/

theorem driveAlone_dark (s : State) : s.driveAlone.LaserDark :=
  (LinkKeeps.refl s.laserOff).coilsOff.spFloat.sledHold.dark (laserOff_dark s)

/-- The laser dark, the coils at zero demand, focus and tracking open, the gate closed (01 R42). -/
structure State.DriveStopped (s : State) : Prop where
  gate : s.bu.gate = false
  dark : s.LaserDark
  coils : ∀ k, k < 3 → s.get .CL_DEMAND k = 0
  focus : s.reg .FOCUS_LOCK = 0
  track : s.reg .TRACK_LOCK = 0

theorem coilsOff_demand (s : State) {k : Nat} (hk : k < 3) : s.coilsOff.get .CL_DEMAND k = 0 := by
  have hk : k = 0 ∨ k = 1 ∨ k = 2 := by omega
  rcases hk with rfl | rfl | rfl <;> simp [State.coilsOff, List.range_succ, State.get_eq, regGet_regPut_ne]

@[simp] theorem coilsOff_get (s : State) {n : RegName} (i : Nat) (hn : n ≠ .CL_DEMAND) :
    regGet s.coilsOff.regs n i = regGet s.regs n i := by
  simp [State.coilsOff, List.range_succ, hn]

/-- Focus and tracking open with the loops (11 R493, R498). -/
theorem servoOff_lock (s : State) {n : RegName} (hn : n = .FOCUS_LOCK ∨ n = .TRACK_LOCK) : s.servoOff.reg n = 0 := by
  unfold State.servoOff
  extract_lets s1 s2
  have h2 : s2.reg n = 0 := by rcases hn with rfl | rfl <;> simp [s2, State.reg_eq]
  have hc : n ≠ .CL_DEMAND := by rcases hn with rfl | rfl <;> decide
  exact (coilsOff_get s2 _ hc).trans h2

theorem servoOff_stops {s : State} (h : s.LaserDark) : s.servoOff.DriveStopped where
  gate := rfl
  dark := (LinkKeeps.refl s).servoOff.dark h
  coils k hk := by
    unfold State.servoOff
    extract_lets s1 s2
    exact coilsOff_demand s2 hk
  focus := servoOff_lock _ (.inl rfl)
  track := servoOff_lock _ (.inr rfl)

namespace State.DriveStopped

variable {s t : State} (h : s.DriveStopped)
include h

theorem ends (g : EndKeeps s t) : t.DriveStopped where
  gate := (congrArg _ g.bu).trans h.gate
  dark := g.dark h.dark
  coils k hk := (g.get _ _ (by decide)).trans (h.coils k hk)
  focus := g.reg.trans h.focus
  track := g.reg.trans h.track

theorem setPool {v : Nat} : (s.set .POOL_STATE v).DriveStopped where
  gate := h.gate
  dark := h.dark.put (by decide)
  coils k hk := (regGet_regPut_name _ _ _ _ (by decide)).trans (h.coils k hk)
  focus := (regGet_regPut_name _ _ _ _ (by decide)).trans h.focus
  track := (regGet_regPut_name _ _ _ _ (by decide)).trans h.track

end State.DriveStopped

/-! ## The loss of the link (01 R42, R43; 07 R338) -/

/-- The state in which the drive die stands on its own, before the granules in flight are poisoned. -/
def State.lossStopped (s : State) : State :=
  ((({ s with pw.d2dDown := true } : State).stopCal.cutWrite).driveAlone).servoOff

/-- The granules being written are poisoned while the pool takes writes. -/
def State.lossPoisoned (s : State) (fl : List Nat) : State :=
  if s.lossStopped.poolUp then fl.foldl State.poisonGranule s.lossStopped else s.lossStopped

/-- A loss in Run or Doze: the drive stops, the granules in flight are poisoned, a pool in full refresh goes to MR4
polling. -/
theorem d2dLoss_eq {s : State} (fl : List Nat) (hm : s.pw.mode = .run ∨ s.pw.mode = .doze) (hd : s.pw.d2dDown = false) :
    s.d2dLoss fl = if (s.lossPoisoned fl).reg .POOL_STATE = 1 then
      ((s.lossPoisoned fl).set .POOL_STATE 2).report Code.refreshPolling else s.lossPoisoned fl := by
  have hr : s.coresRun = true := by simpa [State.coresRun] using hm
  rw [State.d2dLoss, if_neg (by simp [hd, hr])]
  rfl

theorem lossPoisoned_ends (s : State) (fl : List Nat) : EndKeeps s.lossStopped (s.lossPoisoned fl) :=
  .ite ((EndKeeps.refl _).foldl fun _ _ ht => ht.poisonGranule) (.refl _)

theorem lossPoisoned_stopped (s : State) (fl : List Nat) : (s.lossPoisoned fl).DriveStopped :=
  (servoOff_stops (driveAlone_dark _)).ends (lossPoisoned_ends s fl)

theorem lossPoisoned_link (s : State) (fl : List Nat) : LinkKeeps { s with pw.d2dDown := true } (s.lossPoisoned fl) :=
  (LinkKeeps.refl { s with pw.d2dDown := true }).same.cutWrite.driveAlone.servoOff.ends (lossPoisoned_ends s fl)

theorem d2dLoss_stopped {s : State} (fl : List Nat) (hm : s.pw.mode = .run ∨ s.pw.mode = .doze)
    (hd : s.pw.d2dDown = false) : (s.d2dLoss fl).DriveStopped := by
  have h := lossPoisoned_stopped s fl
  rw [d2dLoss_eq fl hm hd]
  split
  · exact h.setPool.ends (EndKeeps.refl _).report
  · exact h

theorem d2dLoss_down {s : State} (fl : List Nat) (hm : s.pw.mode = .run ∨ s.pw.mode = .doze)
    (hd : s.pw.d2dDown = false) : (s.d2dLoss fl).pw.d2dDown = true := by
  have h := (lossPoisoned_link s fl).down
  rw [d2dLoss_eq fl hm hd]
  split
  · simpa using h
  · exact h

/-- A pool in use goes under MR4 polling; one in any other state stays as it is. -/
theorem d2dLoss_pool {s : State} (fl : List Nat) (hm : s.pw.mode = .run ∨ s.pw.mode = .doze)
    (hd : s.pw.d2dDown = false) :
    (s.d2dLoss fl).reg .POOL_STATE = if s.reg .POOL_STATE = 1 then 2 else s.reg .POOL_STATE := by
  have h : (s.lossPoisoned fl).reg .POOL_STATE = s.reg .POOL_STATE := (lossPoisoned_link s fl).pool
  rw [d2dLoss_eq fl hm hd, h]
  split
  · exact (EndKeeps.refl _).report.reg.trans (State.set_reg _ _ _)
  · exact h

/-! ## The retraining succeeds (01 R44; 07 R338; 10 R460) -/

/-- The registers of the sled's position and of its copy in RETAIN. -/
def posRegs : List RegName := [.SL_POS_VALID, .SL_STATE, .POS_SLIPS, .RETAIN_POS, .RETAIN_VALID]

/-- The registers that a retraining can move. -/
def retrainRegs : List RegName :=
  ([.POOL_STATE, .SL_POS_VALID, .SL_STATE, .SL_PROVISIONAL, .RETAIN_POS, .RETAIN_VALID, .POS_SLIPS] : List RegName) ++
    bookRegs

theorem Told.mono {l l' : List RegName} {s t : State} (h : Told l s t) (hl : l ⊆ l') : Told l' s t := by
  obtain ⟨hx, hk, hw, hm⟩ := h
  exact ⟨hx, fun n i hn => hk n i fun e => hn (hl e), hw, hm⟩

theorem OnlyRegs.ite {l : List RegName} {r s t : State} {c : Prop} [Decidable c] (h : OnlyRegs l r s)
    (g : OnlyRegs l r t) : OnlyRegs l r (if c then s else t) := by
  split
  · exact h
  · exact g

theorem OnlyRegs.set {l : List RegName} {r s : State} (h : OnlyRegs l r s) {n : RegName} {v : Nat} (hn : n ∈ l) :
    OnlyRegs l r (s.set n v) := h.trans (.put _ _ _ _ hn)

theorem posLost_only (s : State) (count : Bool) : OnlyRegs posRegs s (s.posLost count) := by
  unfold State.posLost
  extract_lets s1 s2
  have h1 : OnlyRegs posRegs s s1 := (OnlyRegs.refl _ s).set (by decide)
  have h2 : OnlyRegs posRegs s s2 := .ite (h1.set (by decide)) h1
  exact .ite (h2.trans (.put _ _ _ _ (by decide))) h2

theorem retainPos_only (s : State) : OnlyRegs posRegs s s.retainPos :=
  .ite (((OnlyRegs.refl _ s).set (by decide)).set (by decide)) (.refl _ s)

theorem posLost_valid (s : State) (count : Bool) : (s.posLost count).reg .SL_POS_VALID = 0 := by
  unfold State.posLost
  extract_lets s1 s2
  have h2 : s2.reg .SL_POS_VALID = 0 := by
    unfold s2 s1
    split <;> simp [State.reg_eq]
  rw [State.reg_eq] at h2
  split
  · simp [State.reg_eq, h2]
  · exact h2

theorem retainPos_valid (s : State) : s.retainPos.reg .SL_POS_VALID = s.reg .SL_POS_VALID := by
  unfold State.retainPos
  split <;> simp [State.reg_eq]

/-- The link up again, the pool back in full refresh, the retraining reported; the sled's position is still to be
compared. -/
def State.retrained (s : State) : State :=
  let t : State := { s with pw.d2dDown := false, st.d2dUntil := none }
  (if t.reg .POOL_STATE = 2 then t.set .POOL_STATE 1 else t).report Code.d2dRetrained

theorem retrained_told (s : State) :
    Told (.POOL_STATE :: bookRegs) { s with pw.d2dDown := false, st.d2dUntil := none } s.retrained := by
  have hp : OnlyRegs (.POOL_STATE :: bookRegs) { s with pw.d2dDown := false, st.d2dUntil := none }
      (if s.reg .POOL_STATE = 2 then ({ s with pw.d2dDown := false, st.d2dUntil := none } : State).set .POOL_STATE 1
        else { s with pw.d2dDown := false, st.d2dUntil := none }) :=
    .ite ((OnlyRegs.refl _ _).set (by decide)) (.refl _ _)
  exact (hp.told fun _ => id).trans ((report_told _ _ _ _ _).mono (by decide))

theorem retrained_get (s : State) {n : RegName} (i : Nat) (hn : n ∉ RegName.POOL_STATE :: bookRegs) :
    s.retrained.get n i = s.get n i := by
  obtain ⟨-, hk, -⟩ := retrained_told s
  exact hk n i hn

theorem retrained_pool (s : State) :
    s.retrained.reg .POOL_STATE = if s.reg .POOL_STATE = 2 then 1 else s.reg .POOL_STATE := by
  have hr (t : State) : (t.report Code.d2dRetrained).reg .POOL_STATE = t.reg .POOL_STATE := (EndKeeps.refl t).report.reg
  refine (hr _).trans ?_
  rw [apply_ite (fun t : State => t.reg .POOL_STATE), State.set_reg]
  rfl

theorem retrained_ustep (s : State) : s.retrained.ustepIndex = s.ustepIndex := by
  rw [State.ustepIndex, State.ustepIndex, State.getInt, State.getInt, retrained_get s 0 (by decide)]

theorem retrained_valid (s : State) : s.retrained.reg .SL_POS_VALID = s.reg .SL_POS_VALID :=
  retrained_get s _ (by decide)

/-- The position is lost where it was valid and the two dies' microstep indices differ (10 R460). -/
theorem d2dUp_eq (s : State) (u : Nat) :
    s.d2dUp u = if u ≠ s.ustepIndex ∧ s.on .SL_POS_VALID = true then (s.retrained.posLost true).retainPos
      else s.retrained := by
  rw [← retrained_ustep, State.on, ← retrained_valid]
  rfl

theorem d2dUp_only (s : State) (u : Nat) : OnlyRegs posRegs s.retrained (s.d2dUp u) := by
  rw [d2dUp_eq]
  exact .ite ((posLost_only _ _).trans (retainPos_only _)) (.refl _ _)

theorem d2dUp_told (s : State) (u : Nat) :
    Told retrainRegs { s with pw.d2dDown := false, st.d2dUntil := none } (s.d2dUp u) :=
  ((retrained_told s).mono (by decide)).trans ((d2dUp_only s u).told (by decide))

theorem d2dUp_pool (s : State) (u : Nat) :
    (s.d2dUp u).reg .POOL_STATE = if s.reg .POOL_STATE = 2 then 1 else s.reg .POOL_STATE := by
  obtain ⟨-, hk, -⟩ := d2dUp_only s u
  exact (hk _ _ (by decide)).trans (retrained_pool s)

theorem d2dUp_valid_of_eq (s : State) : (s.d2dUp s.ustepIndex).reg .SL_POS_VALID = s.reg .SL_POS_VALID := by
  rw [d2dUp_eq, if_neg fun h => h.1 rfl, retrained_valid]

theorem d2dUp_valid_of_ne {s : State} {u : Nat} (hu : u ≠ s.ustepIndex) : (s.d2dUp u).on .SL_POS_VALID = false := by
  rw [d2dUp_eq]
  split
  · rw [State.on, retainPos_valid, posLost_valid]
    rfl
  next h =>
    rw [State.on, retrained_valid]
    simpa [hu, State.on] using h

/-! ## The disc leaves service (01 R45) -/

/-- `s` has the keys of `r`, the cartridge where `r` has one, and the link's retraining failed where it has in `r`. -/
structure OutKeeps (r s : State) : Prop where
  failed : s.pw.d2dFailed = r.pw.d2dFailed
  sec : s.sec = r.sec
  cart : s.md.cart.isSome = r.md.cart.isSome

namespace OutKeeps

theorem refl (s : State) : OutKeeps s s := ⟨rfl, rfl, rfl⟩

section
variable {r s t : State} (h : OutKeeps r s)
include h

theorem same (hf : t.pw.d2dFailed = s.pw.d2dFailed := by rfl) (hs : t.sec = s.sec := by rfl)
    (hc : t.md.cart.isSome = s.md.cart.isSome := by rfl) : OutKeeps r t :=
  ⟨hf.trans h.failed, hs.trans h.sec, hc.trans h.cart⟩

theorem ends (g : EndKeeps s t) : OutKeeps r t := h.same (by rw [g.pw]) g.sec (by rw [g.md])

theorem ite {c : Prop} [Decidable c] (g : OutKeeps r t) : OutKeeps r (if c then s else t) := by
  split
  · exact h
  · exact g

theorem burn {a : Nat} {c : Cluster} : OutKeeps r (s.burn a c) := by
  unfold State.burn
  split
  · exact h
  next e => exact h.same (hc := by simp [e])

theorem advance {k : Block} {a : Nat} : OutKeeps r (s.advance k a) := by
  unfold State.advance
  extract_lets
  split <;> exact h.same

theorem dropBlock : OutKeeps r s.dropBlock := by
  unfold State.dropBlock
  split
  · exact h
  · extract_lets _ s1 s2
    have h1 : OutKeeps r s1 := by
      unfold s1
      split
      · exact h
      · exact h.burn.advance
    have h2 : OutKeeps r s2 := by
      unfold s2
      split
      · exact h1.same
      · exact h1
    exact h2.same

theorem abandonBlock : OutKeeps r s.abandonBlock := by
  unfold State.abandonBlock
  split
  · exact h
  · extract_lets s1 _ s2
    have h1 : OutKeeps r s1 := h.dropBlock
    have h2 : OutKeeps r s2 := h1.same
    exact .ite (h2.ends (EndKeeps.refl _).pulse.report) h2

theorem reportDiscOut {code obj val : Nat} : OutKeeps r (s.reportDiscOut code obj val) := by
  unfold State.reportDiscOut State.updateHealth
  extract_lets s1 _
  have h1 : OutKeeps r s1 := h.ends (EndKeeps.refl _).report
  have h2 : OutKeeps r (((s1.set .DISC_SERVICE 3).set .OOS_CODE code).report Code.discOutOfService code) :=
    OutKeeps.ends h1.same (EndKeeps.refl ((s1.set .DISC_SERVICE 3).set .OOS_CODE code)).report
  exact .ite h2 (OutKeeps.ends h2.same (EndKeeps.refl (State.set _ _ _)).report)

end

end OutKeeps

theorem dropBlock_block (s : State) : s.dropBlock.bu.block = none := by
  unfold State.dropBlock
  split
  next h => exact h
  next => rfl

theorem abandonBlock_block (s : State) : s.abandonBlock.bu.block = none := by
  unfold State.abandonBlock
  split
  next h => exact h
  next => split <;> simp [dropBlock_block]

/-- The burst and the block in hand given up, the cause not yet reported. -/
def State.burstEnded (s : State) : State :=
  { s.abandonBlock with bu.active := false, bu.turning := false, bu.redo := none, bu.kept := [] }

theorem discOut_ends (s : State) (code obj val : Nat) :
    EndKeeps (s.burstEnded.reportDiscOut code obj val) (s.discOut code obj val) :=
  (EndKeeps.refl _).foldl fun _ _ ht => ht.finishWith

theorem discOut_keeps (s : State) (code obj val : Nat) : OutKeeps s (s.discOut code obj val) := by
  have h : OutKeeps s s.burstEnded := (OutKeeps.refl s).abandonBlock.same
  exact h.reportDiscOut.ends (discOut_ends s code obj val)

theorem updateHealth_reg (s : State) {n : RegName} (hh : n ≠ .HEALTH_LEVEL) (hn : n ∉ bookRegs) :
    s.updateHealth.reg n = s.reg n := by
  unfold State.updateHealth
  dsimp only
  split
  · rfl
  · simp [State.reg_eq, *]

@[simp] theorem updateHealth_bu (s : State) : s.updateHealth.bu = s.bu := by
  unfold State.updateHealth
  dsimp only
  split <;> simp

theorem reportDiscOut_bu (s : State) (code obj val : Nat) : (s.reportDiscOut code obj val).bu = s.bu := by
  simp [State.reportDiscOut]

theorem reportDiscOut_service (s : State) (code obj val : Nat) :
    (s.reportDiscOut code obj val).reg .DISC_SERVICE = 3 := by
  rw [State.reportDiscOut, updateHealth_reg _ (by decide) (by decide), (EndKeeps.refl _).report.reg]
  exact (regGet_regPut_name _ _ _ _ (by decide)).trans (State.set_reg _ _ _)

theorem reportDiscOut_oosCode (s : State) (code obj val : Nat) :
    (s.reportDiscOut code obj val).reg .OOS_CODE = code % 2 ^ 16 := by
  rw [State.reportDiscOut, updateHealth_reg _ (by decide) (by decide), (EndKeeps.refl _).report.reg, State.set_reg]
  rfl

/-- A disc taken out of service: DISC_SERVICE 3 with its cause, no burst, no block in hand (01 R45). -/
theorem discOut_service (s : State) (code obj val : Nat) : (s.discOut code obj val).reg .DISC_SERVICE = 3 :=
  (discOut_ends s code obj val).reg.trans (reportDiscOut_service _ _ _ _)

theorem discOut_oosCode (s : State) (code obj val : Nat) : (s.discOut code obj val).reg .OOS_CODE = code % 2 ^ 16 :=
  (discOut_ends s code obj val).reg.trans (reportDiscOut_oosCode _ _ _ _)

theorem discOut_bu (s : State) (code obj val : Nat) : (s.discOut code obj val).bu = s.burstEnded.bu :=
  (discOut_ends s code obj val).bu.trans (reportDiscOut_bu _ _ _ _)

/-! ## The two commands -/

theorem exec_d2dLinkLoss (fl : List Nat) (s : State) : exec (.d2dLinkLoss fl) s = .next (s.d2dLoss fl) := rfl

theorem exec_d2dRetrainDone_up {s : State} {u : Nat} (hu : u < 1024) (hd : s.pw.d2dDown = true)
    (hf : s.pw.d2dFailed = false) (hh : s.d2dHeld = false) :
    exec (.d2dRetrainDone true u) s = .next (s.d2dUp u) := by
  have e : exec (.d2dRetrainDone true u) s = execD2dRetrainDone true u s := rfl
  simp [e, execD2dRetrainDone, checked, hu, hd, hf, hh]

/-- The state in which the one attempt to retrain has failed. -/
def State.retrainFailed (s : State) : State := { s with pw.d2dFailed := true }

theorem exec_d2dRetrainDone_out {s : State} {ok : Bool} {u : Nat} (hu : u < 1024) (hd : s.pw.d2dDown = true)
    (hf : s.pw.d2dFailed = false) (ho : ok = false ∨ s.d2dHeld = true) :
    exec (.d2dRetrainDone ok u) s = .next (s.retrainFailed.discOut Code.d2dFailed) := by
  have e : exec (.d2dRetrainDone ok u) s = execD2dRetrainDone ok u s := rfl
  have hk : (ok && !s.d2dHeld) = false := by rcases ho with h | h <;> simp [h]
  simp [e, execD2dRetrainDone, checked, hu, hd, hf, hk, State.retrainFailed]

/-- Settles O33: the drive stops on a loss (`DriveStopped`); a retraining ends it (`d2dUp_told`) or takes the disc out
of service (`discOut_keeps`, `discOut_bu`). -/
theorem theDieToDieLinkFailsSafe : Obligations.TheDieToDieLinkFailsSafe := by
  unfold Obligations.TheDieToDieLinkFailsSafe
  refine ⟨fun s fl hm hd => ?_, fun s u hu hd hf hh => ?_, fun s ok u hu hd hf ho => ?_⟩
  · obtain ⟨hgate, hdark, hcoils, hfocus, htrack⟩ := d2dLoss_stopped fl hm hd
    exact ⟨_, exec_d2dLinkLoss fl s, d2dLoss_down fl hm hd, hgate, hdark _ (by decide), hdark _ (by decide),
      hdark _ (by decide), hdark _ (by decide), hcoils, hfocus, htrack, d2dLoss_pool fl hm hd⟩
  · obtain ⟨⟨_, _, _, _, _, _, e⟩, hk, -, -⟩ := d2dUp_told s u
    refine ⟨_, exec_d2dRetrainDone_up hu hd hf hh, by rw [e], by rw [e], d2dUp_pool s u, ?_, d2dUp_valid_of_ne, hk⟩
    rintro rfl
    exact d2dUp_valid_of_eq s
  · obtain ⟨hfailed, hsec, hcart⟩ := discOut_keeps s.retrainFailed Code.d2dFailed 0xFFFFFFFF 0
    refine ⟨_, exec_d2dRetrainDone_out hu hd hf ho, hfailed, discOut_service _ _ _ _, discOut_oosCode _ _ _ _, ?_, ?_,
      hcart, hsec⟩
    · rw [discOut_bu]
      rfl
    · rw [discOut_bu]
      exact abandonBlock_block _

end Sys2Proof.Machine
end

section
/-! SUPPORT. Statements on power and clocks that fail, each with a state in which the model does otherwise. -/

namespace Sys2Proof.Machine

/-- The next state of an outcome, if it has one. -/
def nextState : Host.Outcome State Fault Refusal → Option State
  | .next t => some t
  | _ => none

/-- What holds of some next state can be read off `nextState`. -/
theorem nextState_of_next {o : Host.Outcome State Fault Refusal} {t : State} (e : o = .next t) : nextState o = some t := by
  rw [e, nextState]

/-! ## The Nap commit point with a command in hand (06 R244) -/

/-- Doze with a Nap entry of the command in slot 2, in a state that lists no mailbox slot. -/
def slotless : State := { pw.mode := .doze, pw.entry := some { target := .nap, cmd := some 2 }, host.slots := [] }

/-- The answer goes to a slot that is not there. -/
theorem slotless_napCommit : ((nextState (exec .napCommit slotless)).bind fun t => (t.slot 2).resp) = none := by decide +kernel

/-- Refutes O27: the clause on a POWER entry answered at NAP_COMMIT does not ask that the state have the mailbox slot that
the entry names, and in one that lists no slots no response can be put down. -/
theorem not_idleTimersAndCommitPointsLowerTheState : ¬ Obligations.IdleTimersAndCommitPointsLowerTheState := by
  unfold Obligations.IdleTimersAndCommitPointsLowerTheState
  rintro ⟨-, -, -, hpower, -⟩
  obtain ⟨t, ht, hresp, -⟩ := hpower slotless 2 { target := .nap, cmd := some 2 } (by decide) rfl rfl rfl rfl (by decide)
  have hnone : (t.slot 2).resp = none := by simpa [nextState_of_next ht] using slotless_napCommit
  simp [hnone] at hresp

/-! ## The loss of a logic die's PLL (03 R128) -/

/-- Run, with a range of every bobbin already in verified blocks past FLUSHED_OFFSET. -/
def flushedAhead : State := { pw.mode := .run, bu.done := List.replicate 10 [(0, 4096)] }

/-- The reset keeps the ranges in verified blocks: the pool keeps its records over it (07 R329). -/
theorem flushedAhead_corePllLoss :
    (nextState (exec (.corePllLoss false []) flushedAhead)).map (·.bu.done) = some (List.replicate 10 [(0, 4096)]) := by
  decide +kernel

/-- Refutes O30: a core PLL's loss does not leave the burst control empty (`t.bu = {}`), for the ranges in verified blocks
are kept. -/
theorem not_clocksAreWatched : ¬ Obligations.ClocksAreWatched := by
  unfold Obligations.ClocksAreWatched
  rintro ⟨-, -, -, -, -, -, hloss⟩
  obtain ⟨t, ht, -, -, -, -, hbu, -⟩ := hloss flushedAhead false [] (.inl rfl)
  have hdone : t.bu.done = List.replicate 10 [(0, 4096)] := by simpa [nextState_of_next ht] using flushedAhead_corePllLoss
  rw [hbu] at hdone
  exact absurd hdone (by decide)

/-! ## A microstep table applied in one PARAM_SET with STANDSTILL (10 R443, R454) -/

/-- A PARAM_SET of bytes 2 to 36 of PP_SLED: STANDSTILL 1, USTEP_APPLY 1, every other field at its reset value. -/
def standstillAndApply : MbCopy :=
  { opcode := 2, flags := 0, dlen := 35, seq := 7, byP8 := false, order := 0,
    args := leBytes 2 0x110 ++ leBytes 2 2 ++ leBytes 2 35,
    data := [1, 0] ++ leBytes 4 0 ++ leBytes 2 600 ++ [40, 6, 30, 8] ++ leBytes 2 100 ++ leBytes 2 150 ++ leBytes 2 2000
      ++ [0, 100] ++ leBytes 2 25 ++ leBytes 4 512 ++ leBytes 4 64000 ++ leBytes 4 21400000 ++ [1] }

/-- Run, the sled in standstill, with that command in slot 2. -/
def sledAtRest : State :=
  { pw.mode := .run, host.slots := [{}, {}, { busy := true, copy := some standstillAndApply }, {}] }

theorem sledAtRest_ustepApply : (nextState (exec (.ustepApply 2) sledAtRest)).map (·.sl.mode) = some 1 := by decide +kernel

/-- Refutes O35: a PARAM_SET that applies the table can change STANDSTILL too, which takes effect at once in standstill, so
more of the sled's state changes than the table's wait. -/
theorem not_locksAndDeferredEffectsOfParameterWrites : ¬ Obligations.LocksAndDeferredEffectsOfParameterWrites := by
  unfold Obligations.LocksAndDeferredEffectsOfParameterWrites
  rintro ⟨-, -, happly, -⟩
  obtain ⟨t, ht, -, -, -, -, hsl, -⟩ := happly sledAtRest 2 standstillAndApply (by decide +kernel) rfl (by decide +kernel)
    (by decide +kernel) (by decide +kernel) rfl rfl
  have hmode : t.sl.mode = 1 := by simpa [nextState_of_next ht] using sledAtRest_ustepApply
  rw [hsl] at hmode
  exact absurd hmode (by decide)

end Sys2Proof.Machine
end

section
/-! SUPPORT. What a power failure's handling and its release leave as they are (03 R115-R121): the device time, the keys,
the cartridge, the failure itself and its count. -/

set_option Elab.async false

namespace Sys2Proof.Machine

/-! ## The end of a command takes no time -/

theorem foldl_time {α : Type} {f : State → α → State} (hf : ∀ t a, (f t a).time = t.time) (l : List α) (s : State) :
    (l.foldl f s).time = s.time :=
  List.foldlRecOn (motive := fun t => t.time = s.time) l f rfl fun t ht a _ => (hf t a).trans ht

@[simp] theorem hostWrite_time (s : State) (a : Nat) (bs : List Byte) : (s.hostWrite a bs).time = s.time := by
  unfold State.hostWrite
  split <;> rfl

@[simp] theorem poisonGranule_time (s : State) (g : Nat) : (s.poisonGranule g).time = s.time := by
  unfold State.poisonGranule
  split <;> simp

@[simp] theorem l2Fill_time (s : State) (line : Nat) (locked : Bool) : (s.l2Fill line locked).time = s.time := by
  unfold State.l2Fill
  split
  · rfl
  · dsimp only
    split
    · rfl
    · split
      · rfl
      · exact pulse_time _ _ _

@[simp] theorem l2Refill_time (s : State) (line : Nat) : (s.l2Refill line).time = s.time := by
  unfold State.l2Refill
  split
  · rfl
  · split <;> rfl

theorem mergeTake_time {s t : State} {core addr : Nat} {bs : List Byte} (e : s.mergeTake core addr bs = some t) :
    t.time = s.time := by
  unfold State.mergeTake at e
  extract_lets _ hit at e
  have hhit (u : State) : (hit u).time = u.time := by
    simp only [hit]
    split
    · rfl
    · split <;> rfl
  split at e
  · cases e
  · split at e
    · cases e
      exact hhit _
    · split at e
      · cases e
        exact hhit _
      · cases e

@[simp] theorem unstall_time (s : State) (l : List (Nat × Nat × List Byte)) : (s.unstall l).time = s.time := by
  induction l generalizing s with
  | nil => rfl
  | cons w ws ih =>
    unfold State.unstall
    split
    next e => exact (ih _).trans (mergeTake_time e)
    next => rfl

@[simp] theorem readsReturn_time (s : State) (id : Nat) : (s.readsReturn id).time = s.time :=
  (foldl_time (f := fun t _ => t.readReturns _ _) (fun _ _ => rfl) _ _).trans rfl

@[simp] theorem rangeFills_time (s : State) : s.rangeFills.time = s.time := by
  unfold State.rangeFills
  split
  · rfl
  · refine (foldl_time (fun t f => ?_) _ _).trans rfl
    split <;> simp

@[simp] theorem drainOldest_time (s : State) : s.drainOldest.time = s.time := by
  unfold State.drainOldest
  split
  · rfl
  · simp only [rangeFills_time, unstall_time, State.drainsPass, readsReturn_time]
    split <;> split <;> simp

@[simp] theorem drainOld_time (s : State) (n : Nat) : (s.drainOld n).time = s.time := by
  induction n generalizing s with
  | zero => rfl
  | succ n ih => exact (ih _).trans (drainOldest_time s)

@[simp] theorem drainFirst_time (s : State) : s.drainFirst.time = s.time := by simp [State.drainFirst]

@[simp] theorem signal_time (s : State) (qp : Nat) : (s.signal qp).time = s.time := by
  unfold State.signal
  split
  · rfl
  · dsimp only
    split
    · exact msixSend_time _ _
    · rfl

@[simp] theorem writeCqe_time (s : State) (qp tag status result : Nat) (coarse atOnce : Bool) :
    (s.writeCqe qp tag status result coarse atOnce).time = s.time := by
  unfold State.writeCqe
  split
  · rfl
  · dsimp only
    split <;> simp [State.setPair]

@[simp] theorem haltEntry_time (s : State) (qp : Nat) : (s.haltEntry qp).time = s.time := by
  unfold State.haltEntry
  split
  · rfl
  · split
    · rfl
    · split
      · rfl
      · dsimp only
        split <;> simp [State.setPair, State.answer]

@[simp] theorem endOne_time (s : State) (c : QCmd) (status result : Nat) (coarse : Bool) :
    (s.endOne c status result coarse).time = s.time := by
  unfold State.endOne
  split
  · simp [State.postOne, State.setPair]
  · rfl

@[simp] theorem endAborts_time (s : State) (outcome n : Nat) (l : List (Nat × Nat)) :
    (s.endAborts outcome l n).time = s.time := by
  induction n generalizing s outcome l with
  | zero => rfl
  | succ n ih =>
    refine foldl_time (fun t k => ?_) _ _
    split
    · rfl
    · split
      · rfl
      · simp [ih]

theorem finishWith_time (s : State) (c : QCmd) (status count detail : Nat) :
    (s.finishWith c status count detail).time = s.time := by
  unfold State.finishWith State.finish
  split
  · rfl
  · simp

/-! ## What a power failure leaves -/

/-- The registers of a power failure that its handling leaves as PFAIL_N set them (03 Table 3.7). -/
def pfailRegs : List RegName := [.PFAIL_ACTIVE, .PFAIL_COUNT]

/-- `s` has the device time and the keys of `r`, a power failure where `r` has one and a cartridge where it has one, and
the registers `pfailRegs` of `r`. -/
structure FailKeeps (r s : State) : Prop where
  time : s.time = r.time
  sec : s.sec = r.sec
  pfail : s.pw.pfail.isSome = r.pw.pfail.isSome
  cart : s.md.cart.isSome = r.md.cart.isSome
  reg : ∀ n ∈ pfailRegs, s.reg n = r.reg n

namespace FailKeeps

theorem refl (s : State) : FailKeeps s s := ⟨rfl, rfl, rfl, rfl, fun _ _ => rfl⟩

section
variable {r s t : State} (h : FailKeeps r s)
include h

section
variable {pending : List Instr} {clock free : Nat} {pw : PowerS} {host : HostS} {q : QueueS} {bb : BlackBoxS}
  {bead : BeadS} {lm : LoomS} {md : MediumS} {bu : BurstS} {sp : SpindleS} {sl : SledS} {sv : ServoS}
  {las : LaserS} {ch chV : ChannelS} {rd : List ReadJob} {cal : CalS} {st : SelfTestS} {ca : CacheS} {un : UnitsS}
  {pt : PortS} {tb : TimeS} {tally : Map TallyOpen} {gp : GpioS} {bo : BootS} {tap : TapS}

/-- Every other field may change. (The state is written out so that unification finds `s` by its registers.) -/
theorem same (hp : pw.pfail.isSome = s.pw.pfail.isSome := by rfl)
    (hc : md.cart.isSome = s.md.cart.isSome := by rfl) :
    FailKeeps r ⟨pending, s.regs, clock, s.time, free, pw, host, q, bb, bead, lm, md, bu, s.sec, sp, sl, sv, las, ch, chV,
      rd, cal, st, ca, un, pt, tb, tally, gp, bo, tap⟩ :=
  ⟨h.time, h.sec, hp.trans h.pfail, hc.trans h.cart, h.reg⟩

end

theorem put {n : RegName} {i v : Nat} (hn : n ∉ pfailRegs := by decide) : FailKeeps r (s.put n i v) where
  time := h.time
  sec := h.sec
  pfail := h.pfail
  cart := h.cart
  reg k hk := (regGet_regPut_name _ _ _ _ (ne_of_mem_of_not_mem hk hn)).trans (h.reg k hk)

theorem set {n : RegName} {v : Nat} (hn : n ∉ pfailRegs := by decide) : FailKeeps r (s.set n v) := h.put hn

theorem bump {n : RegName} (hn : n ∉ pfailRegs := by decide) : FailKeeps r (s.bump n) := h.put hn

theorem ite {c : Prop} [Decidable c] (g : FailKeeps r t) : FailKeeps r (if c then s else t) := by
  split
  · exact h
  · exact g

theorem foldl {α : Type} {f : State → α → State} {l : List α} (hf : ∀ t a, FailKeeps r t → FailKeeps r (f t a)) :
    FailKeeps r (l.foldl f s) := List.foldlRecOn l f h fun t ht a _ => hf t a ht

theorem ends (g : EndKeeps s t) (ht : t.time = s.time) : FailKeeps r t where
  time := ht.trans h.time
  sec := g.sec.trans h.sec
  pfail := by rw [g.pw, h.pfail]
  cart := by rw [g.md, h.cart]
  reg n hn := by
    have hk : ∀ n ∈ pfailRegs, n ∉ endRegs := by decide
    exact (g.reg (hk n hn)).trans (h.reg n hn)

theorem told (g : Told bookRegs s t) : FailKeeps r t := by
  refine h.ends ((EndKeeps.refl s).told g) ?_
  obtain ⟨⟨_, _, _, _, _, _, rfl⟩, -⟩ := g
  rfl

theorem pulse {code v : Nat} : FailKeeps r (s.pulse code v) := h.told (pulse_told _ _ _)

theorem report {code obj val second : Nat} : FailKeeps r (s.report code obj val second) := h.told (report_told _ _ _ _ _)

theorem noticeDrained {n : Notice} : FailKeeps r (s.noticeDrained n) :=
  told (h.ends (EndKeeps.refl s).drainFirst (drainFirst_time s)) (notice_told _ _)

theorem finishWith {c : QCmd} {status count detail : Nat} : FailKeeps r (s.finishWith c status count detail) :=
  h.ends (EndKeeps.refl s).finishWith (finishWith_time s c status count detail)

/-! ### The burst's next block (01 R37, R38; 02 R79) -/

theorem skipRec {b : Nat} {x : Rec} : FailKeeps r (s.skipRec b x) := by
  unfold State.skipRec
  extract_lets s1
  have h1 : FailKeeps r s1 := .ite h h.bump.pulse
  exact h1.same.put.put.put.put.report

theorem skipBad {b : Nat} {l : List Rec} : FailKeeps r (s.skipBad b l).1 := by
  induction l generalizing s with
  | nil => exact h
  | cons x xs ih =>
    unfold State.skipBad
    split
    · exact h
    · exact ih h.skipRec

theorem assembleOne {b o n : Nat} {recs : List Rec} : FailKeeps r (s.assembleOne b o n recs).2 := by
  unfold State.assembleOne
  extract_lets
  split
  · exact h.put.pulse
  · exact h

theorem assemble {b o z n : Nat} {recs : List Rec} : FailKeeps r (s.assemble b o z recs n).2 := by
  induction n generalizing s o with
  | zero => exact h
  | succ n ih =>
    unfold State.assemble
    split
    · exact h
    · exact ih h.assembleOne

theorem startBlock {b : Nat} {recs : List Rec} {layer head : Nat} : FailKeeps r (s.startBlock b recs layer head) := by
  unfold State.startBlock
  dsimp only
  exact h.assemble.same

theorem userFull : FailKeeps r s.userFull := .foldl (.ite h h.set.report) fun _ _ ht => ht.finishWith

theorem nextBlock {n : Nat} : FailKeeps r (s.nextBlock n) := by
  induction n generalizing s with
  | zero => exact h
  | succ n ih =>
    unfold State.nextBlock
    split
    · exact h
    next b l _ _ =>
      have hu : FailKeeps r (s.skipBad b l).1.checkFlushes := h.skipBad.foldl fun _ _ ht => ht.finishWith
      dsimp only
      split
      · exact ih hu
      · split
        · exact ih hu
        · split
          · exact .ite hu.startBlock hu
          · exact hu.userFull
          · exact hu

/-! ### A block given up, a layer at its end, a block begun again (02 R80; 03 R118) -/

theorem burn {a : Nat} {c : Cluster} : FailKeeps r (s.burn a c) := by
  unfold State.burn
  split
  · exact h
  next e => exact h.same (hc := by simp [e])

theorem advance {k : Block} {a : Nat} : FailKeeps r (s.advance k a) := by
  unfold State.advance
  extract_lets
  split <;> exact h.same

theorem dropBlock : FailKeeps r s.dropBlock := by
  unfold State.dropBlock
  split
  · exact h
  · extract_lets _ s1 s2
    have h1 : FailKeeps r s1 := by
      unfold s1
      split
      · exact h
      · exact h.burn.advance
    have h2 : FailKeeps r s2 := by
      unfold s2
      split
      · exact h1.same
      · exact h1
    exact h2.same

theorem abandonBlock : FailKeeps r s.abandonBlock := by
  unfold State.abandonBlock
  split
  · exact h
  · extract_lets s1 _ s2
    have h2 : FailKeeps r s2 := h.dropBlock.same (hp := Option.isSome_map)
    exact .ite h2.pulse.report h2

theorem layerEnded {k : Block} : FailKeeps r (s.layerEnded k) := by
  have ho : FailKeeps r (s.orphan k) := by
    unfold State.orphan
    split
    · exact h.same
    · exact h
  exact ho.same

theorem restartBlock {k : Block} : FailKeeps r (s.restartBlock k) := by
  unfold State.restartBlock
  split
  · exact h.same.userFull
  · exact .ite h h.same

/-! ### Arrivals and triggers (01 R37-R41; 03 R106, R107) -/

theorem cancelEntry : FailKeeps r s.cancelEntry := by
  unfold State.cancelEntry
  split
  · exact h
  · extract_lets _ _ _ s1
    have h1 : FailKeeps r s1 := h.same.set.same.pulse
    split
    · exact h1.same
    · exact h1

theorem sourceFires {cause : Nat} : FailKeeps r (s.sourceFires cause) := by
  unfold State.sourceFires
  split
  · exact .ite h.same h
  · split
    · exact h.set
    · exact h.set
    · exact h.set
    · exact h

theorem beginWake {cause : Nat} : FailKeeps r (s.beginWake cause) := by
  have hw : FailKeeps r (if s.pw.waking.isSome then s
      else if s.pw.mode == .hibernate && s.pw.pfail.isSome then
        { s with pw.wakeLater := s.pw.wakeLater.or (some cause) }
      else (({ s with pw.waking := some s.pw.mode }.set .WAKE_CAUSE cause).set .WAKE_FROM s.pw.mode.code).pulse
        Ev.wakes) :=
    .ite h (.ite h.same h.same.set.set.pulse)
  unfold State.beginWake
  split
  · exact hw
  · exact hw
  · exact hw
  · exact h

theorem wakeOn {cause : Nat} {hostWrite : Bool} : FailKeeps r (s.wakeOn cause hostWrite) :=
  .ite h.sourceFires.beginWake h.sourceFires

theorem arrive {cause : Nat} {hostWrite : Bool} : FailKeeps r (s.arrive cause hostWrite) := by
  unfold State.arrive
  split
  · exact h.wakeOn
  · exact .ite h.sourceFires (.ite h.cancelEntry.wakeOn h.cancelEntry.sourceFires)

theorem openSession : FailKeeps r s.openSession := by
  unfold State.openSession
  split
  · exact h
  · exact h.same

theorem trigger {bobs : List Nat} {mark : Bool} {flush : Option (Nat × Nat)} :
    FailKeeps r (s.trigger bobs mark flush) :=
  .ite (.ite h.same h) (.ite h.same (.ite h.arrive h.arrive.openSession.same.pulse.same))

/-! ### The end of a session, the work that is next (02 R82) -/

theorem updateHealth : FailKeeps r s.updateHealth := .ite h h.set.report

theorem finishMount : FailKeeps r s.finishMount := by
  unfold State.finishMount
  extract_lets _ _ _ _ s1 s2 s3 s4
  have h1 : FailKeeps r s1 := h.same.set.updateHealth
  have h2 : FailKeeps r s2 := .ite h1.report h1.report
  have h3 : FailKeeps r s3 := .ite h2.report h2
  have h4 : FailKeeps r s4 := h3.foldl fun _ _ ht => ht.finishWith
  exact .ite h4 h4.same.trigger

theorem sessionDone {e : Session} : FailKeeps r (s.sessionDone e) :=
  .ite h.same.report.finishMount (.ite h.same.report.same.trigger h.same.report)

theorem startSystem {kind : BlockKind} {e : Session} : FailKeeps r (s.startSystem kind e) := by
  unfold State.startSystem
  split
  · exact h
  · exact h.same

theorem nextWork : FailKeeps r s.nextWork := by
  unfold State.nextWork
  split
  · split
    · exact h
    · split
      · exact h.layerEnded
      · exact h.same.bump
      · exact h.same
  · exact h.restartBlock
  · exact .ite h h.startSystem
  · split
    · exact h.same
    · split
      · exact h
      · split
        · split
          · exact h.startSystem
          · exact h.sessionDone
        · exact .ite (.ite h.nextBlock h.nextBlock.same) h
  · exact h

/-! ### The gate opens on a cluster (11 R516; 12 R536) -/

theorem levelCurrent {level p : Nat} : FailKeeps r (s.levelCurrent level p).2 := by
  unfold State.levelCurrent
  extract_lets
  split
  · exact h.same
  · split
    · exact h
    · dsimp only
      exact h.set.bump.pulse.report

theorem writeLevels : FailKeeps r s.writeLevels := by
  unfold State.writeLevels
  dsimp only
  exact h.set.levelCurrent.levelCurrent.levelCurrent.levelCurrent.same

theorem beginCluster {k : Block} : FailKeeps r (s.beginCluster k) := by
  unfold State.beginCluster
  extract_lets _ _ _ s1 _ s2 u _ s3
  have h1 : FailKeeps r s1 := h.same.same
  have h2 : FailKeeps r s2 := .ite h1.same h1
  have hu : FailKeeps r u := h2.writeLevels
  have h3 : FailKeeps r s3 := hu.same
  exact .ite h3.same h3

theorem tryOpenGate : FailKeeps r s.tryOpenGate := by
  unfold State.tryOpenGate
  split
  · exact h
  · exact .ite h.same (.ite h (.beginCluster (.ite h h.bump)))

theorem resume : FailKeeps r s.resume := h.nextWork.nextWork.tryOpenGate

/-! ### The drive stops (03 R119; 09 R434; 10 R460) -/

theorem laserOff : FailKeeps r s.laserOff := .set (.set (.set (.set (.set (.ite h h.set)))))

theorem servoOff : FailKeeps r s.servoOff := by
  unfold State.servoOff
  extract_lets s1 s2
  have h1 : FailKeeps r s1 := .ite h h.set
  have h2 : FailKeeps r s2 := h1.set.set.set
  have h3 : FailKeeps r s2.coilsOff := (h2.foldl fun _ _ ht => ht.put).same
  exact h3.same

theorem spState {st : Nat} : FailKeeps r (s.spState st) := by
  unfold State.spState
  extract_lets _ _ _ s1 _ s2
  have h1 : FailKeeps r s1 := h.set.set.same
  have h2 : FailKeeps r s2 := .ite h1.same h1
  exact .ite h2.servoOff.laserOff h2

theorem spSense : FailKeeps r s.spSense := by
  unfold State.spSense
  exact h.spState.set.set.same

theorem spShort {why : ShortWhy} : FailKeeps r (s.spShort why) := by
  unfold State.spShort
  exact h.spState.set.set.same

theorem only {l : List RegName} (g : OnlyRegs l s t) (hl : ∀ n ∈ pfailRegs, n ∉ l := by decide) : FailKeeps r t := by
  obtain ⟨⟨_, rfl⟩, hk, -⟩ := g
  exact ⟨h.time, h.sec, h.pfail, h.cart, fun n hn => (hk n _ (hl n hn)).trans (h.reg n hn)⟩

theorem posLost {count : Bool} : FailKeeps r (s.posLost count) := h.only (posLost_only s count)

theorem retainPos : FailKeeps r s.retainPos := h.only (retainPos_only s)

theorem sledStopped : FailKeeps r s.sledStopped := by
  unfold State.sledStopped
  exact h.set.same

theorem sledShutdown : FailKeeps r s.sledShutdown := by
  have h1 : FailKeeps r (if s.sl.target.isSome || s.sl.homing.isSome then
      ({ s.sledStopped with sl.homing := none }.set .SL_STATE 0).posLost true else s) :=
    .ite h.sledStopped.same.set.posLost h
  exact .retainPos h1.same

theorem pfailOutcome {outcome : Nat} : FailKeeps r (s.pfailOutcome outcome) := h.set.report

end

end FailKeeps

/-! ## The shutdown (03 R119) -/

/-- The drive stopped for a shutdown, PFAIL_FLUSHED shown; the end of the burst and the record are still to come. -/
def State.pfailStopped (s : State) (p : PFail) : State :=
  let s := s.servoOff.laserOff
  let turning := (s.reg .SP_STATE != 0 || s.on .DISC_TURNING) && s.reg .SP_STATE != 7
  let s := if turning && s.pw.driveDie then s.spShort .pfail else s
  let s := if s.pw.driveDie then s.sledShutdown else s
  s.set .PFAIL_FLUSHED (p.flushed - b2n p.hadBlock)

/-- PFAIL_OUTCOME of a shutdown: ABANDONED, FINISHED or IDLE (03 Table 3.7). -/
def PFail.outcome (p : PFail) : Nat := if p.abandoned = true then 2 else if p.flushed ≠ 0 then 1 else 3

theorem pfailShutdown_eq (s : State) (p : PFail) : s.pfailShutdown p =
    ({ s.pfailStopped p with bu.active := false, bu.turning := false, bu.redo := none,
                             pw.pfail := some { p with shut := true } } : State).pfailOutcome p.outcome := rfl

/-- `s` has the commands, the cartridge and the block in hand of `r`. -/
structure WorkStays (r s : State) : Prop where
  q : s.q = r.q
  md : s.md = r.md
  block : s.bu.block = r.bu.block

namespace WorkStays

section
variable {r s t : State} (h : WorkStays r s)
include h

section
variable {pending : List Instr} {regs : Map Nat} {clock time free : Nat} {pw : PowerS} {host : HostS} {bb : BlackBoxS}
  {bead : BeadS} {lm : LoomS} {bu : BurstS} {sec : SecS} {sp : SpindleS} {sl : SledS} {sv : ServoS} {las : LaserS}
  {ch chV : ChannelS} {rd : List ReadJob} {cal : CalS} {st : SelfTestS} {ca : CacheS} {un : UnitsS} {pt : PortS}
  {tb : TimeS} {tally : Map TallyOpen} {gp : GpioS} {bo : BootS} {tap : TapS}

/-- Every other field may change. (Written out, so that unification finds `s` by its commands.) -/
theorem same (hb : bu.block = s.bu.block := by rfl) :
    WorkStays r ⟨pending, regs, clock, time, free, pw, host, s.q, bb, bead, lm, s.md, bu, sec, sp, sl, sv, las, ch, chV,
      rd, cal, st, ca, un, pt, tb, tally, gp, bo, tap⟩ := ⟨h.q, h.md, hb.trans h.block⟩

theorem put {n : RegName} {i v : Nat} : WorkStays r (s.put n i v) := h.same

theorem set {n : RegName} {v : Nat} : WorkStays r (s.set n v) := h.put

end

theorem ite {c : Prop} [Decidable c] (g : WorkStays r t) : WorkStays r (if c then s else t) := by
  split
  · exact h
  · exact g

theorem only {l : List RegName} (g : OnlyRegs l s t) : WorkStays r t := by
  obtain ⟨⟨_, rfl⟩, -⟩ := g
  exact h.same

theorem laserOff : WorkStays r s.laserOff := .set (.set (.set (.set (.set (.ite h h.set)))))

theorem coilsOff : WorkStays r s.coilsOff := by
  have h1 : WorkStays r ((List.range 3).foldl (fun s c => s.put .CL_DEMAND c 0) s) :=
    List.foldlRecOn (motive := WorkStays r) _ _ h fun _ ht _ _ => ht.put
  exact h1.same

theorem servoOff : WorkStays r s.servoOff := by
  unfold State.servoOff
  extract_lets s1 s2
  have h1 : WorkStays r s1 := .ite h h.set
  have h2 : WorkStays r s2 := h1.set.set.set
  exact h2.coilsOff.same

theorem spState {st : Nat} : WorkStays r (s.spState st) := by
  unfold State.spState
  extract_lets _ _ _ s1 _ s2
  have h1 : WorkStays r s1 := h.set.set.same
  have h2 : WorkStays r s2 := .ite h1.same h1
  exact .ite h2.servoOff.laserOff h2

theorem spShort {why : ShortWhy} : WorkStays r (s.spShort why) := by
  unfold State.spShort
  exact h.spState.set.set.same

theorem sledStopped : WorkStays r s.sledStopped := by
  unfold State.sledStopped
  exact h.set.same

theorem sledShutdown : WorkStays r s.sledShutdown := by
  have h1 : WorkStays r (if s.sl.target.isSome || s.sl.homing.isSome then
      ({ s.sledStopped with sl.homing := none }.set .SL_STATE 0).posLost true else s) :=
    .ite (.only h.sledStopped.same.set (posLost_only _ _)) h
  exact .only h1.same (retainPos_only _)

theorem pfailStopped {p : PFail} : WorkStays r (s.pfailStopped p) := by
  unfold State.pfailStopped
  extract_lets s1 _ s2 s3
  have h1 : WorkStays r s1 := h.servoOff.laserOff
  have h2 : WorkStays r s2 := .ite h1.spShort h1
  have h3 : WorkStays r s3 := .ite h2.sledShutdown h2
  exact h3.set

end

end WorkStays

theorem pfailOutcome_reg (s : State) (outcome : Nat) : (s.pfailOutcome outcome).reg .PFAIL_OUTCOME = outcome % 256 :=
  (EndKeeps.refl _).report.reg.trans (State.set_reg _ _ _)

namespace FailKeeps

section
variable {r s : State} (h : FailKeeps r s)
include h

theorem pfailStopped {p : PFail} : FailKeeps r (s.pfailStopped p) := by
  unfold State.pfailStopped
  extract_lets s1 _ s2 s3
  have h1 : FailKeeps r s1 := h.servoOff.laserOff
  have h2 : FailKeeps r s2 := .ite h1.spShort h1
  have h3 : FailKeeps r s3 := .ite h2.sledShutdown h2
  exact h3.set

theorem pfailShutdown {p p' : PFail} (e : s.pw.pfail = some p') : FailKeeps r (s.pfailShutdown p) := by
  have h1 : FailKeeps r (s.pfailStopped p) := h.pfailStopped
  have hp : (s.pfailStopped p).pw.pfail.isSome = true := h1.pfail.trans (h.pfail.symm.trans (by simp [e]))
  rw [pfailShutdown_eq]
  refine .pfailOutcome (h1.same (hp := ?_))
  exact hp.symm

theorem pfailBudget : FailKeeps r s.pfailBudget := by
  unfold State.pfailBudget
  split
  · exact h
  · exact .ite h (.ite h.same h.abandonBlock)

theorem pfailFollow : FailKeeps r s.pfailFollow := by
  unfold State.pfailFollow
  extract_lets s1
  have h1 : FailKeeps r s1 := .ite h.pfailBudget h
  split
  · exact h1
  next e => exact .ite h1 (h1.pfailShutdown e)

theorem pfailFlush {p p' : PFail} (e : s.pw.pfail = some p') : FailKeeps r (s.pfailFlush p) := by
  unfold State.pfailFlush
  extract_lets _ _ _ _ _ s1
  have h1 : FailKeeps r s1 := .ite h.same h.same.openSession.pulse
  have h2 : s1.pw.pfail.isSome = true := h1.pfail.trans (h.pfail.symm.trans (by simp [e]))
  split
  · exact .ite h.same h.same
  · refine .ite h1.same (.ite (h1.same (hp := ?_)) h.same)
    exact h2.symm

theorem endTest {slot : Nat} {v : Verdict16} : FailKeeps r (s.endTest slot v) := by
  unfold State.endTest
  exact h.same

theorem abortTest : FailKeeps r s.abortTest := by
  unfold State.abortTest
  split
  · exact h
  · split
    · exact h.endTest
    · exact h.same

theorem dropCopy : FailKeeps r s.dropCopy := by
  unfold State.dropCopy
  exact h.same.bump

theorem pfailBlock {tRem : Nat} : FailKeeps r (s.pfailBlock tRem).2 := by
  unfold State.pfailBlock
  split
  · exact h
  · split
    · rw [apply_ite Prod.snd, apply_ite Prod.snd]
      exact .ite h.same (.ite h h.abandonBlock)
    · exact h.dropBlock.dropCopy
    · exact h.dropBlock

/-! ### The release (03 R121) -/

theorem flushAgain : FailKeeps r s.flushAgain := .ite h h.trigger

theorem readyAgain : FailKeeps r s.readyAgain := .ite h.set h

theorem acceptGo {n : Nat} {byP8 : Bool} : FailKeeps r (s.acceptGo n byP8) := by
  unfold State.acceptGo State.setSlot
  exact h.same.pulse

theorem acceptWaiting : FailKeeps r s.acceptWaiting := .ite (h.foldl fun _ _ ht => ht.acceptGo) h

theorem pfailReturn : FailKeeps r s.pfailReturn := by
  unfold State.pfailReturn
  extract_lets _ _ _ u1 _ s2
  have h1 : FailKeeps r u1 := h.same.spSense
  have h2 : FailKeeps r s2 := .ite h1.same h.same
  split
  · exact h2.same.readyAgain.acceptWaiting
  · exact h2.same.readyAgain.acceptWaiting
  · exact h2.readyAgain.acceptWaiting.flushAgain.resume
  · exact h2

end

end FailKeeps
/-! ## The three commands -/

/-- PFAIL_N has fallen: it is counted, and PFAIL_ACTIVE set. -/
def State.pfailCounted (s : State) : State := (s.bump .PFAIL_COUNT).set .PFAIL_ACTIVE 1

/-- A state entry in progress is cancelled and the failure begins; what is in hand is still to be dealt with. -/
def State.pfailBegun (s : State) : State :=
  { s.pfailCounted.cancelEntry with pw.pfail := some { since := s.pfailCounted.cancelEntry.clock } }

theorem State.set_reg_ne (s : State) {n k : RegName} (v : Nat) (h : k ≠ n) : (s.set n v).reg k = s.reg k :=
  regGet_regPut_name _ _ _ _ h

theorem pfailCounted_active (s : State) : s.pfailCounted.reg .PFAIL_ACTIVE = 1 := State.set_reg _ _ _

theorem pfailCounted_count (s : State) : Counted .PFAIL_COUNT s s.pfailCounted := by
  simp [Counted, State.pfailCounted, State.reg_eq, add_cut]

/-- An assertion with the main rails on is handled from `pfailBegun` on. -/
theorem exec_pfailAssert_powered {s : State} (tRem : Nat) (hw : s.pw.wardenUp = true) (hp : s.pw.pfail = none)
    (hm : s.pw.pwrMainEn = true) : ∃ t, exec (.pfailAssert tRem) s = .next t ∧ FailKeeps s.pfailBegun t := by
  refine ⟨_, rfl, ?_⟩
  rw [if_neg (by simp [hw, hp])]
  extract_lets allowed u1 s1 _ _ _ _ s2
  rw [if_neg (by simp [u1, hm])]
  have h2 : FailKeeps s.pfailBegun s2 := .ite (FailKeeps.refl s.pfailBegun).noticeDrained (.refl _)
  split
  next had s3 e =>
    have h3 : FailKeeps s.pfailBegun s3 := by
      have h := FailKeeps.pfailBlock (tRem := tRem) (FailKeeps.abortTest (s := s2.stopCal) h2.same)
      rwa [e] at h
    extract_lets _ u4 s4 s5
    have h4 : FailKeeps s.pfailBegun u4 := h3.same (hp := Option.isSome_map)
    have h5 : FailKeeps s.pfailBegun s4 := by
      unfold s4
      split
      · exact h4
      next ep => exact .ite (h4.pfailFlush ep) h4
    exact .pfailFollow (.ite h5.resume h5)

/-- With the main rails off there is nothing to do: the failure is handled at once. -/
theorem exec_pfailAssert_off {s : State} (tRem : Nat) (hw : s.pw.wardenUp = true) (hp : s.pw.pfail = none)
    (hm : s.pw.pwrMainEn = false) : exec (.pfailAssert tRem) s =
    .next { s.pfailCounted.set .PFAIL_OUTCOME 3 with pw.pfail := some { since := s.clock, shut := true } } := by
  have e : exec (.pfailAssert tRem) s = execPfailAssert tRem s := rfl
  simp [e, execPfailAssert, hw, hp, hm, State.pfailCounted]

/-- A spin-up that overruns its time gives the burst up, and the shutdown follows. -/
theorem exec_pfailSpinupTimeout_due {s : State} {p : PFail} {t : Nat} (hp : s.pw.pfail = some p) (hs : p.shut = false)
    (hby : p.spinupBy = some t) (ht : t ≤ s.clock) (hl : s.on .SP_LOCKED = false) :
    exec .pfailSpinupTimeout s =
      .next ({ s with bu.block := none, bu.active := false } : State).pfailFollow := by
  have e : exec .pfailSpinupTimeout s = execPfailSpinupTimeout s := rfl
  simp [e, execPfailSpinupTimeout, hp, hs, hby, ht, hl]

/-- With no block in hand and no burst the shutdown follows at once. -/
theorem pfailFollow_shutdown {s : State} {p : PFail} (hp : s.pw.pfail = some p) (hs : p.shut = false)
    (hb : s.bu.block = none) (ha : s.bu.active = false) : s.pfailFollow = s.pfailShutdown p := by
  simp [State.pfailFollow, State.pfailBudget, hp, hs, hb, ha]

theorem exec_pfailRelease_good {s : State} {p : PFail} (hp : s.pw.pfail = some p) (hl : s.pw.wakeLater = none) :
    ∃ t, exec (.pfailRelease true) s = .next t ∧
      FailKeeps ({ s.set .PFAIL_ACTIVE 0 with pw.pfail := none, pw.wakeLater := none } : State) t := by
  have e : exec (.pfailRelease true) s = execPfailRelease true s := rfl
  rw [e, execPfailRelease]
  simp only [hp, hl, Bool.not_true, Bool.false_eq_true, if_false]
  exact ⟨_, rfl, .pfailReturn (.ite (.refl _) (FailKeeps.refl _).set.pfailOutcome)⟩

theorem exec_pfailRelease_low (s : State) : exec (.pfailRelease false) s = .next s := by
  have e : exec (.pfailRelease false) s = execPfailRelease false s := rfl
  rw [e, execPfailRelease]
  split <;> simp

/-- What FailKeeps leaves of a failure begun, told of the state before it. -/
theorem pfailBegun_told {s t : State} (h : FailKeeps s.pfailBegun t) : t.reg .PFAIL_ACTIVE = 1 ∧
    Counted .PFAIL_COUNT s t ∧ t.pw.pfail.isSome = true ∧ t.md.cart.isSome = s.md.cart.isSome ∧ t.time = s.time ∧
    t.sec = s.sec := by
  have hc : FailKeeps s.pfailCounted s.pfailCounted.cancelEntry := (FailKeeps.refl _).cancelEntry
  have hr : ∀ n ∈ pfailRegs, t.reg n = s.pfailCounted.reg n := fun n hn => (h.reg n hn).trans (hc.reg n hn)
  exact ⟨(hr _ (by decide)).trans (pfailCounted_active s), (hr _ (by decide)).trans (pfailCounted_count s), h.pfail,
    h.cart.trans hc.cart, h.time.trans hc.time, h.sec.trans hc.sec⟩

/-- The shutdown of a failure with no block in hand: the burst ended, its outcome the last that it writes. -/
theorem pfailShutdown_told {s : State} {p : PFail} (hb : s.bu.block = none) :
    (s.pfailShutdown p).bu.active = false ∧ (s.pfailShutdown p).bu.block = none ∧
    (s.pfailShutdown p).pw.pfail.map (·.shut) = some true ∧ (s.pfailShutdown p).reg .PFAIL_OUTCOME = p.outcome ∧
    (s.pfailShutdown p).md = s.md ∧ (s.pfailShutdown p).q = s.q := by
  have hw : WorkStays s s := ⟨rfl, rfl, rfl⟩
  obtain ⟨hq, hm, hk⟩ := hw.pfailStopped (p := p)
  have ho : p.outcome % 256 = p.outcome := by
    unfold PFail.outcome
    split <;> [rfl; (split <;> rfl)]
  rw [pfailShutdown_eq]
  refine ⟨?_, ?_, ?_, (pfailOutcome_reg _ _).trans ho, ?_, ?_⟩
  · simp [State.pfailOutcome]
  · simpa [State.pfailOutcome, hk] using hb
  · simp [State.pfailOutcome]
  · simp [State.pfailOutcome, hm]
  · simp [State.pfailOutcome, hq]

/-- With the rails off only the three registers of the failure change, and its record. -/
theorem pfailCounted_idle (s : State) :
    OnlyRegs [.PFAIL_ACTIVE, .PFAIL_COUNT, .PFAIL_OUTCOME] s (s.pfailCounted.set .PFAIL_OUTCOME 3) :=
  .set (.set (.put _ _ _ _ (by decide)) (by decide)) (by decide)

/-- Settles O29: from `pfailBegun` on the handling keeps what `FailKeeps` says; with the rails off it is one step; a
shutdown's outcome is the last that it writes; a release clears the failure, and the return to work keeps it cleared. -/
theorem powerFailureShutsDownAndReturns : Obligations.PowerFailureShutsDownAndReturns := by
  unfold Obligations.PowerFailureShutsDownAndReturns
  refine ⟨fun s tRem hw hp hm => ?_, fun s tRem hw hp hm => ?_, fun s p by' hp hs hby ht hl => ?_, fun s p hp hl => ?_,
    fun s _ => ⟨s, exec_pfailRelease_low s, rfl⟩⟩
  · obtain ⟨t, ht, hk⟩ := exec_pfailAssert_powered tRem hw hp hm
    obtain ⟨hactive, hcount, hfail, hcart, htime, hsec⟩ := pfailBegun_told hk
    exact ⟨t, ht, hactive, hcount, hfail, hcart, htime, by rw [hsec]⟩
  · obtain ⟨-, hk, -⟩ := pfailCounted_idle s
    have hactive : (s.pfailCounted.set .PFAIL_OUTCOME 3).reg .PFAIL_ACTIVE = 1 :=
      (State.set_reg_ne _ _ (by decide)).trans (pfailCounted_active s)
    have hcount : Counted .PFAIL_COUNT s (s.pfailCounted.set .PFAIL_OUTCOME 3) :=
      (State.set_reg_ne _ _ (by decide)).trans (pfailCounted_count s)
    have hout : (s.pfailCounted.set .PFAIL_OUTCOME 3).reg .PFAIL_OUTCOME = 3 := State.set_reg _ _ _
    exact ⟨_, exec_pfailAssert_off tRem hw hp hm, hactive, hcount, hout, rfl, hk, rfl⟩
  · have hf := pfailFollow_shutdown (s := { s with bu.block := none, bu.active := false }) hp hs rfl rfl
    have hk : FailKeeps s ({ s with bu.block := none, bu.active := false } : State) := (FailKeeps.refl s).same
    obtain ⟨hactive, hblock, hshut, hout, hmd, hq⟩ :=
      pfailShutdown_told (s := { s with bu.block := none, bu.active := false }) (p := p) rfl
    refine ⟨_, exec_pfailSpinupTimeout_due hp hs hby ht hl, ?_⟩
    rw [hf]
    exact ⟨hactive, hblock, hshut, hout, (hk.pfailShutdown hp).time, by rw [hmd], hq⟩
  · obtain ⟨t, ht, hk⟩ := exec_pfailRelease_good hp hl
    have hactive : (s.set .PFAIL_ACTIVE 0).reg .PFAIL_ACTIVE = 0 := State.set_reg _ _ _
    have hfail : t.pw.pfail = none := by simpa using hk.pfail
    exact ⟨t, ht, (hk.reg _ (by decide)).trans hactive, hfail, hk.time, hk.sec⟩

end Sys2Proof.Machine
end

section
/-! SUPPORT. What the exit from Doze or Nap leaves as it is while it takes what waited (03 R99, R107): a part in Run with
no entry and no cartridge stays in Run, and its queue pairs, keys and clocks stay. -/

set_option Elab.async false

namespace Sys2Proof.Machine

/-! ## A part in Run takes its inputs -/

/-- The part is in Run, its drive die on, no entry and no exit under way. -/
def PowerS.Awake (p : PowerS) : Prop := p.mode = .run ∧ p.waking = none ∧ p.entry = none ∧ p.driveDie = true

/-- The clocks that an exit turns on (03 Table 3.3). -/
def exitRegs : List RegName := [.CORE_MHZ, .CLK_CORE, .CLK_MEMORY]

/-- `s` is awake with no cartridge mounted, and has the queue pairs, the medium, the keys, the burst, the block in hand
and the clocks of `r`. -/
structure AwakeKeeps (r s : State) : Prop where
  awake : s.pw.Awake
  unmounted : s.md.mounted = false
  q : s.q = r.q
  md : s.md = r.md
  sec : s.sec = r.sec
  active : s.bu.active = r.bu.active
  block : s.bu.block = r.bu.block
  reg : ∀ n ∈ exitRegs, s.reg n = r.reg n

namespace AwakeKeeps

theorem refl {s : State} (ha : s.pw.Awake) (hm : s.md.mounted = false) : AwakeKeeps s s :=
  ⟨ha, hm, rfl, rfl, rfl, rfl, rfl, fun _ _ => rfl⟩

section
variable {r s t : State} (h : AwakeKeeps r s)
include h

section
variable {pending : List Instr} {clock time free : Nat} {pw : PowerS} {host : HostS} {bb : BlackBoxS}
  {bead : BeadS} {lm : LoomS} {bu : BurstS} {sp : SpindleS} {sl : SledS} {sv : ServoS} {las : LaserS}
  {ch chV : ChannelS} {rd : List ReadJob} {cal : CalS} {st : SelfTestS} {ca : CacheS} {un : UnitsS}
  {pt : PortS} {tb : TimeS} {tally : Map TallyOpen} {gp : GpioS} {bo : BootS} {tap : TapS}

/-- Every other field may change. (Written out, so that unification finds `s` by its registers.) -/
theorem same (hp : pw.Awake = s.pw.Awake := by rfl) (ha : bu.active = s.bu.active := by rfl)
    (hb : bu.block = s.bu.block := by rfl) :
    AwakeKeeps r ⟨pending, s.regs, clock, time, free, pw, host, s.q, bb, bead, lm, s.md, bu, s.sec, sp, sl, sv, las, ch,
      chV, rd, cal, st, ca, un, pt, tb, tally, gp, bo, tap⟩ :=
  ⟨hp.mpr h.awake, h.unmounted, h.q, h.md, h.sec, ha.trans h.active, hb.trans h.block, h.reg⟩

end

theorem put {n : RegName} {i v : Nat} (hn : n ∉ exitRegs := by decide) : AwakeKeeps r (s.put n i v) where
  awake := h.awake
  unmounted := h.unmounted
  q := h.q
  md := h.md
  sec := h.sec
  active := h.active
  block := h.block
  reg k hk := (regGet_regPut_name _ _ _ _ (ne_of_mem_of_not_mem hk hn)).trans (h.reg k hk)

theorem set {n : RegName} {v : Nat} (hn : n ∉ exitRegs := by decide) : AwakeKeeps r (s.set n v) := h.put hn

theorem add {n : RegName} {i k : Nat} (hn : n ∉ exitRegs := by decide) : AwakeKeeps r (s.add n i k) := h.put hn

theorem bump {n : RegName} (hn : n ∉ exitRegs := by decide) : AwakeKeeps r (s.bump n) := h.put hn

theorem ite {c : Prop} [Decidable c] (g : AwakeKeeps r t) : AwakeKeeps r (if c then s else t) := by
  split
  · exact h
  · exact g

theorem foldl {α : Type} {f : State → α → State} {l : List α} (hf : ∀ t a, AwakeKeeps r t → AwakeKeeps r (f t a)) :
    AwakeKeeps r (l.foldl f s) := List.foldlRecOn l f h fun t ht a _ => hf t a ht

theorem only {l : List RegName} (g : OnlyRegs l s t) (hl : ∀ n ∈ exitRegs, n ∉ l := by decide) : AwakeKeeps r t := by
  obtain ⟨⟨_, rfl⟩, hk, -⟩ := g
  exact ⟨h.awake, h.unmounted, h.q, h.md, h.sec, h.active, h.block, fun n hn => (hk n _ (hl n hn)).trans (h.reg n hn)⟩

theorem pulse {code v : Nat} : AwakeKeeps r (s.pulse code v) := h.only (pulse_only _ _ _)

theorem draw : AwakeKeeps r s.draw.2 := h.same

theorem restartIdle : AwakeKeeps r s.restartIdle := h.same

end

section
variable {r : State} {α β : Type} {p q : β × State}

theorem iteSnd {c : Prop} [Decidable c] (h : AwakeKeeps r p.2) (g : AwakeKeeps r q.2) :
    AwakeKeeps r (if c then p else q).2 := by
  split
  · exact h
  · exact g

theorem foldlSnd {f : β × State → α → β × State} {l : List α} (h : AwakeKeeps r p.2)
    (hf : ∀ p a, AwakeKeeps r p.2 → AwakeKeeps r (f p a).2) : AwakeKeeps r (l.foldl f p).2 :=
  List.foldlRecOn (motive := fun p => AwakeKeeps r p.2) l f h fun p hp a _ => hf p a hp

theorem of_snd {s : State} {b : β} (h : AwakeKeeps r p.2) (e : p = (b, s)) : AwakeKeeps r s := by
  rwa [e] at h

end

section
variable {r s : State} (h : AwakeKeeps r s)
include h

/-! ### Appends (07 R299-R302) -/

theorem cleanGranule {g : Nat} : AwakeKeeps r (s.cleanGranule g) := .ite h.same h

theorem bobFlags {b : Nat} : AwakeKeeps r (s.bobFlags b) := by
  unfold State.bobFlags
  exact h.put.put.put

theorem raiseHead {b x : Nat} : AwakeKeeps r (s.raiseHead b x) := by
  unfold State.raiseHead
  extract_lets _ _ s1 _ _ _ _ _ _ _ _ s2
  have h1 : AwakeKeeps r s1 := h.foldl fun _ _ ht => .ite ht.cleanGranule ht
  have h2 : AwakeKeeps r s2 := h1.same.put.same
  exact .ite h (.ite h2.put.put h1.same.put)

theorem wrapFree {b need n : Nat} : AwakeKeeps r (s.wrapFree b need n) := by
  induction n generalizing s with
  | zero => exact h
  | succ n ih => exact .ite h (ih h.raiseHead)

theorem makeRoom {b len keep : Nat} : AwakeKeeps r (s.makeRoom b len keep).2 :=
  .iteSnd (.iteSnd h.wrapFree (.iteSnd h.wrapFree.raiseHead h.wrapFree)) (.iteSnd h.raiseHead h)

theorem ringWrite {b o : Nat} {bs : List Byte} : AwakeKeeps r (s.ringWrite b o bs) := by
  unfold State.ringWrite
  exact h.same

theorem raiseCeilings {b : Nat} : AwakeKeeps r (s.raiseCeilings b) := .ite (.put (.ite h.put h)) (.ite h.put h)

theorem portDrop {p : Nat} : AwakeKeeps r (s.portDrop p) := .pulse (.ite h.add (.ite h.add h.bump))

theorem commitRec {b : Nat} {x : Rec} : AwakeKeeps r (s.commitRec b x) :=
  h.same.put.put.raiseCeilings.bobFlags.pulse.pulse.restartIdle

theorem writeRec {b : Nat} {payload : List Byte} {flags source time : Nat} :
    AwakeKeeps r (s.writeRec b payload flags source time) :=
  h.ringWrite.commitRec

/-- With no cartridge mounted no burst is allowed: a trigger is kept or has no effect. -/
theorem trigger {bobs : List Nat} {mark : Bool} {flush : Option (Nat × Nat)} :
    AwakeKeeps r (s.trigger bobs mark flush) := by
  have hb : s.burstAllowed = false := by simp [State.burstAllowed, h.unmounted]
  unfold State.trigger
  rw [if_pos (by simp [hb])]
  exact .ite h.same h

theorem flushTriggers {b p all : Nat} {full : Bool} : AwakeKeeps r (s.flushTriggers b p all full) := by
  unfold State.flushTriggers
  extract_lets _ _ s1 s2
  have h1 : AwakeKeeps r s1 := .ite h.trigger h
  have h2 : AwakeKeeps r s2 := .ite h1.trigger h1
  exact .ite h2.trigger h2

theorem tryAppend {b : Nat} {payload : List Byte} {flags source time : Nat} :
    AwakeKeeps r (s.tryAppend b payload flags source time).2 :=
  .iteSnd h.add (.iteSnd h.makeRoom.writeRec.flushTriggers h.makeRoom.add.bobFlags)

theorem appendLog {b : Nat} {payload : List Byte} {flags source time : Nat} :
    AwakeKeeps r (s.appendLog b payload flags source time) :=
  .ite h.tryAppend (.ite h.same h.add)

theorem unbuffer : AwakeKeeps r s.unbuffer := h.same.foldl fun _ _ ht => ht.tryAppend

theorem heddle {k base limit rights bobbin lease : Nat} : AwakeKeeps r (s.heddle k base limit rights bobbin lease) :=
  h.put.put.put.put.put.put.put.put.put

theorem handover : AwakeKeeps r s.handover := h.foldl fun _ _ ht => .ite ht ht.heddle.heddle.put

/-! ### The ports (08) -/

/-- With no entry to cancel a port record only restarts the idle timers (03 R97). -/
theorem activity : AwakeKeeps r (s.activity 4) := by
  obtain ⟨hrun, -, hentry, -⟩ := h.awake
  have hc : s.cancelEntry = s := by simp [State.cancelEntry, hentry]
  have he : s.activity 4 = s.restartIdle := by simp [State.activity, hc, State.restartIdle, hrun]
  rw [he]
  exact h.restartIdle

theorem heard {p : Nat} : AwakeKeeps r (s.heard p) := by
  unfold State.heard
  extract_lets _ _ _ s1
  have h1 : AwakeKeeps r s1 := .ite h.same.put h.same
  exact .ite h.same (.ite h1.put (.ite h1.put (.ite h1.same h1.same.set)))

/-- Unfolded as a whole, as at `Keeps.portRecord`: the append inside it must not be evaluated. -/
theorem portRecord {p sub flags : Nat} {payload : List Byte} {time : Nat} {coarse : Bool} :
    AwakeKeeps r (s.portRecord p sub flags payload time coarse).2 := by
  rcases e : s.portRecord p sub flags payload time coarse with ⟨ok, t⟩
  generalize hf : @State.portRecord = f at e
  delta State.portRecord at hf
  subst hf
  beta_reduce at e
  extract_lets u gap at e
  split at e
  rename_i t1 e1
  have h1 : AwakeKeeps r t1 := h.activity.tryAppend.of_snd e1
  split at e
  · cases e
    exact h1.same.add
  · cases e
    exact h1

theorem krsSeq {p sub seq : Nat} : AwakeKeeps r (s.krsSeq p sub seq) := .ite h.same.add.pulse h.same

theorem takeCam {p : Nat} {payload : List Byte} {krs : Option (Nat × Nat)} {time : Nat} {coarse : Bool} :
    AwakeKeeps r (s.takeCam p payload krs time coarse) := by
  generalize e : s.takeCam p payload krs time coarse = t
  generalize hf : @State.takeCam = f at e
  delta State.takeCam at hf
  subst hf
  beta_reduce at e
  extract_lets u at e
  have hu : AwakeKeeps r u := by
    unfold u
    split
    · exact h.krsSeq
    · exact h
  clear_value u
  split at e
  rename_i t1 e1
  have h1 : AwakeKeeps r t1 := hu.portRecord.of_snd e1
  subst e
  exact .ite h1.add.put.pulse h1

theorem sends {p : Nat} {l : List PortTx} : AwakeKeeps r (s.sends p l) := h.same

theorem takeArp {p target : Nat} : AwakeKeeps r (s.takeArp p target) := .ite h.sends h

theorem pdelayEnd {p seq t3 t4 : Nat} : AwakeKeeps r (s.pdelayEnd p seq t3 t4) := by
  unfold State.pdelayEnd
  split
  · exact .ite h.put h
  · exact h

theorem takeGptp {p : Nat} {m : GptpMsg} {time : Nat} : AwakeKeeps r (s.takeGptp p m time) := by
  unfold State.takeGptp
  split
  · exact h.add
  · exact h.draw.sends
  · exact h.same
  · exact h.pdelayEnd
  · exact h

theorem answerDue {p seq : Nat} {nak from' : Option Nat} : AwakeKeeps r (s.answerDue p seq nak from') := .ite h h.same

theorem takeSerial {p : Nat} {bs : List Byte} {time : Nat} {coarse waited : Bool} :
    AwakeKeeps r (s.takeSerial p bs time coarse waited) := by
  unfold State.takeSerial
  extract_lets
  split
  · exact h.portDrop
  · split
    · exact h.heard.answerDue
    · split
      · exact h.heard.add.pulse.answerDue
      · split
        rename_i t e
        have ht : AwakeKeeps r t := h.heard.portRecord.of_snd e
        exact .ite ht.add.put.pulse.same.answerDue ht.answerDue

theorem tallyRecord {ch flags start stop odoStart odoStop : Nat} {coarse : Bool} :
    AwakeKeeps r (s.tallyRecord ch flags start stop odoStart odoStop coarse) :=
  h.set.add.appendLog

theorem tallyOpen {ch t : Nat} {coarse : Bool} : AwakeKeeps r (s.tallyOpen ch t coarse) := h.same.put

theorem tallyShut {ch : Nat} : AwakeKeeps r (s.tallyShut ch) := h.same.put

theorem tallyEnd {ch : Nat} {o : TallyOpen} {flags t : Nat} {coarse : Bool} :
    AwakeKeeps r (s.tallyEnd ch o flags t coarse) :=
  h.tallyRecord

theorem tallyTick {ch t : Nat} {start stop coarse : Bool} : AwakeKeeps r (s.tallyTick ch t start stop coarse) := by
  unfold State.tallyTick
  split
  · exact h.tallyOpen
  · exact h.tallyRecord.add
  · exact h.tallyRecord
  · exact h
  · exact h.tallyEnd.tallyShut
  · exact h.tallyEnd.tallyOpen
  · exact h.tallyEnd.tallyOpen
  · exact h

theorem tallyEvents {codes : List Nat} {t : Nat} {coarse : Bool} : AwakeKeeps r (s.tallyEvents codes t coarse) :=
  h.foldl fun _ _ ht => ht.tallyTick

theorem canDecode {f : CanFrame} {j : Nat} : AwakeKeeps r (s.canDecode f j).2 := .iteSnd h.bump h.put

theorem canRecord {f : CanFrame} {j time : Nat} {coarse : Bool} : AwakeKeeps r (s.canRecord f j time coarse) := by
  unfold State.canRecord
  extract_lets
  split
  · exact h.bump
  · split
    rename_i t e
    have ht : AwakeKeeps r t := h.portRecord.of_snd e
    exact .ite ht.same ht

theorem takeCan {f : CanFrame} {time : Nat} {coarse : Bool} : AwakeKeeps r (s.takeCan f time coarse) := by
  unfold State.takeCan
  split
  · exact h.bump
  · extract_lets s1
    have h1 : AwakeKeeps r s1 := h.heard.bump.pulse.set
    split
    · rename_i t2 e
      have h2 : AwakeKeeps r t2 := by
        refine .of_snd (.foldlSnd h1 fun p i hp => ?_) e
        split
        rename_i e'
        exact hp.canDecode.of_snd e'
      exact .canRecord (.ite h2 h2.tallyEvents)

theorem takeInput {i : PortIn} {waited : Bool} : AwakeKeeps r (s.takeInput i waited) := by
  unfold State.takeInput
  split
  · exact h.takeCam
  · exact h.takeArp
  · exact h.takeGptp
  · exact h.takeSerial
  · exact h.takeCan

theorem fifoDrain : AwakeKeeps r s.fifoDrain := h.same.foldl fun _ _ ht => ht.takeInput

/-! ### The beads and the sled of an exit from Nap -/

theorem beadAdd {i k : Nat} : AwakeKeeps r (s.beadAdd i k) := .put (.ite h.put h)

theorem beadMax {i v : Nat} : AwakeKeeps r (s.beadMax i v) := .put (.ite h.put h)

theorem beadNapExit {d i : Nat} : AwakeKeeps r (s.beadNapExit d i) := by
  unfold State.beadNapExit
  split
  · extract_lets
    split
    · exact h.same
    · split
      · exact h.same.beadAdd
      · exact h.same.beadMax
      · exact h.same
  · exact h

theorem sledPowerUp : AwakeKeeps r s.sledPowerUp := .ite h.set.same.set.set.set h.set.same.set.set

end

end AwakeKeeps

/-! ## The exit (03 R99, R107) -/

/-- The state in which an exit begins to take what waited: Run, the drive die on, from Nap the clocks as well. -/
def State.exitBegun (s : State) : State :=
  let t : State := { s with pw.mode := .run, pw.swapAt := s.clock, pw.waking := none, pw.driveDie := true, time := s.now,
                            host.ltrNs := some 20000 }
  if s.pw.mode == .nap then (t.set .CLK_CORE 1).set .CLK_MEMORY 1 else t

theorem exitBegun_awake {s : State} (he : s.pw.entry = none) (hm : s.md.mounted = false) :
    AwakeKeeps s.exitBegun s.exitBegun := by
  refine .refl ?_ ?_ <;> unfold State.exitBegun <;> split
  · exact ⟨rfl, rfl, he, rfl⟩
  · exact ⟨rfl, rfl, he, rfl⟩
  · exact hm
  · exact hm

/-- What an exit does not take part in. -/
theorem exitBegun_told (s : State) : s.exitBegun.q = s.q ∧ s.exitBegun.md = s.md ∧ s.exitBegun.sec = s.sec ∧
    s.exitBegun.bu = s.bu := by
  unfold State.exitBegun
  split <;> exact ⟨rfl, rfl, rfl, rfl⟩

theorem exitBegun_clocks {s : State} (hn : s.pw.mode = .nap) :
    s.exitBegun.reg .CLK_CORE = 1 ∧ s.exitBegun.reg .CLK_MEMORY = 1 := by
  have h1 : 0 < RegName.CLK_CORE.info.width := by decide
  have h2 : 0 < RegName.CLK_MEMORY.info.width := by decide
  simp [State.exitBegun, hn, State.reg_eq, h1, h2]

theorem AwakeKeeps.fullClock {r s : State} (h : AwakeKeeps r s) :
    AwakeKeeps (s.set .CORE_MHZ 1200) (s.set .CORE_MHZ 1200) := .refl h.awake h.unmounted

/-- An exit that is no part of an entry, no burst under way: all but CORE_MHZ 1,200 keeps what `AwakeKeeps` says. -/
theorem wakeExit_awake {s : State} (he : s.pw.entry = none) (hm : s.md.mounted = false) (ha : s.bu.active = false)
    (hb : s.bu.block = none) :
    ∃ v, AwakeKeeps s.exitBegun v ∧ AwakeKeeps (v.set .CORE_MHZ 1200) s.wakeExit := by
  unfold State.wakeExit
  extract_lets nap _ part _ _ _ s1 _ _ s2 s3
  have h0 := exitBegun_awake he hm
  have h1 : AwakeKeeps s.exitBegun s1 := by
    unfold s1
    split
    next hn =>
      have e : s.exitBegun = _ := if_pos hn
      rw [e] at h0 ⊢
      exact h0.sledPowerUp.foldl fun _ _ ht => ht.beadNapExit
    next hn =>
      have e : s.exitBegun = _ := if_neg hn
      rw [e] at h0 ⊢
      exact h0
  have h2 : AwakeKeeps s.exitBegun { s1 with bead.napAt := none } := h1.same
  have h3 : AwakeKeeps (({ s1 with bead.napAt := none } : State).set .CORE_MHZ 1200) s3 := by
    unfold s3
    rw [if_neg (by simp [part, he])]
    exact h2.fullClock.handover.unbuffer.fifoDrain.restartIdle
  obtain ⟨-, -, -, hbu⟩ := exitBegun_told s
  have hactive : s3.bu.active = false := (h3.active.trans h2.active).trans (by rw [hbu, ha])
  have hblock : s3.bu.block = none := (h3.block.trans h2.block).trans (by rw [hbu, hb])
  refine ⟨_, h2, ?_⟩
  rw [if_neg (by simp [hactive, hblock])]
  exact h3

/-! ## A wake source (03 R106-R110) -/

/-- An exit begun: the state left is noted, and with it WAKE_CAUSE and WAKE_FROM. -/
def State.exitNoted (s : State) (cause : Nat) : State :=
  (({ s with pw.waking := some s.pw.mode } : State).set .WAKE_CAUSE cause).set .WAKE_FROM s.pw.mode.code

theorem beginWake_below {s : State} (cause : Nat) (hm : s.pw.mode = .doze ∨ s.pw.mode = .nap)
    (hw : s.pw.waking = none) : s.beginWake cause = (s.exitNoted cause).pulse Ev.wakes := by
  rcases hm with hm | hm <;> simp [State.beginWake, hm, hw, State.exitNoted]

/-- An enabled source asserts at most WAKE_N before the exit begins. -/
theorem sourceFires_enabled {s : State} {cause : Nat} (he : s.wakeEnabled cause = true) :
    ∃ n, s.sourceFires cause = { s with host.wakeN := n } := by
  unfold State.sourceFires
  rw [if_pos he]
  split
  · exact ⟨_, rfl⟩
  · exact ⟨_, rfl⟩

theorem sourceFires_disabled {s : State} {cause : Nat} (hm : s.pw.mode = .doze ∨ s.pw.mode = .nap)
    (he : s.wakeEnabled cause = false) :
    s.sourceFires cause = s.set .WAKE_PENDING (s.reg .WAKE_PENDING ||| 2 ^ cause) := by
  rcases hm with hm | hm <;> simp [State.sourceFires, hm, he]

/-- The exit that an enabled source begins. -/
theorem arrive_enabled {s : State} {cause : Nat} (hm : s.pw.mode = .doze ∨ s.pw.mode = .nap) (hen : s.pw.entry = none)
    (hw : s.pw.waking = none) (he : s.wakeEnabled cause = true) :
    ∃ n, s.arrive cause = (({ s with host.wakeN := n } : State).exitNoted cause).pulse Ev.wakes := by
  obtain ⟨n, hn⟩ := sourceFires_enabled he
  refine ⟨n, ?_⟩
  simp only [State.arrive, hen, State.wakeOn, he, hn, Bool.or_false, if_true]
  exact beginWake_below _ hm hw

/-- A disabled source is recorded and begins no exit. -/
theorem arrive_disabled {s : State} {cause : Nat} (hm : s.pw.mode = .doze ∨ s.pw.mode = .nap) (hen : s.pw.entry = none)
    (he : s.wakeEnabled cause = false) :
    s.arrive cause = s.set .WAKE_PENDING (s.reg .WAKE_PENDING ||| 2 ^ cause) := by
  simp only [State.arrive, hen, State.wakeOn, he, Bool.or_false, Bool.false_eq_true, if_false]
  exact sourceFires_disabled hm he

theorem exitNoted_kept (s : State) (cause : Nat) :
    RegsKept ([.WAKE_CAUSE, .WAKE_FROM] : List RegName) s (s.exitNoted cause) := by
  obtain ⟨-, hk, -⟩ := ((OnlyRegs.refl [.WAKE_CAUSE, .WAKE_FROM] ({ s with pw.waking := some s.pw.mode } : State)).set
    (n := .WAKE_CAUSE) (v := cause) (by decide)).set (n := .WAKE_FROM) (v := s.pw.mode.code) (by decide)
  exact hk

theorem exitNoted_cause (s : State) {cause : Nat} (hc : cause < 8) : (s.exitNoted cause).reg .WAKE_CAUSE = cause :=
  calc (s.exitNoted cause).reg .WAKE_CAUSE
    _ = cause % 2 ^ RegName.WAKE_CAUSE.info.width := (State.set_reg_ne _ _ (by decide)).trans (State.set_reg _ _ _)
    _ = cause := Nat.mod_eq_of_lt (hc.trans (by decide))

theorem exitNoted_from (s : State) (cause : Nat) : (s.exitNoted cause).reg .WAKE_FROM = s.pw.mode.code :=
  calc (s.exitNoted cause).reg .WAKE_FROM
    _ = s.pw.mode.code % 2 ^ RegName.WAKE_FROM.info.width := State.set_reg _ _ _
    _ = s.pw.mode.code := Nat.mod_eq_of_lt (by cases s.pw.mode <;> decide)

/-- What an exit begun shows: its registers, and all else but the beads as it was. -/
theorem exitPulsed_told (s : State) {cause : Nat} (hc : cause < 8) (u : State)
    (hu : (s.exitNoted cause).pulse Ev.wakes = u) :
    u.reg .WAKE_CAUSE = cause ∧ u.reg .WAKE_FROM = s.pw.mode.code ∧
    RegsKept (([.WAKE_CAUSE, .WAKE_FROM] : List RegName) ++ beadRegs) s u ∧
    ∃ m, u = { s with pw.waking := some s.pw.mode, regs := m } := by
  obtain ⟨⟨m, e⟩, hk, -⟩ := pulse_only (s.exitNoted cause) Ev.wakes 1
  rw [hu] at e hk
  have hreg (n : RegName) (hn : n ∉ beadRegs) : u.reg n = (s.exitNoted cause).reg n := hk n _ hn
  refine ⟨(hreg _ (by decide)).trans (exitNoted_cause s hc), (hreg _ (by decide)).trans (exitNoted_from s cause),
    fun n i hn => ?_, m, e⟩
  obtain ⟨hn1, hn2⟩ := not_or.1 (mt List.mem_append.2 hn)
  exact (hk n i hn2).trans (exitNoted_kept s cause n i hn1)

theorem bit_eq_testBit (n k : Nat) : bit n k = n.testBit k := by
  simp [bit, Nat.testBit_eq_decide_div_mod_eq, beq_eq_decide]

/-- A source recorded sets its bit of the eight and leaves the others. -/
theorem bit_or_two_pow (n : Nat) {source k : Nat} (hk : k < 8) :
    bit ((n ||| 2 ^ source) % 2 ^ 8) k = (bit n k || decide (source = k)) := by
  simp only [bit_eq_testBit, Nat.testBit_mod_two_pow, hk, decide_true, Bool.true_and, Nat.testBit_or,
    Nat.testBit_two_pow]

theorem exec_wakeEvent {s : State} {source : Nat} (hs : source < 8) (hm : s.pw.mode = .doze ∨ s.pw.mode = .nap)
    (hd : s.pw.mode = .doze → source ≠ 4) : exec (.wakeEvent source) s = .next (s.arrive source) := by
  have e : exec (.wakeEvent source) s = execWakeEvent source s := rfl
  have hr : s.wakeReaches source = true := by
    rcases hm with hm | hm
    · simpa [State.wakeReaches, hm] using hd hm
    · simp [State.wakeReaches, hm]
  simp [e, execWakeEvent, checked, hs, hr]

theorem exec_rtcAlarmFire_due {s : State} (hup : s.pw.wardenUp = true) (hf : s.pw.alarmFired = false)
    (ha : s.reg .RTC_ALARM ≠ 0) (hd : s.reg .RTC_ALARM ≤ s.now) :
    exec .rtcAlarmFire s = .next (({ s with pw.alarmFired := true } : State).arrive 1) := by
  have e : exec .rtcAlarmFire s = execRtcAlarmFire s := rfl
  simp [e, execRtcAlarmFire, hup, hf, ha, hd]

theorem exec_wakeExitComplete {s : State} (hm : s.pw.mode = .doze ∨ s.pw.mode = .nap) (hw : s.pw.waking.isSome = true) :
    exec .wakeExitComplete s = .next s.wakeExit := by
  have e : exec .wakeExitComplete s = execWakeExitComplete s := rfl
  rcases hm with hm | hm <;> simp [e, execWakeExitComplete, hm, hw]

/-- Settles O28: an enabled source begins the exit by `arrive_enabled`, a disabled one only sets its bit; the end of the
exit keeps what `AwakeKeeps` says from `exitBegun` on. -/
theorem wakeSourcesBringTheK760BackToRun : Obligations.WakeSourcesBringTheK760BackToRun := by
  unfold Obligations.WakeSourcesBringTheK760BackToRun
  refine ⟨fun s source hs hm hd hen hw he => ?_, fun s source hs hm hd hen he => ?_,
    fun s hm hup hen hw hf ha hdue he => ?_, fun s m hm hbelow hw hen ⟨_, hd, _⟩ ha hb => ?_⟩
  · obtain ⟨n, hn⟩ := arrive_enabled hm hen hw he
    obtain ⟨hcause, hfrom, hk, m, hrest⟩ := exitPulsed_told { s with host.wakeN := n } hs _ rfl
    refine ⟨_, exec_wakeEvent hs hm hd, ?_⟩
    rw [hn]
    refine ⟨?_, ?_, hcause, hfrom, hk, ?_⟩
    · rw [hrest]
    · rw [hrest]
    · rw [hrest, ← hw]
  · have hpend (k : Nat) (hk : k < 8) : bit ((s.set .WAKE_PENDING (s.reg .WAKE_PENDING ||| 2 ^ source)).reg .WAKE_PENDING) k
        = (bit (s.reg .WAKE_PENDING) k || decide (source = k)) := by
      rw [State.set_reg]
      exact bit_or_two_pow _ hk
    obtain ⟨-, hk, -⟩ := OnlyRegs.put s .WAKE_PENDING RegName.WAKE_PENDING.info.idx0
      (s.reg .WAKE_PENDING ||| 2 ^ source) (List.mem_singleton_self _)
    refine ⟨_, exec_wakeEvent hs hm hd, ?_⟩
    rw [arrive_disabled hm hen he]
    refine ⟨?_, fun k hk8 hne => ?_, hk, rfl⟩
    · rw [hpend source hs]
      simp
    · rw [hpend k hk8]
      simp [hne.symm]
  · obtain ⟨n, hn⟩ := arrive_enabled (s := { s with pw.alarmFired := true }) (cause := 1) (Or.inr hm) hen hw he
    obtain ⟨hcause, hfrom, hk, m, hrest⟩ :=
      exitPulsed_told { s with pw.alarmFired := true, host.wakeN := n } (cause := 1) (by decide) _ rfl
    refine ⟨_, exec_rtcAlarmFire_due hup hf ha hdue, ?_⟩
    rw [hn]
    refine ⟨?_, ?_, hcause, hfrom.trans ?_, hk⟩
    · rw [hrest]
    · rw [hrest]
      exact congrArg some hm
    · exact congrArg PowerMode.code hm
  · obtain ⟨v, hv, ht⟩ := wakeExit_awake hen hd ha hb
    obtain ⟨hrun, hwake, -, hdie⟩ := ht.awake
    obtain ⟨hq, hmd, hsec, -⟩ := exitBegun_told s
    have hclock : ∀ n ∈ exitRegs, n ≠ .CORE_MHZ → s.wakeExit.reg n = s.exitBegun.reg n := fun n hn hne =>
      ((ht.reg n hn).trans (State.set_reg_ne v 1200 hne)).trans (hv.reg n hn)
    have hfull : (v.set .CORE_MHZ 1200).reg .CORE_MHZ = 1200 := State.set_reg _ _ _
    refine ⟨_, exec_wakeExitComplete (hm ▸ hbelow) hw, hrun, hwake, hdie, (ht.reg _ (by decide)).trans hfull,
      fun hn => ?_, (ht.q.trans hv.q).trans hq, (ht.md.trans hv.md).trans hmd, (ht.sec.trans hv.sec).trans hsec⟩
    obtain ⟨hcore, hmem⟩ := exitBegun_clocks (s := s) (hm.trans hn)
    exact ⟨(hclock _ (by decide) (by decide)).trans hcore, (hclock _ (by decide) (by decide)).trans hmem⟩

end Sys2Proof.Machine
end

section
/-! SUPPORT. Which commands complete: a meaning answers a next state, or asks of its operands what `Instr.wf` says and
stops otherwise. -/

namespace Sys2Proof.Machine

/-- `o` answers a next state if `ok` holds, and stops with the fault noSuchUnit if not. -/
def CompletesIff (ok : Bool) (o : Host.Outcome State Fault Refusal) : Prop :=
  (ok = true → ∃ t, o = .next t) ∧ (ok = false → o = .fault .noSuchUnit)

theorem CompletesIff.next (s : State) : CompletesIff true (.next s) := ⟨fun _ => ⟨s, rfl⟩, nofun⟩

theorem CompletesIff.checked (ok : Bool) (s : State) : CompletesIff ok (checked ok s) := by
  cases ok with
  | false => exact ⟨nofun, fun _ => rfl⟩
  | true => exact .next s

/-- The commands whose operands always exist answer at once; the others check just what `Instr.wf` asks of them. -/
theorem exec_completesIff (c : Instr) (s : State) : CompletesIff c.wf (exec c s) := by
  cases c with
  | gpioOutWrite writer _ _ =>
    cases writer with
    | host => exact .checked _ _
    | coreA | coreB | servo | security | warden => exact .next _
  | bbRecordWrite _ _ =>
    simp only [exec, execBbRecordWrite]
    split <;> exact .next _
  | bbSuppressWindowClose _ _ =>
    simp only [exec, execBbSuppressWindowClose]
    split <;> exact .next _
  | w0BadAccess | mbGo | mbComplete | mbDoneClear | doorbellWrite | perstRelease | hostReadTimeout
    | poisonedTlp | qpCreate | qpDelete | sqFetch | coalTimerExpiry | paramGet | paramSet | powerHoldRun
    | powerDoze | powerNap | powerHibernate | powerReleaseHold | fwActivate | commission | keyRead
    | streamKeyOff | streamKeyHost | streamKeyDevice | svcChallenge | svcUnlock | bbErase | windowNow
    | windowPass | laserDac | coilSense | motorSense | adcTone | shuttleLoop | tempCross | d2dLoop
    | allAnalogue | injD2dBreak | injLeaseStop | injBemfBlank | injBemfSpurious | injLaneError
    | injLaneLoopFail | injParityFlip | injCheckerBreak | injReedCorrupt | injPoison | injVerifyFail
    | injEraseFrames | injDefectFlag | injTrainFail | injPoolWrite | holdupLockSet | holdupUnlock | ustepApply
    | bqApply | bqActivate | calNow | setDefaults | gpioMaskedUpdate | gpioLockKey | canmapWrite
    | tallySourceWrite | rcvDataWrite | rcvClose | wakeEvent | d2dRetrainDone | leaseRenew | leaseExpiry
    | engineLoopbackDone | engineLoopbackRetry | crossbarAccess | tailCommit | segCloseHeldAppend | poolLoss
    | poolRetrain | camDatagram | arpRequest | gptpFrame | syncTimer | announceTimer | pdelayTimer
    | camLinkDown | camLinkUp | portTimeout | serialDataFrame | serialHeartbeat | serialAnswer
    | serialGapDiscard | timeFrameTimer | canFrame | tallyEdgeDebounced | tallyMaxOpen | spinupRequest
    | spindleOvercurrent | spindleOpenPhase | sledOvercurrent | sledOpenCoil | coilRmsTrip | coilOpenShort
    | focusClose | seekRequest | accSample | laneLoopbackDone | readCalDone | ffFitWindow | coreWatchdogExpiry
    | coreWrite | deviceReadMatch | drainBarrier | drainTimeout | rangePreload | rangeInvalidate | rangeLock
    | rangeUnlock | parityError | auxSample | mbFieldWrite | msixMaskWrite =>
    exact .checked _ _
  | mbClaim | mbRelease | p8ClaimTimeout | p8Write | p8Read | p8Status | ntTailWrite | d3hotEntry | d0Return
    | linkRetrainTimeout | functionLevelReset | hotReset | perstAssert | hostResetComplete | fencedStart
    | servoTestStart | nop | fence | abort | poolRead | poolAppend | eventMark | flush | discDir | exportBlock
    | discRead | cartridgeEject | cartridgeLoad | timeSet | timeGet | tallyRead | cntConfig | cntSnapshot
    | bbRead | fwStage | ustepTableActivate | recoveryReboot | dozeIdleExpiry | napIdleExpiry | napCommit
    | hibIdleExpiry | hibernateCommit | wakeExitComplete | rtcAlarmFire | pfailAssert | pfailSpinupTimeout
    | pfailRelease | slowCrystalStop | wardenRcCalibrate | crystalReturn | referenceStartTimeout
    | servoPllUnlock | corePllLoss | powerOnReset | pwrMainEnRaise | mainPgoodRise | mainPgoodTimeout
    | mainPgoodFall | railLowVlasVana | masterReset | boot | goodDelayExpiry | d2dLinkLoss
    | clusterVerifyVerdict | markRetire | mr4Poll | canBusOff | canBusoffRecovery | ppsEdge | nmeaSentence
    | ppsTimeout | holdoverExpiry | senseEnd | alignEnd | rampTimeout | shortRetryEnd | bemfCrossing
    | toothSynth | commutation | spindleStall | stopRequest | shortCycle | spindleFaultRetry | vmotLow
    | vmotRecover | spindleStageHot | spindleStageCool | sledSeekDemand | sledMoveEnd | holdDelayExpiry
    | sledReenergiseEnd | homeSwitchEdge | sledStall | homingSettle | homingFail | sledRehomeTimer
    | sledStageHot | sledStageCool | loaderEndSwitch | loaderTimeout | cartridgePull | focusSweepEnd
    | layerJumpTimeout | trackLoss | focusLoss | settleComplete | seekDone | writeGateTrip | shockHoldClear
    | accTimeout | accReinit | defectFlagAssert | defectFlagRelease | defectHoldOverrun | sampleMissed
    | laneDisagree | shadowRotate | readAttemptDone | apcUpdate | apcLockTimeout | monitorDeviation
    | laserOverpower | scratchParity | tempCheck | readCalStart | opcRun | tempSensorStale
    | securityWatchdogExpiry | mergeDrain | rangeOpDone | l2DataParity | l2TagParity | mergeParity
    | clusterEncode | signatureDone | entropyReady | entropyHealthFail | sramWindowTimer | poolWindowTimer
    | gpioWakeEdge | linkPowerStateChange | supplyRemoved | servoLoopSample | dsHeartbeatTick
    | jtagTapOperation =>
    exact .next _

/-- Settles O2: `exec_completesIff`. -/
theorem wellFormedCommandsNeverStop : Obligations.WellFormedCommandsNeverStop := fun c s => exec_completesIff c s

end Sys2Proof.Machine
end

section
/-! SUPPORT. A write of the host or of P8 to a running K760: where it acts, and what a write of MB_CTRL does there
(04 R133, R138-R146). -/

namespace Sys2Proof.Machine

/-! ## What a counter, or the host's record, leaves as it was -/

/-- A counter raised by 1: it is counted, every other register and every other field stays. -/
theorem bump_told_all (s : State) (n : RegName) :
    Counted n s (s.bump n) ∧ RegsKept [n] s (s.bump n) ∧ { s.bump n with regs := s.regs } = s :=
  ⟨State.bump_reg s n, (OnlyRegs.put s n _ _ (List.mem_singleton_self n)).2.1, rfl⟩


/-- A change of one slot leaves the others. -/
theorem setSlot_others (s : State) (n : Nat) (f : Slot → Slot) : s.OthersKept (s.setSlot n f) n :=
  fun _ hm => setSlot_slot_ne s f hm

/-- Two changes of one slot are one. -/
theorem setSlot_setSlot (s : State) (n : Nat) (f g : Slot → Slot) :
    (s.setSlot n f).setSlot n g = s.setSlot n fun m => g (f m) := by
  simp [State.setSlot, List.modify_modify_eq, Function.comp_def]

/-! ## Where a write acts -/

theorem hostReaches_of_hostUp {s : State} (h : s.hostUp) : s.hostReaches = true := by
  obtain ⟨⟨hm, -⟩, hr, hp⟩ := h
  simp [State.hostReaches, hm, hr, hp]

/-- A mailbox write of the host to a running K760 restarts the idle timers and wakes nothing (03 R97). -/
theorem mailboxWrite_running {s : State} (h : s.running) (ctrl : Bool) : s.mailboxWrite ctrl = s.rested := by
  obtain ⟨hm, he, -, -, -, hl⟩ := h
  rw [State.mailboxWrite, arrive_running s 3 ctrl hm he hl, cancelEntry_none s he, restartIdle_eq]

/-- A chip select of P8 on a running K760 only keeps its time (04 R147). -/
theorem p8Select_running {s : State} (h : s.running) : s.p8Select = { s with host.p8At := s.clock } := by
  obtain ⟨hm, he, -, -, -, hl⟩ := h
  exact arrive_running _ 5 false hm he hl

theorem p8Reaches_running {s : State} (h : s.running) : s.p8Reaches = true := by
  simp [State.p8Reaches, State.p8Waits, h.1]

/-- The state in which a side's mailbox write to a running K760 acts: the idle timers restarted (03 R97), and of P8 the
time of its chip select kept (04 R147). -/
def State.reached (s : State) (byP8 : Bool) : State :=
  if byP8 then { s with host.p8At := s.clock }.rested else s.rested

@[simp] theorem reached_slot (s : State) (byP8 : Bool) (n : Nat) : (s.reached byP8).slot n = s.slot n := by
  cases byP8 <;> rfl
@[simp] theorem reached_regs (s : State) (byP8 : Bool) : (s.reached byP8).regs = s.regs := by cases byP8 <;> rfl
@[simp] theorem reached_slots (s : State) (byP8 : Bool) : (s.reached byP8).host.slots = s.host.slots := by
  cases byP8 <;> rfl
@[simp] theorem reached_claim (s : State) (byP8 : Bool) : (s.reached byP8).host.claim = s.host.claim := by
  cases byP8 <;> rfl
@[simp] theorem reached_pfail (s : State) (byP8 : Bool) : (s.reached byP8).pw.pfail = s.pw.pfail := by
  cases byP8 <;> rfl
@[simp] theorem reached_unlocked (s : State) (byP8 : Bool) : (s.reached byP8).host.unlocked = s.host.unlocked := by
  cases byP8 <;> rfl

theorem p8Access_running {s : State} (h : s.running) (o : Nat) (bs : List Byte) (f : State → State) :
    s.p8Access o bs f = f (s.reached true) := by
  simp only [State.p8Access, p8Reaches_running h, p8Select_running h, if_true]
  rw [cancelEntry_none { s with host.p8At := s.clock } h.2.1]
  rfl

section
variable {s : State} {n : Nat} {byP8 : Bool} (h : s.sideUp n byP8)
include h

theorem sideUp_hostUp (hb : byP8 = false) : s.hostUp := ⟨h.1, h.2.2.2.2 hb⟩

theorem sideUp_length : n < s.host.slots.length := by
  obtain ⟨-, hn, hl, -⟩ := h
  omega

theorem sideUp_operands : (decide (n < 4) && (!byP8 || n == 3)) = true := by
  obtain ⟨-, hn, -, h3, -⟩ := h
  cases byP8 <;> simp_all

/-- MB_GO by a side that reaches the slot is a write of MB_CTRL there. -/
theorem exec_mbGo_reached (w : BitVec 32) :
    exec (.mbGo n w byP8) s = .next ((s.reached byP8).ctrlWrite n (w.toNat ||| 1) byP8) := by
  simp only [exec, execMbGo, sideUp_operands h, checked, if_true]
  cases byP8 with
  | true => rw [if_pos rfl, p8Access_running h.1]
  | false =>
    rw [if_neg Bool.false_ne_true, if_pos (hostReaches_of_hostUp (sideUp_hostUp h rfl)), mailboxWrite_running h.1]
    rfl

/-- So is MB_DONE_CLEAR. -/
theorem exec_mbDoneClear_reached :
    exec (.mbDoneClear n byP8) s = .next ((s.reached byP8).ctrlWrite n (4 + 256 * (s.slot n).seq) byP8) := by
  simp only [exec, execMbDoneClear, sideUp_operands h, checked, if_true]
  cases byP8 with
  | true => rw [if_pos rfl, p8Access_running h.1]
  | false =>
    rw [if_neg Bool.false_ne_true, if_pos (hostReaches_of_hostUp (sideUp_hostUp h rfl)), mailboxWrite_running h.1]
    rfl

end

/-! ## A write of MB_CTRL (04 Table 4.6) -/

/-- MB_SEQ stored, DONE and PROTO_ERR cleared by a 1, PROTO_ERR set by a GO out of turn. -/
def Slot.ctrl (m : Slot) (w : Nat) (bad : Bool) : Slot :=
  { m with seq := w / 256 % 256, done := m.done && !bit w 2, protoErr := (m.protoErr && !bit w 3) || bad }

/-- The slot with the word written and its GO set, in the order of the GO writes (R138, R143). -/
def State.handed (s : State) (n w : Nat) : State :=
  { s.setSlot n fun m => { m.ctrl w false with go := true, goAt := s.host.goCount } with
    host.goCount := s.host.goCount + 1 }

section
variable {s : State} {n w : Nat} {byP8 : Bool}

/-- A GO on an MBX_3 that the other side holds tells only as PROTO_ERR, and as BAD_ACCESS of the host (R145, R146). -/
theorem ctrlWrite_barred_go (ho : s.otherHolds n byP8 = true) (hg : bit w 0 = true) :
    s.ctrlWrite n w byP8 = (s.setSlot n fun m => { m with protoErr := true }).refuseWrite byP8 := by
  simp [State.ctrlWrite, ho, hg]

/-- Another write there tells only as BAD_ACCESS of the host (R146). -/
theorem ctrlWrite_barred (ho : s.otherHolds n byP8 = true) (hg : bit w 0 = false) :
    s.ctrlWrite n w byP8 = s.refuseWrite byP8 := by
  simp [State.ctrlWrite, ho, hg]

/-- A word without GO (R137). -/
theorem ctrlWrite_plain (ho : s.otherHolds n byP8 = false) (hg : bit w 0 = false) :
    s.ctrlWrite n w byP8 = s.setSlot n fun m => m.ctrl w false := by
  simp [State.ctrlWrite, ho, hg, Slot.ctrl]

/-- A GO out of turn, or from a side that does not hold MBX_3 (R140, R145). -/
theorem ctrlWrite_bad (ho : s.otherHolds n byP8 = false) (hg : bit w 0 = true)
    (hb : ((s.slot n).busy || (s.slot n).done || (s.slot n).go || !s.holds n byP8) = true) :
    s.ctrlWrite n w byP8 = s.setSlot n fun m => m.ctrl w true := by
  unfold State.ctrlWrite
  rw [if_neg (by simp [ho])]
  extract_lets m bad s1
  have e : bad = true := by simp [bad, m, hg, hb]
  rw [if_neg (by simp [e])]
  simp only [s1, e]
  rfl

/-- A GO on a free slot while the K760 takes commands (R138). -/
theorem ctrlWrite_go (ho : s.otherHolds n byP8 = false) (hg : bit w 0 = true)
    (hb : ((s.slot n).busy || (s.slot n).done || (s.slot n).go || !s.holds n byP8) = false) (ht : s.takesGo = true) :
    s.ctrlWrite n w byP8 = (s.handed n w).acceptGo n byP8 := by
  unfold State.ctrlWrite
  rw [if_neg (by simp [ho])]
  extract_lets m bad s1 s2 x s3
  have e : bad = false := by simp [bad, m, hg, hb]
  have e2 : s3 = s.handed n w := by
    simp only [s3, x, s2, s1, e, State.handed, setSlot_setSlot]
    rfl
  rw [if_pos (by simp [e, hg]), e2, if_pos (show (s.handed n w).takesGo = true from ht)]

end

end Sys2Proof.Machine
end

section
/-! SUPPORT. A bad access of a window, and a GO: accepted on a free slot, refused out of turn (04 R133, R138-R146). -/

namespace Sys2Proof.Machine

/-! ## A bad access (R133) -/

/-- A write of W0 or W2 that is no access of R133 only counts. -/
theorem exec_w0BadAccess_write (s : State) {window offset size : Nat} (hw : window = 0 ∨ window = 2)
    (hs : offset + size ≤ windowSize window) (hb : accessOk offset size = false) :
    exec (.w0BadAccess window offset size true) s = .next (s.bump .BAD_ACCESS) := by
  simp [exec, execW0BadAccess, checked, hw, hs, hb]

/-- A read of that kind returns 0 and counts. -/
theorem exec_w0BadAccess_read (s : State) {window offset size : Nat} (hw : window = 0 ∨ window = 2)
    (hs : offset + size ≤ windowSize window) (hb : accessOk offset size = false) :
    exec (.w0BadAccess window offset size false) s = .next ({ s with host.readValue := 0 }.bump .BAD_ACCESS) := by
  simp [exec, execW0BadAccess, checked, hw, hs, hb]

/-- An allowed read of W0 returns what stands there. -/
theorem exec_w0BadAccess_allowed (s : State) {offset size : Nat} (hs : offset + size ≤ 0x10000)
    (ha : accessOk offset size = true) : exec (.w0BadAccess 0 offset size false) s =
      .next { s with host.readValue := leNat ((List.range size).map fun i => s.w0Byte (offset + i)) } := by
  simp [exec, execW0BadAccess, checked, windowSize, hs, ha]

/-- One of W2 returns 0 (R158). -/
theorem exec_w0BadAccess_doorbells (s : State) {offset size : Nat} (hs : offset + size ≤ 0x80000)
    (ha : accessOk offset size = true) :
    exec (.w0BadAccess 2 offset size false) s = .next { s with host.readValue := 0 } := by
  simp [exec, execW0BadAccess, checked, windowSize, hs, ha]

/-- A write of that kind to a mailbox slot of a running K760 only counts. -/
theorem exec_mbFieldWrite_bad {s : State} (h : s.hostUp) {n o : Nat} {bs : List Byte} (hn : n < 4)
    (ho : o + bs.length ≤ 1024) (hb : accessOk o bs.length = false) :
    exec (.mbFieldWrite n o bs false) s = .next (s.bump .BAD_ACCESS) := by
  simp [exec, execMbFieldWrite, checked, hn, ho, hb, hostReaches_of_hostUp h]

/-- And one to a doorbell. -/
theorem exec_doorbellWrite_bad {s : State} (h : s.hostUp) {o n : Nat} (v : Nat) (ho : o + n ≤ windowSize 2)
    (hb : accessOk o n = false) : exec (.doorbellWrite o n v) s = .next (s.bump .BAD_ACCESS) := by
  simp [exec, execDoorbellWrite, checked, ho, hb, hostReaches_of_hostUp h]

theorem accessOk_iff (o n : Nat) : accessOk o n = true ↔ (n = 4 ∨ n = 8) ∧ o % n = 0 := by
  simp [accessOk]

/-- Settles O7: a bad access is one bump of BAD_ACCESS (`bump_told_all`); an allowed read moves no register. -/
theorem badAccessIsCounted : Obligations.BadAccessIsCounted := by
  unfold Obligations.BadAccessIsCounted
  simp only [← accessOk_iff, Bool.not_eq_true]
  refine ⟨fun s w o n hw ho hb => ⟨_, exec_w0BadAccess_write s hw ho hb, bump_told_all s _⟩, fun s w o n hw ho hb => ?_,
    fun s n o bs h hn ho hb => ⟨_, exec_mbFieldWrite_bad h hn ho hb, bump_told_all s _⟩,
    fun s o n v h ho hb => ⟨_, exec_doorbellWrite_bad h v ho hb, bump_told_all s _⟩, fun s o n hn ha ho => ?_,
    fun s o n hn ha ho => ?_⟩
  · obtain ⟨hc, hk, -⟩ := bump_told_all { s with host.readValue := 0 } .BAD_ACCESS
    exact ⟨_, exec_w0BadAccess_read s hw ho hb, hc, rfl, hk, rfl⟩
  · exact ⟨_, exec_w0BadAccess_allowed s ho ((accessOk_iff o n).2 ⟨hn, ha⟩), rfl, rfl⟩
  · exact ⟨_, exec_w0BadAccess_doorbells s ho ((accessOk_iff o n).2 ⟨hn, ha⟩), rfl, rfl⟩

/-! ## A GO accepted (R138) -/

/-- The copy of the command fields, of MC_DLEN bytes of MB_DATA and of MB_SEQ that a GO makes, with a page. -/
def State.goCopy (s : State) (n : Nat) (byP8 : Bool) (page : List Byte) : MbCopy :=
  let mem := (s.slot n).mem
  { opcode := leNat (mem.readN 0x40 2), flags := leNat (mem.readN 0x42 2), dlen := leNat (mem.readN 0x44 4),
    seq := (s.slot n).seq, args := mem.readN 0x48 56, data := mem.readN 0x100 (min (leNat (mem.readN 0x44 4)) 768),
    byP8 := byP8, order := s.host.goCount, page := page, fetched := s.q.orders }

/-- The refusal that the fields of a copy already call for (R142; 06 R285; in recovery 19 R794). -/
def State.goRefusal (s : State) (c : MbCopy) : Option MbResp :=
  if s.reg .BOOT_MODE = 2 then c.recoveryReject else c.reject s.host.unlocked s.bobbinAbsent

theorem acceptGo_eq (s : State) (n : Nat) (byP8 : Bool) : ∃ page, s.acceptGo n byP8 =
    (State.setSlot { s with host.goCount := s.host.goCount + 1 } n fun m => { m with
      go := false, busy := true, copy := some (s.goCopy n byP8 page), resp := s.goRefusal (s.goCopy n byP8 page) }).pulse
      Ev.mbxCommands := by
  unfold State.acceptGo
  extract_lets m dlen c c' c'' r
  by_cases h : c'.opcode = 1 ∧ s.mailboxWaits c' = false
  · exact ⟨s.pageBytes (fieldAt c'.args 0 2), by simp only [r, c'', if_pos h]; rfl⟩
  · exact ⟨[], by simp only [r, c'', if_neg h]; rfl⟩

/-- Of the word of a GO only bit 0 is not as written. -/
theorem bit_or_one (w k : Nat) : bit (w ||| 1) k = (bit w k || decide (0 = k)) := by
  rw [bit_eq_testBit, bit_eq_testBit, ← pow_zero 2, Nat.testBit_or, Nat.testBit_two_pow]

theorem or_one_div (w : Nat) : (w ||| 1) / 256 = w / 256 := by
  have h : (w ||| 1) >>> 8 = w >>> 8 := by simp [Nat.shiftRight_or_distrib]
  simpa [Nat.shiftRight_eq_div_pow] using h

theorem Slot.ctrl_or_one (m : Slot) (w : Nat) (bad : Bool) : m.ctrl (w ||| 1) bad = m.ctrl w bad := by
  simp [Slot.ctrl, bit_or_one, or_one_div]

@[simp] theorem pulse_slot (s : State) (code v n : Nat) : (s.pulse code v).slot n = s.slot n := by
  simp [State.slot]

theorem handed_slot (s : State) {n w : Nat} (hn : n < s.host.slots.length) :
    (s.handed n w).slot n = { (s.slot n).ctrl w false with go := true, goAt := s.host.goCount } :=
  setSlot_slot_same s n _ hn

theorem otherHolds_of_holds {s : State} {n : Nat} {byP8 : Bool} (h : s.holds n byP8 = true) :
    s.otherHolds n byP8 = false := by
  simp only [State.holds, State.otherHolds, Bool.or_eq_true, bne_iff_ne, beq_iff_eq] at h ⊢
  rcases h with h | h
  · simp [h]
  · cases byP8 <;> simp [h]

/-- A slot free of a command takes a GO: the state it is accepted in, and the slot that results. -/
theorem exec_mbGo_accepted {s : State} {n : Nat} {byP8 : Bool} (h : s.sideUp n byP8) (w : BitVec 32)
    (hh : s.holds n byP8 = true) (hr : s.on .READY = true) (hg : (s.slot n).go = false) (hb : (s.slot n).busy = false)
    (hd : (s.slot n).done = false) :
    exec (.mbGo n w byP8) s =
      .next (((s.reached byP8).handed n (w.toNat ||| 1)).acceptGo n byP8) := by
  have hc : (s.reached byP8).holds n byP8 = true := by simpa only [State.holds, reached_claim] using hh
  have ht : (s.reached byP8).takesGo = true := by
    have hr' : s.reg .READY = 1 := by simpa [State.on] using hr
    rw [State.reg_eq] at hr'
    simp [State.takesGo, State.on, State.reg_eq, hr', h.1.2.2.2.1]
  rw [exec_mbGo_reached h, ctrlWrite_go (otherHolds_of_holds hc) (by simp [bit_or_one]) (by simp [hg, hb, hd, hc]) ht]

/-- What GO leaves of the state in which it is accepted: registers but the beads, and all but the host's record. -/
theorem acceptGo_told (s : State) (n : Nat) (byP8 : Bool) :
    RegsKept beadRegs s (s.acceptGo n byP8) ∧ s.OthersKept (s.acceptGo n byP8) n ∧
      { s.acceptGo n byP8 with regs := s.regs, host := s.host } = s := by
  obtain ⟨page, e⟩ := acceptGo_eq s n byP8
  rw [e]
  refine ⟨fun k i hk => pulse_get _ _ _ k i hk, fun m hm => ?_, ?_⟩
  · rw [pulse_slot]
    exact setSlot_slot_ne _ _ hm
  · obtain ⟨⟨r, e'⟩, -⟩ := pulse_only (State.setSlot { s with host.goCount := s.host.goCount + 1 } n fun m => { m with
      go := false, busy := true, copy := some (s.goCopy n byP8 page), resp := s.goRefusal (s.goCopy n byP8 page) })
      Ev.mbxCommands 1
    rw [e']
    rfl

theorem acceptGo_slot (s : State) {n : Nat} (byP8 : Bool) (hn : n < s.host.slots.length) :
    ∃ page, (s.acceptGo n byP8).slot n = { s.slot n with
      go := false, busy := true, copy := some (s.goCopy n byP8 page), resp := s.goRefusal (s.goCopy n byP8 page) } := by
  obtain ⟨page, e⟩ := acceptGo_eq s n byP8
  rw [e]
  exact ⟨page, (pulse_slot _ _ _ _).trans (setSlot_slot_same _ n _ hn)⟩

/-- Settles O8: the write is `acceptGo` on the slot with the word stored (`exec_mbGo_accepted`); `acceptGo_slot` gives the
copy it makes and `acceptGo_told` what stays. -/
theorem goIsAcceptedInOneStep : Obligations.GoIsAcceptedInOneStep := by
  unfold Obligations.GoIsAcceptedInOneStep
  intro s n w byP8 h hh hr hg hb hd
  have hn : n < (s.reached byP8).host.slots.length := by simpa using sideUp_length h
  set u := (s.reached byP8).handed n (w.toNat ||| 1) with hu
  have hm : u.slot n = { (s.slot n).ctrl w.toNat false with go := true, goAt := (s.reached byP8).host.goCount } := by
    rw [hu, handed_slot _ hn, reached_slot, Slot.ctrl_or_one]
  have hregs : u.regs = s.regs := reached_regs s byP8
  have hlock : u.host.unlocked = s.host.unlocked := reached_unlocked s byP8
  have habsent : u.bobbinAbsent = s.bobbinAbsent := by
    funext b
    rw [State.bobbinAbsent, State.bobbinAbsent, State.get_eq, State.get_eq, hregs]
  obtain ⟨page, hs⟩ := acceptGo_slot u byP8 (n := n) (by simpa [hu, State.handed] using hn)
  obtain ⟨hk, ho, hf⟩ := acceptGo_told u n byP8
  refine ⟨_, exec_mbGo_accepted h w hh hr hg hb hd, ?_⟩
  rw [hs]
  refine ⟨rfl, rfl, by rw [hm]; rfl, by rw [hm]; rfl, ?_, fun hb => ?_, fun m hm => ?_, fun k i hk' => ?_, ?_⟩
  · simp only [State.goCopy, hm]
    rfl
  · simp only [State.goRefusal, State.reg_eq, hregs, hlock, habsent]
    exact if_neg hb
  · rw [ho m hm, hu, State.handed]
    exact (setSlot_slot_ne _ _ hm).trans (reached_slot s byP8 m)
  · rw [hk k i hk', State.get_eq, hregs]
    rfl
  · calc { u.acceptGo n byP8 with regs := s.regs, host := s.host }
        = { ({ u.acceptGo n byP8 with regs := u.regs, host := u.host } : State) with
            regs := s.regs, host := s.host } := rfl
      _ = { u with regs := s.regs, host := s.host } := by rw [hf]
      _ = s.rested := by cases byP8 <;> rfl

/-! ## A GO out of turn (R140, R145) -/

section
variable {s : State} {n : Nat} {byP8 : Bool} (h : s.sideUp n byP8)
include h

/-- A change of the slot where a side's write acts: the slot that results, and what stays. -/
theorem reached_setSlot_told (f : Slot → Slot) : ((s.reached byP8).setSlot n f).slot n = f (s.slot n) ∧
    s.OthersKept ((s.reached byP8).setSlot n f) n ∧
    { (s.reached byP8).setSlot n f with host := s.host } = s.rested := by
  refine ⟨?_, fun m hm => ?_, by cases byP8 <;> rfl⟩
  · rw [setSlot_slot_same _ _ _ (by simpa using sideUp_length h), reached_slot]
  · rw [setSlot_slot_ne _ _ hm, reached_slot]

theorem exec_mbGo_outOfTurn (w : BitVec 32) (ho : s.otherHolds n byP8 = false)
    (hb : ((s.slot n).busy || (s.slot n).done || (s.slot n).go || !s.holds n byP8) = true) :
    exec (.mbGo n w byP8) s = .next ((s.reached byP8).setSlot n fun m => m.ctrl w.toNat true) := by
  have ho' : (s.reached byP8).otherHolds n byP8 = false := by simpa only [State.otherHolds, reached_claim] using ho
  rw [exec_mbGo_reached h, ctrlWrite_bad ho' (by simp [bit_or_one]) (by simpa [State.holds] using hb)]
  simp only [Slot.ctrl_or_one]

theorem exec_mbGo_barred (w : BitVec 32) (ho : s.otherHolds n byP8 = true) : exec (.mbGo n w byP8) s =
    .next (((s.reached byP8).setSlot n fun m => { m with protoErr := true }).refuseWrite byP8) := by
  have ho' : (s.reached byP8).otherHolds n byP8 = true := by simpa only [State.otherHolds, reached_claim] using ho
  rw [exec_mbGo_reached h, ctrlWrite_barred_go ho' (by simp [bit_or_one])]

end

/-- Settles O9: out of turn only PROTO_ERR and what the word itself clears change (`exec_mbGo_outOfTurn`); on an MBX_3 of
the other side only PROTO_ERR does, the host's GO being counted (`exec_mbGo_barred`). -/
theorem goOutOfTurnIsAProtocolError : Obligations.GoOutOfTurnIsAProtocolError := by
  unfold Obligations.GoOutOfTurnIsAProtocolError
  refine ⟨fun s n w byP8 h hh hb => ?_, fun s w byP8 h hc => ?_, fun s w h hc => ?_, fun s w h hc => ?_⟩
  · obtain ⟨hs, ho, hf⟩ := reached_setSlot_told h fun m => m.ctrl w.toNat true
    refine ⟨_, exec_mbGo_outOfTurn h w (otherHolds_of_holds hh) (by rcases hb with hb | hb <;> simp [hb]), ?_⟩
    rw [hs]
    exact ⟨by simp [Slot.ctrl], rfl, rfl, rfl, rfl, rfl, fun hw => by simp [Slot.ctrl, bit, hw], ho, hf⟩
  · obtain ⟨hs, ho, hf⟩ := reached_setSlot_told h fun m => m.ctrl w.toNat true
    refine ⟨_, exec_mbGo_outOfTurn h w (by cases byP8 <;> simp [State.otherHolds, hc])
      (by cases byP8 <;> simp [State.holds, hc]), ?_⟩
    rw [hs]
    exact ⟨by simp [Slot.ctrl], rfl, rfl, rfl, rfl, rfl, ho, hf⟩
  · obtain ⟨hs, ho, -⟩ := reached_setSlot_told h fun m => { m with protoErr := true }
    obtain ⟨hcount, hk, -⟩ := bump_told_all s .BAD_ACCESS
    exact ⟨_, exec_mbGo_barred h w (by simp [State.otherHolds, hc]), hs, ho, hcount, hk, rfl⟩
  · obtain ⟨hs, ho, hf⟩ := reached_setSlot_told h fun m => { m with protoErr := true }
    exact ⟨_, exec_mbGo_barred h w (by simp [State.otherHolds, hc]), hs, ho, hf⟩

end Sys2Proof.Machine
end

section
/-! SUPPORT. A mailbox command completes: its response stands in the slot, or is discarded after a host-side reset; DONE
frees the slot (04 R137, R139, R147; Table 4.10). -/

namespace Sys2Proof.Machine

/-! ## Bytes written and read back -/

@[simp] theorem leBytes_length (n v : Nat) : (leBytes n v).length = n := by
  induction n generalizing v with
  | zero => rfl
  | succ n ih => simp [leBytes, ih]

@[simp] theorem bytesAt_length (bs : List Byte) (o n : Nat) : (bytesAt bs o n).length = n := by simp [bytesAt]

namespace Mem

/-- Bytes read where nothing was written. -/
theorem readN_writeN_outside (m : Mem) (a c n : Nat) (bs : List Byte) (h : c + n ≤ a ∨ a + bs.length ≤ c) :
    readN (writeN m a bs) c n = readN m c n := by
  induction n generalizing c with
  | zero => rfl
  | succ n ih => rw [readN, readN, read_writeN_outside _ _ _ _ (by omega), ih _ (by omega)]

theorem readN_writeN_same (m : Mem) (a : Nat) (bs : List Byte) : readN (writeN m a bs) a bs.length = bs := by
  induction bs generalizing m a with
  | nil => rfl
  | cons b bs ih =>
    rw [List.length_cons, readN, writeN, ih, read_writeN_outside _ _ _ _ (by omega), read_write_same]

theorem writeN_append (m : Mem) (a : Nat) (bs cs : List Byte) :
    writeN m a (bs ++ cs) = writeN (writeN m a bs) (a + bs.length) cs := by
  induction bs generalizing m a with
  | nil => rfl
  | cons b bs ih => rw [List.cons_append, writeN, ih, writeN, List.length_cons, Nat.add_assoc, Nat.add_comm 1]

/-- The bytes in the middle of a run written, read back. -/
theorem readN_writeN_part (m : Mem) (a : Nat) {pre bs post : List Byte} :
    readN (writeN m a (pre ++ (bs ++ post))) (a + pre.length) bs.length = bs := by
  rw [writeN_append, writeN_append, readN_writeN_outside _ _ _ _ _ (.inl (Nat.le_refl _)), readN_writeN_same]

end Mem

/-! ## A DRAIN leaves the host's record (14 R629, R633) -/

@[simp] theorem poisonGranule_host (s : State) (g : Nat) : (s.poisonGranule g).host = s.host := by
  unfold State.poisonGranule
  split <;> simp

@[simp] theorem l2Fill_host (s : State) (line : Nat) (locked : Bool) : (s.l2Fill line locked).host = s.host := by
  unfold State.l2Fill
  split
  · rfl
  · extract_lets
    split
    · rfl
    · split
      · rfl
      · exact pulse_host _ _ _

@[simp] theorem l2Refill_host (s : State) (line : Nat) : (s.l2Refill line).host = s.host := by
  unfold State.l2Refill
  split
  · rfl
  · split <;> rfl

theorem mergeTake_host {s t : State} {core addr : Nat} {bs : List Byte} (e : s.mergeTake core addr bs = some t) :
    t.host = s.host := by
  unfold State.mergeTake at e
  extract_lets _ hit at e
  have hhit (u : State) : (hit u).host = u.host := by
    simp only [hit]
    split
    · rfl
    · split <;> rfl
  split at e
  · cases e
  · split at e
    · cases e
      exact hhit _
    · split at e
      · cases e
        exact hhit _
      · cases e

@[simp] theorem unstall_host (s : State) (l : List (Nat × Nat × List Byte)) : (s.unstall l).host = s.host := by
  induction l generalizing s with
  | nil => rfl
  | cons w ws ih =>
    unfold State.unstall
    split
    next e => rw [ih, mergeTake_host e]
    next => rfl

/-- A fold whose every step leaves the host's record leaves it. -/
theorem foldl_host {α : Type} (f : State → α → State) (hf : ∀ s a, (f s a).host = s.host) (l : List α) (s : State) :
    (l.foldl f s).host = s.host :=
  foldl_rel (fun s t => t.host = s.host) (fun _ => rfl) (fun a b => b.trans a) f hf l s

@[simp] theorem readsReturn_host (s : State) (id : Nat) : (s.readsReturn id).host = s.host := by
  unfold State.readsReturn
  exact foldl_host _ (fun _ _ => by rfl) _ _

@[simp] theorem rangeFills_host (s : State) : s.rangeFills.host = s.host := by
  unfold State.rangeFills
  split
  · rfl
  · exact foldl_host _ (fun _ _ => by split <;> simp) _ _

@[simp] theorem drainOldest_host (s : State) : s.drainOldest.host = s.host := by
  unfold State.drainOldest
  split
  · rfl
  · extract_lets _ s1 _ s2 s3 s4
    have h2 : s2.host = s.host := by simp only [s2]; split <;> rfl
    have h3 : s3.host = s2.host := by simp only [s3]; split <;> simp
    have h4 : s4.host = s3.host := readsReturn_host s3 _
    rw [rangeFills_host, unstall_host, h4, h3, h2]

@[simp] theorem drainFirst_host (s : State) : s.drainFirst.host = s.host := by
  have drains (n : Nat) (t : State) : (t.drainOld n).host = t.host := by
    induction n generalizing t with
    | zero => rfl
    | succ n ih => rw [State.drainOld, ih, drainOldest_host]
  rw [State.drainFirst, drains, pulse_host]

/-! ## MB_COMPLETE (R139) -/

/-- The response fields as they are written from 0x80 on (Table 4.6). -/
def MbResp.header (r : MbResp) (seq : Nat) : List Byte :=
  leBytes 2 r.status ++ leBytes 1 seq ++ leBytes 1 0 ++ leBytes 4 r.data.length ++ bytesAt r.result 0 24

@[simp] theorem MbResp.header_length (r : MbResp) (seq : Nat) : (r.header seq).length = 32 := by simp [MbResp.header]

/-- The slot with the response in it, free of its command. -/
def Slot.published (m : Slot) (c : MbCopy) (r : MbResp) : Slot :=
  { m with mem := (m.mem.writeN 0x80 (r.header c.seq)).writeN 0x100 r.data
           busy := false, done := true, copy := none, resp := none }

section
variable (m : Slot) (c : MbCopy) (r : MbResp)

/-- Bytes of the header, read back from the slot. -/
theorem published_header {pre bs post : List Byte} (h : r.header c.seq = pre ++ (bs ++ post)) :
    (m.published c r).mem.readN (0x80 + pre.length) bs.length = bs := by
  have hl : pre.length + (bs.length + post.length) = 32 := by
    simpa using (congrArg List.length h).symm
  simp only [Slot.published, h]
  rw [Mem.readN_writeN_outside _ _ _ _ _ (by omega), Mem.readN_writeN_part]

theorem published_status : (m.published c r).mem.readN 0x80 2 = leBytes 2 r.status := by
  simpa using published_header m c r (pre := []) (bs := leBytes 2 r.status) (by simp [MbResp.header]; rfl)

theorem published_seq : (m.published c r).mem.read 0x82 = BitVec.ofNat 8 c.seq := by
  have h := published_header m c r (pre := leBytes 2 r.status) (bs := leBytes 1 c.seq) (by simp [MbResp.header]; rfl)
  simpa [leBytes, Mem.readN] using h

theorem published_dlen : (m.published c r).mem.readN 0x84 4 = leBytes 4 r.data.length := by
  simpa using published_header m c r (pre := leBytes 2 r.status ++ leBytes 1 c.seq ++ leBytes 1 0)
    (bs := leBytes 4 r.data.length) (by simp [MbResp.header]; rfl)

theorem published_result : (m.published c r).mem.readN 0x88 24 = bytesAt r.result 0 24 := by
  simpa using published_header m c r (pre := leBytes 2 r.status ++ leBytes 1 c.seq ++ leBytes 1 0 ++
    leBytes 4 r.data.length) (bs := bytesAt r.result 0 24) (post := []) (by simp [MbResp.header])

theorem published_data {i : Nat} (hi : i < r.data.length) :
    (m.published c r).mem.read (0x100 + i) = r.data.getD i 0 := by
  rw [Slot.published, Mem.read_writeN_inside _ _ _ _ hi, List.getD_eq_getElem _ _ hi]

/-- Every other byte of the slot stays. -/
theorem published_outside {a : Nat} (h : a < 0x80 ∨ (0xA0 ≤ a ∧ a < 0x100) ∨ 0x100 + r.data.length ≤ a) :
    (m.published c r).mem.read a = m.mem.read a := by
  rw [Slot.published, Mem.read_writeN_outside _ _ _ _ (by omega),
    Mem.read_writeN_outside _ _ _ _ (by rw [MbResp.header_length]; omega)]

end

/-! ### Messages (R155) -/

/-- `t` is `s` but for the beads, and the messages pending or written to host memory. -/
def Messaged (s t : State) : Prop :=
  (∃ m hm p, t = { s with regs := m, host := { s.host with mem := hm, msixPending := p } }) ∧ RegsKept beadRegs s t

namespace Messaged

variable {s t u : State}

theorem refl (s : State) : Messaged s s := ⟨⟨s.regs, s.host.mem, s.host.msixPending, rfl⟩, fun _ _ _ => rfl⟩

theorem trans (a : Messaged s t) (b : Messaged t u) : Messaged s u := by
  obtain ⟨⟨m, hm, p, rfl⟩, ka⟩ := a
  obtain ⟨⟨m', hm', p', rfl⟩, kb⟩ := b
  exact ⟨⟨m', hm', p', rfl⟩, fun n i h => (kb n i h).trans (ka n i h)⟩

theorem pulse (s : State) (code v : Nat) : Messaged s (s.pulse code v) := by
  obtain ⟨⟨m, e⟩, hk, -⟩ := pulse_only s code v
  exact ⟨⟨m, s.host.mem, s.host.msixPending, e⟩, hk⟩

theorem hostWrite (s : State) (a : Nat) (bs : List Byte) : Messaged s (s.hostWrite a bs) := by
  unfold State.hostWrite
  split
  · exact ⟨⟨s.regs, _, s.host.msixPending, rfl⟩, fun _ _ _ => rfl⟩
  · exact refl s

theorem msixSend (s : State) (v : Nat) : Messaged s (s.msixSend v) := by
  unfold State.msixSend
  split
  · exact refl s
  · extract_lets
    split
    · split
      · exact refl s
      · exact ⟨⟨s.regs, s.host.mem, _, rfl⟩, fun _ _ _ => rfl⟩
    · exact (hostWrite s _ _).trans (pulse _ _ _)

variable (h : Messaged s t)
include h

theorem slots : t.host.slots = s.host.slots := by
  obtain ⟨⟨_, _, _, rfl⟩, -⟩ := h
  rfl

theorem slot (n : Nat) : t.slot n = s.slot n := by rw [State.slot, State.slot, h.slots]

theorem releaseDue : t.host.releaseDue = s.host.releaseDue := by
  obtain ⟨⟨_, _, _, rfl⟩, -⟩ := h
  rfl

/-- Under any registers and any host record it is the same state. -/
theorem frame (r : Map Nat) (x : HostS) : { t with regs := r, host := x } = { s with regs := r, host := x } := by
  obtain ⟨⟨_, _, _, rfl⟩, -⟩ := h
  rfl

end Messaged

/-- A message that the function mask holds back only joins those pending. -/
theorem msixSend_held {s : State} (v : Nat) (ho : s.host.msixOn = true) (hf : s.host.msixFnMask = true) :
    ∃ p, s.msixSend v = { s with host.msixPending := p } ∧ v ∈ p ∧ ∀ k ∈ s.host.msixPending, k ∈ p := by
  unfold State.msixSend
  rw [if_neg (by simp [ho])]
  extract_lets
  rw [if_pos (by simp [hf])]
  split
  next hv => exact ⟨s.host.msixPending, rfl, by simpa using hv, fun _ h => h⟩
  next => exact ⟨s.host.msixPending ++ [v], rfl, by simp, fun k h => by simp [h]⟩

/-! ### The slot after it -/

/-- The response is in the slot, after its DRAIN, and vector 0 sent. -/
def State.published (s : State) (n : Nat) (c : MbCopy) (r : MbResp) : State :=
  (s.drainFirst.setSlot n fun m => m.published c r).msixSend 0

/-- The response is discarded and the slot cleared; what became of the command is noted for the report (R167). -/
def State.discarded (s : State) (n : Nat) : State := (s.noteFlight n).setSlot n fun _ => {}

/-- The slot is done with its command in the one way or the other. -/
def State.completed (s : State) (n : Nat) (c : MbCopy) (r : MbResp) : State :=
  if (s.slot n).discard then s.discarded n else s.published n c r

section
variable {s : State} {n : Nat} {c : MbCopy} {r : MbResp}

theorem published_told (c : MbCopy) (r : MbResp) (hn : n < s.host.slots.length) :
    (s.published n c r).slot n = (s.slot n).published c r ∧ s.OthersKept (s.published n c r) n := by
  have hm := Messaged.msixSend (s.drainFirst.setSlot n fun m => m.published c r) 0
  have hslot (k : Nat) : s.drainFirst.slot k = s.slot k := by rw [State.slot, State.slot, drainFirst_host]
  refine ⟨?_, fun k hk => ?_⟩
  · rw [State.published, hm.slot, setSlot_slot_same _ _ _ (by simpa using hn), hslot]
  · rw [State.published, hm.slot, setSlot_slot_ne _ _ hk, hslot]

theorem published_releaseDue (s : State) (n : Nat) (c : MbCopy) (r : MbResp) :
    (s.published n c r).host.releaseDue = s.host.releaseDue := by
  rw [State.published, (Messaged.msixSend _ 0).releaseDue]
  show s.drainFirst.host.releaseDue = _
  rw [drainFirst_host]

/-- MB_COMPLETE on a ready response, and the release that waited for it (R147). -/
theorem exec_mbComplete (hn : n < 4) (hc : (s.slot n).copy = some c) (hr : (s.slot n).resp = some r) :
    exec (.mbComplete n) s = .next
      (if n = 3 ∧ s.host.releaseDue = true then (s.completed n c r).release else s.completed n c r) := by
  have hdue : (s.completed n c r).host.releaseDue = s.host.releaseDue := by
    rw [State.completed]
    split
    · rfl
    · exact published_releaseDue s n c r
  rw [← hdue]
  simp only [exec, execMbComplete, checked, hn, hc, hr, decide_true, if_true]
  rfl

/-- With no core write waiting only the beads and the host's record move. -/
theorem published_idle (n : Nat) (c : MbCopy) (r : MbResp) (hm : s.ca.merge = []) :
    RegsKept beadRegs s (s.published n c r) ∧ { s.published n c r with regs := s.regs, host := s.host } = s := by
  rw [State.published, drainFirst_idle s hm]
  have hp := Messaged.pulse s Ev.drains 1
  have hs := Messaged.msixSend ((s.pulse Ev.drains 1).setSlot n fun m => m.published c r) 0
  refine ⟨fun k i hk => (hs.2 k i hk).trans (hp.2 k i hk), ?_⟩
  rw [hs.frame]
  exact hp.frame _ _

theorem discarded_told (hn : n < s.host.slots.length) :
    (s.discarded n).slot n = {} ∧ s.OthersKept (s.discarded n) n ∧ { s.discarded n with host := s.host } = s :=
  ⟨setSlot_slot_same _ n _ hn, setSlot_others (s.noteFlight n) n _, rfl⟩

/-- Either way the slot is free of its command and the others stay. -/
theorem completed_slot (c : MbCopy) (r : MbResp) (hn : n < s.host.slots.length) :
    (s.completed n c r).host.slots.length = s.host.slots.length ∧ ((s.completed n c r).slot n).busy = false ∧
      ((s.completed n c r).slot n).resp = none ∧ s.OthersKept (s.completed n c r) n := by
  rw [State.completed]
  split
  · obtain ⟨hs, ho, -⟩ := discarded_told hn
    exact ⟨setSlot_length _ _ _, by rw [hs], by rw [hs], ho⟩
  · obtain ⟨hs, ho⟩ := published_told c r hn
    refine ⟨?_, by rw [hs]; rfl, by rw [hs]; rfl, ho⟩
    rw [State.published, (Messaged.msixSend _ 0).slots, setSlot_length, drainFirst_host]

theorem completed_idle (n : Nat) (c : MbCopy) (r : MbResp) (hm : s.ca.merge = []) :
    RegsKept beadRegs s (s.completed n c r) ∧ { s.completed n c r with regs := s.regs, host := s.host } = s := by
  rw [State.completed]
  split
  · exact ⟨fun _ _ _ => rfl, rfl⟩
  · exact published_idle n c r hm

end

/-! ## A release of MBX_3 (R147) -/

/-- MBX_3 is free, an unread response gone; of the rest only what ends with a P8 claim can change. -/
theorem release_eq (s : State) : ∃ challenge unlocked at', s.release = { s with host := { s.host with
    slots := s.host.slots.modify 3 fun m => { m with done := false }
    claim := 0, releaseDue := false, challenge := challenge, unlocked := unlocked, releasedAt := at' } } := by
  by_cases h : (s.host.claim == 2) = true
  · exact ⟨none, false, s.clock, if_pos h⟩
  · exact ⟨s.host.challenge, s.host.unlocked, s.host.releasedAt, if_neg h⟩

@[simp] theorem release_claim (s : State) : s.release.host.claim = 0 := by
  obtain ⟨_, _, _, e⟩ := release_eq s
  rw [e]

@[simp] theorem release_releaseDue (s : State) : s.release.host.releaseDue = false := by
  obtain ⟨_, _, _, e⟩ := release_eq s
  rw [e]

@[simp] theorem release_regs (s : State) : s.release.regs = s.regs := by
  obtain ⟨_, _, _, e⟩ := release_eq s
  rw [e]

theorem release_slots (s : State) : s.release.host.slots = s.host.slots.modify 3 fun m => { m with done := false } := by
  obtain ⟨_, _, _, e⟩ := release_eq s
  rw [e]

/-- Slot 3 loses an unread response, the others stay. -/
theorem release_slot (s : State) (h : 3 < s.host.slots.length) : s.release.slot 3 = { s.slot 3 with done := false } := by
  rw [State.slot, release_slots]
  exact setSlot_slot_same s 3 _ h

theorem release_others (s : State) : s.OthersKept s.release 3 := fun m hm => by
  rw [State.slot, release_slots]
  exact setSlot_slot_ne s _ hm

/-- Only the host's record changes. -/
theorem release_frame (s : State) (x : HostS) : { s.release with host := x } = { s with host := x } := by
  obtain ⟨_, _, _, e⟩ := release_eq s
  rw [e]

/-- The unlock and the challenge end with a P8 claim (06 R252, R253). -/
theorem release_locks {s : State} (h : s.host.claim = 2) :
    s.release.host.unlocked = false ∧ s.release.host.challenge = none := by
  simp [State.release, h]

/-! ## The statements -/

/-- MB_DONE_CLEAR writes a word that clears DONE alone and stores the sequence the slot has. -/
theorem ctrl_doneClear (m : Slot) : m.ctrl (4 + 256 * m.seq) false = { m with done := false, seq := m.seq % 256 } := by
  have h0 : (4 + 256 * m.seq) / 256 = m.seq := by omega
  have h2 : bit (4 + 256 * m.seq) 2 = true := by rw [bit, beq_iff_eq]; omega
  have h3 : bit (4 + 256 * m.seq) 3 = false := by rw [bit, beq_eq_false_iff_ne]; omega
  simp [Slot.ctrl, h0, h2, h3]

theorem doneClear_noGo (k : Nat) : bit (4 + 256 * k) 0 = false := by
  rw [bit, beq_eq_false_iff_ne]
  omega

/-- Settles O10: the slot of a response is `Slot.published`, or cleared where a reset discards it (`discarded_told`), and a
release that waited follows; MB_DONE_CLEAR is the word of `ctrl_doneClear`. -/
theorem responsesAreWrittenThenFreed : Obligations.ResponsesAreWrittenThenFreed := by
  unfold Obligations.ResponsesAreWrittenThenFreed
  refine ⟨fun s n c r hn hl hc hr hd h3 hlen => ?_, fun s n c r hn hl hc hr hd h3 => ?_,
    fun s c r hl hc hr hdue => ?_, fun s n byP8 h ho => ?_, fun s h hc => ?_⟩
  · obtain ⟨hs, ho⟩ := published_told c r (s := s) (n := n) (by omega)
    have e : s.completed n c r = s.published n c r := if_neg (by simp [hd])
    refine ⟨s.published n c r, ?_, ?_⟩
    · rw [exec_mbComplete hn hc hr, e, if_neg (by rcases h3 with h3 | h3 <;> simp [h3])]
    · rw [hs]
      refine ⟨rfl, rfl, rfl, rfl, published_status _ c r, published_seq _ c r, published_dlen _ c r,
        published_result _ c r, fun i hi => published_data _ c r hi, fun a ha => published_outside _ c r ha, ho,
        fun hon hmask => ?_, published_idle n c r⟩
      have hhost := drainFirst_host s
      obtain ⟨p, hp, hv, -⟩ := msixSend_held (s := s.drainFirst.setSlot n fun m => m.published c r) 0
        (by rw [← hon, ← hhost]; rfl) (by rw [← hmask, ← hhost]; rfl)
      rw [State.published, hp]
      exact hv
  · obtain ⟨hs, ho, hf⟩ := discarded_told (s := s) (n := n) (by omega)
    have e : s.completed n c r = s.discarded n := if_pos hd
    refine ⟨s.discarded n, ?_, hs, ho, rfl, hf⟩
    rw [exec_mbComplete hn hc hr, e, if_neg (by rcases h3 with h3 | h3 <;> simp [h3])]
  · obtain ⟨hlen, hbusy, hresp, ho⟩ := completed_slot c r (s := s) (n := 3) (by omega)
    refine ⟨_, (exec_mbComplete (by decide) hc hr).trans (by rw [if_pos ⟨rfl, hdue⟩]), ?_⟩
    rw [release_slot _ (by omega)]
    refine ⟨hbusy, rfl, hresp, release_claim _, release_releaseDue _,
      fun m hm => (release_others _ m hm).trans (ho m hm), fun hm => ?_⟩
    obtain ⟨hk, hf⟩ := completed_idle 3 c r hm
    refine ⟨fun k i hk' => ?_, ?_⟩
    · rw [State.get_eq, release_regs]
      exact hk k i hk'
    · obtain ⟨_, _, _, e⟩ := release_eq (s.completed 3 c r)
      rw [e]
      exact hf
  · have ho' : (s.reached byP8).otherHolds n byP8 = false := by simpa only [State.otherHolds, reached_claim] using ho
    obtain ⟨hs, ho, hf⟩ := reached_setSlot_told h fun m => m.ctrl (4 + 256 * (s.slot n).seq) false
    refine ⟨_, ?_, hs.trans (ctrl_doneClear _), ho, hf⟩
    rw [exec_mbDoneClear_reached h, ctrlWrite_plain ho' (doneClear_noGo _)]
  · have ho : (s.reached false).otherHolds 3 false = true := by simp [State.otherHolds, hc]
    obtain ⟨hcount, hk, -⟩ := bump_told_all s .BAD_ACCESS
    refine ⟨(s.reached false).refuseWrite false, ?_, rfl, hcount, hk, rfl⟩
    rw [exec_mbDoneClear_reached h, ctrlWrite_barred ho (doneClear_noGo _)]

end Sys2Proof.Machine
end

section
/-! SUPPORT. MBX_3 and the service port: the claim, the release, and the bytes a side writes and reads (04 R141,
R146-R150). -/

namespace Sys2Proof.Machine

/-! ## Bytes of a slot written one after the other (R141) -/

/-- Bytes written to a slot from offset `o` on. -/
def State.slotBytesWrite (s : State) (n o : Nat) : List Byte → State
  | [] => s
  | b :: bs => (s.slotByteWrite n o b).slotBytesWrite n (o + 1) bs

/-- All of the bytes lie in the command fields or in MB_DATA. -/
def inFields (o len : Nat) : Prop := (0x40 ≤ o ∧ o + len ≤ 0x80) ∨ (0x100 ≤ o ∧ o + len ≤ 0x400)

theorem inFields.tail {o len : Nat} (h : inFields o (len + 1)) : inFields (o + 1) len := by
  unfold inFields at *
  omega

theorem inFields.writable {o len : Nat} (h : inFields o (len + 1)) : slotWritable o = true := by
  unfold inFields at h
  simp only [slotWritable, Bool.or_eq_true, Bool.and_eq_true, decide_eq_true_eq]
  omega

section
variable {s : State} {n o : Nat} {b : Byte}

theorem slotByteWrite_reserved (h : slotWritable o = false) : s.slotByteWrite n o b = s := by
  simp [State.slotByteWrite, h]

theorem slotByteWrite_stored (h : slotWritable o = true) (hb : (s.slot n).busy = false) :
    s.slotByteWrite n o b = s.setSlot n fun m => { m with mem := m.mem.write o b } := by
  simp [State.slotByteWrite, h, hb]

theorem slotByteWrite_busy (h : slotWritable o = true) (hb : (s.slot n).busy = true) :
    s.slotByteWrite n o b = s.setSlot n fun m => { m with protoErr := true } := by
  simp [State.slotByteWrite, h, hb]

@[simp] theorem slotByteWrite_claim (s : State) (n o : Nat) (b : Byte) :
    (s.slotByteWrite n o b).host.claim = s.host.claim := by
  unfold State.slotByteWrite
  split
  · rfl
  · split <;> rfl

end

/-- A change that leaves the slot as it is changes nothing. -/
theorem setSlot_id (s : State) (n : Nat) : s.setSlot n id = s := by
  rw [State.setSlot, List.modify_id]

/-- While BUSY is 0 the bytes are stored. -/
theorem slotBytesWrite_stored {s : State} {n o : Nat} {bs : List Byte} (hn : n < s.host.slots.length)
    (hr : inFields o bs.length) (hb : (s.slot n).busy = false) :
    s.slotBytesWrite n o bs = s.setSlot n fun m => { m with mem := m.mem.writeN o bs } := by
  induction bs generalizing s o with
  | nil => exact (setSlot_id s n).symm
  | cons b bs ih =>
    rw [State.slotBytesWrite, slotByteWrite_stored hr.writable hb, ih (by simpa using hn) hr.tail, setSlot_setSlot]
    · rfl
    · rw [setSlot_slot_same _ _ _ hn]
      exact hb

/-- While it is 1 they are discarded, and PROTO_ERR is set. -/
theorem slotBytesWrite_busy {s : State} {n o : Nat} {bs : List Byte} (hn : n < s.host.slots.length)
    (hr : inFields o bs.length) (hb : (s.slot n).busy = true) (hne : bs ≠ []) :
    s.slotBytesWrite n o bs = s.setSlot n fun m => { m with protoErr := true } := by
  induction bs generalizing s o with
  | nil => exact absurd rfl hne
  | cons b bs ih =>
    rw [State.slotBytesWrite, slotByteWrite_busy hr.writable hb]
    cases bs with
    | nil => rfl
    | cons c cs =>
      rw [ih (by simpa using hn) hr.tail _ (List.cons_ne_nil _ _), setSlot_setSlot]
      rw [setSlot_slot_same _ _ _ hn]
      exact hb

/-- The bytes of MB_FIELD_WRITE are written in their order. -/
theorem foldl_slotByteWrite (s : State) (n o : Nat) (bs : List Byte) :
    (List.range bs.length).foldl (fun s i => s.slotByteWrite n (o + i) (bs.getD i 0)) s = s.slotBytesWrite n o bs := by
  induction bs generalizing s o with
  | nil => rfl
  | cons b bs ih =>
    rw [List.length_cons, List.range_succ_eq_map, List.foldl_cons, List.foldl_map, State.slotBytesWrite, ← ih]
    simp [Nat.add_assoc, Nat.add_comm 1]

/-- Bytes beyond MB_CTRL and MB_CLAIM act one by one where P8 may write them (R149). -/
theorem p8Bytes_fields {s : State} {o : Nat} (run : List Byte) {bs : List Byte} (ho : s.otherHolds 3 true = false)
    (hr : 8 ≤ o) (hl : o + bs.length ≤ 0x400) : s.p8Bytes o run bs = s.slotBytesWrite 3 o bs := by
  induction bs generalizing s o run with
  | nil => rfl
  | cons b bs ih =>
    rw [List.length_cons] at hl
    have hmod : o % 1024 = o := by omega
    rw [State.p8Bytes, State.slotBytesWrite, hmod, if_neg (by omega), if_neg (by omega), if_neg (by simp [ho])]
    exact ih _ (by simpa only [State.otherHolds, slotByteWrite_claim] using ho) (by omega) (by omega)

/-- They are discarded while the host holds MBX_3 (R146). -/
theorem p8Bytes_barred {s : State} {o : Nat} (run : List Byte) {bs : List Byte} (ho : s.otherHolds 3 true = true)
    (hr : 8 ≤ o) (hl : o + bs.length ≤ 0x400) : s.p8Bytes o run bs = s := by
  induction bs generalizing o run with
  | nil => rfl
  | cons b bs ih =>
    rw [List.length_cons] at hl
    have hmod : o % 1024 = o := by omega
    rw [State.p8Bytes, hmod, if_neg (by omega), if_neg (by omega), if_pos ho]
    exact ih _ (by omega) (by omega)

theorem leNat_leBytes_four {w : Nat} (h : w < 2 ^ 32) : leNat (leBytes 4 w) = w := by
  simp [leNat, leBytes]
  omega

/-- The four bytes of MB_CTRL act as the word they make. -/
theorem p8Bytes_ctrl (s : State) {w : Nat} (h : w < 2 ^ 32) : s.p8Bytes 0 [] (leBytes 4 w) = s.ctrlWrite 3 w true := by
  have skip (o : Nat) (b : Byte) (ho : o < 3) : (if s.otherHolds 3 true then s else s.slotByteWrite 3 o b) = s := by
    rw [slotByteWrite_reserved (by simp [slotWritable]; omega), ite_self]
  have hw := leNat_leBytes_four h
  simp only [leBytes, leNat, BitVec.toNat_ofNat, Nat.reducePow, Nat.mul_zero, Nat.add_zero] at hw
  simp [State.p8Bytes, leBytes, skip, leNat, hw]

/-! ## The claim and its release (R146, R147) -/

section
variable {s : State} {byP8 : Bool}

/-- MB_CLAIM where P8 claims is a write of P8, whatever the host does in the same cycle. -/
theorem exec_mbClaim_p8 (h : s.running) (byHost : Bool) :
    exec (.mbClaim byHost true) s = .next ((s.reached true).claimWrite true) := by
  simp only [exec, execMbClaim, if_true, p8Access_running h]

theorem exec_mbClaim_host (h : s.hostUp) :
    exec (.mbClaim true false) s = .next ((s.reached false).claimWrite false) := by
  simp only [exec, execMbClaim, Bool.true_and, hostReaches_of_hostUp h, mailboxWrite_running h.1]
  rfl

theorem exec_mbRelease_reached (h : s.running) (hh : byP8 = false → s.hostUp) :
    exec (.mbRelease byP8) s = .next ((s.reached byP8).releaseWrite byP8) := by
  cases byP8 with
  | true => simp only [exec, execMbRelease, if_true, p8Access_running h]
  | false =>
    simp only [exec, execMbRelease, hostReaches_of_hostUp (hh rfl), mailboxWrite_running h]
    rfl

theorem claimWrite_free (h : s.host.claim = 0) :
    s.claimWrite byP8 = { s with host.claim := if byP8 then 2 else 1 } := if_pos h

/-- A claim of a side that does not hold an MBX_3 that is held tells only as BAD_ACCESS of the host. -/
theorem claimWrite_barred (h : s.otherHolds 3 byP8 = true) : s.claimWrite byP8 = s.refuseWrite byP8 := by
  have hc : s.host.claim ≠ 0 := fun e => by cases byP8 <;> simp [State.otherHolds, e] at h
  rw [State.claimWrite, if_neg hc, if_pos h]

theorem releaseWrite_barred (h : s.otherHolds 3 byP8 = true) : s.releaseWrite byP8 = s.refuseWrite byP8 := by
  have hc : s.host.claim ≠ if byP8 then 2 else 1 := fun e => by cases byP8 <;> simp [State.otherHolds, e] at h
  rw [State.releaseWrite, if_neg hc, if_pos h]

theorem releaseWrite_held (h : s.host.claim = if byP8 then 2 else 1) : s.releaseWrite byP8 = s.askRelease := if_pos h

theorem askRelease_idle (h : (s.slot 3).busy = false) : s.askRelease = s.release := by
  simp [State.askRelease, h]

theorem askRelease_busy (h : (s.slot 3).busy = true) : s.askRelease = { s with host.releaseDue := true } := by
  simp [State.askRelease, h]

/-- What a release by the holder leaves where its write acts. -/
theorem release_reached (h : s.sideUp 3 byP8) : (s.reached byP8).release.slot 3 = { s.slot 3 with done := false } ∧
    s.OthersKept (s.reached byP8).release 3 ∧ { (s.reached byP8).release with host := s.host } = s.rested := by
  refine ⟨?_, fun m hm => ?_, ?_⟩
  · rw [release_slot _ (by simpa using sideUp_length h), reached_slot]
  · rw [release_others _ m hm, reached_slot]
  · rw [release_frame]
    cases byP8 <;> rfl

theorem exec_p8ClaimTimeout_due (hc : s.host.claim = 2) (ht : s.host.p8At + 5000000 ≤ s.clock) :
    exec .p8ClaimTimeout s = .next s.askRelease := by
  simp only [exec, execP8ClaimTimeout]
  rw [if_pos ⟨hc, ht⟩]

end

/-! ## The service port (R148-R150) -/

theorem exec_p8Write_reached {s : State} (h : s.running) (o : Nat) (bs : List Byte) :
    exec (.p8Write o bs) s = .next ((s.reached true).p8Bytes o [] bs) := by
  simp only [exec, execP8Write, p8Access_running h]

theorem exec_p8Read_running {s : State} (h : s.running) (o n : Nat) : exec (.p8Read o n) s = .next { s with
    host.p8At := s.clock, host.p8Out := (List.range n).map fun i => s.slotByte 3 ((o + i) % 1024) } := by
  simp only [exec, execP8Read, p8Select_running h, p8Reaches_running h, if_true]
  rfl

theorem exec_p8Status_running {s : State} (h : s.running) : exec .p8Status s = .next { s with
    host.p8At := s.clock, host.p8Out := leBytes 1 (b2n (s.on .READY) + 2 * b2n (s.host.claim == 2) +
      4 * b2n (s.slot 3).busy + 8 * b2n (s.slot 3).done + 16 * b2n (s.slot 3).protoErr) } := by
  simp only [exec, execP8Status, p8Select_running h, p8Reaches_running h, if_true]
  rfl

/-- A word with GO set is the word of a GO. -/
theorem or_one_of_odd {w : Nat} (h : w % 2 = 1) : w ||| 1 = w := by
  refine Nat.eq_of_testBit_eq fun k => ?_
  rw [← bit_eq_testBit, ← bit_eq_testBit, bit_or_one]
  cases k with
  | zero => simp [bit, h]
  | succ k => simp

/-- Settles O11: a claim, a release and a write act on `reached`, and each is one change of MBX_3 or of its owner; the four
bytes of MB_CTRL are the word (`p8Bytes_ctrl`). -/
theorem slotThreeAndTheServicePort : Obligations.SlotThreeAndTheServicePort := by
  unfold Obligations.SlotThreeAndTheServicePort
  refine ⟨fun s byHost h hc => ?_, fun s h hc => ?_, fun s h hc => ?_, fun s byHost h hc => ?_, fun s byP8 h hc hb => ?_,
    fun s byP8 h hc hb => ?_, fun s h hc => ?_, fun s hc ht hl hb => ?_, fun s hc ht hb => ?_,
    fun s o bs h hl hc hb hr => ?_, fun s o bs h hc ho hl => ?_, fun s w hw => ?_, fun s o n h => ?_,
    fun s o n hm hf => ?_, fun s h => ?_⟩
  · refine ⟨{ s.reached true with host.claim := 2 }, ?_, rfl, rfl, rfl⟩
    rw [exec_mbClaim_p8 h byHost, claimWrite_free ((reached_claim s _).trans hc)]
    rfl
  · refine ⟨{ s.reached false with host.claim := 1 }, ?_, rfl, rfl, rfl⟩
    rw [exec_mbClaim_host h, claimWrite_free ((reached_claim s _).trans hc)]
    rfl
  · obtain ⟨hcount, hk, -⟩ := bump_told_all s .BAD_ACCESS
    refine ⟨(s.reached false).refuseWrite false, ?_, rfl, hcount, hk, rfl⟩
    rw [exec_mbClaim_host h, claimWrite_barred (by simp [State.otherHolds, hc])]
  · refine ⟨(s.reached true).refuseWrite true, ?_, hc, rfl, rfl⟩
    rw [exec_mbClaim_p8 h byHost, claimWrite_barred (by simp [State.otherHolds, hc])]
  · obtain ⟨hs, ho, hf⟩ := release_reached h
    refine ⟨(s.reached byP8).release, ?_, release_claim _, hs, fun hp => release_locks (by simp [hc, hp]), ho, hf⟩
    rw [exec_mbRelease_reached h.1 (sideUp_hostUp h), releaseWrite_held (by simpa using hc),
      askRelease_idle (by simpa using hb)]
  · refine ⟨{ s.reached byP8 with host.releaseDue := true }, ?_, reached_claim s byP8, rfl, reached_slots s byP8,
      by cases byP8 <;> rfl⟩
    rw [exec_mbRelease_reached h.1 (sideUp_hostUp h), releaseWrite_held (by simpa using hc),
      askRelease_busy (by simpa using hb)]
  · obtain ⟨hcount, hk, -⟩ := bump_told_all s .BAD_ACCESS
    refine ⟨(s.reached false).refuseWrite false, ?_, rfl, hcount, hk, rfl⟩
    rw [exec_mbRelease_reached h.1 fun _ => h, releaseWrite_barred (by simp [State.otherHolds, hc])]
  · refine ⟨s.release, ?_, release_claim s, release_slot s (by omega), (release_locks hc).1, release_others s,
      release_frame s _⟩
    rw [exec_p8ClaimTimeout_due hc ht, askRelease_idle hb]
  · exact ⟨_, (exec_p8ClaimTimeout_due hc ht).trans (by rw [askRelease_busy hb]), rfl⟩
  · refine ⟨(s.reached true).setSlot 3 fun m => { m with mem := m.mem.writeN o bs }, ?_,
      setSlot_slot_same (s.reached true) 3 _ (by simp [hl]), setSlot_others (s.reached true) 3 _, rfl⟩
    rw [exec_p8Write_reached h, p8Bytes_fields _ (by simp [State.otherHolds, hc]) (by omega) (by omega),
      slotBytesWrite_stored (by simp [hl]) hr (by simpa using hb)]
  · refine ⟨s.reached true, ?_, rfl, rfl⟩
    rw [exec_p8Write_reached h, p8Bytes_barred _ (by simp [State.otherHolds, hc]) (by omega) hl]
  · simp only [exec, execP8Write, execMbGo, p8Bytes_ctrl _ w.isLt, or_one_of_odd hw]
    rfl
  · rw [exec_p8Read_running h]
    exact ⟨_, rfl, rfl, rfl, rfl⟩
  · refine ⟨_, rfl, ?_⟩
    simp [State.p8Reaches, State.p8Waits, hm, hf, List.map_const']
  · rw [exec_p8Status_running h]
    exact ⟨_, rfl, rfl, rfl, rfl⟩

end Sys2Proof.Machine
end

section
/-! SUPPORT. Writes of the host to a slot's fields, to NT_TAIL and to MSI-X (04 R141, R151, R155). -/

namespace Sys2Proof.Machine

/-! ## Bytes of the fields (R141, R146) -/

/-- Bytes beyond MB_CTRL and MB_CLAIM: refused where the other side holds MBX_3, else written one by one. -/
theorem fieldBytes_fields {s : State} {n o : Nat} {bs : List Byte} {byP8 : Bool} (ho : 8 ≤ o) (hl : 8 < o + bs.length) :
    s.fieldBytes n o bs byP8 = if s.otherHolds n byP8 then s.refuseWrite byP8 else s.slotBytesWrite n o bs := by
  unfold State.fieldBytes
  extract_lets _ s1 s2
  have e1 : s1 = s := if_neg (by omega)
  have e2 : s2 = s := (if_neg (by omega)).trans e1
  rw [if_neg (by simpa using hl), e2, foldl_slotByteWrite]

theorem exec_mbFieldWrite_host {s : State} (h : s.hostUp) {n o : Nat} {bs : List Byte} (hn : n < 4)
    (hl : o + bs.length ≤ 1024) (ha : accessOk o bs.length = true) :
    exec (.mbFieldWrite n o bs false) s = .next ((s.reached false).fieldBytes n o bs false) := by
  simp only [exec, execMbFieldWrite, checked, hn, hl, ha, hostReaches_of_hostUp h, mailboxWrite_running h.1]
  rfl

theorem exec_mbFieldWrite_p8 {s : State} (h : s.running) {o : Nat} {bs : List Byte} (hl : o + bs.length ≤ 1024) :
    exec (.mbFieldWrite 3 o bs true) s = .next ((s.reached true).fieldBytes 3 o bs true) := by
  simp only [exec, execMbFieldWrite, checked, hl, p8Access_running h]
  rfl

theorem accessOk_length {o n : Nat} (h : accessOk o n = true) : 4 ≤ n := by
  obtain ⟨h, -⟩ := (accessOk_iff o n).1 h
  omega

theorem inFields.bounds {o len : Nat} (h : inFields o len) : 0x40 ≤ o ∧ o + len ≤ 0x400 := by
  unfold inFields at h
  omega

/-- A slot that P8 does not hold is the host's. -/
theorem otherHolds_host {s : State} {n : Nat} (hn : n < 3 ∨ n = 3 ∧ s.host.claim ≠ 2) :
    s.otherHolds n false = false := by
  rcases hn with hn | ⟨rfl, hc⟩
  · have : n ≠ 3 := by omega
    simp [State.otherHolds, this]
  · simp [State.otherHolds, hc]

/-! ## MSI-X (R155) -/

theorem foldl_msixSend_held (l : List Nat) {s : State} (ho : s.host.msixOn = true) (hf : s.host.msixFnMask = true) :
    ∃ p, l.foldl (fun s v => s.msixSend v) s = { s with host.msixPending := p } ∧ (∀ k ∈ l, k ∈ p) ∧
      ∀ k ∈ s.host.msixPending, k ∈ p := by
  induction l generalizing s with
  | nil => exact ⟨s.host.msixPending, rfl, nofun, fun _ h => h⟩
  | cons v l ih =>
    obtain ⟨p, e, hv, hp⟩ := msixSend_held v ho hf
    obtain ⟨p', e', hl, hp'⟩ := ih (s := { s with host.msixPending := p }) ho hf
    refine ⟨p', by rw [List.foldl_cons, e, e'], fun k hk => ?_, fun k hk => hp' k (hp k hk)⟩
    rcases List.mem_cons.1 hk with rfl | hk
    · exact hp' k hv
    · exact hl k hk

/-- Under the function mask no message goes out and every pending one stays pending. -/
theorem msixFlush_held {s : State} (ho : s.host.msixOn = true) (hf : s.host.msixFnMask = true) :
    ∃ p, s.msixFlush = { s with host.msixPending := p } ∧ ∀ k ∈ s.host.msixPending, k ∈ p := by
  obtain ⟨p, e, hl, -⟩ := foldl_msixSend_held s.host.msixPending (s := { s with host.msixPending := [] }) ho hf
  refine ⟨p, ?_, hl⟩
  rw [State.msixFlush, if_neg (by simp [ho])]
  exact e

theorem msixFlush_off {s : State} (ho : s.host.msixOn = false) : s.msixFlush = s := by simp [State.msixFlush, ho]

/-- With no message pending none goes out. -/
theorem msixFlush_none {s : State} (hp : s.host.msixPending = []) : s.msixFlush = s := by
  have e : { s with host.msixPending := s.host.msixPending } = s := rfl
  rw [hp] at e
  unfold State.msixFlush
  split
  · rfl
  · rw [hp]
    exact e

/-- An enabled and unmasked vector's message goes out (R155). -/
theorem msixSend_sent {s : State} {v : Nat} {e : MsixEntry} (ho : s.host.msixOn = true) (hf : s.host.msixFnMask = false)
    (hd : s.host.d3hot = false) (hb : s.host.busMaster = true) (he : Map.get s.host.msix v = some e)
    (hm : e.masked = false) : s.msixSend v =
      { s with host.mem := s.host.mem.writeN e.addr (leBytes 4 e.data) }.pulse Ev.msixMessages := by
  simp [State.msixSend, State.hostWrite, ho, hf, hd, hb, he, hm]

/-- One pending message whose vector is free to send goes out. -/
theorem msixFlush_one {s : State} {v : Nat} {e : MsixEntry} (hp : s.host.msixPending = [v]) (ho : s.host.msixOn = true)
    (hf : s.host.msixFnMask = false) (hd : s.host.d3hot = false) (hb : s.host.busMaster = true)
    (he : Map.get s.host.msix v = some e) (hm : e.masked = false) : s.msixFlush =
      { s with host.msixPending := [], host.mem := s.host.mem.writeN e.addr (leBytes 4 e.data) }.pulse
        Ev.msixMessages := by
  rw [State.msixFlush, if_neg (by simp [ho]), hp]
  exact msixSend_sent (s := { s with host.msixPending := [] }) ho hf hd hb he hm

theorem exec_msixMaskWrite_entry {s : State} (h : s.hostUp) {v : Nat} (hv : v < 1024) (addr data : Nat) (masked : Bool) :
    exec (.msixMaskWrite (.entry v addr data masked)) s = .next (State.msixFlush
      { s with host.msix := Map.put s.host.msix v { addr := addr, data := data, masked := masked } }) := by
  simp [exec, execMsixMaskWrite, checked, hv, hostReaches_of_hostUp h]

theorem exec_msixMaskWrite_function {s : State} (h : s.hostUp) (on : Bool) :
    exec (.msixMaskWrite (.functionMask on)) s = .next { s with host.msixFnMask := on }.msixFlush := by
  simp [exec, execMsixMaskWrite, checked, hostReaches_of_hostUp h]

theorem exec_msixMaskWrite_disable {s : State} (h : s.hostUp) :
    exec (.msixMaskWrite (.enable false)) s = .next { s with host.msixOn := false } := by
  simp [exec, execMsixMaskWrite, checked, hostReaches_of_hostUp h]

/-- A write of NT_TAIL to a running K760 is one of the register (R151). -/
theorem exec_ntTailWrite_running {s : State} (h : s.hostUp) (v : Nat) :
    exec (.ntTailWrite v) s = .next (s.set .NT_TAIL v) := by
  obtain ⟨hm, he, -, -, -, hl⟩ := h.1
  simp [exec, execNtTailWrite, hostReaches_of_hostUp h, arrive_running s 3 true hm he hl]

/-- Settles O12: what a write does to the bytes of a slot is said by `slotBytesWrite_stored` and `slotBytesWrite_busy`, what
a message pending does by the rules of `msixFlush`. -/
theorem hostWritesToTheWindow : Obligations.HostWritesToTheWindow := by
  unfold Obligations.HostWritesToTheWindow
  refine ⟨fun s n o bs h hl hn ha hr hb => ?_, fun s o bs h hl hc hr hb => ?_, fun s n o bs h hl hn ha hr hb => ?_,
    fun s o bs h hc ha ho hl => ?_, fun s v h => ?_, fun s h hon => ?_, fun s v addr data h hv hon hf hd hb hp => ?_,
    fun s v addr data h hv hp => ?_, fun s h => ⟨_, exec_msixMaskWrite_disable h, rfl⟩⟩
  · obtain ⟨hlo, hhi⟩ := inFields.bounds hr
    have hlen : n < (s.reached false).host.slots.length := by rw [reached_slots]; omega
    refine ⟨(s.reached false).setSlot n fun m => { m with mem := m.mem.writeN o bs }, ?_, setSlot_slot_same _ n _ hlen,
      setSlot_others (s.reached false) n _, rfl⟩
    rw [exec_mbFieldWrite_host h (by omega) hhi ha, fieldBytes_fields (by omega) (by omega),
      if_neg (by simp [otherHolds_host (s := s.reached false) hn]), slotBytesWrite_stored hlen hr hb]
  · obtain ⟨hlo, hhi⟩ := inFields.bounds hr
    have hlen : 3 < (s.reached true).host.slots.length := by rw [reached_slots]; omega
    refine ⟨(s.reached true).setSlot 3 fun m => { m with mem := m.mem.writeN o bs }, ?_, setSlot_slot_same _ 3 _ hlen,
      setSlot_others (s.reached true) 3 _, rfl⟩
    rw [exec_mbFieldWrite_p8 h hhi, fieldBytes_fields (by omega) (by omega), if_neg (by simp [State.otherHolds, hc]),
      slotBytesWrite_stored hlen hr hb]
  · obtain ⟨hlo, hhi⟩ := inFields.bounds hr
    have hlen : n < (s.reached false).host.slots.length := by rw [reached_slots]; omega
    have hne : bs ≠ [] := List.ne_nil_of_length_pos (by have := accessOk_length ha; omega)
    refine ⟨(s.reached false).setSlot n fun m => { m with protoErr := true }, ?_, setSlot_slot_same _ n _ hlen,
      setSlot_others (s.reached false) n _, rfl⟩
    rw [exec_mbFieldWrite_host h (by omega) hhi ha, fieldBytes_fields (by omega) (by omega),
      if_neg (by simp [otherHolds_host (s := s.reached false) hn]), slotBytesWrite_busy hlen hr hb hne]
  · obtain ⟨hcount, hk, -⟩ := bump_told_all s .BAD_ACCESS
    have h4 := accessOk_length ha
    refine ⟨(s.reached false).refuseWrite false, ?_, rfl, hcount, hk, rfl⟩
    rw [exec_mbFieldWrite_host h (by decide) hl ha, fieldBytes_fields ho (by omega),
      if_pos (by simp [State.otherHolds, hc])]
  · exact ⟨_, exec_ntTailWrite_running h v, State.set_reg s .NT_TAIL v,
      (OnlyRegs.put s .NT_TAIL _ v (List.mem_singleton_self _)).2.1, rfl⟩
  · obtain ⟨p, e, hp⟩ := msixFlush_held (s := { s with host.msixFnMask := true }) hon rfl
    refine ⟨_, exec_msixMaskWrite_function h true, ?_⟩
    rw [e]
    exact ⟨rfl, rfl, hp, rfl⟩
  · set u : State := { s with host.msix := Map.put s.host.msix v { addr := addr, data := data, masked := false } } with hu
    have hget : Map.get u.host.msix v = some { addr := addr, data := data, masked := false } := Map.get_put_same _ _ _
    obtain ⟨⟨m, e⟩, hk, -⟩ := pulse_only { u with
      host.msixPending := [], host.mem := u.host.mem.writeN addr (leBytes 4 data) } Ev.msixMessages 1
    refine ⟨_, exec_msixMaskWrite_entry h hv addr data false, ?_⟩
    rw [← hu, msixFlush_one (s := u) hp hon hf hd hb hget rfl, pulse_host]
    refine ⟨hget, rfl, rfl, hk, ?_⟩
    rw [e]
  · have e := msixFlush_none (s := { s with host.msix := Map.put s.host.msix v { addr, data, masked := true } }) hp
    refine ⟨_, exec_msixMaskWrite_entry h hv addr data true, ?_⟩
    rw [e]
    exact ⟨Map.get_put_same _ _ _, fun k hk => Map.get_put_ne _ _ _ _ hk, rfl⟩

end Sys2Proof.Machine
end

section
/-! SUPPORT. A reset of the host side: what it clears and what it keeps (04 R164, R165; Tables 4.10, 4.11). -/

namespace Sys2Proof.Machine

/-! ## The bursts that only FLUSHes asked for (05 R209) -/

/-- A block not begun is given up without a trace. -/
theorem dropBlock_notBegun {s : State} (h : s.bu.block.any Block.begun = false) :
    ∃ b, s.dropBlock = { s with bu := b } := by
  unfold State.dropBlock
  split
  next => exact ⟨s.bu, rfl⟩
  next k hk =>
    obtain ⟨hw, hb⟩ : k.writing = none ∧ k.burned = [] := by simpa [hk, Block.begun] using h
    simp only [hw, hb]
    exact ⟨_, by cases k.kind <;> rfl⟩

theorem dropBurst_bu (s : State) : ∃ b, s.dropBurst = { s with bu := b } := by
  unfold State.dropBurst
  split
  next h =>
    simp only [Bool.and_eq_true, Bool.not_eq_true'] at h
    obtain ⟨b, e⟩ := dropBlock_notBegun h.2
    exact ⟨{ b with active := false, redo := none }, by rw [e]⟩
  next => exact ⟨s.bu, rfl⟩

/-- A host-side reset touches the medium, the drive and the registers in no way through the burst. -/
theorem endFlushes_bu (s : State) : ∃ b, s.endFlushes = { s with bu := b } := by
  obtain ⟨b, e⟩ := dropBurst_bu { s with
    bu.flushes := s.bu.flushes.filter fun k => (s.cmd k.1 k.2).any fun c => c.committed }
  exact ⟨b, e⟩

/-! ## The host side cleared -/

/-- A slot as a host-side reset leaves it, `held` telling whether P8 holds it (Table 4.10). -/
def Slot.reset (m : Slot) (held : Bool) : Slot := if held then m else if m.busy then { m with discard := true } else {}

theorem hostReset_slot {s : State} {n : Nat} (h : n < s.host.slots.length) :
    s.hostReset.slot n = (s.slot n).reset (n == 3 && s.host.claim == 2) := by
  obtain ⟨b, e⟩ := endFlushes_bu s
  simp [State.hostReset, e, State.slot, Slot.reset, List.getD_eq_getElem?_getD, h]

theorem hostReset_kept (s : State) : RegsKept [.READY, .NT_TAIL] s s.hostReset := by
  obtain ⟨b, e⟩ := endFlushes_bu s
  intro n i hn
  simp only [List.mem_cons, List.not_mem_nil, or_false, not_or] at hn
  simp only [State.hostReset, e, State.get_eq, State.set_regs]
  rw [regGet_regPut_name _ _ _ _ hn.2, regGet_regPut_name _ _ _ _ hn.1]

theorem hostReset_cleared {s : State} (h : s.host.slots.length = 4) : s.HostCleared s.hostReset := by
  obtain ⟨b, e⟩ := endFlushes_bu s
  have hslot (n : Nat) (hn : n < 4) := hostReset_slot (s := s) (n := n) (by omega)
  refine ⟨rfl, ?_, State.set_reg _ _ _, rfl, rfl, rfl, rfl, rfl, rfl, ?_, ?_, ?_, fun m hm => ?_, ?_, rfl, ?_⟩
  · rw [State.hostReset, State.set_reg_ne _ _ (by decide), State.set_reg]
    rfl
  · simp only [State.hostReset, e, State.set_host]
  · simp only [State.hostReset, e, State.set_host]
  · simp only [State.hostReset, e, State.set_pw]
  · rw [hslot m (by omega), show (m == 3) = false from by simp; omega]
    rfl
  · rw [hslot 3 (by decide), Slot.reset]
    simp
  · simp only [State.hostReset, e]
    rfl

theorem hostReset_perst (s : State) : s.hostReset.host.perst = s.host.perst := by
  obtain ⟨b, e⟩ := endFlushes_bu s
  simp only [State.hostReset, e, State.set_host]

/-! ## The reset counted -/

theorem OnlyRegs.mono {l l' : List RegName} {s t : State} (h : OnlyRegs l s t) (hl : l ⊆ l') : OnlyRegs l' s t :=
  ⟨h.1, fun n i hn => h.2.1 n i fun e => hn (hl e), h.2.2⟩

section
variable {s t u : State}

theorem RegsKept.mono {l l' : List RegName} (h : RegsKept l s t) (hl : l ⊆ l') : RegsKept l' s t :=
  fun n i hn => h n i fun e => hn (hl e)

theorem RegsKept.append {l l' : List RegName} (h : RegsKept l s t) (g : RegsKept l' t u) : RegsKept (l ++ l') s u :=
  fun n i hn => by
    rw [List.mem_append, not_or] at hn
    exact (g n i hn.2).trans (h n i hn.1)

/-- Registers but READY and NT_TAIL may move after it. -/
theorem hostCleared_only {l : List RegName} (h : s.HostCleared t) (g : OnlyRegs l t u) (hr : RegName.READY ∉ l)
    (hn : RegName.NT_TAIL ∉ l) : s.HostCleared u := by
  obtain ⟨⟨m, rfl⟩, hk, -⟩ := g
  obtain ⟨hq, hready, htail, h⟩ := h
  exact ⟨hq, (hk _ _ hr).trans hready, (hk _ _ hn).trans htail, h⟩

/-- The reset has been counted in `n`, and its event in a bead (R170). -/
theorem counted_only (t : State) (n : RegName) (code : Nat) : OnlyRegs (n :: beadRegs) t ((t.bump n).pulse code) :=
  (OnlyRegs.put t n _ _ (List.mem_cons_self ..)).trans
    ((pulse_only _ code 1).mono (List.subset_cons_self n beadRegs))

theorem counted_reg {n : RegName} (code : Nat) (hb : n ∉ beadRegs) (hs : t.reg n = s.reg n) :
    Counted n s ((t.bump n).pulse code) := by
  rw [Counted, ← hs, ← State.bump_reg]
  exact pulse_get _ _ _ _ _ hb

end

/-- A reset counted in `n`: the host side is cleared, and beside that the count and the beads move. -/
theorem hostReset_counted {s r : State} (hc : s.HostCleared r) (hk : RegsKept [.READY, .NT_TAIL] s r) (n : RegName)
    (code : Nat) (hn : n ∉ [.READY, .NT_TAIL] ++ beadRegs := by decide) : s.HostCleared ((r.bump n).pulse code) ∧
      Counted n s ((r.bump n).pulse code) ∧ RegsKept ([.READY, .NT_TAIL, n] ++ beadRegs) s ((r.bump n).pulse code) := by
  have g := counted_only r n code
  rw [List.mem_append, not_or] at hn
  have other (k : RegName) (hm : k ∈ [RegName.READY, .NT_TAIL]) (hb : k ∉ beadRegs) : k ∉ n :: beadRegs := fun e => by
    rcases List.mem_cons.1 e with rfl | e
    · exact hn.1 hm
    · exact hb e
  exact ⟨hostCleared_only hc g (other _ (by decide) (by decide)) (other _ (by decide) (by decide)),
    counted_reg code hn.2 (hk n _ hn.1), hk.append g.2.1⟩

/-- The link registers of a link that is down (Table 4.14). -/
def State.linkZero (s : State) : State := ((s.set .LINK_STATE 0).set .LINK_SPEED 0).set .LINK_WIDTH 0

/-- PERST# takes the link down besides, and the subsystem IDs take effect (Tables 4.13, 4.14). -/
def State.linkDown (s : State) : State :=
  { s.linkZero with
    host.perst := true, host.leftL0 := none, host.subsys := (s.reg .SUBSYS_VID, s.reg .SUBSYS_ID) }

section
variable {s : State} (hp : s.host.perst = false)
include hp

theorem exec_functionLevelReset_up :
    exec .functionLevelReset s = .next ((s.hostReset.bump .FLR_COUNT).pulse Ev.flrs) := by
  simp [exec, execFunctionLevelReset, hp]

theorem exec_hotReset_up : exec .hotReset s = .next ((s.hostReset.bump .LINK_RESETS).pulse Ev.linkResets) := by
  simp [exec, execHotReset, hp]

/-- A link out of L0 for 1 ms is reset (R164). -/
theorem exec_linkRetrainTimeout_due {t0 : Nat} (hoff : s.host.linkOff = false) (hl : s.host.leftL0 = some t0)
    (ht : t0 + 1000 ≤ s.clock) : exec .linkRetrainTimeout s =
      .next (({ s.hostReset with host.leftL0 := none }.bump .LINK_RESETS).pulse Ev.linkResets) := by
  simp [exec, execLinkRetrainTimeout, hp, hoff, hl, ht]

theorem exec_perstAssert_up :
    exec .perstAssert s = .next ((s.hostReset.bump .LINK_RESETS).pulse Ev.linkResets).linkDown := by
  simp only [exec, execPerstAssert, hp]
  rfl

end

theorem exec_linkRetrainTimeout_early {s : State} {t0 : Nat} (hl : s.host.leftL0 = some t0) (ht : s.clock < t0 + 1000) :
    exec .linkRetrainTimeout s = .next s := by
  simp [exec, execLinkRetrainTimeout, hl, Nat.not_le.2 ht]

/-- A down link leaves the registers but its own three. -/
theorem linkZero_only (s : State) : OnlyRegs [.LINK_STATE, .LINK_SPEED, .LINK_WIDTH] s s.linkZero := by
  refine OnlyRegs.set (OnlyRegs.set (OnlyRegs.set (OnlyRegs.refl _ s) ?_) ?_) ?_ <;> decide

theorem linkZero_link (s : State) :
    s.linkZero.reg .LINK_STATE = 0 ∧ s.linkZero.reg .LINK_SPEED = 0 ∧ s.linkZero.reg .LINK_WIDTH = 0 := by
  unfold State.linkZero
  refine ⟨?_, ?_, State.set_reg _ _ _⟩
  · rw [State.set_reg_ne _ _ (by decide), State.set_reg_ne _ _ (by decide), State.set_reg]
    rfl
  · rw [State.set_reg_ne _ _ (by decide), State.set_reg]
    rfl

theorem hostCleared_linkDown {s t : State} (h : s.HostCleared t) : s.HostCleared t.linkDown := by
  have g : s.HostCleared t.linkZero := hostCleared_only h (linkZero_only t) (by decide) (by decide)
  exact g

end Sys2Proof.Machine
end

section
/-! SUPPORT. The report of a host-side reset (04 R167, R168): its record in the black box, its notice in the ring. -/

namespace Sys2Proof.Machine

/-! ## The record (17 R737-R739) -/

/-- The registers that a record written by the warden can move. -/
def logRegs : List RegName :=
  bookRegs ++ [.BB_NEXT_SEQ, .BB_OLDEST_SEQ, .PINNED, .BBS_PINS_FULL, .BBS_BANK0_FAULT, .BBS_BANK1_FAULT, .HEALTH_LEVEL]

/-- `s` is `r` but for what records and their telling move. -/
def Logged (r s : State) : Prop := Told logRegs r s

namespace Logged

variable {r s t : State}

theorem refl (s : State) : Logged s s := Told.refl _ s

section
variable (h : Logged r s)
include h

theorem told (g : Told bookRegs s t) : Logged r t := Told.trans h (g.mono (List.subset_append_left _ _))

theorem ite {c : Prop} [Decidable c] (g : Logged r t) : Logged r (if c then s else t) := by
  split
  · exact h
  · exact g

theorem bb {b : BlackBoxS} : Logged r { s with bb := b } :=
  h.told ⟨⟨s.regs, s.host.notices, s.host.mem, s.host.msixPending, s.host.wakeN, b, rfl⟩, fun _ _ _ => rfl, id, id⟩

theorem set {n : RegName} {v : Nat} (hn : n ∈ logRegs := by decide) : Logged r (s.set n v) :=
  Told.trans h ((OnlyRegs.put s n _ v hn).told fun _ => id)

theorem report {code obj val second : Nat} : Logged r (s.report code obj val second) := h.told (report_told _ _ _ _ _)

theorem updateHealth : Logged r s.updateHealth := .ite h h.set.report

theorem bbSlotWrite {slot : Nat} {x : BbRecord} {ok : Bool × Bool} : Logged r (s.bbSlotWrite slot x ok) := by
  unfold State.bbSlotWrite
  extract_lets _ s1
  have h1 : Logged r s1 := .ite h (.ite h.bb h.bb.set.report)
  exact .ite h1 (.ite h1.bb h1.bb.set.report)

theorem bbWrite {x : BbRecord} {ring pinOk : Bool × Bool} : Logged r (s.bbWrite x ring pinOk).1 := by
  unfold State.bbWrite
  extract_lets _ _ _ _ _ s1 s2 _ s3
  have h1 : Logged r s1 := h.bbSlotWrite.bbSlotWrite.set
  have h2 : Logged r s2 := .ite (.ite h1.set h1) h.bbSlotWrite
  have h3 : Logged r s3 := .ite h2.bb h2.bb
  exact (h3.set.set.told (pulse_told _ _ _)).updateHealth

end

end Logged

/-- The notice of a record carries the sequence that it took (R737). -/
theorem bbWrite_notice (s : State) {x : BbRecord} (ring pinOk : Bool × Bool) (hn : Code.noticed.contains x.code = true) :
    ∃ n, (s.bbWrite x ring pinOk).2 = some n ∧ n.code = x.code ∧ n.sev = x.sev ∧ n.seq = s.reg .BB_NEXT_SEQ := by
  unfold State.bbWrite
  extract_lets
  rw [if_pos hn]
  exact ⟨_, rfl, rfl, rfl, rfl⟩

section
variable {s : State} (hq : s.bb.queue = []) (hs : s.bb.stalled = []) (hw : s.bb.windows = [])

include hq in
/-- A report that is not fatal joins an empty queue. -/
theorem reportFull_queued {code : Nat} (data source : Nat) (hsev : severity code ≠ 2)
    (hc : Code.recorded.contains code = true) : ∃ x : BbRecord, x.code = code ∧ x.sev = severity code ∧
      s.reportFull code data source = { s with bb.queue := [x] } := by
  have hquiet : ¬ (severity code = 2 ∧ s.on .FATAL = false) := fun h => hsev h.1
  refine ⟨s.record code (if source ≠ 0x11 ∧ s.agentDown source = true then 14 else source) data false, rfl, rfl, ?_⟩
  simp only [State.reportFull, if_neg hquiet, if_pos hc]
  exact (if_neg hsev).trans ((if_pos (by simp [hq])).trans (by rw [hq]; rfl))

include hw in
/-- Without windows, none stands for a code and its source. -/
theorem window_none (code source : Nat) : s.window code source = none := by simp [State.window, hw]

include hs hw in
/-- The warden without windows writes it (17 R738). -/
theorem bbAccept_written {x : BbRecord} (hx : x.sev ≠ 2) (ring pinOk : Bool × Bool) :
    ∃ b, { s with bb.queue := [x] }.bbAccept ring pinOk = { s with bb := b }.bbWrite x ring pinOk := by
  have htaken : { s with bb.queue := [x] }.bbAccept ring pinOk = { s with bb.queue := [] }.bbTake x ring pinOk := by
    simp only [State.bbAccept, hs]
  have hnew := window_none (s := { s with bb.queue := [] }) hw x.code x.source
  refine ⟨{ s.bb with
    queue := [], windows := s.bb.windows ++ [{ code := x.code, source := x.source, openAt := s.clock, seen := 1 }] }, ?_⟩
  rw [htaken, State.bbTake, if_neg hx]
  simp only [hnew]

include hq hs hw in
/-- So a report takes the next sequence, and its notice carries it. -/
theorem reportFull_accepted {code : Nat} (data source : Nat) (hsev : severity code ≠ 2)
    (hc : Code.recorded.contains code = true) (hn : Code.noticed.contains code = true) (ring pinOk : Bool × Bool) :
    ∃ n, ((s.reportFull code data source).bbAccept ring pinOk).2 = some n ∧
      Logged s ((s.reportFull code data source).bbAccept ring pinOk).1 ∧
      n.code = code ∧ n.sev = severity code ∧ n.seq = s.reg .BB_NEXT_SEQ := by
  obtain ⟨x, hcode, hxsev, e⟩ := reportFull_queued hq data source hsev hc
  obtain ⟨b, e'⟩ := bbAccept_written hs hw (x := x) (by rwa [hxsev]) ring pinOk
  obtain ⟨n, hnotice, h1, h2, h3⟩ := bbWrite_notice { s with bb := b } (x := x) ring pinOk (by rwa [hcode])
  rw [e, e']
  exact ⟨n, hnotice, (Logged.refl s).bb.bbWrite, h1.trans hcode, h2.trans hxsev, h3⟩

end

/-! ## The ring (04 R151, R167) -/

section
variable {s t : State}

theorem Messaged.notices (h : Messaged s t) : t.host.notices = s.host.notices := by
  obtain ⟨⟨_, _, _, rfl⟩, -⟩ := h
  rfl

theorem Messaged.reg (h : Messaged s t) {n : RegName} (hn : n ∉ beadRegs := by decide) : t.reg n = s.reg n := h.2 n _ hn

/-- The ring of notices is empty and no reset is in progress. -/
def State.ringEmptied (s : State) : State :=
  ({ s with host.notices := [], host.reset := none }.set .NT_HEAD 0).set .NT_TAIL 0

theorem ringEmptied_only (s : State) :
    OnlyRegs [.NT_HEAD, .NT_TAIL] { s with host.notices := [], host.reset := none } s.ringEmptied :=
  OnlyRegs.set (OnlyRegs.set (OnlyRegs.refl _ _) (by decide)) (by decide)

theorem ringEmptied_ring (s : State) : s.ringEmptied.reg .NT_HEAD = 0 ∧ s.ringEmptied.reg .NT_TAIL = 0 :=
  ⟨(State.set_reg_ne _ _ (by decide)).trans (State.set_reg _ _ _), State.set_reg _ _ _⟩

/-- The first notice of an empty ring stands in entry 0. -/
theorem notice_first {n : Notice} (hh : s.reg .NT_HEAD = 0) (ht : s.reg .NT_TAIL = 0) (hs : n.sev ≠ 2) :
    (s.notice n).reg .NT_HEAD = 1 ∧ Map.get (s.notice n).host.notices 0 = some n := by
  unfold State.notice
  extract_lets limit _ s1 h _
  have hreg (k : RegName) : s1.reg k = s.reg k := by
    simp only [s1]
    split <;> rfl
  have hroom : s1.unread < limit := by simp [State.unread, hreg, hh, ht, limit, hs]
  rw [if_pos hroom]
  have hhead : h = 0 := (hreg _).trans hh
  have hm := Messaged.msixSend (({ s1 with host.notices := Map.put s1.host.notices h n }).set .NT_HEAD (h + 1)) 0
  constructor
  · rw [hm.reg, State.set_reg, hhead]
    rfl
  · rw [hm.notices, hhead]
    exact Map.get_put_same _ _ _

/-- What telling leaves of the host's side and of the rest. -/
theorem told_frame {l : List RegName} (h : Told l s t) : t.host.slots = s.host.slots ∧
    { t with regs := s.regs, host := s.host, bb := s.bb } = s := by
  obtain ⟨⟨_, _, _, _, _, _, rfl⟩, -⟩ := h
  exact ⟨rfl, rfl⟩

/-! ## HOST_RESET_COMPLETE -/

/-- Without a GO there is nothing to accept. -/
theorem acceptWaiting_none (h : (List.range 4).all (fun n => !(s.slot n).go) = true) : s.acceptWaiting = s := by
  have hnone : (List.range 4).filter (fun n => (s.slot n).go) = [] :=
    List.filter_eq_nil_iff.2 fun n hn => by simpa using List.all_eq_true.1 h n hn
  unfold State.acceptWaiting State.goOrder
  rw [hnone]
  exact ite_self _

/-- The notice of the reset, in an empty ring, and READY. -/
def State.hostReported (s : State) (n : Notice) : State := (s.ringEmptied.noticeDrained n).set .READY 1

theorem hostReported_logged (hm : s.ca.merge = []) (n : Notice) :
    Told (logRegs ++ [.NT_TAIL, .READY]) { s with host.notices := [], host.reset := none } (s.hostReported n) := by
  have hring := ((ringEmptied_only s).told fun _ => id).mono (l' := logRegs ++ [.NT_TAIL, .READY]) (by decide)
  have hn : Told bookRegs s.ringEmptied (s.ringEmptied.noticeDrained n) := by
    rw [State.noticeDrained, drainFirst_idle s.ringEmptied hm]
    exact (pulse_told _ _ _).trans (notice_told _ _)
  have hready : Told (logRegs ++ [.NT_TAIL, .READY]) (s.ringEmptied.noticeDrained n) (s.hostReported n) :=
    (OnlyRegs.put _ _ _ _ (by decide)).told fun _ => id
  exact (hring.trans (hn.mono (by decide))).trans hready

theorem hostReported_frame (hm : s.ca.merge = []) (n : Notice) : (s.hostReported n).host.slots = s.host.slots ∧
    (s.hostReported n).host.reset = none ∧ { s.hostReported n with regs := s.regs, host := s.host, bb := s.bb } = s := by
  obtain ⟨⟨_, _, _, _, _, _, e⟩, -⟩ := hostReported_logged hm n
  rw [e]
  exact ⟨rfl, rfl, rfl⟩

theorem hostReported_ring (hm : s.ca.merge = []) {n : Notice} (hs : n.sev ≠ 2) :
    (s.hostReported n).reg .READY = 1 ∧ (s.hostReported n).reg .NT_TAIL = 0 ∧ (s.hostReported n).reg .NT_HEAD = 1 ∧
      Map.get (s.hostReported n).host.notices 0 = some n := by
  obtain ⟨hhead, htail⟩ := ringEmptied_ring s
  have hp := Messaged.pulse s.ringEmptied Ev.drains 1
  have hnotice := notice_told (s.ringEmptied.pulse Ev.drains) n
  obtain ⟨h1, h2⟩ := notice_first (n := n) (hp.reg.trans hhead) (hp.reg.trans htail) hs
  have e : s.hostReported n = ((s.ringEmptied.pulse Ev.drains).notice n).set .READY 1 := by
    rw [State.hostReported, State.noticeDrained, drainFirst_idle s.ringEmptied hm]
  rw [e]
  refine ⟨State.set_reg _ _ _, ?_, ?_, h2⟩
  · rw [State.set_reg_ne _ _ (by decide)]
    exact (hnotice.2.1 _ _ (by decide)).trans (hp.reg.trans htail)
  · rw [State.set_reg_ne _ _ (by decide), h1]

/-- The record of the reset, taken at once, and its notice. -/
def State.resetRecorded (s : State) (data source : Nat) : State × Option Notice :=
  (s.reportFull Code.hostReset data source).bbAccept (true, true) (true, true)

/-- What follows the record: the ring anew with the notices `l`, READY outside a power failure, and the GOs that
waited. -/
def State.hostResumed (s : State) (l : List Notice) : State :=
  let u := l.foldl State.noticeDrained s.ringEmptied
  (if u.pw.pfail.isNone ∧ u.pw.mode ≠ .boot then u.set .READY 1 else u).acceptWaiting

/-- With no record waiting the reset's own is the one taken. -/
theorem exec_hostResetComplete_running (hrun : s.running) (hp : s.host.perst = false) (hr : s.host.reset ≠ none)
    (hq : s.bb.queue = []) (hs : s.bb.stalled = []) :
    ∃ data source, exec .hostResetComplete s =
      .next ((s.resetRecorded data source).1.hostResumed ((s.resetRecorded data source).2.toList ++ [])) := by
  obtain ⟨hmode, -⟩ := hrun
  obtain ⟨⟨gone, kept, slots⟩, hr⟩ := Option.ne_none_iff_exists'.1 hr
  have hdrain : s.bbDrain (s.bb.queue.length + s.bb.stalled.length) = (s, []) := by simp [hq, hs, State.bbDrain]
  refine ⟨?_, s.sourceOf Code.hostReset, congrArg Host.Outcome.next ?eq⟩
  case eq =>
    rw [hr]
    refine (if_neg (by simp [hp, hmode])).trans ?_
    rw [hdrain]
    rfl

/-- In Run, without a GO, that is the notice and READY. -/
theorem hostResumed_running (hmode : s.pw.mode = .run) (hfail : s.pw.pfail = none) (hm : s.ca.merge = [])
    (hgo : (List.range 4).all (fun k => !(s.slot k).go) = true) (n : Notice) : s.hostResumed [n] = s.hostReported n := by
  obtain ⟨hslots, -, hframe⟩ := hostReported_frame hm n
  have hpw : (s.ringEmptied.noticeDrained n).pw = s.pw := congrArg (·.pw) hframe
  have hgo' : (List.range 4).all (fun k => !((s.hostReported n).slot k).go) = true := by
    simpa only [State.slot, hslots] using hgo
  calc s.hostResumed [n]
      = (s.hostReported n).acceptWaiting := congrArg State.acceptWaiting (if_pos (by simp [hpw, hmode, hfail]))
    _ = s.hostReported n := acceptWaiting_none hgo'

theorem exec_hostResetComplete_reported (hrun : s.running) (hp : s.host.perst = false) (hr : s.host.reset ≠ none)
    (hq : s.bb.queue = []) (hs : s.bb.stalled = []) (hw : s.bb.windows = []) (hm : s.ca.merge = [])
    (hgo : (List.range 4).all (fun n => !(s.slot n).go) = true) :
    ∃ t n, exec .hostResetComplete s = .next (t.hostReported n) ∧ Logged s t ∧ t.ca.merge = [] ∧
      n.code = Code.hostReset ∧ n.sev ≠ 2 ∧ n.seq = s.reg .BB_NEXT_SEQ := by
  obtain ⟨data, source, he⟩ := exec_hostResetComplete_running hrun hp hr hq hs
  obtain ⟨n, hnotice, hlog, hcode, hsev, hseq⟩ :=
    reportFull_accepted hq hs hw (code := Code.hostReset) data source (by decide) (by decide) (by decide) (true, true)
      (true, true)
  change (s.resetRecorded data source).2 = some n at hnotice
  change Logged s (s.resetRecorded data source).1 at hlog
  generalize (s.resetRecorded data source).1 = t at he hlog
  rw [hnotice] at he
  obtain ⟨hmode, -, -, hfail, -⟩ := hrun
  obtain ⟨hslots, hframe⟩ := told_frame hlog
  have hpw : t.pw = s.pw := congrArg (·.pw) hframe
  have hmerge : t.ca.merge = [] := (congrArg (·.ca.merge) hframe).trans hm
  have hresumed := hostResumed_running (s := t) (by rw [hpw, hmode]) (by rw [hpw, hfail]) hmerge
    (by simpa only [State.slot, hslots] using hgo) n
  exact ⟨t, n, he.trans (congrArg _ hresumed), hlog, hmerge, hcode, by rw [hsev]; decide, hseq⟩

end

/-- Settles O13. Each reset of the host side is `hostReset` and its count; HOST_RESET_COMPLETE is the record of the reset,
taken by the warden at once, and then its notice in an empty ring. -/
theorem hostSideResetsClearTheHostSideAndReport : Obligations.HostSideResetsClearTheHostSideAndReport := by
  unfold Obligations.HostSideResetsClearTheHostSideAndReport
  refine ⟨fun s hp hl => ?_, fun s hp hl => ?_, fun s t0 hp hoff hleft ht hl => ?_, fun s t0 hleft ht =>
    ⟨s, exec_linkRetrainTimeout_early hleft ht, rfl⟩, fun s hp hl => ?_, fun s hrun hp hr hq hs hw hm hgo => ?_⟩
  · obtain ⟨hc, hcount, hk⟩ := hostReset_counted (hostReset_cleared hl) (hostReset_kept s) .FLR_COUNT Ev.flrs
    refine ⟨_, exec_functionLevelReset_up hp, hc, hcount, ?_, hk⟩
    rw [pulse_host]
    exact (hostReset_perst s).trans hp
  · obtain ⟨hc, hcount, hk⟩ := hostReset_counted (hostReset_cleared hl) (hostReset_kept s) .LINK_RESETS Ev.linkResets
    refine ⟨_, exec_hotReset_up hp, hc, hcount, ?_, hk⟩
    rw [pulse_host]
    exact (hostReset_perst s).trans hp
  · obtain ⟨hc, hcount, hk⟩ := hostReset_counted (r := { s.hostReset with host.leftL0 := none }) (hostReset_cleared hl)
      (hostReset_kept s) .LINK_RESETS Ev.linkResets
    refine ⟨_, exec_linkRetrainTimeout_due hp hoff hleft ht, hc, hcount, ?_, hk⟩
    rw [pulse_host]
    rfl
  · obtain ⟨hc, hcount, hk⟩ := hostReset_counted (hostReset_cleared hl) (hostReset_kept s) .LINK_RESETS Ev.linkResets
    obtain ⟨hstate, hspeed, hwidth⟩ := linkZero_link ((s.hostReset.bump .LINK_RESETS).pulse Ev.linkResets)
    obtain ⟨-, hz, -⟩ := linkZero_only ((s.hostReset.bump .LINK_RESETS).pulse Ev.linkResets)
    exact ⟨_, exec_perstAssert_up hp, hostCleared_linkDown hc, (hz .LINK_RESETS _ (by decide)).trans hcount, rfl, hstate,
      hspeed, hwidth, Prod.ext (hk .SUBSYS_VID _ (by decide)) (hk .SUBSYS_ID _ (by decide)),
      (hk.append hz).mono (by decide)⟩
  · obtain ⟨t, n, he, hlog, hmerge, hcode, hsev, hseq⟩ := exec_hostResetComplete_reported hrun hp hr hq hs hw hm hgo
    obtain ⟨hslots, hframe⟩ := told_frame hlog
    obtain ⟨hslots', hreset, hframe'⟩ := hostReported_frame hmerge n
    obtain ⟨hready, htail, hhead, hnotice⟩ := hostReported_ring hmerge hsev
    have h : { t.hostReported n with regs := s.regs, host := s.host, bb := s.bb } = s :=
      (congrArg (fun u : State => { u with regs := s.regs, host := s.host, bb := s.bb }) hframe').trans hframe
    exact ⟨_, he, hreset, hready, htail, hhead, by rw [hnotice, ← hcode, ← hseq]; rfl, congrArg (·.q) h,
      hslots'.trans hslots, congrArg (·.lm) h, congrArg (·.md) h, congrArg (·.sp) h, congrArg (·.sl) h,
      congrArg (·.sv) h, congrArg (·.sec) h⟩

end Sys2Proof.Machine
end

section
/-! SUPPORT. The completion entry of a command, written where no other work is due with it (05 R185, R186), and the link
of a running K760 (04 Table 4.14). -/

namespace Sys2Proof.Machine

/-! ## Tables -/

namespace Map

variable {α : Type}

theorem put_put (m : Map α) (k : Nat) (a b : α) : put (put m k a) k b = put m k b := by
  induction m with
  | nil => simp [put]
  | cons e m ih =>
    simp only [put]
    split
    next h => simp [put]
    next h =>
      split
      next => simp [put]
      next hlt => simp [put, h, hlt, ih]

theorem get_update (m : Map α) (k j : Nat) (f : α → α) :
    get (update m k f) j = if j = k then (get m k).map f else get m j := by
  unfold update
  split
  next hn =>
    split
    next h => rw [h, hn]; rfl
    next => rfl
  next v hv =>
    split
    next h => rw [h, get_put_same, hv]; rfl
    next h => exact get_put_ne _ _ _ _ h

theorem update_update (m : Map α) (k : Nat) (f g : α → α) :
    update (update m k f) k g = update m k fun x => g (f x) := by
  rw [update, get_update, if_pos rfl]
  unfold update
  cases get m k with
  | none => rfl
  | some v => exact put_put _ _ _ _

theorem mem_of_get {m : Map α} {k : Nat} {v : α} (h : get m k = some v) : (k, v) ∈ m := by
  induction m with
  | nil => simp at h
  | cons e m ih =>
    rw [get] at h
    split at h
    next hk =>
      obtain rfl := Option.some.inj h
      exact hk ▸ List.mem_cons_self ..
    next => exact List.mem_cons_of_mem _ (ih h)

end Map

/-! ## A completion entry (05 Table 5.4) -/

section
variable {s : State}

/-- The entry of a pair that is not halted has nothing to say (05 R184). -/
theorem haltEntry_unhalted {qp : Nat} (h : ∀ p, Map.get s.q.pairs qp = some p → p.halted = none) :
    s.haltEntry qp = s := by
  unfold State.haltEntry
  split
  next => rfl
  next p hp => simp [h p hp]

/-- No pair is halted. -/
def State.unhalted (s : State) : Prop := ∀ qp p, Map.get s.q.pairs qp = some p → p.halted = none

theorem unhalted_of_all (h : s.q.pairs.all (fun e => e.2.halted.isNone) = true) : s.unhalted := fun qp p hp => by
  simpa using List.all_eq_true.1 h (qp, p) (Map.mem_of_get hp)

/-- With no command ended while entries could not be written, and no pair halted, none is due. -/
theorem writeHeld_idle (hh : s.q.held = []) (hu : s.unhalted) : s.writeHeld = s := by
  have e : { s with q.held := s.q.held } = s := rfl
  rw [hh] at e
  unfold State.writeHeld
  split
  · rfl
  · rw [hh]
    exact (congrArg (fun u : State => (u.q.pairs.map (·.1)).foldl State.haltEntry u) e).trans
      (List.foldl_fixed' (fun qp => haltEntry_unhalted (hu qp)) _)

/-- Without MSI-X an interrupt only restarts the coalescing (05 Table 5.2). -/
theorem signal_off (ho : s.host.msixOn = false) (qp : Nat) :
    s.signal qp = s.setPair qp fun p => { p with coalPend := 0 } := by
  unfold State.signal
  split
  next h => simp [State.setPair, Map.update, h]
  next => simp [State.msixSend, State.setPair, ho]

/-- What an entry written on pair `p` does to a pair `x` (05 R186). -/
def QPair.written (p x : QPair) (now : Nat) : QPair :=
  let wrap := p.cqWrite + 1 == p.cqDepth
  { x with
    cqWrite := if wrap then 0 else x.cqWrite + 1, phase := x.phase != wrap, coalPend := x.coalPend + 1
    coalSince := if x.coalPend = 0 then now else x.coalSince }

/-- `f` moves the write position of `p` on, with the phase inverted at a wrap, and leaves the halts. -/
def Advances (p : QPair) (f : QPair → QPair) : Prop :=
  ((f p).cqWrite, (f p).phase) = (if p.cqWrite + 1 = p.cqDepth then (0, !p.phase) else (p.cqWrite + 1, p.phase)) ∧
    ∀ x, (f x).halted = x.halted

theorem advances_written (p : QPair) (now : Nat) : Advances p fun x => p.written x now := by
  refine ⟨?_, fun _ => rfl⟩
  by_cases h : p.cqWrite + 1 = p.cqDepth
  · simp [QPair.written, h]
  · simp [QPair.written, h, beq_eq_false_iff_ne.2 h]

/-- `bs` written to host memory at `a` and pair `qp` changed by `f`, the registers being `m`. -/
def State.entered (s : State) (m : Map Nat) (qp : Nat) (f : QPair → QPair) (a : Nat) (bs : List Byte) : State :=
  { s with regs := m, host.mem := s.host.mem.writeN a bs, q.pairs := Map.update s.q.pairs qp f }

theorem signal_entered (ho : s.host.msixOn = false) (m : Map Nat) (qp : Nat) (f : QPair → QPair) (a : Nat)
    (bs : List Byte) : (s.entered m qp f a bs).signal qp = s.entered m qp (fun x => { f x with coalPend := 0 }) a bs := by
  rw [signal_off (s := s.entered m qp f a bs) ho, State.setPair]
  simp only [State.entered, Map.update_update]

/-- Without MSI-X an entry of a pair is its 16 bytes in host memory, and the pair's position. -/
theorem writeCqe_off {qp : Nat} {p : QPair} (ho : s.host.msixOn = false) (hb : s.host.busMaster = true)
    (hp : Map.get s.q.pairs qp = some p) (tag st r : Nat) : ∃ m f, s.writeCqe qp tag st r false false =
      s.entered m qp f (p.cqBase + 16 * p.cqWrite)
        (leBytes 2 tag ++ leBytes 2 st ++ leBytes 2 p.sqHead ++ leBytes 2 (b2n p.phase) ++ leBytes 8 r) ∧
      Advances p f ∧ RegsKept beadRegs s { s with regs := m } := by
  obtain ⟨⟨m, e⟩, hk, -⟩ := pulse_only (s.setPair qp fun x => p.written x s.clock) Ev.completions 1
  have hm : RegsKept beadRegs s { s with regs := m } := by rwa [e] at hk
  have hw := advances_written p s.clock
  have hbytes (a : Nat) (bs : List Byte) :
      ((s.setPair qp fun x => p.written x s.clock).pulse Ev.completions).hostWrite a bs =
      s.entered m qp (fun x => p.written x s.clock) a bs := by
    rw [e]
    exact if_pos hb
  unfold State.writeCqe
  rw [hp]
  by_cases hc : (false || (p.coalCount == 0 && p.coalTime == 0) ||
      (p.coalCount != 0 && p.coalPend + 1 ≥ p.coalCount)) = true
  · exact ⟨m, fun x => { p.written x s.clock with coalPend := 0 },
      (if_pos hc).trans ((congrArg (·.signal qp) (hbytes _ _)).trans (signal_entered ho m qp _ _ _)), hw, hm⟩
  · exact ⟨m, fun x => p.written x s.clock, (if_neg hc).trans (hbytes _ _), hw, hm⟩

/-- Command `c` is outstanding no more (05 R185). -/
def State.retired (s : State) (c : QCmd) : State :=
  { s with q.cmds := s.q.cmds.filter fun d => !(d.qp == c.qp && d.tag == c.tag) }

/-- A pair remembers the tag of a command that ended. -/
def QPair.tagged (p : QPair) (tag : Nat) : QPair := { p with lastTags := (tag :: p.lastTags).take 32 }

theorem Advances.tagged {p : QPair} {f : QPair → QPair} {tag : Nat} (h : Advances (p.tagged tag) f) :
    Advances p fun x => f (x.tagged tag) := ⟨h.1, fun x => h.2 (x.tagged tag)⟩

/-- The state that a command's entry is written in. -/
def State.entering (s : State) (c : QCmd) (m : Map Nat) : State :=
  (({ s with regs := m } : State).retired c).setPair c.qp fun x => x.tagged c.tag

theorem entering_pair {c : QCmd} {p : QPair} (hp : Map.get s.q.pairs c.qp = some p) (m : Map Nat) :
    Map.get (s.entering c m).q.pairs c.qp = some (p.tagged c.tag) := by
  rw [State.entering, State.setPair, Map.get_update, if_pos rfl]
  exact congrArg _ hp

theorem entering_entered (c : QCmd) (m m' : Map Nat) (f : QPair → QPair) (a : Nat) (bs : List Byte) :
    (s.entering c m).entered m' c.qp f a bs = (s.retired c).entered m' c.qp (fun x => f (x.tagged c.tag)) a bs := by
  simp only [State.entering, State.entered, State.setPair, Map.update_update]
  rfl

/-- A command's end without MSI-X and with no core write waiting: its entry, and nothing beside the beads. -/
theorem postOne_off {c : QCmd} {p : QPair} (ho : s.host.msixOn = false) (hb : s.host.busMaster = true)
    (hm : s.ca.merge = []) (hp : Map.get s.q.pairs c.qp = some p) (st r : Nat) : ∃ m f, s.postOne c st r false =
      (s.retired c).entered m c.qp f (p.cqBase + 16 * p.cqWrite) (cqeBytes c p st r) ∧ Advances p f ∧
        RegsKept beadRegs s { s with regs := m } := by
  obtain ⟨⟨m1, e1⟩, hk1, -⟩ := pulse_only s Ev.drains 1
  obtain ⟨m2, f, e2, hf, hk2⟩ := writeCqe_off (s := s.entering c m1) ho hb (entering_pair hp m1) c.tag st r
  have e : s.postOne c st r false = ((s.entering c m1).writeCqe c.qp c.tag st r false false).pulse Ev.dbToCqe
      ((((s.entering c m1).writeCqe c.qp c.tag st r false false).clock - c.fetchedAt) * 1000) := by
    rw [State.postOne, drainFirst_idle s hm, e1]
    rfl
  rw [e2, entering_entered] at e
  obtain ⟨⟨m3, e3⟩, hk3, -⟩ := pulse_only ((s.retired c).entered m2 c.qp (fun x => f (x.tagged c.tag))
    (p.cqBase + 16 * p.cqWrite) (cqeBytes c p st r)) Ev.dbToCqe ((s.clock - c.fetchedAt) * 1000)
  refine ⟨m3, _, e.trans e3, hf.tagged, fun n i hn => ?_⟩
  rw [e1] at hk1
  rw [e3] at hk3
  exact (hk3 n i hn).trans ((hk2 n i hn).trans (hk1 n i hn))

/-- So the command has ended, with no pair halted by it. -/
theorem entered_ended {c : QCmd} {p : QPair} {f : QPair → QPair} (hp : Map.get s.q.pairs c.qp = some p)
    (hf : Advances p f) (m : Map Nat) (st r : Nat) :
    s.Ended ((s.retired c).entered m c.qp f (p.cqBase + 16 * p.cqWrite) (cqeBytes c p st r)) c p st r := by
  refine ⟨?_, rfl, ?_⟩
  · exact (congrArg (Mem.readN _ _) (by simp [leBytes_length])).trans (Mem.readN_writeN_same _ _ (cqeBytes c p st r))
  · have hpair : Map.get (Map.update s.q.pairs c.qp f) c.qp = some (f p) := by rw [Map.get_update, if_pos rfl, hp]; rfl
    exact (congrArg _ hpair).trans (congrArg some hf.1)

theorem unhalted_entered {qp : Nat} {p : QPair} {f : QPair → QPair} (hu : s.unhalted) (hf : Advances p f)
    (m : Map Nat) (a : Nat) (bs : List Byte) : (s.entered m qp f a bs).unhalted := fun k x hx => by
  rw [State.entered, Map.get_update] at hx
  split at hx
  next =>
    obtain ⟨y, hy, rfl⟩ := Option.map_eq_some_iff.1 hx
    exact (hf.2 y).trans (hu qp y hy)
  next => exact hu k x hx

end

/-! ## D3hot (05 R226) -/

section
variable {s : State}

theorem exec_d3hotEntry_up (h : s.hostUp) : exec .d3hotEntry s = .next { s with host.d3hot := true } := by
  simp [exec, execD3hotEntry, hostReaches_of_hostUp h]

theorem exec_d0Return_up (h : s.hostUp) (hd : s.host.d3hot = true) :
    exec .d0Return s = .next { s with host.d3hot := false }.writeHeld.msixFlush := by
  simp [exec, execD0Return, hostReaches_of_hostUp h, hd]

/-- One command that ended while entries could not be written has its entry written when they can be again. -/
theorem writeHeld_one {c : QCmd} {p : QPair} {st r : Nat} (hpost : s.canPost = true) (ho : s.host.msixOn = false)
    (hb : s.host.busMaster = true) (hm : s.ca.merge = []) (hheld : s.q.held = [{ qp := c.qp, tag := c.tag }])
    (hc : s.cmd c.qp c.tag = some c) (he : c.ended = some (st, r, false)) (hp : Map.get s.q.pairs c.qp = some p)
    (hu : s.unhalted) : ∃ m f, s.writeHeld =
      ({ s with q.held := [] }.retired c).entered m c.qp f (p.cqBase + 16 * p.cqWrite) (cqeBytes c p st r) ∧ Advances p f ∧
        RegsKept beadRegs s { s with regs := m } := by
  obtain ⟨m, f, e, hf, hk⟩ := postOne_off (s := { s with q.held := [] }) (c := c) ho hb hm hp st r
  refine ⟨m, f, ?_, hf, hk⟩
  have hu' := unhalted_entered (s := { s with q.held := [] }.retired c) (qp := c.qp) hu hf m (p.cqBase + 16 * p.cqWrite)
    (cqeBytes c p st r)
  have hcmd : { s with q.held := [] }.cmd c.qp c.tag = some c := hc
  rw [State.writeHeld, if_neg (by simp [hpost]), hheld]
  simp only [List.foldl_cons, List.foldl_nil, hcmd, he, e]
  exact List.foldl_fixed' (fun qp => haltEntry_unhalted (hu' qp)) _

end

/-! ## The link (04 Table 4.14) -/

/-- The registers of the link. -/
def linkRegs : List RegName := [.LINK_STATE, .CLK_PCIE, .LINK_SPEED, .LINK_WIDTH]

section
variable {s : State}

theorem hibStep_none (h : s.pw.entry = none) : s.hibStep = s := by simp [State.hibStep, h]

theorem linkTrains_only (s : State) : OnlyRegs linkRegs s s.linkTrains :=
  OnlyRegs.set (OnlyRegs.set (OnlyRegs.refl _ s) (by decide)) (by decide)

/-- What the endpoint keeps of a link in state `l`: whether it is off or has left L0 (R164). -/
def State.linkSeen (s : State) (l : LinkState) : State :=
  { s with
    host.linkOff := l == .l3
    host.wakeN := s.host.wakeN && (l == .l2 || l == .l3)
    host.leftL0 := if l != .down then none else if s.p0Up then some s.clock else s.host.leftL0 }

/-- The link in state `l`, before the entries that it lets out. -/
def State.linkMoved (s : State) (l : LinkState) : State :=
  let t := ((s.linkSeen l).set .LINK_STATE (linkCode l)).set .CLK_PCIE (b2n (l != .down && l != .l3))
  if linkCode l = 0 then (t.set .LINK_SPEED 0).set .LINK_WIDTH 0 else if s.reg .LINK_STATE = 0 then t.linkTrains else t

theorem linkTo_eq (s : State) (l : LinkState) : s.linkTo l = (s.linkMoved l).writeHeld := rfl

theorem linkMoved_only (s : State) (l : LinkState) : OnlyRegs linkRegs (s.linkSeen l) (s.linkMoved l) := by
  have h1 : OnlyRegs linkRegs (s.linkSeen l) (((s.linkSeen l).set .LINK_STATE (linkCode l)).set .CLK_PCIE
      (b2n (l != .down && l != .l3))) := OnlyRegs.set (OnlyRegs.set (OnlyRegs.refl _ _) (by decide)) (by decide)
  exact .ite ((h1.set (by decide)).set (by decide)) (.ite (h1.trans (linkTrains_only _)) h1)

theorem linkMoved_state (s : State) (l : LinkState) : (s.linkMoved l).reg .LINK_STATE = linkCode l := by
  unfold State.linkMoved
  extract_lets t
  have ht : t.reg .LINK_STATE = linkCode l := by
    rw [State.set_reg_ne _ _ (by decide), State.set_reg]
    cases l <;> rfl
  split
  · rw [State.set_reg_ne _ _ (by decide), State.set_reg_ne _ _ (by decide), ht]
  · split
    · rw [State.linkTrains, State.set_reg_ne _ _ (by decide), State.set_reg_ne _ _ (by decide), ht]
    · exact ht

theorem linkMoved_frame (s : State) (l : LinkState) : (s.linkMoved l).host = (s.linkSeen l).host ∧
    RegsKept linkRegs s (s.linkMoved l) ∧ { s.linkMoved l with regs := s.regs, host := s.host } = s := by
  obtain ⟨⟨m, e⟩, hk, -⟩ := linkMoved_only s l
  refine ⟨by rw [e], hk, by rw [e]; rfl⟩

theorem linkSeen_leftL0 (s : State) (l : LinkState) :
    (s.linkSeen l).host.leftL0.isSome = true ↔ l = .down ∧ (s.p0Up = true ∨ s.host.leftL0.isSome = true) := by
  cases l
  case down => cases hp : s.p0Up <;> simp [State.linkSeen, hp]
  all_goals simp [State.linkSeen]

theorem exec_linkPowerStateChange_allowed {l : LinkState} (hrun : s.running) (hp : s.host.perst = false)
    (ha : s.linkAllows l = true) (hh : s.q.held = []) (hu : s.unhalted) :
    exec (.linkPowerStateChange l) s = .next (s.linkMoved l) := by
  obtain ⟨hmode, hentry, -⟩ := hrun
  obtain ⟨-, -, hframe⟩ := linkMoved_frame s l
  have hq : (s.linkMoved l).q = s.q := congrArg (·.q) hframe
  have hpw : (s.linkMoved l).pw = s.pw := congrArg (·.pw) hframe
  have hto : s.linkTo l = s.linkMoved l := by
    rw [linkTo_eq, writeHeld_idle (by rw [hq, hh]) (by rwa [State.unhalted, hq])]
  have hwake : (if (s.linkGone && l == .l0) = true then (s.linkMoved l).arrive 2 else s.linkMoved l) = s.linkMoved l := by
    split
    next h =>
      obtain rfl : l = .l0 := by simpa using (Bool.and_eq_true_iff.1 h).2
      exact arrive_running _ _ _ (by rw [hpw, hmode]) (by rw [hpw, hentry]) (by rw [linkMoved_state]; decide)
    next => rfl
  have hstep : (s.linkMoved l).hibStep = s.linkMoved l := hibStep_none (by rw [hpw, hentry])
  simp only [exec, execLinkPowerStateChange, ha, hto, if_true, hwake, hstep, ite_self]
  simp [hp, hmode]

theorem exec_linkPowerStateChange_barred {l : LinkState} (hrun : s.running) (ha : s.linkAllows l = false)
    (hg : s.linkGone = false) : exec (.linkPowerStateChange l) s = .next s := by
  obtain ⟨-, hentry, -⟩ := hrun
  simp [exec, execLinkPowerStateChange, ha, hg, hibStep_none hentry]

/-- What the endpoint keeps of a link that PERST# released. -/
def State.linkFound (s : State) (speed width : Nat) : State :=
  { s with
    host.perst := false, host.linkOff := false, host.wakeN := false, host.leftL0 := none
    host.trained := (speed, width) }

/-- That link trained to L0. -/
def State.linkTrained (s : State) (speed width : Nat) : State :=
  ((s.linkFound speed width).set .LINK_STATE 1).linkTrains.set .CLK_PCIE 1

theorem linkTrained_frame (s : State) (speed width : Nat) :
    (s.linkTrained speed width).host = (s.linkFound speed width).host ∧ RegsKept linkRegs s (s.linkTrained speed width) ∧
      { s.linkTrained speed width with regs := s.regs, host := s.host } = s := by
  have h : OnlyRegs linkRegs (s.linkFound speed width) (s.linkTrained speed width) :=
    (((OnlyRegs.refl _ _).set (by decide)).trans (linkTrains_only _)).set (by decide)
  obtain ⟨⟨m, e⟩, hk, -⟩ := h
  exact ⟨by rw [e], hk, by rw [e]; rfl⟩

theorem linkTrained_regs (s : State) {speed width : Nat} (hs : speed ≤ 3) (hw : width ≤ 2) :
    (s.linkTrained speed width).reg .LINK_STATE = 1 ∧
      (s.linkTrained speed width).reg .LINK_SPEED = min speed (s.reg .MAX_SPEED) ∧
      (s.linkTrained speed width).reg .LINK_WIDTH = width := by
  unfold State.linkTrained State.linkTrains
  refine ⟨?_, ?_, ?_⟩
  · rw [State.set_reg_ne _ _ (by decide), State.set_reg_ne _ _ (by decide), State.set_reg_ne _ _ (by decide),
      State.set_reg]
    rfl
  · rw [State.set_reg_ne _ _ (by decide), State.set_reg_ne _ _ (by decide), State.set_reg,
      State.set_reg_ne _ _ (by decide)]
    exact Nat.mod_eq_of_lt (Nat.lt_of_le_of_lt (Nat.min_le_left _ _) (Nat.lt_of_le_of_lt hs (by decide)))
  · rw [State.set_reg_ne _ _ (by decide), State.set_reg]
    exact Nat.mod_eq_of_lt (Nat.lt_of_le_of_lt hw (by decide))

/-- PERST# released while the logic die is powered and not in recovery. -/
theorem exec_perstRelease_running {speed width : Nat} (hrun : s.running) (hpg : s.pw.mainPgood = true)
    (hb : s.reg .BOOT_MODE ≠ 2) (hp : s.host.perst = true) (hs : 1 ≤ speed ∧ speed ≤ 3) (hw : 1 ≤ width ∧ width ≤ 2)
    (hh : s.q.held = []) (hu : s.unhalted) :
    exec (.perstRelease speed width) s = .next (s.linkTrained speed width) := by
  obtain ⟨hmode, hentry, -⟩ := hrun
  obtain ⟨-, -, hframe⟩ := linkTrained_frame s speed width
  obtain ⟨hstate, -, -⟩ := linkTrained_regs s hs.2 hw.2
  have hq : (s.linkTrained speed width).q = s.q := congrArg (·.q) hframe
  have hpw : (s.linkTrained speed width).pw = s.pw := congrArg (·.pw) hframe
  have hheld : (s.linkTrained speed width).writeHeld = s.linkTrained speed width :=
    writeHeld_idle (by rw [hq, hh]) (by rwa [State.unhalted, hq])
  have harrive : (s.linkTrained speed width).arrive 2 = s.linkTrained speed width :=
    arrive_running _ _ _ (by rw [hpw, hmode]) (by rw [hpw, hentry]) (by rw [hstate]; decide)
  have hup : s.endpointUp = true := by simp [State.endpointUp, hpg, hmode, hb]
  have hok : (1 ≤ speed && speed ≤ 3 && 1 ≤ width && width ≤ 2) = true := by simp [hs, hw]
  rw [exec, execPerstRelease, hok, hp, hup]
  exact congrArg Host.Outcome.next ((congrArg (State.arrive · 2) hheld).trans harrive)

/-- DS_HEARTBEAT counts in Run and Doze (04 Table 4.5). -/
theorem exec_dsHeartbeatTick_counts (h : s.pw.mode = .run ∨ s.pw.mode = .doze) :
    exec .dsHeartbeatTick s = .next (s.set .DS_HEARTBEAT (s.reg .DS_HEARTBEAT + 1)) := by
  simp [exec, execDsHeartbeatTick, h]

end

/-- Settles O14. A link that moves with no entry held and no pair halted moves its registers alone; D0 writes the one entry
held (`writeHeld_one`). -/
theorem linkStatesAndHeartbeat : Obligations.LinkStatesAndHeartbeat := by
  unfold Obligations.LinkStatesAndHeartbeat
  refine ⟨fun s l hrun hp ha hh hu => ?_, fun s l hrun _ ha hg => ⟨s, exec_linkPowerStateChange_barred hrun ha hg, rfl⟩,
    fun s speed width hrun hpg hb hp hs1 hs3 hw1 hw2 hh hu => ?_, fun s h => ⟨_, exec_d3hotEntry_up h, rfl⟩,
    fun s c p st r h hd hup hb ho hm hheld hc he hp hu => ?_, fun s h => ?_⟩
  · obtain ⟨hhost, hk, hframe⟩ := linkMoved_frame s l
    exact ⟨_, exec_linkPowerStateChange_allowed hrun hp ha hh (unhalted_of_all hu), linkMoved_state s l,
      by rw [hhost]; exact linkSeen_leftL0 s l, hk, congrArg (·.q) hframe, congrArg (·.slots) hhost, hframe⟩
  · obtain ⟨hhost, hk, hframe⟩ := linkTrained_frame s speed width
    obtain ⟨hstate, hspeed, hwidth⟩ := linkTrained_regs s hs3 hw2
    exact ⟨_, exec_perstRelease_running hrun hpg hb hp ⟨hs1, hs3⟩ ⟨hw1, hw2⟩ hh (unhalted_of_all hu),
      congrArg (·.perst) hhost, hstate, hspeed, hwidth, congrArg (·.q) hframe, congrArg (·.slots) hhost,
      hk.mono (by decide), hframe⟩
  · have hpost : { s with host.d3hot := false }.canPost = true := hup
    obtain ⟨m, f, e, hf, hk⟩ := writeHeld_one (s := { s with host.d3hot := false }) (c := c) hpost ho hb hm hheld hc he hp
      (unhalted_of_all hu)
    have hended := entered_ended (s := { s with host.d3hot := false, q.held := [] }) hp hf m st r
    refine ⟨_, (exec_d0Return_up h hd).trans ?_, rfl, rfl, hended, hk, rfl⟩
    rw [e, msixFlush_off (by exact ho)]
  · exact ⟨_, exec_dsHeartbeatTick_counts h, State.set_reg _ _ _,
      fun n i hn => regGet_regPut_name _ _ _ _ (by simpa using hn), rfl⟩

end Sys2Proof.Machine
end

section
/-! SUPPORT. Queue pairs made and deleted by mailbox commands (05 R175-R180). -/

namespace Sys2Proof.Machine

section
variable {s : State} {n : Nat} {c : MbCopy}

/-- A mailbox command that the K760 acts on now runs its row's meaning. -/
theorem runMbx_ready {opcode : Nat} (h : s.mbxReady n opcode c) (f : MbCopy → State → State) :
    s.runMbx n opcode (fun _ => true) f = .next (f c s) := by
  obtain ⟨hn, hcopy, hresp, hop, hawake, hwaits, -⟩ := h
  simp [State.runMbx, checked, hn, hcopy, hresp, hop, hawake, hwaits]

theorem mbxReady_slot {opcode : Nat} (h : s.mbxReady n opcode c) : n < s.host.slots.length := by
  obtain ⟨hn, -, -, -, -, -, hl⟩ := h
  rwa [hl]

/-! ## QP_CREATE (05 R175-R179) -/

theorem exec_qpCreate_badLength (h : s.mbxReady n 0x10 c) (hd : c.dlen ≠ 0) :
    exec (.qpCreate n) s = .next (s.answer n (failResp St.badLength 0xFFFFFFFF)) := by
  rw [exec, execQpCreate, runMbx_ready h, if_pos hd]

theorem exec_qpCreate_outOfRange {o : Nat} (h : s.mbxReady n 0x10 c) (hd : c.dlen = 0)
    (hf : qpCreateFault c.args = some o) :
    exec (.qpCreate n) s = .next (s.answer n (failResp St.outOfRange o)) := by
  rw [exec, execQpCreate, runMbx_ready h]
  simp [hd, hf]

/-- With valid arguments the pool and the number decide. -/
theorem exec_qpCreate_valid (h : s.mbxReady n 0x10 c) (hd : c.dlen = 0) (hf : qpCreateFault c.args = none) :
    exec (.qpCreate n) s = .next (if s.poolLost then s.answer n (failResp St.poolLost Code.poolLost)
      else if Map.has s.q.pairs (fieldAt c.args 0 2) then s.answer n (failResp St.qpInUse 0)
      else { s with q.pairs := Map.put s.q.pairs (fieldAt c.args 0 2) (makePair c.args),
                    host.busMaster := true }.answer n okResp) := by
  rw [exec, execQpCreate, runMbx_ready h]
  simp [hd, hf]

/-! ## QP_DELETE (05 R180) -/

theorem exec_qpDelete_unknown (h : s.mbxReady n 0x11 c) (hp : Map.get s.q.pairs (fieldAt c.args 0 2) = none) :
    exec (.qpDelete n) s = .next (s.answer n (failResp St.qpUnknown 0)) := by
  rw [exec, execQpDelete, runMbx_ready h]
  simp [hp]

/-- Pair `qp` released: its context is gone, and the command in slot `n` that asked for it succeeds. -/
def State.pairReleased (s : State) (qp n : Nat) : State :=
  { s with q.pairs := Map.erase s.q.pairs qp, q.cache := s.q.cache.erase qp }.answer n okResp

theorem pairReleased_mem (s : State) (qp n : Nat) : (s.pairReleased qp n).host.mem = s.host.mem := rfl

/-- A pair that halted and whose QP_HALTED entry is written is released at once. -/
theorem exec_qpDelete_halted {p : QPair} (h : s.mbxReady n 0x11 c) (hp : Map.get s.q.pairs (fieldAt c.args 0 2) = some p)
    (hd : p.deleting = none) (hw : p.haltWritten = true) :
    exec (.qpDelete n) s = .next (s.pairReleased (fieldAt c.args 0 2) n) := by
  rw [exec, execQpDelete, runMbx_ready h]
  simp [hp, hd, hw, State.pairReleased]

/-- A pair that is not halted halts with reason DELETED. -/
theorem exec_qpDelete_live {p : QPair} (h : s.mbxReady n 0x11 c) (hp : Map.get s.q.pairs (fieldAt c.args 0 2) = some p)
    (hd : p.deleting = none) (hw : p.haltWritten = false) (hh : p.halted = none) :
    exec (.qpDelete n) s = .next
      ((s.setPair (fieldAt c.args 0 2) fun p => { p with deleting := some n }).halt (fieldAt c.args 0 2) 6) := by
  rw [exec, execQpDelete, runMbx_ready h]
  simp [hp, hd, hw, hh]

theorem pairReleased_told (hn : n < s.host.slots.length) (qp : Nat) : s.Told (s.pairReleased qp n) n okResp := by
  obtain ⟨ht, -⟩ := answer_answered ({ s with q.pairs := Map.erase s.q.pairs qp, q.cache := s.q.cache.erase qp } : State)
    n okResp hn
  exact ht

end

/-! ## A pair with nothing outstanding halts (05 R210) -/

section
variable {s : State} {qp : Nat} {p : QPair}

/-- A pair that has nothing outstanding halts without ending a command. -/
theorem halt_idle {reason : Nat} (hp : Map.get s.q.pairs qp = some p) (hh : p.halted = none)
    (hi : s.pinned qp = false) :
    s.halt qp reason = ((s.setPair qp fun p => { p with halted := some reason }).pulse Ev.qpHalts).haltEntry qp := by
  have hnone : s.pairCmds qp = [] := by simpa [State.pairCmds, State.pinned] using hi
  have hcmds : ((s.setPair qp fun p => { p with halted := some reason }).pulse Ev.qpHalts).pairCmds qp = [] := by
    simpa [State.pairCmds, State.setPair] using hnone
  simp [State.halt, hp, hh, hcmds]

theorem setPair_setPair (s : State) (qp : Nat) (f g : QPair → QPair) :
    (s.setPair qp f).setPair qp g = s.setPair qp fun x => g (f x) := by
  simp only [State.setPair, Map.update_update]

/-- Whether entries can be written does not hang on beads. -/
theorem canPost_of_kept {t : State} (hk : RegsKept beadRegs s t) (hpost : s.canPost = true)
    (hd : t.host.d3hot = s.host.d3hot := by rfl) : t.canPost = true := by
  have hl : t.reg .LINK_STATE = s.reg .LINK_STATE := hk _ _ (by decide)
  rwa [State.canPost, State.p0Up, hl, hd]

/-- The bytes of the QP_HALTED entry of a pair (05 R210, Table 5.4). -/
def QPair.haltedBytes (p : QPair) (reason : Nat) : List Byte :=
  leBytes 2 0xFFFF ++ leBytes 2 St.qpHalted ++ leBytes 2 p.sqHead ++ leBytes 2 (b2n p.phase) ++
    leBytes 8 (reason + reason * 2 ^ 32)

/-- An entry that is signalled at once, without MSI-X, is its bytes in host memory, and a change of its pair. -/
theorem writeCqe_atOnce_off (ho : s.host.msixOn = false) (hb : s.host.busMaster = true)
    (hp : Map.get s.q.pairs qp = some p) (tag st r : Nat) : ∃ m f, s.writeCqe qp tag st r false true =
      s.entered m qp f (p.cqBase + 16 * p.cqWrite)
        (leBytes 2 tag ++ leBytes 2 st ++ leBytes 2 p.sqHead ++ leBytes 2 (b2n p.phase) ++ leBytes 8 r) ∧
      RegsKept beadRegs s { s with regs := m } := by
  obtain ⟨⟨m, e⟩, hk, -⟩ := pulse_only (s.setPair qp fun x => p.written x s.clock) Ev.completions 1
  have hm : RegsKept beadRegs s { s with regs := m } := by rwa [e] at hk
  have hbytes (a : Nat) (bs : List Byte) :
      ((s.setPair qp fun x => p.written x s.clock).pulse Ev.completions).hostWrite a bs =
      s.entered m qp (fun x => p.written x s.clock) a bs := by
    rw [e]
    exact if_pos hb
  refine ⟨m, fun x => { p.written x s.clock with coalPend := 0 }, ?_, hm⟩
  unfold State.writeCqe
  rw [hp]
  exact (congrArg (·.signal qp) (hbytes _ _)).trans (signal_entered ho m qp _ _ _)

/-- Once a halted pair that QP_DELETE names has nothing outstanding, its QP_HALTED entry is written and it is released. -/
theorem haltEntry_releases {reason n : Nat} (hp : Map.get s.q.pairs qp = some p) (hh : p.halted = some reason)
    (hd : p.deleting = some n) (hw : p.haltWritten = false) (hi : s.pinned qp = false) (hpost : s.canPost = true)
    (ho : s.host.msixOn = false) (hb : s.host.busMaster = true) (hm : s.ca.merge = []) :
    ∃ m f, s.haltEntry qp =
      (s.entered m qp f (p.cqBase + 16 * p.cqWrite) (p.haltedBytes reason)).pairReleased qp n ∧
      RegsKept beadRegs s { s with regs := m } := by
  obtain ⟨⟨m1, e1⟩, hk1, -⟩ := pulse_only s Ev.drains 1
  obtain ⟨m2, f, e2, hk2⟩ := writeCqe_atOnce_off (s := { s with regs := m1 }) ho hb hp 0xFFFF St.qpHalted
    (reason + reason * 2 ^ 32)
  refine ⟨m2, fun x => { f x with haltWritten := true }, ?_, fun k i hk => ?_⟩
  · rw [State.haltEntry, hp]
    simp only [hh, hw, hi, hpost, hd, Bool.false_or, Bool.not_true, Bool.false_eq_true, if_false]
    rw [drainFirst_idle s hm, e1, e2]
    simp only [State.setPair, State.entered, Map.update_update]
    rfl
  · rw [e1] at hk1
    exact (hk2 k i hk).trans (hk1 k i hk)

/-- A pair halted with `reason` by the QP_DELETE in slot `n`. -/
def QPair.deleted (p : QPair) (n reason : Nat) : QPair := { p with deleting := some n, halted := some reason }

/-- A live pair with nothing outstanding that QP_DELETE halts is released in the same step (05 R180). -/
theorem halt_releases {reason n : Nat} (h : s.plainPair qp p) (hw : p.haltWritten = false) (hi : s.pinned qp = false) :
    ∃ m f, (s.setPair qp fun p => { p with deleting := some n }).halt qp reason =
      (s.entered m qp f (p.cqBase + 16 * p.cqWrite) (p.haltedBytes reason)).pairReleased qp n ∧
      RegsKept beadRegs s { s with regs := m } := by
  obtain ⟨hp, hh, hpost, hb, ho, hm⟩ := h
  have hchanged (g : QPair → QPair) : Map.get (s.setPair qp g).q.pairs qp = some (g p) := by
    rw [State.setPair, Map.get_update, if_pos rfl, hp]
    rfl
  have hhalts : (s.setPair qp fun p => { p with deleting := some n }).halt qp reason =
      ((s.setPair qp fun p => p.deleted n reason).pulse Ev.qpHalts).haltEntry qp := by
    rw [halt_idle (hchanged _) hh hi, setPair_setPair]
    rfl
  obtain ⟨⟨m1, e1⟩, hk1, -⟩ := pulse_only (s.setPair qp fun p => p.deleted n reason) Ev.qpHalts 1
  generalize State.pulse _ _ = s1 at e1 hk1 hhalts
  have hp1 : Map.get s1.q.pairs qp = some (p.deleted n reason) := by
    rw [e1]
    exact hchanged _
  obtain ⟨m2, f, e2, hk2⟩ := haltEntry_releases hp1 rfl rfl hw (by rw [e1]; exact hi)
    (canPost_of_kept hk1 hpost (by rw [e1])) (by rw [e1]; exact ho) (by rw [e1]; exact hb) (by rw [e1]; exact hm)
  refine ⟨m2, fun x => f (x.deleted n reason), ?_, fun k i hk => (hk2 k i hk).trans (hk1 k i hk)⟩
  rw [hhalts, e2, e1]
  simp only [State.setPair, State.entered, Map.update_update]
  rfl

/-- The first bytes of a run written, read back. -/
theorem readN_writeN_prefix (m : Mem) (a : Nat) (bs cs : List Byte) :
    (m.writeN a (bs ++ cs)).readN a bs.length = bs := by
  rw [Mem.writeN_append, Mem.readN_writeN_outside _ _ _ _ _ (.inl (Nat.le_refl _)), Mem.readN_writeN_same]

/-- The status and tag that a QP_HALTED entry begins with, read back. -/
theorem readN_haltedBytes (m : Mem) (a reason : Nat) :
    (m.writeN a (p.haltedBytes reason)).readN a 4 = leBytes 2 0xFFFF ++ leBytes 2 St.qpHalted := by
  have e : 4 = (leBytes 2 0xFFFF ++ leBytes 2 St.qpHalted).length := by
    rw [List.length_append, leBytes_length, leBytes_length]
  rw [QPair.haltedBytes, List.append_assoc, List.append_assoc, e, readN_writeN_prefix]

end

/-- Settles O17. QP_CREATE answers by its arguments, the pool and the number in turn; QP_DELETE of a live pair halts it,
and with nothing outstanding on it that releases it in the same step (`halt_releases`). -/
theorem queuePairsAreCreatedAndDeleted : Obligations.QueuePairsAreCreatedAndDeleted := by
  unfold Obligations.QueuePairsAreCreatedAndDeleted
  refine ⟨fun s n c h hd hf hl hp => ?made, fun s n c h hd => ?badLength, fun s n o c h hd hf => ?outOfRange,
    fun s n c h hd hf hl => ?poolLost, fun s n c h hd hf hl hp => ?inUse, ?live, ?halted,
    fun s n c h hp => ?unknown⟩
  case made =>
    refine ⟨_, exec_qpCreate_valid h hd hf, ?_⟩
    rw [hl, if_neg Bool.false_ne_true, Map.has, hp, if_neg (by decide)]
    refine ⟨Map.get_put_same _ _ _, fun k hk => Map.get_put_ne _ _ _ _ hk, ?_, rfl⟩
    obtain ⟨ht, -⟩ := answer_answered ({ s with q.pairs := Map.put s.q.pairs (fieldAt c.args 0 2) (makePair c.args),
                                                host.busMaster := true } : State) n okResp (mbxReady_slot h)
    exact ht
  case badLength => exact ⟨_, exec_qpCreate_badLength h hd, answer_answered _ _ _ (mbxReady_slot h)⟩
  case outOfRange => exact ⟨_, exec_qpCreate_outOfRange h hd hf, answer_answered _ _ _ (mbxReady_slot h)⟩
  case poolLost =>
    refine ⟨_, exec_qpCreate_valid h hd hf, ?_⟩
    rw [if_pos hl]
    exact answer_answered _ _ _ (mbxReady_slot h)
  case inUse =>
    refine ⟨_, exec_qpCreate_valid h hd hf, ?_⟩
    rw [hl, if_neg Bool.false_ne_true, if_pos hp]
    exact answer_answered _ _ _ (mbxReady_slot h)
  case live =>
    rintro s n _ c p h rfl hplain hd hw hi
    obtain ⟨m, f, e, hk⟩ := halt_releases (n := n) (reason := 6) hplain hw hi
    obtain ⟨hp, hh, -⟩ := hplain
    refine ⟨_, (exec_qpDelete_live h hp hd hw hh).trans (congrArg _ e), Map.get_erase_same _ _, fun k hkq => ?_,
      ?_, ?_, rfl, hk, rfl⟩
    · exact (Map.get_erase_ne _ _ _ hkq).trans ((Map.get_update _ _ _ _).trans (if_neg hkq))
    · exact pairReleased_told (s := s.entered m _ f _ _) (mbxReady_slot (s := s) h) _
    · rw [pairReleased_mem]
      exact readN_haltedBytes (p := p) s.host.mem _ 6
  case halted =>
    rintro s n _ c p h rfl hp hd hw
    exact ⟨_, exec_qpDelete_halted h hp hd hw, Map.get_erase_same _ _, fun k hk => Map.get_erase_ne _ _ _ hk,
      pairReleased_told (mbxReady_slot h) _, rfl, rfl⟩
  case unknown => exact ⟨_, exec_qpDelete_unknown h hp, answer_answered _ _ _ (mbxReady_slot h)⟩

end Sys2Proof.Machine
end

section
/-! SUPPORT. Statements on queue pairs that fail: a halt ends commands of its own pair, and an ABORT of another pair that
waited for one of them, so that the QP_DELETE of that other pair completes in the same step. -/

namespace Sys2Proof.Machine

/-- A live queue pair of 16 entries. -/
def pairOf16 : QPair :=
  { cls := 0, irq := false, sqDepth := 16, cqDepth := 16, sqBase := 0x10000, cqBase := 0x20000, vector := 0,
    coalCount := 0, coalTime := 0, sqHead := 1, sqTail := 1 }

/-- A QP_DELETE of pair 2. -/
def deleteOfPair2 : MbCopy :=
  { opcode := 0x11, flags := 0, dlen := 0, seq := 7, args := leBytes 2 2 ++ leBytes 54 0, data := [], byP8 := false,
    order := 0 }

/-- A NOP with tag 7 on pair 1, not started. -/
def nopOfPair1 : QCmd :=
  { qp := 1, tag := 7, opcode := 0x100, fence := false, noWait := false, buf := [], args := leBytes 40 0, input := [],
    order := 0, fetchedAt := 0, fetchTime := 0, abortBy := [(2, 9)] }

/-- The ABORT of that NOP, with tag 9 on pair 2, which waits for its end (05 R216). -/
def abortOfPair2 : QCmd :=
  { nopOfPair1 with
    qp := 2, tag := 9, opcode := 0x102, args := leBytes 2 1 ++ leBytes 2 7 ++ leBytes 36 0, order := 1, started := true
    abortBy := [] }

/-- Run with the link in L0: pair 1 live, pair 2 halted by the QP_DELETE in slot 0, which waits for the ABORT (05 R180). -/
def deletionWaits : State :=
  { regs := regPut (regPut powerOnRegs .READY 0 1) .LINK_STATE 0 1
    pw := { mode := .run, pwrMainEn := true, mainPgood := true, driveDie := true }
    host.busMaster := true
    host.slots := [{ busy := true, copy := some deleteOfPair2 }, {}, {}, {}]
    q := { pairs := [(1, pairOf16), (2, { pairOf16 with sqBase := 0x30000, cqBase := 0x40000, halted := some 6,
                                                         deleting := some 0 })]
           cmds := [nopOfPair1, abortOfPair2], cache := [1, 2], orders := 2 } }

/-- An SQ tail at the depth of pair 1 halts it. The NOP is flushed, the ABORT answers, and the QP_DELETE succeeds. -/
theorem deletionWaits_badTail :
    (nextState (exec (.doorbellWrite 8 4 16) deletionWaits)).map (fun t => (t.slot 0).resp) = some (some okResp) := by
  decide +kernel

/-- So does a host read of pair 1's entries without completion. -/
theorem deletionWaits_readTimeout :
    (nextState (exec (.hostReadTimeout 1 none) deletionWaits)).map (fun t => (t.slot 0).resp) = some (some okResp) := by
  decide +kernel

/-- Such a step does not leave the mailbox slots as they were. -/
theorem deletionWaits_slots {c : Instr} {t : State} (ht : exec c deletionWaits = .next t)
    (hresp : (nextState (exec c deletionWaits)).map (fun t => (t.slot 0).resp) = some (some okResp)) :
    t.host.slots ≠ deletionWaits.host.slots := fun hslots => by
  have hsome : (t.slot 0).resp = some okResp := by simpa [nextState_of_next ht] using hresp
  have hnone : (t.slot 0).resp = none := by
    rw [State.slot, hslots]
    rfl
  simp [hnone] at hsome

/-- Refutes O15: its clause on a tail at or above the depth says that the mailbox slots stay, but the halt that the tail
brings can let the QP_DELETE of another pair complete, whose response then stands in its slot (05 R180, R216). -/
theorem not_doorbellsAndFetchesMoveTheQueues : ¬ Obligations.DoorbellsAndFetchesMoveTheQueues := by
  unfold Obligations.DoorbellsAndFetchesMoveTheQueues
  rintro ⟨-, -, hbadTail, -⟩
  obtain ⟨t, ht, -, -, -, hslots⟩ := hbadTail deletionWaits 1 16 pairOf16 (by decide +kernel) (by decide) (by decide)
    rfl rfl rfl rfl rfl rfl (by decide)
  exact deletionWaits_slots ht deletionWaits_badTail hslots

/-- Refutes O16: its clause on a host read timeout with no tag says that the mailbox slots stay, and the halt that the
timeout brings can change them in the same way. -/
theorem not_commandsEndWithOneEntryAndInterrupts : ¬ Obligations.CommandsEndWithOneEntryAndInterrupts := by
  unfold Obligations.CommandsEndWithOneEntryAndInterrupts
  rintro ⟨-, -, -, -, -, htimeout, -⟩
  obtain ⟨t, ht, -, -, hslots⟩ := htimeout deletionWaits 1 pairOf16 (by decide) rfl rfl rfl
  exact deletionWaits_slots ht deletionWaits_readTimeout hslots

end Sys2Proof.Machine
end

section
/-! SUPPORT. A step on an empty queue, in which one microsecond passes (log entry 5). Nothing that follows from its passing
sets the clock again: not a coil, a test window that closes with all that it can bring (a repair, a unit dropped, a reset of
the logic die), nor a power failure's shutdown. -/

set_option Elab.async false

namespace Sys2Proof.Machine

/-- `s` shows the clock of `r`. -/
def ClockKept (r s : State) : Prop := s.clock = r.clock

namespace ClockKept

section
variable {r s t : State}

theorem ite {c : Prop} [Decidable c] (h : ClockKept r s) (g : ClockKept r t) : ClockKept r (if c then s else t) := by
  split
  · exact h
  · exact g

theorem foldl {α : Type} {f : State → α → State} {l : List α} (h : ClockKept r s)
    (hf : ∀ t a, ClockKept r t → ClockKept r (f t a)) : ClockKept r (l.foldl f s) :=
  List.foldlRecOn l f h fun t ht a _ => hf t a ht

theorem iteSnd {β : Type} {p q : β × State} {c : Prop} [Decidable c] (h : ClockKept r p.2) (g : ClockKept r q.2) :
    ClockKept r (if c then p else q).2 := by
  split
  · exact h
  · exact g

theorem of_fst {β : Type} {q : State × β} {b : β} (h : ClockKept r q.1) (e : q = (s, b)) : ClockKept r s := by
  rwa [e] at h

theorem of_snd {β : Type} {q : β × State} {b : β} (h : ClockKept r q.2) (e : q = (b, s)) : ClockKept r s := by
  rwa [e] at h

end

section
variable {r s t : State} (h : ClockKept r s)
include h

section
variable {pending : List Instr} {regs : Map Nat} {time free : Nat} {pw : PowerS} {host : HostS} {q : QueueS}
  {bb : BlackBoxS} {bead : BeadS} {lm : LoomS} {md : MediumS} {bu : BurstS} {sec : SecS} {sp : SpindleS} {sl : SledS}
  {sv : ServoS} {las : LaserS} {ch chV : ChannelS} {rd : List ReadJob} {cal : CalS} {st : SelfTestS} {ca : CacheS}
  {un : UnitsS} {pt : PortS} {tb : TimeS} {tally : Map TallyOpen} {gp : GpioS} {bo : BootS} {tap : TapS}

/-- Every other field may change: an operation that neither branches nor repeats is a frame. (Written out, so that
unification finds `s` by its clock.) -/
theorem frame : ClockKept r ⟨pending, regs, s.clock, time, free, pw, host, q, bb, bead, lm, md, bu, sec, sp, sl, sv, las,
    ch, chV, rd, cal, st, ca, un, pt, tb, tally, gp, bo, tap⟩ := h

end

theorem put {n : RegName} {i v : Nat} : ClockKept r (s.put n i v) := h

/-! ### Reports and messages -/

theorem told {l : List RegName} (g : Told l s t) : ClockKept r t := by
  obtain ⟨⟨_, _, _, _, _, _, rfl⟩, -⟩ := g
  exact h

theorem only {l : List RegName} (g : OnlyRegs l s t) : ClockKept r t := by
  obtain ⟨⟨_, rfl⟩, -⟩ := g
  exact h

theorem beadAdd {i k : Nat} : ClockKept r (s.beadAdd i k) := h.only (beadAdd_only s i k)

theorem beadMax {i v : Nat} : ClockKept r (s.beadMax i v) := h.only (beadMax_only s i v)

theorem pulse {code v : Nat} : ClockKept r (s.pulse code v) := h.only (pulse_only _ _ _)

theorem hostWrite {a : Nat} {bs : List Byte} : ClockKept r (s.hostWrite a bs) := h.told (hostWrite_told _ _ _)

theorem msixSend {v : Nat} : ClockKept r (s.msixSend v) := h.told (msixSend_told _ _)

theorem report {code obj val second : Nat} : ClockKept r (s.report code obj val second) := h.told (report_told _ _ _ _ _)

theorem updateHealth : ClockKept r s.updateHealth := .ite h h.frame.report

theorem parityMet {row : Nat} {same : Bool} : ClockKept r (s.parityMet row same) :=
  .ite h.frame.pulse.report.frame.pulse.report h.frame.pulse.report

theorem reportDiscOut {code obj val : Nat} : ClockKept r (s.reportDiscOut code obj val) :=
  h.report.frame.report.updateHealth

/-! ### The L2 and the merging buffer (14 R629, R633) -/

theorem poisonGranule {g : Nat} : ClockKept r (s.poisonGranule g) := .ite h h.frame.pulse

theorem l2Fill {line : Nat} {locked : Bool} : ClockKept r (s.l2Fill line locked) := by
  unfold State.l2Fill
  split
  · exact h
  · extract_lets
    split
    · exact h.frame
    · split
      · exact h
      · exact h.frame.pulse

theorem mergeTake {core addr : Nat} {bs : List Byte} (e : s.mergeTake core addr bs = some t) : ClockKept r t := by
  unfold State.mergeTake at e
  extract_lets _ hit at e
  have hhit (u : State) (hu : ClockKept r u) : ClockKept r (hit u) := by
    simp only [hit]
    split
    · exact hu
    · split
      · exact hu
      · exact hu.frame
  split at e
  · cases e
  · split at e
    · cases e
      exact hhit _ h.frame
    · split at e
      · cases e
        exact hhit _ h.frame
      · cases e

theorem unstall {l : List (Nat × Nat × List Byte)} : ClockKept r (s.unstall l) := by
  induction l generalizing s with
  | nil => exact h.frame
  | cons w ws ih =>
    unfold State.unstall
    split
    next e => exact ih (h.mergeTake e)
    next => exact h.frame

theorem readsReturn {id : Nat} : ClockKept r (s.readsReturn id) := h.frame.foldl fun _ _ ht => ht.frame

theorem l2Refill {line : Nat} : ClockKept r (s.l2Refill line) := by
  unfold State.l2Refill
  split
  · exact h
  · split
    · exact h
    · exact h.frame

theorem rangeFills : ClockKept r s.rangeFills := by
  unfold State.rangeFills
  split
  · exact h
  · exact h.frame.foldl fun _ _ ht => .ite ht.l2Refill ht.l2Fill

theorem drainOldest : ClockKept r s.drainOldest := by
  unfold State.drainOldest
  split
  · exact h
  · extract_lets _ s1 _ s2 s3 s4
    have h1 : ClockKept r s1 := h.frame
    have h2 : ClockKept r s2 := .ite h1.frame h1
    have h3 : ClockKept r s3 := .ite h2.poisonGranule h2
    have h4 : ClockKept r s4 := h3.readsReturn.frame
    exact h4.unstall.rangeFills

theorem drainOld {n : Nat} : ClockKept r (s.drainOld n) := by
  induction n generalizing s with
  | zero => exact h
  | succ n ih => exact ih h.drainOldest

theorem drainFirst : ClockKept r s.drainFirst := h.pulse.drainOld

/-! ### The end of a queue command (05 R184, R210, R216) -/

theorem signal {qp : Nat} : ClockKept r (s.signal qp) := by
  unfold State.signal
  split
  · exact h
  · exact .ite h.frame.msixSend h.frame

theorem writeCqe {qp tag status result : Nat} {coarse atOnce : Bool} :
    ClockKept r (s.writeCqe qp tag status result coarse atOnce) := by
  unfold State.writeCqe
  split
  · exact h
  · exact .ite h.frame.pulse.hostWrite.signal h.frame.pulse.hostWrite

theorem haltEntry {qp : Nat} : ClockKept r (s.haltEntry qp) := by
  unfold State.haltEntry
  split
  · exact h
  · split
    · exact h
    · split
      · exact h
      · extract_lets s1
        have h1 : ClockKept r s1 := h.drainFirst.writeCqe
        split
        · exact h1.frame
        · exact h1.frame

theorem endOne {c : QCmd} {status result : Nat} {coarse : Bool} : ClockKept r (s.endOne c status result coarse) :=
  .ite h.drainFirst.frame.writeCqe.pulse h.frame

theorem endAborts {outcome n : Nat} {l : List (Nat × Nat)} : ClockKept r (s.endAborts outcome l n) := by
  induction n generalizing s outcome l with
  | zero => exact h
  | succ n ih =>
    refine h.foldl fun t k ht => ?_
    split
    · exact ht
    · exact .ite ht (ih ht.endOne.pulse).haltEntry

theorem finishWith {c : QCmd} {status count detail : Nat} : ClockKept r (s.finishWith c status count detail) :=
  .ite h h.endOne.endAborts.haltEntry

theorem haltCmd {reason : Nat} {c : QCmd} : ClockKept r (s.haltCmd reason c) :=
  .ite h (.ite h.finishWith (.ite h.frame.finishWith h))

theorem halt {qp reason : Nat} : ClockKept r (s.halt qp reason) := by
  unfold State.halt
  split
  · exact h
  · exact .ite h ((h.frame.pulse.foldl fun _ _ ht => ht.haltCmd).haltEntry)

/-! ### Streams, leases and the tables (07) -/

theorem cleanGranule {g : Nat} : ClockKept r (s.cleanGranule g) := by
  unfold State.cleanGranule
  split
  · exact h.frame
  · exact h

theorem raiseHead {b x : Nat} : ClockKept r (s.raiseHead b x) := by
  unfold State.raiseHead
  extract_lets _ _ s1 _ _ _ _ _ _ _ _ s2
  have h1 : ClockKept r s1 := h.foldl fun _ _ ht => .ite ht.cleanGranule ht
  have h2 : ClockKept r s2 := h1.frame
  exact .ite h (.ite h2.frame h1.frame)

theorem wrapFree {b need n : Nat} : ClockKept r (s.wrapFree b need n) := by
  induction n generalizing s with
  | zero => exact h
  | succ n ih => exact .ite h (ih h.raiseHead)

theorem makeRoom {b len keep : Nat} : ClockKept r (s.makeRoom b len keep).2 :=
  .iteSnd (.iteSnd h.wrapFree (.iteSnd h.wrapFree.raiseHead h.wrapFree)) (.iteSnd h.raiseHead h)

theorem raiseCeilings {b : Nat} : ClockKept r (s.raiseCeilings b) := .ite (.frame (.ite h.frame h)) (.ite h.frame h)

theorem portDrop {p : Nat} : ClockKept r (s.portDrop p) := .pulse (.ite h.frame (.ite h.frame h.frame))

theorem bobFlags {b : Nat} : ClockKept r (s.bobFlags b) := h.put.put.put

theorem commitRec {b : Nat} {x : Rec} : ClockKept r (s.commitRec b x) :=
  h.frame.put.put.raiseCeilings.bobFlags.pulse.pulse.frame

theorem ringWrite {b o : Nat} {bs : List Byte} : ClockKept r (s.ringWrite b o bs) := by
  unfold State.ringWrite
  exact h.frame

theorem writeRec {b : Nat} {payload : List Byte} {flags source time : Nat} :
    ClockKept r (s.writeRec b payload flags source time) :=
  h.ringWrite.commitRec

theorem segClose {b reason : Nat} : ClockKept r (s.segClose b reason) :=
  .ite h (.ite h.makeRoom.writeRec.frame h.makeRoom.frame)

theorem heddle {k base limit rights bobbin lease : Nat} : ClockKept r (s.heddle k base limit rights bobbin lease) :=
  h.put.put.put.put.put.put.put.put.put

theorem reed {k base limit rmask wmask : Nat} : ClockKept r (s.reed k base limit rmask wmask) := h.put.put.put.put.put

theorem dropLease {b : Nat} : ClockKept r (s.dropLease b) := by
  unfold State.dropLease
  split
  · exact h
  · exact .frame (.put (.ite h h.heddle))

theorem appendsMeet {b : Nat} : ClockKept r (s.appendsMeet b) := .ite (h.foldl fun _ _ ht => ht.finishWith) h

theorem revokeLease {b reason : Nat} : ClockKept r (s.revokeLease b reason) := by
  unfold State.revokeLease
  split
  · exact h
  · extract_lets s1 s2 s3
    have h1 : ClockKept r s1 := h.dropLease.frame.appendsMeet
    have h2 : ClockKept r s2 := h1.segClose.frame
    have h3 : ClockKept r s3 := .ite h2.frame h2
    exact h3.frame.pulse.report

theorem revokeAgent {agent : Nat} : ClockKept r (s.revokeAgent agent) := h.foldl fun _ _ ht => .ite ht.revokeLease ht

theorem deriveReed : ClockKept r s.deriveReed :=
  (h.foldl fun _ _ ht => ht.reed).foldl fun _ _ ht => .ite ht.put ht.reed

theorem deriveHeddle : ClockKept r s.deriveHeddle :=
  (h.foldl fun _ _ ht => ht.heddle).foldl fun _ _ ht => .ite ht ht.heddle

theorem saveTails : ClockKept r s.saveTails := h.foldl fun _ _ ht => ht.put.put.put

/-! ### The burst's next block, a block given up (01 R37, R38; 02 R79, R80) -/

theorem skipRec {b : Nat} {x : Rec} : ClockKept r (s.skipRec b x) := by
  unfold State.skipRec
  extract_lets s1
  have h1 : ClockKept r s1 := .ite h h.frame.pulse
  exact h1.frame.put.bobFlags.report

theorem skipBad {b : Nat} {l : List Rec} : ClockKept r (s.skipBad b l).1 := by
  induction l generalizing s with
  | nil => exact h
  | cons x xs ih =>
    unfold State.skipBad
    split
    · exact h
    · exact ih h.skipRec

theorem assembleOne {b o n : Nat} {recs : List Rec} : ClockKept r (s.assembleOne b o n recs).2 := by
  unfold State.assembleOne
  extract_lets
  split
  · exact h.put.pulse
  · exact h

theorem assemble {b o z n : Nat} {recs : List Rec} : ClockKept r (s.assemble b o z recs n).2 := by
  induction n generalizing s o with
  | zero => exact h
  | succ n ih => exact .iteSnd h (ih h.assembleOne)

theorem startBlock {b : Nat} {recs : List Rec} {layer head : Nat} : ClockKept r (s.startBlock b recs layer head) := by
  unfold State.startBlock
  dsimp only
  exact h.assemble.frame

theorem userFull : ClockKept r s.userFull := .foldl (.ite h h.put.report) fun _ _ ht => ht.finishWith

theorem nextBlock {n : Nat} : ClockKept r (s.nextBlock n) := by
  induction n generalizing s with
  | zero => exact h
  | succ n ih =>
    unfold State.nextBlock
    split
    · exact h
    next b l _ _ =>
      have hu : ClockKept r (s.skipBad b l).1.checkFlushes := h.skipBad.foldl fun _ _ ht => ht.finishWith
      dsimp only
      split
      · exact ih hu
      · split
        · exact ih hu
        · split
          · exact .ite hu.startBlock hu
          · exact hu.userFull
          · exact hu

theorem burn {a : Nat} {c : Cluster} : ClockKept r (s.burn a c) := by
  unfold State.burn
  split
  · exact h
  · exact h.frame

theorem advance {k : Block} {a : Nat} : ClockKept r (s.advance k a) := by
  unfold State.advance
  extract_lets
  split <;> exact h.frame

theorem breakCluster : ClockKept r s.breakCluster := by
  unfold State.breakCluster
  split
  · exact h.frame
  · split
    · exact h.frame
    · exact h.burn.advance.frame.pulse.report

theorem dropBlock : ClockKept r s.dropBlock := by
  unfold State.dropBlock
  split
  · exact h
  · extract_lets _ s1 s2
    have h1 : ClockKept r s1 := by
      unfold s1
      split
      · exact h
      · exact h.burn.advance
    have h2 : ClockKept r s2 := by
      unfold s2
      split
      · exact h1.frame
      · exact h1
    exact h2.frame

theorem abandonBlock : ClockKept r s.abandonBlock := by
  unfold State.abandonBlock
  split
  · exact h
  · exact .ite h.dropBlock.frame.pulse.report h.dropBlock.frame

theorem discOut {code obj val : Nat} : ClockKept r (s.discOut code obj val) :=
  h.abandonBlock.frame.reportDiscOut.foldl fun _ _ ht => ht.finishWith

theorem endFlushes : ClockKept r s.endFlushes := by
  unfold State.endFlushes State.dropBurst
  exact .ite h.frame.dropBlock.frame h.frame

theorem orphan {k : Block} : ClockKept r (s.orphan k) := by
  unfold State.orphan
  split
  · exact h.frame
  · exact h

theorem layerEnded {k : Block} : ClockKept r (s.layerEnded k) := h.orphan.frame

theorem restartBlock {k : Block} : ClockKept r (s.restartBlock k) := by
  unfold State.restartBlock
  split
  · exact h.frame.userFull
  · exact .ite h h.frame

/-! ### Arrivals and triggers (01 R37-R41; 03 R106, R107) -/

theorem cancelEntry : ClockKept r s.cancelEntry := by
  unfold State.cancelEntry
  split
  · exact h
  · extract_lets _ _ _ s1
    have h1 : ClockKept r s1 := h.frame.put.frame.pulse
    split
    · exact h1.frame
    · exact h1

theorem sourceFires {cause : Nat} : ClockKept r (s.sourceFires cause) := by
  unfold State.sourceFires
  split
  · exact .ite h.frame h
  · split
    · exact h.put
    · exact h.put
    · exact h.put
    · exact h

theorem beginWake {cause : Nat} : ClockKept r (s.beginWake cause) := by
  unfold State.beginWake
  split
  · exact .ite h (.ite h.frame h.frame.put.put.pulse)
  · exact .ite h (.ite h.frame h.frame.put.put.pulse)
  · exact .ite h (.ite h.frame h.frame.put.put.pulse)
  · exact h

theorem wakeOn {cause : Nat} {hostWrite : Bool} : ClockKept r (s.wakeOn cause hostWrite) :=
  .ite h.sourceFires.beginWake h.sourceFires

theorem arrive {cause : Nat} {hostWrite : Bool} : ClockKept r (s.arrive cause hostWrite) := by
  unfold State.arrive
  split
  · exact h.wakeOn
  · exact .ite h.sourceFires (.ite h.cancelEntry.wakeOn h.cancelEntry.sourceFires)

theorem openSession : ClockKept r s.openSession := by
  unfold State.openSession
  split
  · exact h
  · exact h.frame

theorem trigger {bobs : List Nat} {mark : Bool} {flush : Option (Nat × Nat)} :
    ClockKept r (s.trigger bobs mark flush) :=
  .ite (.ite h.frame h) (.ite h.frame (.ite h.arrive h.arrive.openSession.frame.pulse.frame))

/-! ### The end of a session, the work that is next (02 R82) -/

theorem finishMount : ClockKept r s.finishMount := by
  unfold State.finishMount
  extract_lets _ _ _ _ s1 s2 s3 s4
  have h1 : ClockKept r s1 := h.frame.put.updateHealth
  have h2 : ClockKept r s2 := .ite h1.report h1.report
  have h3 : ClockKept r s3 := .ite h2.report h2
  have h4 : ClockKept r s4 := h3.foldl fun _ _ ht => ht.finishWith
  exact .ite h4 h4.frame.trigger

theorem sessionDone {e : Session} : ClockKept r (s.sessionDone e) :=
  .ite h.frame.report.finishMount (.ite h.frame.report.frame.trigger h.frame.report)

theorem startSystem {kind : BlockKind} {e : Session} : ClockKept r (s.startSystem kind e) := by
  unfold State.startSystem
  split
  · exact h
  · exact h.frame

theorem nextWork : ClockKept r s.nextWork := by
  unfold State.nextWork
  split
  · split
    · exact h
    · split
      · exact h.layerEnded
      · exact h.frame.put
      · exact h.frame
  · exact h.restartBlock
  · exact .ite h h.startSystem
  · split
    · exact h.frame
    · split
      · exact h
      · split
        · split
          · exact h.startSystem
          · exact h.sessionDone
        · exact .ite (.ite h.nextBlock h.nextBlock.frame) h
  · exact h

theorem cutWrite : ClockKept r s.cutWrite := h.breakCluster.nextWork

/-! ### The gate opens on a cluster (11 R516; 12 R536) -/

theorem levelCurrent {level p : Nat} : ClockKept r (s.levelCurrent level p).2 := by
  unfold State.levelCurrent
  extract_lets
  split
  · exact h.frame
  · split
    · exact h
    · dsimp only
      exact h.put.put.pulse.report

theorem writeLevels : ClockKept r s.writeLevels := by
  unfold State.writeLevels
  dsimp only
  exact h.put.levelCurrent.levelCurrent.levelCurrent.levelCurrent.frame

theorem beginCluster {k : Block} : ClockKept r (s.beginCluster k) := by
  unfold State.beginCluster
  extract_lets _ _ _ s1 _ s2 u _ s3
  have h1 : ClockKept r s1 := h.frame
  have h2 : ClockKept r s2 := .ite h1.frame h1
  have hu : ClockKept r u := h2.writeLevels
  have h3 : ClockKept r s3 := hu.frame
  exact .ite h3.frame h3

theorem tryOpenGate : ClockKept r s.tryOpenGate := by
  unfold State.tryOpenGate
  split
  · exact h
  · exact .ite h.frame (.ite h (.beginCluster (.ite h h.put)))

theorem resume : ClockKept r s.resume := h.nextWork.nextWork.tryOpenGate

/-! ### The drive stops, or acquires focus afresh (09 R434; 10 R460, R473; 14 R622) -/

theorem laserRead {layer : Nat} : ClockKept r (s.laserRead layer) :=
  .put (.put (.put (.put (.put (.levelCurrent (.ite h h.frame))))))

theorem laserOff : ClockKept r s.laserOff := .put (.put (.put (.put (.put (.ite h h.put)))))

theorem coilsOff : ClockKept r s.coilsOff := (h.foldl fun _ _ ht => ht.put).frame

theorem servoOff : ClockKept r s.servoOff := .frame (.coilsOff (.put (.put (.put (.ite h h.put)))))

theorem spState {st : Nat} : ClockKept r (s.spState st) := by
  unfold State.spState
  extract_lets _ _ _ s1 _ s2
  have h1 : ClockKept r s1 := h.put.put.frame
  have h2 : ClockKept r s2 := .ite h1.frame h1
  exact .ite h2.servoOff.laserOff h2

theorem spShort {why : ShortWhy} : ClockKept r (s.spShort why) := h.spState.put.put.frame

theorem spFloat : ClockKept r s.spFloat := h.spState.put.put.frame

theorem posLost {count : Bool} : ClockKept r (s.posLost count) := h.only (posLost_only s count)

theorem retainPos : ClockKept r s.retainPos := h.only (retainPos_only s)

theorem sledStopped : ClockKept r s.sledStopped := h.put.frame

theorem standIn {mode : Nat} : ClockKept r (s.standIn mode) := h.frame

theorem sledHold : ClockKept r s.sledHold := .frame (.standIn (.ite h.sledStopped.frame.put h))

theorem sledShutdown : ClockKept r s.sledShutdown := .retainPos (.frame (.ite h.sledStopped.frame.put.posLost h))

theorem driveAlone : ClockKept r s.driveAlone := h.laserOff.coilsOff.spFloat.sledHold

theorem missSample : ClockKept r s.missSample :=
  .ite h.cutWrite.report.frame.laserRead.put.put.put.put.frame.frame h.cutWrite.report.servoOff

/-! ### A unit dropped, the pool lost (07 R332-R337; 12 R562; 16 R699-R718) -/

theorem mapEntry {ramNo kind index spare source : Nat} : ClockKept r (s.mapEntry ramNo kind index spare source) :=
  .ite h h.put.put.put.put.put.put.put.put.put.put.pulse.report.updateHealth

theorem takeSpare {ramNo kind index source : Nat} (e : s.takeSpare ramNo kind index source = some t) : ClockKept r t := by
  simp only [State.takeSpare, Option.ite_none_right_eq_some, Option.some.injEq] at e
  obtain ⟨-, rfl⟩ := e
  exact h.mapEntry

theorem laneStates : ClockKept r s.laneStates := .ite (.ite h.put.put.put h.put.put) h.put.put.put

theorem laneHealth : ClockKept r s.laneHealth := h.laneStates.updateHealth

theorem retireLane {k : Nat} : ClockKept r (s.retireLane k) := by
  unfold State.retireLane
  extract_lets _ _ _ s1 s2
  have h1 : ClockKept r s1 := .ite h.put.put.put h.put.put
  have h2 : ClockKept r s2 := .laneHealth (.ite h1.put h1)
  exact .ite h (.ite h2.mapEntry.discOut h2.mapEntry.report)

theorem losePool {mask : Nat} : ClockKept r (s.losePool mask) := by
  unfold State.losePool
  split
  · exact h
  · extract_lets _ s1 _ _ s2 s3 _ s4 _ _ _ s5 u6
    have h1 : ClockKept r s1 := h.saveTails.put.foldl fun _ _ ht => ht.revokeLease
    clear_value s1
    have h2 : ClockKept r s2 := h1.frame.put.put.report
    have h3 : ClockKept r s3 := h2.foldl fun _ _ ht => .ite ht ht.put
    have h4 : ClockKept r s4 := h3.foldl fun _ _ ht => ht.halt
    have h5 : ClockKept r s5 := h4.frame.foldl fun _ _ ht => ht.finishWith
    have h6 : ClockKept r u6 := h5.abandonBlock
    exact h6.frame.frame.resume

theorem degrade {row : Nat} : ClockKept r (s.degrade row) := .ite h h.put.put.report.updateHealth

theorem dropUnit {row unit : Nat} : ClockKept r (s.dropUnit row unit) := by
  unfold State.dropUnit
  split
  · exact .ite h (.ite h.frame.frame.put.frame.degrade h.frame.frame.put)
  · exact .ite h (.ite h.frame.degrade h.frame)
  · exact .ite h h.frame.put
  · exact .ite h (.ite h.frame.put.discOut h.frame.put)
  · exact h.retireLane
  · exact h.frame.degrade
  · exact h.frame.discOut.degrade
  · exact h.frame.degrade
  · exact h.frame.losePool.degrade
  · exact .ite h.frame.discOut h.frame

theorem coverColumns {m source : Nat} {cells : FailCells} {l : List Nat} :
    ClockKept r (s.coverColumns m source cells l).2 := by
  induction l generalizing s cells with
  | nil => exact h
  | cons c cs ih =>
    unfold State.coverColumns
    split
    next => exact ih h
    next e => exact ih (h.takeSpare e)

theorem coverRows {m source : Nat} {cells : FailCells} {l : List Nat} : ClockKept r (s.coverRows m source cells l).2 := by
  induction l generalizing s with
  | nil => exact h
  | cons c cs ih =>
    unfold State.coverRows
    split
    next e => exact ih (h.takeSpare e)
    next =>
      split
      next e => exact ih (h.takeSpare e)
      next => exact h
    next => exact h

theorem repair {m : Nat} {cells : FailCells} {source : Nat} : ClockKept r (s.repair m cells source).2 :=
  h.coverColumns.coverRows

theorem mismatch {g : Nat} : ClockKept r (s.mismatch g) := by
  unfold State.mismatch
  extract_lets _ s1 _ s2
  have h1 : ClockKept r s1 := h.put.pulse.report
  have h2 : ClockKept r s2 := h1.frame.deriveReed.deriveHeddle
  exact .ite h2.losePool h2

/-! ### A reset of the logic die (07 R329-R332) -/

theorem burnBroken : ClockKept r s.burnBroken := by
  unfold State.burnBroken
  split
  · exact h
  · split
    · exact h
    · exact h.burn

theorem hostReset : ClockKept r s.hostReset := by
  unfold State.hostReset
  extract_lets _ _ _ s1 _ _ clear
  have h1 : ClockKept r s1 := h.endFlushes
  clear_value s1 clear
  exact .put (.put (.frame h1))

theorem slotsLost : ClockKept r s.slotsLost := by
  unfold State.slotsLost
  exact h.frame

theorem forget : ClockKept r s.forget := by
  unfold State.forget
  exact h.frame

theorem logicReset {inFlight : List Nat} : ClockKept r (s.logicReset inFlight) := by
  unfold State.logicReset
  extract_lets s1 s2 s3
  have hp : ClockKept r (s.poisonFlight inFlight) := .ite (h.foldl fun _ _ ht => ht.poisonGranule) h
  have ht : ClockKept r ((s.poisonFlight inFlight).tornRecords inFlight) := hp.foldl fun _ _ ht => .ite ht.portDrop ht
  have h1 : ClockKept r s1 := ht.burnBroken.driveAlone.hostReset.slotsLost
  have h2 : ClockKept r s2 := h1.forget.foldl fun _ _ ht => ht.dropLease
  have h3 : ClockKept r s3 := .foldl (.put (.frame h2.put)) fun _ _ ht => ht.put.put
  exact h3.frame

theorem pfailOutcome {outcome : Nat} : ClockKept r (s.pfailOutcome outcome) := h.put.report

theorem pfailCut : ClockKept r s.pfailCut := by
  unfold State.pfailCut
  split
  · exact h
  · exact .ite h h.pfailOutcome.frame

theorem masterReset {inFlight : List Nat} : ClockKept r (s.masterReset inFlight) := by
  unfold State.masterReset
  split
  · exact h
  · exact h
  · exact h
  · exact h.pfailCut.logicReset.frame

/-! ### The recovery of a structure (15 Table 15.2) -/

theorem scratchParity {toWrite : Bool} : ClockKept r (s.scratchParity toWrite) := by
  unfold State.scratchParity
  extract_lets s1
  have h1 : ClockKept r s1 := h.put.parityMet
  split
  · exact h1.frame
  · split
    · exact h1
    · exact h1.frame

theorem rebuildBitmap {b : Nat} {ledgerPoisoned : Bool} : ClockKept r (s.rebuildBitmap b ledgerPoisoned) :=
  .ite (h.foldl fun _ _ ht => ht.poisonGranule) h.frame

theorem parityRecover {u : ParityUnit} {same : Bool} : ClockKept r (s.parityRecover u same) := by
  unfold State.parityRecover
  split
  · exact .ite h (.ite h.parityMet.halt h.parityMet)
  · exact h.parityMet.rebuildBitmap
  · exact h.scratchParity
  · exact h.parityMet
  · exact h.parityMet.report.masterReset
  · exact ((h.parityMet.missSample.foldl fun _ _ ht => ht.put).put).frame
  · exact h.parityMet
  · exact h.parityMet
  · exact .ite h.parityMet (.ite h.parityMet.poisonGranule h.parityMet.frame.report)

theorem regionLost {m : Nat} : ClockKept r (s.regionLost m) := by
  unfold State.regionLost
  split
  · exact h.parityMet
  · split
    · exact h.scratchParity
    · exact .ite h.parityRecover (.ite h.parityRecover (.ite h.parityRecover (.ite h.parityRecover h.parityMet)))

/-! ### The crossbar's accesses, held up while a window is open (07 R311; 14 R623, R633; 16 R692) -/

theorem l2Hit {k : Nat} : ClockKept r (s.l2Hit k) := by
  unfold State.l2Hit
  extract_lets
  split
  · exact h.frame
  · split
    next e => exact ClockKept.frame (h.frame.takeSpare e)
    next => exact .ite h.frame.dropUnit h.frame.frame.frame

theorem l2Check {line : Nat} : ClockKept r (s.l2Check line) := by
  unfold State.l2Check
  split
  · exact h
  · split
    · exact h
    · exact .ite h h.parityMet.frame.l2Hit

theorem coreRead {addr n : Nat} : ClockKept r (s.coreRead addr n) := by
  unfold State.coreRead
  extract_lets _ _ _ t1 s2
  have h1 : ClockKept r t1 := h.l2Check.pulse
  have h2 : ClockKept r s2 := by
    unfold s2
    split
    · exact h.l2Check.pulse
    · exact .ite h1.l2Fill h1
  exact h2.frame

theorem coreWrite {core addr : Nat} {bs : List Byte} : ClockKept r (s.coreWrite core addr bs) := by
  unfold State.coreWrite
  extract_lets
  split
  · exact h.frame
  · split
    next e => exact ClockKept.frame (h.mergeTake e)
    next => exact h.frame

theorem deviceWrite {agent addr : Nat} {bs : List Byte} : ClockKept r (s.deviceWrite agent addr bs) := by
  unfold State.deviceWrite
  split
  · exact h.frame
  · exact h.frame

theorem deviceRead {agent addr n : Nat} : ClockKept r (s.deviceRead agent addr n) := by
  unfold State.deviceRead
  split
  · exact h.frame.frame.pulse
  · exact .ite h.frame (.ite h.frame h.frame)

theorem access {agent addr : Nat} {write : Bool} {data : List Byte} : ClockKept r (s.access agent addr write data) := by
  unfold State.access
  split
  · exact h.coreWrite
  · exact .ite h.frame h.coreRead
  · exact h.deviceWrite
  · exact h.deviceRead

/-! ### A test window closes (16 R690-R697) -/

theorem windowRun : ClockKept r s.windowRun := h.put.pulse

theorem poolFail {g : Nat} : ClockKept r (s.poolFail g) :=
  .ite h.poisonGranule.put.pulse.frame.frame.report.updateHealth h.poisonGranule.put.pulse.frame

theorem poolWindow {g : Nat} {fail : Bool} : ClockKept r (s.poolWindow g fail) := .ite h.windowRun.poolFail h.windowRun

theorem sramWindow {m : Nat} {cells : FailCells} : ClockKept r (s.sramWindow m cells) :=
  .ite h.windowRun (.ite h.windowRun.put.pulse.repair h.windowRun.put.pulse.repair.dropUnit.regionLost)

theorem endRegionTest : ClockKept r s.endRegionTest := by
  unfold State.endRegionTest
  split
  · exact h
  · extract_lets _ _ t1 s2 s3
    have h1 : ClockKept r t1 := h.frame.poolWindow
    have h2 : ClockKept r s2 := by
      unfold s2
      split
      · exact .ite h.frame.sramWindow.regionLost h.frame.sramWindow
      · exact .ite h1.poisonGranule h1
    have h3 : ClockKept r s3 := h2.foldl fun _ _ ht => ht.access
    exact h3.unstall

/-! ### A power failure's shutdown (03 R117-R120) -/

theorem pfailShutdown {p : PFail} : ClockKept r (s.pfailShutdown p) := by
  unfold State.pfailShutdown
  extract_lets s1 _ s2 s3
  have h1 : ClockKept r s1 := h.servoOff.laserOff
  have h2 : ClockKept r s2 := .ite h1.spShort h1
  have h3 : ClockKept r s3 := .ite h2.sledShutdown h2
  exact h3.put.frame.pfailOutcome

theorem pfailBudget : ClockKept r s.pfailBudget := by
  unfold State.pfailBudget
  split
  · exact h
  · exact .ite h (.ite h.frame h.abandonBlock)

theorem pfailFollow : ClockKept r s.pfailFollow := by
  unfold State.pfailFollow
  extract_lets s1
  have h1 : ClockKept r s1 := .ite h.pfailBudget h
  split
  · exact h1
  · exact .ite h1 h1.pfailShutdown

/-! ### What passes in a microsecond (log entry 5) -/

theorem timePasses : ClockKept r s.timePasses := by
  unfold State.timePasses
  split
  · exact h
  · split
    · exact h.frame
    · dsimp only [State.draw]
      exact .ite (.frame (.iteSnd h h.frame)) (.ite (.frame (.iteSnd h h.frame)) (.frame (.iteSnd h h.frame)))

theorem rcTick : ClockKept r s.rcTick := .ite (.ite h.frame (.ite h.frame h.frame)) h

theorem runTimes : ClockKept r s.runTimes := by
  unfold State.runTimes
  extract_lets _ _ s1 _ s2
  have h1 : ClockKept r s1 := .ite (.ite h.frame.put h.frame) h
  have h2 : ClockKept r s2 := .ite (.ite h1.frame.put h1.frame) h1
  exact .ite h2.frame h2

theorem pwmTick : ClockKept r s.pwmTick := .ite (.ite h.frame h.frame) h

theorem applyTable : ClockKept r s.applyTable := (((h.foldl fun _ _ ht => ht.put).frame).put).put

theorem sledTick : ClockKept r s.sledTick := by
  unfold State.sledTick
  split
  · exact h
  · extract_lets _ _ _ _ _ _ _ _ _ _ t1
    have h1 : ClockKept r t1 := .ite h.frame h.frame.put
    exact .ite (.applyTable (.ite h1 h1.put)) (.ite h1 h1.put)

theorem chopTick : ClockKept r s.chopTick := .ite h.frame (.frame (.ite h.frame.put h))

theorem sledRuns : ClockKept r s.sledRuns := .ite (.ite h.sledTick.chopTick.frame h.sledTick.chopTick) h

theorem coilTick : ClockKept r s.coilTick := by
  unfold State.coilTick
  split
  · exact h
  · exact .ite (h.foldl fun _ _ ht => ht.put.put) ((h.foldl fun _ _ ht => ht.put.put).frame)

theorem windowTick : ClockKept r s.windowTick := .ite h.endRegionTest h

theorem sampleBead {i : Nat} : ClockKept r (s.sampleBead i) := by
  unfold State.sampleBead
  extract_lets
  split
  · exact h
  · split
    · exact h.frame
    · split
      · exact .ite h.frame.beadAdd h.frame
      · exact .ite h.frame.beadAdd h.frame
      · exact h.frame.beadMax
      · exact h.frame

theorem sampleBeads : ClockKept r s.sampleBeads := by
  unfold State.sampleBeads
  split
  · exact h
  · exact h
  · exact h
  · exact h.foldl fun _ _ ht => ht.sampleBead

end

end ClockKept

/-- The clock shows one microsecond more. -/
theorem tick_clock (s : State) : s.tick.clock = s.clock + 1 := by
  unfold State.tick
  extract_lets s1 s2
  have h0 : ClockKept { s with clock := s.clock + 1 } { s with clock := s.clock + 1 } := rfl
  have h1 : ClockKept _ s1 := h0.timePasses.rcTick.runTimes.pwmTick.sledRuns.coilTick.windowTick
  have h2 : ClockKept _ s2 := .ite h1.pfailFollow h1
  exact h2.sampleBeads

/-- Settles O1: by definition a step runs the command at the front of the queue; on an empty queue it is `State.tick`,
which moves the clock by one (`tick_clock`) and leaves the queue (`Keeps.tick`). -/
theorem stepRunsTheFrontCommand : Obligations.StepRunsTheFrontCommand := by
  unfold Obligations.StepRunsTheFrontCommand
  exact ⟨fun c s rest h => by rw [step, h],
    fun s h => ⟨s.tick, by rw [step, h], tick_clock s, (Keeps.refl s).tick.pending.trans h⟩⟩

end Sys2Proof.Machine
end

section
/-! SUPPORT. Statements on commands that fail, each with a state in which the model does otherwise. -/

namespace Sys2Proof.Machine

/-! ## An erase of the black box that cannot record a change of health (16 R717, 17 R738, R740) -/

/-- A BB_ERASE from P8. -/
def eraseOfP8 : MbCopy :=
  { opcode := 0x62, flags := 0, dlen := 0, seq := 0, args := [], data := [], byP8 := true, order := 0 }

/-- A record of a change of health, as it waits for the warden. -/
def waitingRecord : BbRecord :=
  { seq := 0, time := 0, code := Code.healthChange, source := 14, sev := 0, flags := 0, boot := 0, data := 0 }

/-- Run, unlocked, the erase in slot 3: HEALTH_LEVEL 2 is no longer due, and the queue to the warden has no entry left for a
record that is not fatal. -/
def eraseWithFullQueue : State :=
  { regs := regPut (regPut powerOnRegs .READY 0 1) .HEALTH_LEVEL 0 2
    pw := { mode := .run }
    host := { slots := [{}, {}, {}, { busy := true, copy := some eraseOfP8 }], unlocked := true }
    bb := { queue := List.replicate 28 waitingRecord } }

/-- The erase record brings HEALTH_LEVEL up to date; that change's record is dropped and its notice posted at once. -/
theorem eraseWithFullQueue_notices :
    (nextState (exec (.bbErase 3) eraseWithFullQueue)).map (fun t => t.host.notices.length) = some 1 := by decide +kernel

/-- Refutes O18: its clause on BB_ERASE says that of the host's state only the mailbox slots change, but the change of
HEALTH_LEVEL that the erase record's write shows can post a notice. -/
theorem not_serviceCommandsNeedTheServicePort : ¬ Obligations.ServiceCommandsNeedTheServicePort := by
  unfold Obligations.ServiceCommandsNeedTheServicePort
  rintro ⟨-, -, -, herase, -⟩
  obtain ⟨t, ht, -, -, -, -, -, -, -, hkept⟩ := herase eraseWithFullQueue 3 eraseOfP8 (by decide +kernel) rfl rfl
    (by decide +kernel) (by decide +kernel)
  have hposted : t.host.notices.length = 1 := by simpa [nextState_of_next ht] using eraseWithFullQueue_notices
  have hnone : t.host.notices = [] := congrArg (fun x : State => x.host.notices) hkept
  simp [hnone] at hposted

/-! ## A FLUSH that has counted before it starts (06 R264) -/

/-- A FLUSH of all bobbins with a count of 5, not started. -/
def countedFlush : QCmd :=
  { qp := 1, tag := 7, opcode := 0x120, fence := false, noWait := false, buf := [], args := leBytes 2 0xFFFF ++ leBytes 38 0,
    input := [], order := 0, fetchedAt := 0, fetchTime := 0, count := 5 }

/-- Run, commissioned, with that FLUSH alone on pair 1 and a blank cartridge in service. -/
def flushOnBlank : State :=
  { regs := (regPut (regPut (regPut (regPut (regPut powerOnRegs .READY 0 1) .LINK_STATE 0 1) .LD_STATE 0 2)
      .DISC_SERVICE 0 1) .COMMISSIONED 0 1)
    pw := { mode := .run, pwrMainEn := true, mainPgood := true, driveDie := true }
    md := { cart := some { clusters := [] }, mounted := true, serial := 77 }
    sec := { devKey := some 5 }
    q := { pairs := [(1, pairOf16)], cmds := [countedFlush], cache := [1], orders := 1 } }

/-- It answers with the count that it had. -/
theorem flushOnBlank_result :
    (nextState (exec (.flush 1 7) flushOnBlank)).map (fun t => t.host.mem.read 0x20008) = some 5 := by decide +kernel

/-- Refutes O20: its clause on a FLUSH with nothing unflushed says that the result is 0 whatever count the command stands
at, and the model answers with that count. -/
theorem not_eventMarksAndFlushes : ¬ Obligations.EventMarksAndFlushes := by
  unfold Obligations.EventMarksAndFlushes
  rintro ⟨-, -, -, hflushed, -⟩
  obtain ⟨t, ht, ⟨hentry, -⟩, -⟩ := hflushed flushOnBlank 1 7 countedFlush pairOf16 (by decide +kernel) (by decide +kernel)
    rfl rfl (by decide +kernel) (by decide +kernel) (by decide +kernel) rfl rfl
  have hfive : t.host.mem.read 0x20008 = 5 := by simpa [nextState_of_next ht] using flushOnBlank_result
  have hzero : t.host.mem.read 0x20008 = 0 := congrArg (fun l => l.getD 8 0) hentry
  simp [hzero] at hfive

/-! ## An activation of the slot that runs (06 R247, 19 Table 19.6) -/

/-- An FW_ACTIVATE of slot 0. -/
def activateSlot0 : MbCopy :=
  { opcode := 0x40, flags := 0, dlen := 0, seq := 0, args := [0], data := [], byP8 := false, order := 0 }

/-- Run from slot 0, complete, with slot 1 next to boot after two attempts. -/
def slot1Next : State :=
  { regs := regPut (regPut (regPut (regPut powerOnRegs .READY 0 1) .A_COMPLETE 0 1) .NEXT_SLOT 0 1) .ATTEMPTS 0 2
    pw := { mode := .run }
    host := { slots := [{}, {}, { busy := true, copy := some activateSlot0 }, {}] }
    bo := { attempts := [0, 2] } }

/-- ATTEMPTS follows the next-boot slot. -/
theorem slot1Next_attempts :
    (nextState (exec (.fwActivate 2) slot1Next)).map (fun t => t.reg .ATTEMPTS) = some 0 := by decide +kernel

/-- Refutes O24: its clause on FW_ACTIVATE says that an activation of the running slot changes no register but NEXT_SLOT;
ATTEMPTS, which shows the next-boot slot's count, changes with it. -/
theorem not_firmwareIsStagedAndActivated : ¬ Obligations.FirmwareIsStagedAndActivated := by
  unfold Obligations.FirmwareIsStagedAndActivated
  rintro ⟨-, -, -, -, -, -, hactivate, -⟩
  obtain ⟨t, ht, -, hrunning, -⟩ := hactivate slot1Next 2 activateSlot0 0 (by decide +kernel) (by decide +kernel) rfl
    (by decide) (by decide +kernel)
  have hzero : t.reg .ATTEMPTS = 0 := by simpa [nextState_of_next ht] using slot1Next_attempts
  have htwo : t.reg .ATTEMPTS = slot1Next.reg .ATTEMPTS := hrunning (by decide +kernel) .ATTEMPTS 0 (by decide)
  exact absurd (hzero.symm.trans htwo) (by decide +kernel)

end Sys2Proof.Machine
end

section
/-! SUPPORT. POWER: the hold, the Doze commit point, the entries into Nap and Hibernate (06 R243-R246). -/

namespace Sys2Proof.Machine

section
variable {s t : State} {n : Nat} {c : MbCopy}

/-- A row that acts on the commands with a value in some field. -/
theorem runMbx_keyed {opcode v : Nat} {field : MbCopy → Nat} (h : s.mbxReady n opcode c) (hv : field c = v)
    (f : MbCopy → State → State) : s.runMbx n opcode (fun c => field c == v) f = .next (f c s) := by
  obtain ⟨hn, hcopy, hresp, hop, hawake, hwaits, -⟩ := h
  simp [State.runMbx, checked, hn, hcopy, hresp, hop, hawake, hwaits, hv]

theorem power_ready {target : Nat} (h : s.mbxReady n 0x20 c) (htarget : fieldAt c.args 0 1 = target)
    (f : MbCopy → State → State) : s.power n target f = .next (f c s) :=
  runMbx_keyed h htarget f

theorem State.set_get_ne (s : State) {n k : RegName} {i : Nat} (v : Nat) (h : k ≠ n) : (s.set n v).get k i = s.get k i :=
  regGet_regPut_name _ _ _ _ h

/-- An answer in a state with the slots of `s` tells slot `n` of it. -/
theorem told_answer (hn : n < s.host.slots.length) (hslots : t.host.slots = s.host.slots) (r : MbResp) :
    s.Told (t.answer n r) n r := by
  have hslot (m : Nat) : t.slot m = s.slot m := congrArg (fun l : List Slot => l.getD m {}) hslots
  obtain ⟨⟨htold, hothers⟩, -⟩ := answer_answered t n r (hslots ▸ hn)
  exact ⟨by rw [htold, hslot], fun m hm => (hothers m hm).trans (hslot m)⟩

/-! ## The Doze commit point (03 Tables 3.3, 3.4, R108) -/

/-- The registers of the leases' holders and of the heddle table. -/
abbrev heddleRegs : List RegName :=
  [.H_BASE, .H_LIMIT, .H_READ, .H_WRITE, .H_APPEND, .H_VALID, .H_BOBBIN, .H_LEASE, .H_GEN, .BB_HOLDER]

theorem heddle_only (s : State) (k base limit rights bobbin lease : Nat) :
    OnlyRegs heddleRegs s (s.heddle k base limit rights bobbin lease) :=
  have put {r t : State} (h : OnlyRegs heddleRegs r t) (name : RegName) (v : Nat)
      (hname : name ∈ heddleRegs := by decide) : OnlyRegs heddleRegs r (t.put name k v) := h.trans (.put _ _ _ _ hname)
  put (put (put (put (put (put (put (put (put (.refl _ s) .H_BASE _) .H_LIMIT _) .H_READ _) .H_WRITE _) .H_APPEND _)
    .H_VALID _) .H_BOBBIN _) .H_LEASE _) .H_GEN _

theorem handover_only (s : State) : OnlyRegs heddleRegs s s.handover := by
  refine foldl_rel (OnlyRegs heddleRegs) (.refl _) .trans _ (fun t b => ?_) _ _
  dsimp only
  split
  · exact .refl _ _
  · exact ((heddle_only t ..).trans (heddle_only _ ..)).trans (.put _ _ _ _ (by decide))

/-- `s` in Doze from now on, its idle timers restarted. -/
abbrev State.dozing (s : State) : State :=
  { s with pw.mode := .doze, pw.swapAt := s.clock, pw.fineAt := s.time, pw.idleFrom := s.clock, pw.hibTried := false }

/-- The Doze commit point moves the core clock, and bobbins 8 and 9 to their holder in Doze. -/
theorem dozeCommit_only (s : State) : OnlyRegs ([.CORE_MHZ] ++ heddleRegs) s.dozing s.dozeCommit := by
  obtain ⟨⟨m, e⟩, hk, hw⟩ := handover_only
    (({ s with pw.mode := .doze, pw.swapAt := s.clock, pw.fineAt := s.time } : State).set .CORE_MHZ 300)
  obtain ⟨-, hk', hw'⟩ := OnlyRegs.put (l := [.CORE_MHZ]) s.dozing .CORE_MHZ RegName.CORE_MHZ.info.idx0 300 (by decide)
  have hregs : s.dozeCommit.regs = m := congrArg State.regs e
  refine ⟨⟨m, congrArg State.restartIdle e⟩, fun k i hki => ?_, fun h => hw (hw' h)⟩
  rw [List.mem_append, not_or] at hki
  exact (hk k i hki.2).trans (hk' k i hki.1)

theorem dozeCommit_coreMhz (s : State) : s.dozeCommit.reg .CORE_MHZ = 300 := by
  obtain ⟨-, hk, -⟩ := handover_only
    (({ s with pw.mode := .doze, pw.swapAt := s.clock, pw.fineAt := s.time } : State).set .CORE_MHZ 300)
  exact (hk .CORE_MHZ _ (by decide)).trans (State.set_reg _ _ _)

/-- What makes the disc ready for Doze is no matter of the entry under way. -/
theorem dozeReady_beginEntry (s : State) (e : Entry) : (s.beginEntry e).dozeReady = s.dozeReady := by
  have hreg (k : RegName) (hk : k ≠ .ENTRY_BUSY) : (s.beginEntry e).reg k = s.reg k := State.set_reg_ne s 1 hk
  have hwanted : (s.beginEntry e).discWanted = s.discWanted := by
    simp only [State.discWanted, State.canSign, State.on, hreg .LD_STATE (by decide), hreg .DISC_SERVICE (by decide),
      hreg .COMMISSIONED (by decide), hreg .KEY_LOST (by decide), hreg .SIGNING_HALTED (by decide)]
    rfl
  rw [State.dozeReady, State.dozeReady, hwanted, State.on, State.on, hreg .DISC_TURNING (by decide)]
  rfl

theorem dozeReady_awake (h : s.dozeReady = true) : s.pw.mode = .run ∧ s.pw.pfail = none := by
  simp only [State.dozeReady, Bool.and_eq_true, beq_iff_eq, Option.isNone_iff_eq_none] at h
  obtain ⟨⟨⟨⟨⟨⟨⟨hmode, -⟩, hpfail⟩, -⟩, -⟩, -⟩, -⟩, -⟩ := h
  exact ⟨hmode, hpfail⟩

/-! ## TARGET 1 to 3 -/

theorem powerEntry_refused {target : Nat} {refused : Bool} {go : Entry → State} {start : State → State}
    (he : s.pw.entry = none) (h : s.powerRefused target = true ∨ refused = true) :
    s.powerEntry n target refused go start = s.answer n (failResp St.stateRefused 0) := by
  simp [State.powerEntry, he, h]

theorem powerEntry_started {target : Nat} {refused : Bool} {go : Entry → State} {start : State → State}
    (he : s.pw.entry = none) (hp : s.powerRefused target = false) (hr : refused = false) (hf : s.pw.pfail = none) :
    s.powerEntry n target refused go start = start s := by
  simp [State.powerEntry, he, hp, hr, hf]

theorem powerEntry_carriedOn {target : Nat} {refused : Bool} {e : Entry} {go : Entry → State} {start : State → State}
    (he : s.pw.entry = some e) (hn : e.cmd = some n) : s.powerEntry n target refused go start = go e := by
  simp [State.powerEntry, he, hn]

/-- TARGET 1 with the disc at rest passes the Doze commit point. -/
theorem exec_powerDoze_commit (h : s.mbxReady n 0x20 c) (htarget : fieldAt c.args 0 1 = 1) (he : s.pw.entry = none)
    (hp : s.powerRefused 1 = false) (hd : s.dozeReady = true) : exec (.powerDoze n) s =
      .next ((s.beginEntry { target := .doze, cmd := some n }).dozeCommit.endEntry.powerDone n 1) := by
  obtain ⟨hmode, hpfail⟩ := dozeReady_awake hd
  have e : exec (.powerDoze n) s = execPowerDoze n s := rfl
  rw [e, execPowerDoze, power_ready h htarget, powerEntry_started he hp rfl hpfail, hmode, if_neg (by decide),
    State.powerDoze, dozeReady_beginEntry, if_pos hd]

/-- TARGET 2 begins its entry, and in Run passes the Doze commit point with it. -/
theorem exec_powerNap_start (h : s.mbxReady n 0x20 c) (htarget : fieldAt c.args 0 1 = 2) (he : s.pw.entry = none)
    (hp : s.powerRefused 2 = false) (hf : s.pw.pfail = none) : exec (.powerNap n) s =
      .next (if s.dozeReady then (s.beginEntry { target := .nap, cmd := some n }).dozeCommit
        else s.beginEntry { target := .nap, cmd := some n }) := by
  have e : exec (.powerNap n) s = execPowerNap n s := rfl
  rw [e, execPowerNap, power_ready h htarget, powerEntry_started he hp rfl hf]
  dsimp only
  rw [dozeReady_beginEntry]

/-- TARGET 3 with nothing to flush begins its entry. -/
theorem exec_powerHibernate_start (h : s.mbxReady n 0x20 c) (htarget : fieldAt c.args 0 1 = 3) (he : s.pw.entry = none)
    (hp : s.powerRefused 3 = false) (hf : s.pw.pfail = none) (hbar : s.hibBarred = false)
    (hstays : s.staysNap = false ∨ bit c.flags 1 = true) (hbytes : s.pendingBytes = 0) : exec (.powerHibernate n) s =
      .next (s.beginEntry { target := .hibernate, cmd := some n, force := bit c.flags 1 }) := by
  have hallowed : (s.hibBarred || (s.staysNap && !bit c.flags 1)) = false := by
    obtain hs | hforce := hstays
    · simp [hbar, hs]
    · simp [hbar, hforce]
  have e : exec (.powerHibernate n) s = execPowerHibernate n s := rfl
  rw [e, execPowerHibernate, power_ready h htarget, powerEntry_started he hp hallowed hf, State.hibEntry]
  simp [hbytes]

/-- In Doze the answer of TARGET 3 leaves the state where it is (06 R246). -/
theorem powerHibAnswer_doze {e : Entry} (hm : s.pw.mode = .doze) (hw : s.pw.waking = none) (he : s.pw.entry = some e)
    (ha : e.answered = none) : ∃ x : Entry, x.answered = some s.clock ∧ s.powerHibAnswer n e =
      ({ s with pw.entry := some x } : State).answer n
        (okResp [if s.staysNapAfter = true ∧ e.force = false then 2 else 3]) := by
  have hacts : (e.answered.isSome || !(s.dozeReady || (s.pw.mode == .doze && s.pw.waking.isNone))) = false := by
    simp [ha, hm, hw]
  rw [State.powerHibAnswer, hacts, if_neg Bool.false_ne_true, State.hibDoze]
  cases hnap : s.staysNapAfter && !e.force with
  | true =>
    rw [if_pos (c := s.staysNapAfter = true ∧ e.force = false) (by simpa using hnap)]
    exact ⟨{ e with target := .nap, answered := some s.clock, burst := true }, rfl, by simp [hm]; rfl⟩
  | false =>
    rw [if_neg (c := s.staysNapAfter = true ∧ e.force = false) (by simpa using hnap)]
    exact ⟨{ e with answered := some s.clock, burst := true }, rfl, by simp [hm, he]; rfl⟩

theorem exec_powerHoldRun (h : s.mbxReady n 0x20 c) (htarget : fieldAt c.args 0 1 = 0) : exec (.powerHoldRun n) s =
    .next (({ s with pw.hold := true, pw.waking := if s.pw.mode = .doze then some .doze else s.pw.waking } : State).answer n
      (okResp [0])) := by
  have e : exec (.powerHoldRun n) s = execPowerHoldRun n s := rfl
  rw [e, execPowerHoldRun, power_ready h htarget]
  rfl

theorem exec_powerReleaseHold (h : s.mbxReady n 0x20 c) (htarget : fieldAt c.args 0 1 = 4) :
    exec (.powerReleaseHold n) s =
      .next (({ s with pw.hold := false } : State).answer n (okResp (leBytes 1 s.pw.mode.code))) := by
  have e : exec (.powerReleaseHold n) s = execPowerReleaseHold n s := rfl
  rw [e, execPowerReleaseHold, power_ready h htarget]
  rfl

theorem exec_powerDoze_refused (h : s.mbxReady n 0x20 c) (htarget : fieldAt c.args 0 1 = 1) (he : s.pw.entry = none)
    (hp : s.powerRefused 1 = true) : exec (.powerDoze n) s = .next (s.answer n (failResp St.stateRefused 0)) := by
  have e : exec (.powerDoze n) s = execPowerDoze n s := rfl
  rw [e, execPowerDoze, power_ready h htarget, powerEntry_refused he (.inl hp)]

theorem exec_powerNap_refused (h : s.mbxReady n 0x20 c) (htarget : fieldAt c.args 0 1 = 2) (he : s.pw.entry = none)
    (hp : s.powerRefused 2 = true) : exec (.powerNap n) s = .next (s.answer n (failResp St.stateRefused 0)) := by
  have e : exec (.powerNap n) s = execPowerNap n s := rfl
  rw [e, execPowerNap, power_ready h htarget, powerEntry_refused he (.inl hp)]

theorem exec_powerHibernate_refused (h : s.mbxReady n 0x20 c) (htarget : fieldAt c.args 0 1 = 3)
    (he : s.pw.entry = none)
    (hr : s.powerRefused 3 = true ∨ s.hibBarred = true ∨ s.staysNap = true ∧ bit c.flags 1 = false) :
    exec (.powerHibernate n) s = .next (s.answer n (failResp St.stateRefused 0)) := by
  have e : exec (.powerHibernate n) s = execPowerHibernate n s := rfl
  rw [e, execPowerHibernate, power_ready h htarget, powerEntry_refused he (by simpa using hr)]

theorem exec_powerHibernate_answer {e : Entry} (h : s.mbxReady n 0x20 c) (htarget : fieldAt c.args 0 1 = 3)
    (he : s.pw.entry = some e) (hn : e.cmd = some n) : exec (.powerHibernate n) s = .next (s.powerHibAnswer n e) := by
  have e' : exec (.powerHibernate n) s = execPowerHibernate n s := rfl
  rw [e', execPowerHibernate, power_ready h htarget, powerEntry_carriedOn he hn]

theorem beginEntry_only (s : State) (e : Entry) :
    OnlyRegs [.ENTRY_BUSY] ({ s with pw.entry := some e } : State) (s.beginEntry e) :=
  OnlyRegs.put ({ s with pw.entry := some e } : State) .ENTRY_BUSY _ 1 (by decide)

theorem beginEntry_busy (s : State) (e : Entry) : (s.beginEntry e).reg .ENTRY_BUSY = 1 := State.set_reg s .ENTRY_BUSY 1

end

/-- Settles O26: each row of POWER acts by the cases of `powerEntry`; the Doze commit point changes what `dozeCommit_only`
says. -/
theorem powerCommandsMoveBetweenStates : Obligations.PowerCommandsMoveBetweenStates := by
  unfold Obligations.PowerCommandsMoveBetweenStates
  refine ⟨fun s n c h ht => ?hold, fun s n c h ht => ?release, fun s n c h ht he hp hd => ?doze,
    fun s n c h ht hm he hp hf => ?nap, fun s n c h ht hm he hp hf hbar hstays hb => ?hibernate,
    fun s n c e h ht hm hw he hn ha => ?answer, fun s n c h ht he hp hf hd => ?napFromRun,
    fun s n c h he => ⟨fun ht hp => ?napRefused, fun ht hr => ?hibernateRefused⟩, fun s n c h ht he hr => ?dozeRefused⟩
  case hold => exact ⟨_, exec_powerHoldRun h ht, rfl, told_answer (mbxReady_slot h) rfl _, rfl, rfl⟩
  case release => exact ⟨_, exec_powerReleaseHold h ht, rfl, told_answer (mbxReady_slot h) rfl _, rfl, rfl⟩
  case doze =>
    obtain ⟨⟨m, e⟩, hk, -⟩ := dozeCommit_only (s.beginEntry { target := .doze, cmd := some n })
    have hmhz := dozeCommit_coreMhz (s.beginEntry { target := .doze, cmd := some n })
    refine ⟨_, exec_powerDoze_commit h ht he hp hd, ?_⟩
    rw [e] at hk hmhz ⊢
    refine ⟨rfl, rfl, ?mhz, ?busy, told_answer (mbxReady_slot h) rfl _, fun k i hki => ?kept, rfl, rfl⟩
    case mhz => exact (State.set_reg_ne _ (n := .ENTRY_BUSY) 0 (by decide)).trans hmhz
    case busy => exact State.set_reg _ .ENTRY_BUSY 0
    case kept =>
      rw [List.mem_append, List.mem_cons, List.mem_singleton, not_or, not_or] at hki
      obtain ⟨⟨hmhz', hbusy⟩, hheddle⟩ := hki
      have hcommit := hk k i (by rw [List.mem_append, List.mem_singleton, not_or]; exact ⟨hmhz', hheddle⟩)
      have hbegun : (s.beginEntry { target := .doze, cmd := some n }).get k i = s.get k i := State.set_get_ne s 1 hbusy
      exact (State.set_get_ne _ (n := .ENTRY_BUSY) 0 hbusy).trans (hcommit.trans hbegun)
  case nap =>
    have hd : s.dozeReady = false := by simp [State.dozeReady, hm]
    refine ⟨_, exec_powerNap_start h ht he hp hf, ?_⟩
    rw [hd, if_neg Bool.false_ne_true]
    obtain ⟨-, hk, -⟩ := beginEntry_only s { target := .nap, cmd := some n }
    exact ⟨rfl, beginEntry_busy _ _, hm, rfl, hk, by rw [← he]; rfl⟩
  case hibernate =>
    obtain ⟨-, hk, -⟩ := beginEntry_only s { target := .hibernate, cmd := some n, force := bit c.flags 1 }
    exact ⟨_, exec_powerHibernate_start h ht he hp hf hbar hstays hb, rfl, beginEntry_busy _ _, rfl, hk,
      by rw [← he]; rfl⟩
  case answer =>
    obtain ⟨x, hx, ex⟩ := powerHibAnswer_doze (n := n) hm hw he ha
    obtain ⟨htold, hothers⟩ := told_answer (t := { s with pw.entry := some x }) (mbxReady_slot h) rfl
      (okResp [if s.staysNapAfter = true ∧ e.force = false then 2 else 3])
    refine ⟨_, (exec_powerHibernate_answer h ht he hn).trans (congrArg _ ex), ?_, congrArg some hx, hothers, rfl, rfl⟩
    rw [htold]
  case napFromRun =>
    obtain ⟨⟨m, e⟩, hk, -⟩ := dozeCommit_only (s.beginEntry { target := .nap, cmd := some n })
    have hmhz := dozeCommit_coreMhz (s.beginEntry { target := .nap, cmd := some n })
    refine ⟨_, exec_powerNap_start h ht he hp hf, ?_⟩
    rw [if_pos hd]
    rw [e] at hk hmhz ⊢
    exact ⟨rfl, rfl, hmhz, (hk _ _ (by decide)).trans (beginEntry_busy s { target := .nap, cmd := some n }), rfl, rfl, rfl, rfl⟩
  case napRefused => exact ⟨_, exec_powerNap_refused h ht he hp, answer_answered _ _ _ (mbxReady_slot h)⟩
  case hibernateRefused => exact ⟨_, exec_powerHibernate_refused h ht he hr, answer_answered _ _ _ (mbxReady_slot h)⟩
  case dozeRefused =>
    exact ⟨_, exec_powerDoze_refused h ht he (by simpa [State.powerRefused] using hr),
      answer_answered _ _ _ (mbxReady_slot h)⟩

end Sys2Proof.Machine
end

section
/-! SUPPORT. The keys: COMMISSION, KEY_READ and STREAM_KEY (06 R248, R249, 15 R662-R669). -/

namespace Sys2Proof.Machine

/-! ## Bits set and cleared -/

theorem bit_mod_two_pow (n : Nat) {w k : Nat} (hk : k < w) : bit (n % 2 ^ w) k = bit n k := by
  simp [bit_eq_testBit, Nat.testBit_mod_two_pow, hk]

theorem bit_or_two_pow_same (n b : Nat) : bit (n ||| 2 ^ b) b = true := by simp [bit_eq_testBit]

theorem bit_or_two_pow_ne (n : Nat) {b k : Nat} (h : k ≠ b) : bit (n ||| 2 ^ b) k = bit n k := by
  simp [bit_eq_testBit, h.symm]

/-- Halving an odd number drops its low bit. -/
theorem div_two_pow_succ_of_odd {q : Nat} (h : q % 2 = 1) (d : Nat) : (q - 1) / 2 ^ (d + 1) = q / 2 ^ (d + 1) := by
  have hhalf : (q - 1) / 2 = q / 2 := by omega
  rw [pow_succ', ← Nat.div_div_eq_div_mul, ← Nat.div_div_eq_div_mul, hhalf]

theorem sub_two_pow_div (n b : Nat) : (n - 2 ^ b) / 2 ^ b = n / 2 ^ b - 1 := by
  simpa using Nat.sub_mul_div n (2 ^ b) 1

/-- A power of two taken from a number that has its bit clears that bit alone. -/
theorem bit_sub_two_pow_ne {n b k : Nat} (hset : bit n b = true) (hk : k ≠ b) : bit (n - 2 ^ b) k = bit n k := by
  have hodd : n / 2 ^ b % 2 = 1 := beq_iff_eq.1 hset
  obtain hlt | hgt := Nat.lt_or_gt_of_ne hk
  · have hle : 2 ^ b ≤ n := Nat.le_of_not_lt fun h => by simp [Nat.div_eq_of_lt h] at hodd
    have := Nat.testBit_two_pow_add_gt hlt (n - 2 ^ b)
    rwa [Nat.add_sub_cancel' hle, ← bit_eq_testBit, ← bit_eq_testBit, eq_comm] at this
  · obtain ⟨d, rfl⟩ := Nat.exists_eq_add_of_lt hgt
    rw [bit, bit, Nat.add_assoc, pow_add, ← Nat.div_div_eq_div_mul, ← Nat.div_div_eq_div_mul, sub_two_pow_div,
      div_two_pow_succ_of_odd hodd]

theorem bit_sub_two_pow_same {n b : Nat} (hset : bit n b = true) : bit (n - 2 ^ b) b = false := by
  have hodd : n / 2 ^ b % 2 = 1 := beq_iff_eq.1 hset
  rw [bit, sub_two_pow_div, beq_eq_false_iff_ne]
  omega

/-- The mask as STREAM_KEY_OFF writes it has bit `b` 0. -/
theorem bit_cleared_same (m : Nat) {b w : Nat} (hb : b < w) :
    bit ((if bit m b = true then m - 2 ^ b else m) % 2 ^ w) b = false := by
  rw [bit_mod_two_pow _ hb]
  split
  · exact bit_sub_two_pow_same ‹_›
  · exact Bool.eq_false_iff.2 ‹_›

/-- It leaves the other bits. -/
theorem bit_cleared_ne (m : Nat) {b k w : Nat} (hk : k < w) (hkb : k ≠ b) :
    bit ((if bit m b = true then m - 2 ^ b else m) % 2 ^ w) k = bit m k := by
  rw [bit_mod_two_pow _ hk]
  split
  · exact bit_sub_two_pow_ne ‹_› hkb
  · rfl

section
variable {s : State} {n b : Nat} {c : MbCopy}

/-! ## COMMISSION and KEY_READ -/

theorem needEntropy_delivers (he : s.reg .ENTROPY_STATE = 1) (f : State → State) : s.needEntropy n c f = f s := by
  simp [State.needEntropy, State.entropyOn, he]

/-- The device's key stored with its public key, its KEY_ID recorded, the counters set for it (15 R667, R668, R670). -/
def State.keyed (s : State) (d pub id : Nat) : State :=
  (((({ s with sec.devKey := some d, sec.pub := pub } : State).set .SEC_KEY_ID id).set .COMMISSIONED 1).set .PFAIL_COUNT
    0).set .WRAP_IV_COUNT (s.reg .WRAP_IV_COUNT + 1)

/-- A commissioning tells of itself once the key is stored. -/
theorem commission_told (s : State) (d : Nat) :
    ∃ id, Told bookRegs (s.keyed d (publicKey d) id) (s.commission d) := by
  refine ⟨leNat (beBytes 32 (keyIdOf (publicKey d))), ?_⟩
  unfold State.commission
  exact reportFull_told (s.keyed d (publicKey d) _) Code.commissioned _
    ((s.keyed d (publicKey d) _).sourceOf Code.commissioned) false

abbrev keyRegs : List RegName := [.COMMISSIONED, .PFAIL_COUNT, .SEC_KEY_ID, .WRAP_IV_COUNT]

theorem keyed_only (s : State) (d pub id : Nat) :
    OnlyRegs keyRegs { s with sec.devKey := some d, sec.pub := pub } (s.keyed d pub id) :=
  ((((OnlyRegs.refl keyRegs { s with sec.devKey := some d, sec.pub := pub }).set (by decide)).set (by decide)).set
    (by decide)).set (by decide)

/-- Of the rest of the state the key's fields alone change, and what tells of it. -/
theorem commission_frame (s : State) (d : Nat) :
    (s.commission d).sec = { s.sec with devKey := some d, pub := publicKey d } ∧
      (s.commission d).host.slots = s.host.slots ∧
      { s.commission d with regs := s.regs, host := s.host, sec := s.sec, bb := s.bb } = s := by
  obtain ⟨id, ⟨_, _, _, _, _, _, e⟩, -⟩ := commission_told s d
  obtain ⟨⟨m, ek⟩, -⟩ := keyed_only s d (publicKey d) id
  rw [e, ek]
  exact ⟨rfl, rfl, rfl⟩

theorem commission_sets (s : State) (d : Nat) : (s.commission d).reg .COMMISSIONED = 1 ∧
    (s.commission d).reg .PFAIL_COUNT = 0 ∧ RegsKept (keyRegs ++ bookRegs) s (s.commission d) := by
  obtain ⟨id, -, hk, -⟩ := commission_told s d
  generalize publicKey d = pub at hk
  obtain ⟨-, hkeyed, -⟩ := keyed_only s d pub id
  refine ⟨(hk _ _ (by decide)).trans ?_, (hk _ _ (by decide)).trans ?_, RegsKept.append (s := s) hkeyed hk⟩
  · exact (State.set_get_ne _ _ (by decide)).trans ((State.set_get_ne _ _ (by decide)).trans (State.set_reg _ _ _))
  · exact (State.set_get_ne _ _ (by decide)).trans (State.set_reg _ _ _)

/-- COMMISSION answers with KEY_ID and the public key of the key drawn. -/
theorem exec_commission_fresh (h : s.mbxReady n 0x50 c) (hc : s.on .COMMISSIONED = false)
    (he : s.reg .ENTROPY_STATE = 1) : ∃ d t, t = ({ s with free := s.free + 1 } : State).commission d ∧
      exec (.commission n) s = .next (t.answer n
        (okResp ((beBytes 32 (sha256 (4 :: beBytes 64 t.sec.pub))).take 16) (beBytes 64 t.sec.pub))) := by
  have e : exec (.commission n) s = execCommission n s := rfl
  refine ⟨1 + s.draw.1 % (p256Order - 1), _, rfl, ?_⟩
  rw [e, execCommission, runMbx_ready h, hc, if_neg Bool.false_ne_true, needEntropy_delivers he]
  simp only [State.draw, keyIdOf]

theorem exec_commission_again (h : s.mbxReady n 0x50 c) (hc : s.on .COMMISSIONED = true) :
    exec (.commission n) s = .next (s.answer n (failResp St.alreadyCommissioned 0)) := by
  have e : exec (.commission n) s = execCommission n s := rfl
  rw [e, execCommission, runMbx_ready h, if_pos hc]

theorem exec_keyRead (h : s.mbxReady n 0x51 c) : exec (.keyRead n) s = .next (s.answer n
    (if s.on .COMMISSIONED = true then okResp [] (beBytes 64 s.sec.pub ++ beBytes 32 s.keyId) else
      failResp St.notCommissioned 0)) := by
  have e : exec (.keyRead n) s = execKeyRead n s := rfl
  rw [e, execKeyRead, runMbx_ready h]
  split <;> rfl

/-! ## STREAM_KEY -/

theorem streamRow_acts {action : Nat} (h : s.mbxReady n 0x52 c) (ha : fieldAt c.args 2 1 = action)
    (hlen : ¬(action = 1 ∧ c.dlen ≠ 32)) (hb : s.bobbinAbsent (fieldAt c.args 0 2) = false)
    (f : MbCopy → Nat → State → State) : s.streamRow n action f = .next (f c (fieldAt c.args 0 2) s) := by
  rw [State.streamRow, runMbx_keyed h ha, if_neg hlen]
  simp [hb]

theorem streamRow_absent {action : Nat} (h : s.mbxReady n 0x52 c) (ha : fieldAt c.args 2 1 = action)
    (hlen : ¬(action = 1 ∧ c.dlen ≠ 32)) (hb : s.bobbinAbsent (fieldAt c.args 0 2) = true)
    (f : MbCopy → Nat → State → State) :
    s.streamRow n action f = .next (s.answer n (failResp St.bobbinUnknown 0)) := by
  rw [State.streamRow, runMbx_keyed h ha, if_neg hlen]
  simp [hb]

theorem streamRow_badLength (h : s.mbxReady n 0x52 c) (ha : fieldAt c.args 2 1 = 1) (hlen : c.dlen ≠ 32)
    (f : MbCopy → Nat → State → State) :
    s.streamRow n 1 f = .next (s.answer n (failResp St.badLength 0xFFFFFFFF)) := by
  rw [State.streamRow, runMbx_keyed h ha]
  simp [hlen]

theorem lt_ten_of_bobbin (hb : s.bobbinAbsent b = false) : b < 10 := by
  simp only [State.bobbinAbsent, Bool.or_eq_false_iff, decide_eq_false_iff_not] at hb
  omega

theorem exec_streamKeyOff_absent (h : s.mbxReady n 0x52 c) (ha : fieldAt c.args 2 1 = 0)
    (hb : s.bobbinAbsent (fieldAt c.args 0 2) = true) :
    exec (.streamKeyOff n) s = .next (s.answer n (failResp St.bobbinUnknown 0)) := by
  have e : exec (.streamKeyOff n) s = execStreamKeyOff n s := rfl
  rw [e, execStreamKeyOff, streamRow_absent h ha (by simp) hb]

theorem exec_streamKeyHost_absent (h : s.mbxReady n 0x52 c) (ha : fieldAt c.args 2 1 = 1) (hd : c.dlen = 32)
    (hb : s.bobbinAbsent (fieldAt c.args 0 2) = true) :
    exec (.streamKeyHost n) s = .next (s.answer n (failResp St.bobbinUnknown 0)) := by
  have e : exec (.streamKeyHost n) s = execStreamKeyHost n s := rfl
  rw [e, execStreamKeyHost, streamRow_absent h ha (by simp [hd]) hb]

theorem exec_streamKeyDevice_absent (h : s.mbxReady n 0x52 c) (ha : fieldAt c.args 2 1 = 2)
    (hb : s.bobbinAbsent (fieldAt c.args 0 2) = true) :
    exec (.streamKeyDevice n) s = .next (s.answer n (failResp St.bobbinUnknown 0)) := by
  have e : exec (.streamKeyDevice n) s = execStreamKeyDevice n s := rfl
  rw [e, execStreamKeyDevice, streamRow_absent h ha (by simp) hb]

theorem exec_streamKeyHost_badLength (h : s.mbxReady n 0x52 c) (ha : fieldAt c.args 2 1 = 1) (hd : c.dlen ≠ 32) :
    exec (.streamKeyHost n) s = .next (s.answer n (failResp St.badLength 0xFFFFFFFF)) := by
  have e : exec (.streamKeyHost n) s = execStreamKeyHost n s := rfl
  rw [e, execStreamKeyHost, streamRow_badLength h ha hd]

/-- What a new stream key changes: its bobbin's key, epoch, count and mask bit, and the wrap counter. -/
theorem streamKey_sets (key : Nat) (hb : b < 10) (he : s.get .KEY_EPOCH b < 0xFFFFFFFE) :
    (s.streamKey b key).get .KEY_EPOCH b = s.get .KEY_EPOCH b + 1 ∧ (s.streamKey b key).get .GCM_COUNT b = 0 ∧
      bit ((s.streamKey b key).reg .ENC_MASK) b = true := by
  have hwidth : (s.get .KEY_EPOCH b + 1) % 2 ^ 32 = s.get .KEY_EPOCH b + 1 := Nat.mod_eq_of_lt (by omega)
  have hmask : bit ((s.reg .ENC_MASK ||| 2 ^ b) % 2 ^ 10) b = true := by
    rw [bit_mod_two_pow _ hb, bit_or_two_pow_same]
  refine ⟨Eq.trans ?_ hwidth, ?_, Eq.trans (congrArg (bit · b) (State.set_reg _ _ _)) hmask⟩
  · simp [State.streamKey, State.get_eq]
    rfl
  · simp [State.streamKey, State.get_eq]

theorem streamKey_others (key : Nat) {k : Nat} (hk : k < 10) (hkb : k ≠ b) :
    (s.streamKey b key).get .KEY_EPOCH k = s.get .KEY_EPOCH k ∧ (s.streamKey b key).get .GCM_COUNT k = s.get .GCM_COUNT k ∧
      bit ((s.streamKey b key).reg .ENC_MASK) k = bit (s.reg .ENC_MASK) k ∧
      Map.get (s.streamKey b key).sec.streamKeys k = Map.get s.sec.streamKeys k := by
  have hmask : bit ((s.reg .ENC_MASK ||| 2 ^ b) % 2 ^ 10) k = bit (s.reg .ENC_MASK) k := by
    rw [bit_mod_two_pow _ hk, bit_or_two_pow_ne _ hkb]
  have hne (x : RegName) : ¬(x = x ∧ k = b) := fun e => hkb e.2
  refine ⟨?_, ?_, ?_, Map.get_put_ne _ _ _ _ hkb⟩
  · simp [State.streamKey, State.get_eq, regGet_regPut_ne _ _ (hne _)]
  · simp [State.streamKey, State.get_eq, regGet_regPut_ne _ _ (hne _)]
  · exact (congrArg (bit · k) (State.set_reg _ _ _)).trans hmask

theorem streamKey_only (s : State) (b key : Nat) : OnlyRegs [.KEY_EPOCH, .GCM_COUNT, .WRAP_IV_COUNT, .ENC_MASK]
    { s with sec.streamKeys := Map.put s.sec.streamKeys b key } (s.streamKey b key) :=
  (((OnlyRegs.put { s with sec.streamKeys := Map.put s.sec.streamKeys b key } .KEY_EPOCH b _ (by decide)).trans
    (.put _ .GCM_COUNT b 0 (by decide))).set (by decide)).set (by decide)

/-- Of the rest of the state the bobbin's key alone changes. -/
theorem streamKey_frame (s : State) (b key : Nat) : Map.get (s.streamKey b key).sec.streamKeys b = some key ∧
    (s.streamKey b key).host.slots = s.host.slots ∧
    RegsKept [.KEY_EPOCH, .GCM_COUNT, .WRAP_IV_COUNT, .ENC_MASK] s (s.streamKey b key) ∧
    { s.streamKey b key with regs := s.regs, sec := s.sec } = s := by
  obtain ⟨⟨m, e⟩, hk, -⟩ := streamKey_only s b key
  rw [e] at hk ⊢
  exact ⟨Map.get_put_same _ _ _, rfl, hk, rfl⟩

theorem exec_streamKeyOff (h : s.mbxReady n 0x52 c) (ha : fieldAt c.args 2 1 = 0)
    (hb : s.bobbinAbsent (fieldAt c.args 0 2) = false) (hbb : b = fieldAt c.args 0 2) : exec (.streamKeyOff n) s =
      .next ((({ s with sec.streamKeys := Map.erase s.sec.streamKeys b } : State).set .ENC_MASK
        (if bit (s.reg .ENC_MASK) b then s.reg .ENC_MASK - 2 ^ b else s.reg .ENC_MASK)).answer n
          (okResp (leBytes 4 (s.get .KEY_EPOCH b)))) := by
  have e : exec (.streamKeyOff n) s = execStreamKeyOff n s := rfl
  rw [e, execStreamKeyOff, streamRow_acts h ha (by simp) hb, hbb]
  rfl

theorem exec_streamKeyHost (h : s.mbxReady n 0x52 c) (ha : fieldAt c.args 2 1 = 1) (hd : c.dlen = 32)
    (hb : s.bobbinAbsent (fieldAt c.args 0 2) = false) (hbb : b = fieldAt c.args 0 2)
    (he : s.get .KEY_EPOCH b < 0xFFFFFFFE) : exec (.streamKeyHost n) s =
      .next ((s.streamKey b (beNat c.data)).answer n
        (okResp (leBytes 4 ((s.streamKey b (beNat c.data)).get .KEY_EPOCH b)))) := by
  have e : exec (.streamKeyHost n) s = execStreamKeyHost n s := rfl
  rw [e, execStreamKeyHost, streamRow_acts h ha (by simp [hd]) hb, ← hbb, if_neg (Nat.not_le.2 he)]

/-- A key of the device is the next free value. -/
theorem exec_streamKeyDevice (h : s.mbxReady n 0x52 c) (ha : fieldAt c.args 2 1 = 2)
    (hb : s.bobbinAbsent (fieldAt c.args 0 2) = false) (hbb : b = fieldAt c.args 0 2)
    (he : s.get .KEY_EPOCH b < 0xFFFFFFFE) (hent : s.reg .ENTROPY_STATE = 1) : ∃ key, exec (.streamKeyDevice n) s =
      .next ((({ s with free := s.free + 1 } : State).streamKey b key).answer n (okResp
        (leBytes 4 ((({ s with free := s.free + 1 } : State).streamKey b key).get .KEY_EPOCH b)) (beBytes 32 key))) := by
  have e : exec (.streamKeyDevice n) s = execStreamKeyDevice n s := rfl
  refine ⟨s.draw.1 % 2 ^ 256, ?_⟩
  rw [e, execStreamKeyDevice, streamRow_acts h ha (by simp) hb, ← hbb, if_neg (Nat.not_le.2 he),
    needEntropy_delivers hent]
  rfl

theorem exec_streamKeyDevice_full (h : s.mbxReady n 0x52 c) (ha : fieldAt c.args 2 1 = 2)
    (hb : s.bobbinAbsent (fieldAt c.args 0 2) = false) (he : 0xFFFFFFFE ≤ s.get .KEY_EPOCH (fieldAt c.args 0 2)) :
    exec (.streamKeyDevice n) s = .next (({ s with free := s.free + 1 } : State).answer n
      (failResp St.outOfRange (s.draw.1 % 2 ^ 32))) := by
  have e : exec (.streamKeyDevice n) s = execStreamKeyDevice n s := rfl
  rw [e, execStreamKeyDevice, streamRow_acts h ha (by simp) hb, if_pos he]
  rfl

end

/-- Settles O25: COMMISSION sets `keyed` and tells of it, a stream key in force sets what `streamKey_sets` says, and each
refusal is one answer. -/
theorem keysAreMadeOnceAndKeptInside : Obligations.KeysAreMadeOnceAndKeptInside := by
  unfold Obligations.KeysAreMadeOnceAndKeptInside
  refine ⟨fun s n c h hc he => ?commission, fun s n c h hc => ?again, fun s n c h => ?read,
    fun s n c b h ha hbb hb => ?off, fun s n c b h ha hd hbb hb he => ?host, fun s n c b h ha hbb hb he hent => ?device,
    fun s n c b h hbb hb => ⟨fun ha => ?offAbsent, fun ha hd => ?hostAbsent, fun ha => ?deviceAbsent⟩,
    fun s n c h ha hd => ?badLength, fun s n c b h hbb hb he ha => ?full⟩
  case commission =>
    obtain ⟨d, t, rfl, ht⟩ := exec_commission_fresh h hc he
    obtain ⟨hc', hp', hkept⟩ := commission_sets ({ s with free := s.free + 1 } : State) d
    obtain ⟨hsec, hslots, hframe⟩ := commission_frame ({ s with free := s.free + 1 } : State) d
    generalize ({ s with free := s.free + 1 } : State).commission d = t at ht hc' hp' hkept hsec hslots hframe
    have hpub : t.sec.pub = publicKey d := congrArg SecS.pub hsec
    have hdev : t.sec.devKey = some d := congrArg SecS.devKey hsec
    have hkeys : t.sec.streamKeys = s.sec.streamKeys := by rw [hsec]
    exact ⟨_, ht, hc', hp', congrArg Option.isSome hdev,
      (congrArg (Option.map publicKey) hdev).trans (congrArg some hpub.symm), told_answer (mbxReady_slot h) hslots _,
      hkept, hkeys, congrArg (fun x : State => { x with free := s.free }) hframe⟩
  case again => exact ⟨_, exec_commission_again h hc, answer_answered _ _ _ (mbxReady_slot h)⟩
  case read => exact ⟨_, exec_keyRead h, answer_answered _ _ _ (mbxReady_slot h)⟩
  case off =>
    refine ⟨_, exec_streamKeyOff h ha (hbb ▸ hb) hbb, Map.get_erase_same _ _, ?cleared, fun k hk hkb =>
      ⟨Map.get_erase_ne _ _ _ hkb, ?others⟩, told_answer (mbxReady_slot h) rfl _,
      fun k i hk => State.set_get_ne _ _ (fun e => hk (List.mem_singleton.2 e)), rfl⟩
    case cleared =>
      exact (congrArg (bit · b) (State.set_reg _ _ _)).trans (bit_cleared_same _ (lt_ten_of_bobbin hb))
    case others => exact (congrArg (bit · k) (State.set_reg _ _ _)).trans (bit_cleared_ne _ hk hkb)
  case host =>
    have hb10 := lt_ten_of_bobbin hb
    have ht := exec_streamKeyHost h ha hd (hbb ▸ hb) hbb he
    obtain ⟨hepoch, hcount, hmask⟩ := streamKey_sets (beNat c.data) hb10 he
    have hother := fun k hk hkb => streamKey_others (s := s) (b := b) (beNat c.data) (k := k) hk hkb
    obtain ⟨hkey, hslots, hkept, hframe⟩ := streamKey_frame s b (beNat c.data)
    rw [hepoch] at ht
    generalize s.streamKey b (beNat c.data) = t at ht hepoch hcount hmask hother hkept hkey hslots hframe
    exact ⟨_, ht, hkey, hepoch, hcount, hmask, hother, told_answer (mbxReady_slot h) hslots _, hkept,
      congrArg (fun x : State => { x with host := s.host }) hframe⟩
  case device =>
    have hb10 := lt_ten_of_bobbin hb
    obtain ⟨key, ht⟩ := exec_streamKeyDevice h ha (hbb ▸ hb) hbb he hent
    obtain ⟨hepoch, hcount, hmask⟩ := streamKey_sets (s := { s with free := s.free + 1 }) key hb10 he
    have hother := fun k hk hkb => streamKey_others (s := { s with free := s.free + 1 }) (b := b) key (k := k) hk hkb
    obtain ⟨hkey, hslots, hkept, hframe⟩ := streamKey_frame { s with free := s.free + 1 } b key
    rw [hepoch] at ht
    generalize State.streamKey { s with free := s.free + 1 } b key = t at *
    obtain ⟨htold, hothers⟩ := told_answer (t := t) (mbxReady_slot h) hslots
      (okResp (leBytes 4 (s.get .KEY_EPOCH b + 1)) (beBytes 32 key))
    refine ⟨_, ht, congrArg Option.isSome hkey, ?resp, hepoch, hcount, hmask, hother, hothers, hkept,
      congrArg (fun x : State => { x with host := s.host, free := s.free }) hframe⟩
    case resp =>
      exact (congrArg Slot.resp htold).trans (congrArg (Option.map fun k =>
        okResp (leBytes 4 (s.get .KEY_EPOCH b + 1)) (beBytes 32 k)) hkey).symm
  case offAbsent => exact ⟨_, exec_streamKeyOff_absent h ha (hbb ▸ hb), answer_answered _ _ _ (mbxReady_slot h)⟩
  case hostAbsent => exact ⟨_, exec_streamKeyHost_absent h ha hd (hbb ▸ hb), answer_answered _ _ _ (mbxReady_slot h)⟩
  case deviceAbsent => exact ⟨_, exec_streamKeyDevice_absent h ha (hbb ▸ hb), answer_answered _ _ _ (mbxReady_slot h)⟩
  case badLength => exact ⟨_, exec_streamKeyHost_badLength h ha hd, answer_answered _ _ _ (mbxReady_slot h)⟩
  case full =>
    obtain ⟨htold, hothers⟩ := told_answer (t := { s with free := s.free + 1 }) (mbxReady_slot h) rfl
      (failResp St.outOfRange (s.draw.1 % 2 ^ 32))
    refine ⟨_, exec_streamKeyDevice_full h ha (hbb ▸ hb) (hbb ▸ he), ?_, hothers, rfl⟩
    rw [htold]
    rfl

end Sys2Proof.Machine
end

section
/-! SUPPORT. Queue commands that act and end: the row of a ready command, its completion entry, the bytes it delivers
(05 R184-R186, 06 R235). -/

namespace Sys2Proof.Machine

/-! ## Counted events -/

/-- `t` is `s` after counted events: beads moved, and of these none whose mode counts no pulses (17 R730, R733). -/
def Pulsed (s t : State) : Prop :=
  OnlyRegs beadRegs s t ∧ ∀ i, s.get .CNT_MODE i % 2 = 0 →
    t.get .BEAD_VALUE i = s.get .BEAD_VALUE i ∧ t.get .BEAD_CARRY i = s.get .BEAD_CARRY i

theorem Pulsed.refl (s : State) : Pulsed s s := ⟨.refl _ _, fun _ _ => ⟨rfl, rfl⟩⟩

theorem Pulsed.trans {s t u : State} (a : Pulsed s t) (b : Pulsed t u) : Pulsed s u := by
  obtain ⟨ha, va⟩ := a
  obtain ⟨hb, vb⟩ := b
  refine ⟨ha.trans hb, fun i hi => ?_⟩
  obtain ⟨-, ka, -⟩ := ha
  obtain ⟨hvalue, hcarry⟩ := vb i (by rwa [ka _ _ (by decide)])
  exact ⟨hvalue.trans (va i hi).1, hcarry.trans (va i hi).2⟩

/-- An entry of a bead written leaves the other beads. -/
theorem put_bead_ne (s : State) {n k : RegName} {i j : Nat} (v : Nat) (h : j ≠ i) : (s.put n i v).get k j = s.get k j :=
  regGet_regPut_ne _ _ fun e => h e.2

theorem beadAdd_others (s : State) {i j : Nat} (k : Nat) (n : RegName) (h : j ≠ i) :
    (s.beadAdd i k).get n j = s.get n j := by
  unfold State.beadAdd
  extract_lets v u
  have hu : u.get n j = s.get n j := by
    unfold u
    split
    · exact put_bead_ne s 1 h
    · rfl
  exact (put_bead_ne u v h).trans hu

theorem beadMax_others (s : State) {i j : Nat} (v : Nat) (n : RegName) (h : j ≠ i) :
    (s.beadMax i v).get n j = s.get n j := by
  unfold State.beadMax
  extract_lets u
  have hu : u.get n j = s.get n j := by
    unfold u
    split
    · exact put_bead_ne s 1 h
    · rfl
  exact (put_bead_ne u _ h).trans hu

theorem pulsed_of_others {s t : State} {i : Nat} (h : OnlyRegs beadRegs s t) (hmode : s.get .CNT_MODE i % 2 ≠ 0)
    (ho : ∀ n j, j ≠ i → t.get n j = s.get n j) : Pulsed s t := by
  refine ⟨h, fun j hj => ?_⟩
  have hne : j ≠ i := fun e => hmode (e ▸ hj)
  exact ⟨ho _ _ hne, ho _ _ hne⟩

theorem pulse_pulsed (s : State) (code v : Nat) : Pulsed s (s.pulse code v) := by
  unfold State.pulse
  split
  · exact .refl s
  · refine foldl_rel Pulsed .refl .trans _ (fun t i => ?_) _ _
    split
    · split
      next hmode => exact pulsed_of_others (i := i) (beadAdd_only t i v) (by simp [hmode]) fun n j => beadAdd_others t v n
      next hmode => exact pulsed_of_others (i := i) (beadMax_only t i v) (by simp [hmode]) fun n j => beadMax_others t v n
      next => exact .refl t
    · exact .refl t

/-! ## The row of a ready command -/

section
variable {s t u : State} {qp tag : Nat} {c : QCmd} {p : QPair}

theorem cmd_key (h : s.cmd qp tag = some c) : c.qp = qp ∧ c.tag = tag := by
  simpa [State.cmd] using List.find?_some h

theorem runCmd_ready {opcode : Nat} (h : s.cmdReady qp tag opcode c) (f : QCmd → State → State) :
    s.runCmd qp tag opcode f = .next (f c s) := by
  obtain ⟨hc, hop, hawake, hunfenced, hgranted, hended, hdesc⟩ := h
  simp [State.runCmd, hc, hop, hawake, hunfenced, hgranted, hended, hdesc]

/-! ## The completion entry -/

/-- The completion entry of command `c` on pair `p`, its time COARSE or not (05 Table 5.4). -/
def entryBytes (c : QCmd) (p : QPair) (status result : Nat) (coarse : Bool) : List Byte :=
  leBytes 2 c.tag ++ leBytes 2 status ++ leBytes 2 p.sqHead ++ leBytes 2 (b2n p.phase + 2 * b2n coarse) ++ leBytes 8 result

theorem entryBytes_fine (c : QCmd) (p : QPair) (st r : Nat) : entryBytes c p st r false = cqeBytes c p st r := rfl

theorem entryBytes_length (c : QCmd) (p : QPair) (st r : Nat) (coarse : Bool) :
    (entryBytes c p st r coarse).length = 16 := by simp [entryBytes, leBytes_length]

/-- Where pair `p` writes its next entry (05 R185). -/
abbrev QPair.entryAt (p : QPair) : Nat := p.cqBase + 16 * p.cqWrite

/-- Without MSI-X an entry of a pair is its 16 bytes in host memory, and the pair's position. -/
theorem writeCqe_entered (ho : s.host.msixOn = false) (hb : s.host.busMaster = true)
    (hp : Map.get s.q.pairs qp = some p) (tag st r : Nat) (coarse : Bool) : ∃ m f,
      s.writeCqe qp tag st r coarse false = s.entered m qp f p.entryAt (leBytes 2 tag ++ leBytes 2 st ++
        leBytes 2 p.sqHead ++ leBytes 2 (b2n p.phase + 2 * b2n coarse) ++ leBytes 8 r) ∧
      Advances p f ∧ Pulsed s { s with regs := m } := by
  obtain ⟨⟨⟨m, e⟩, hk⟩, hv⟩ := pulse_pulsed (s.setPair qp fun x => p.written x s.clock) Ev.completions 1
  have hm : Pulsed s { s with regs := m } := by
    rw [e] at hk hv
    exact ⟨⟨⟨m, rfl⟩, hk⟩, hv⟩
  have hw := advances_written p s.clock
  have hbytes (a : Nat) (bs : List Byte) :
      ((s.setPair qp fun x => p.written x s.clock).pulse Ev.completions).hostWrite a bs =
      s.entered m qp (fun x => p.written x s.clock) a bs := by
    rw [e]
    exact if_pos hb
  unfold State.writeCqe
  rw [hp]
  by_cases hc : (false || (p.coalCount == 0 && p.coalTime == 0) ||
      (p.coalCount != 0 && p.coalPend + 1 ≥ p.coalCount)) = true
  · exact ⟨m, fun x => { p.written x s.clock with coalPend := 0 },
      (if_pos hc).trans ((congrArg (·.signal qp) (hbytes _ _)).trans (signal_entered ho m qp _ _ _)), hw, hm⟩
  · exact ⟨m, fun x => p.written x s.clock, (if_neg hc).trans (hbytes _ _), hw, hm⟩

/-- A command's end without MSI-X and with no core write waiting: its entry, and nothing beside the beads. -/
theorem postOne_entered (hp : s.plainPair c.qp p) (st r : Nat) (coarse : Bool) : ∃ m f, s.postOne c st r coarse =
      (s.retired c).entered m c.qp f p.entryAt (entryBytes c p st r coarse) ∧ Advances p f ∧
        Pulsed s { s with regs := m } := by
  obtain ⟨hpair, -, -, hb, ho, hm⟩ := hp
  obtain ⟨⟨⟨m1, e1⟩, hk1⟩, hv1⟩ := pulse_pulsed s Ev.drains 1
  obtain ⟨m2, f, e2, hf, hk2⟩ := writeCqe_entered (s := s.entering c m1) ho hb (entering_pair hpair m1) c.tag st r coarse
  have e : s.postOne c st r coarse = ((s.entering c m1).writeCqe c.qp c.tag st r coarse false).pulse Ev.dbToCqe
      ((((s.entering c m1).writeCqe c.qp c.tag st r coarse false).clock - c.fetchedAt) * 1000) := by
    rw [State.postOne, drainFirst_idle s hm, e1]
    rfl
  rw [e2, entering_entered] at e
  obtain ⟨⟨⟨m3, e3⟩, hk3⟩, hv3⟩ := pulse_pulsed ((s.retired c).entered m2 c.qp (fun x => f (x.tagged c.tag))
    p.entryAt (entryBytes c p st r coarse)) Ev.dbToCqe ((s.clock - c.fetchedAt) * 1000)
  refine ⟨m3, _, e.trans e3, hf.tagged, ?_⟩
  rw [e1] at hk1 hv1
  rw [e3] at hk3 hv3
  have h1 : Pulsed s { s with regs := m1 } := ⟨⟨⟨m1, rfl⟩, hk1⟩, hv1⟩
  have h2 : Pulsed { s with regs := m1 } { s with regs := m2 } := ⟨⟨⟨m2, rfl⟩, hk2.1.2⟩, hk2.2⟩
  have h3 : Pulsed { s with regs := m2 } { s with regs := m3 } := ⟨⟨⟨m3, rfl⟩, hk3⟩, hv3⟩
  exact (h1.trans h2).trans h3

/-- `t` is `s` with command `c` ended on pair `p`: its entry written, it outstanding no more, and nothing else changed
but beads that count pulses. -/
structure State.Closed (s t : State) (c : QCmd) (p : QPair) (status result : Nat) (coarse : Bool) : Prop where
  mem : t.host.mem = s.host.mem.writeN p.entryAt (entryBytes c p status result coarse)
  cmds : t.q.cmds = s.q.cmds.filter fun d => !(d.qp == c.qp && d.tag == c.tag)
  pair : (Map.get t.q.pairs c.qp).map (fun x => (x.cqWrite, x.phase)) =
    some (if p.cqWrite + 1 = p.cqDepth then (0, !p.phase) else (p.cqWrite + 1, p.phase))
  kept : RegsKept beadRegs s t
  still : ∀ i, s.get .CNT_MODE i % 2 = 0 →
    t.get .BEAD_VALUE i = s.get .BEAD_VALUE i ∧ t.get .BEAD_CARRY i = s.get .BEAD_CARRY i
  frame : { t with regs := s.regs, host := s.host, q := s.q } = s

/-- A command that no ABORT waits for ends so (05 R184, R206, R216). -/
theorem finish_closed (hp : s.plainPair c.qp p) (ha : c.abortBy = []) (he : c.ended = none) (st r : Nat)
    (coarse : Bool) : s.Closed (s.finish c st r coarse) c p st r coarse := by
  obtain ⟨m, f, e, hf, ⟨-, hk, -⟩, hv⟩ := postOne_entered hp st r coarse
  obtain ⟨hpair, hhalted, hpost, -⟩ := hp
  have hentered : Map.get (Map.update s.q.pairs c.qp f) c.qp = some (f p) := by
    rw [Map.get_update, if_pos rfl, hpair]
    rfl
  have hend : s.finish c st r coarse = (s.retired c).entered m c.qp f p.entryAt (entryBytes c p st r coarse) := by
    rw [State.finish, he, ha, State.endOne, if_pos hpost, e]
    refine Eq.trans ?_ (haltEntry_unhalted (qp := c.qp) fun x hx => ?_)
    · cases s.q.cmds.length <;> rfl
    · obtain rfl : f p = x := Option.some.inj (hentered.symm.trans hx)
      rw [hf.2, hhalted]
  rw [hend]
  exact ⟨rfl, rfl, (congrArg _ hentered).trans (congrArg some hf.1), hk, hv, rfl⟩

theorem finishWith_closed (hp : s.plainPair c.qp p) (ha : c.abortBy = []) (he : c.ended = none) (st n d : Nat) :
    s.Closed (s.finishWith c st n d) c p st (n % 2 ^ 32 + d % 2 ^ 32 * 2 ^ 32) false :=
  finish_closed hp ha he _ _ _

namespace State.Closed

variable {st r : Nat} {coarse : Bool}

theorem entry (h : s.Closed t c p st r coarse) : t.host.mem.readN p.entryAt 16 = entryBytes c p st r coarse := by
  rw [h.mem, ← entryBytes_length c p st r coarse]
  exact Mem.readN_writeN_same _ _ _

theorem read_part (h : s.Closed t c p st r coarse) {pre bs post : List Byte}
    (e : entryBytes c p st r coarse = pre ++ (bs ++ post)) :
    t.host.mem.readN (p.entryAt + pre.length) bs.length = bs := by
  rw [h.mem, e]
  exact Mem.readN_writeN_part _ _

theorem read_status (h : s.Closed t c p st r coarse) :
    t.host.mem.readN p.entryAt 4 = leBytes 2 c.tag ++ leBytes 2 st := by
  simpa [leBytes_length] using h.read_part (pre := []) (bs := leBytes 2 c.tag ++ leBytes 2 st)
    (by simp [entryBytes]; rfl)

theorem read_flags (h : s.Closed t c p st r coarse) :
    t.host.mem.readN (p.entryAt + 6) 2 = leBytes 2 (b2n p.phase + 2 * b2n coarse) := by
  simpa [leBytes_length] using h.read_part (pre := leBytes 2 c.tag ++ leBytes 2 st ++ leBytes 2 p.sqHead)
    (bs := leBytes 2 (b2n p.phase + 2 * b2n coarse)) (by simp [entryBytes]; rfl)

theorem read_result (h : s.Closed t c p st r coarse) : t.host.mem.readN (p.entryAt + 8) 8 = leBytes 8 r := by
  simpa [leBytes_length] using h.read_part
    (pre := leBytes 2 c.tag ++ leBytes 2 st ++ leBytes 2 p.sqHead ++ leBytes 2 (b2n p.phase + 2 * b2n coarse))
    (bs := leBytes 8 r) (post := []) (by simp [entryBytes])

/-- The count stands in the first half of the result (06 R235). -/
theorem read_count (h : s.Closed t c p st r coarse) : t.host.mem.readN (p.entryAt + 8) 4 = leBytes 4 r := by
  simpa [leBytes_length] using h.read_part
    (pre := leBytes 2 c.tag ++ leBytes 2 st ++ leBytes 2 p.sqHead ++ leBytes 2 (b2n p.phase + 2 * b2n coarse))
    (bs := leBytes 4 r) (post := leBytes 4 (r / 2 ^ 32)) (by simp [entryBytes, leBytes, Nat.div_div_eq_div_mul])

/-- Host memory beside the entry stays. -/
theorem read_outside (h : s.Closed t c p st r coarse) {a n : Nat} (hout : a + n ≤ p.entryAt ∨ p.entryAt + 16 ≤ a) :
    t.host.mem.readN a n = s.host.mem.readN a n := by
  rw [h.mem]
  exact Mem.readN_writeN_outside _ _ _ _ _ (by rwa [entryBytes_length])

theorem cmd_none (h : s.Closed t c p st r coarse) : t.cmd c.qp c.tag = none := by
  rw [State.cmd, h.cmds, List.find?_filter, List.find?_eq_none]
  intro d _
  cases d.qp == c.qp && d.tag == c.tag <;> simp

/-- Seen from a state with the same queue. -/
theorem ended_of (h : u.Closed t c p st r false) (hq : u.q.cmds = s.q.cmds) : s.Ended t c p st r :=
  ⟨h.entry, hq ▸ h.cmds, h.pair⟩

theorem ended (h : s.Closed t c p st r false) : s.Ended t c p st r := h.ended_of rfl

end State.Closed

/-- Bytes show a number modulo their range. -/
theorem leBytes_congr {n v w : Nat} (h : v % 256 ^ n = w % 256 ^ n) : leBytes n v = leBytes n w := by
  induction n generalizing v w with
  | zero => rfl
  | succ n ih =>
    rw [pow_succ'] at h
    have hlow : v % 256 = w % 256 := by
      rw [← Nat.mod_mod_of_dvd v (Nat.dvd_mul_right 256 (256 ^ n)), h, Nat.mod_mod_of_dvd _ (Nat.dvd_mul_right _ _)]
    have hhigh : v / 256 % 256 ^ n = w / 256 % 256 ^ n := by
      rw [← Nat.mod_mul_right_div_self, ← Nat.mod_mul_right_div_self, h]
    rw [leBytes, leBytes, ih hhigh]
    exact congrArg (· :: _) (BitVec.eq_of_toNat_eq hlow)

theorem leBytes_four_low (a b : Nat) : leBytes 4 (a % 2 ^ 32 + b * 2 ^ 32) = leBytes 4 a := by
  refine leBytes_congr ?_
  norm_num

/-! ## Bytes delivered (05 R183) -/

/-- Bytes written to host ranges change host memory alone. -/
theorem rangesWrite_mem (s : State) (l : List (Nat × Nat)) (bs : List Byte) :
    ∃ m, s.rangesWrite l bs = { s with host.mem := m } := by
  induction l generalizing s bs with
  | nil => exact ⟨s.host.mem, rfl⟩
  | cons x l ih =>
    obtain ⟨a, n⟩ := x
    obtain ⟨m, e⟩ := ih (s.hostWrite a (bs.take n)) (bs.drop n)
    refine ⟨m, e.trans ?_⟩
    unfold State.hostWrite
    split <;> rfl

/-- A single range holds what it is given, as far as it reaches. -/
theorem rangesWrite_single (hb : s.host.busMaster = true) (a n : Nat) (bs : List Byte) :
    s.rangesWrite [(a, n)] bs = { s with host.mem := s.host.mem.writeN a (bs.take n) } := by
  simp [State.rangesWrite, State.hostWrite, hb]

theorem plainPair_of_frame (hp : s.plainPair qp p) (hpairs : u.q.pairs = s.q.pairs) (hpost : u.canPost = s.canPost)
    (hbus : u.host.busMaster = s.host.busMaster) (hmsix : u.host.msixOn = s.host.msixOn) (hca : u.ca.merge = s.ca.merge) :
    u.plainPair qp p := by
  obtain ⟨h1, h2, h3, h4, h5, h6⟩ := hp
  exact ⟨hpairs ▸ h1, h2, hpost ▸ h3, hbus ▸ h4, hmsix ▸ h5, hca ▸ h6⟩

/-- Registers but LINK_STATE have no part in it. -/
theorem plainPair_onlyRegs {l : List RegName} (hp : s.plainPair qp p) (h : OnlyRegs l s u)
    (hl : RegName.LINK_STATE ∉ l := by decide) : u.plainPair qp p := by
  obtain ⟨⟨m, e⟩, hk, -⟩ := h
  refine plainPair_of_frame hp (by rw [e]) ?_ (by rw [e]) (by rw [e]) (by rw [e])
  have hlink : u.reg .LINK_STATE = s.reg .LINK_STATE := hk _ _ hl
  rw [State.canPost, State.canPost, State.p0Up, State.p0Up, hlink, e]

theorem plainPair_ranges (hp : s.plainPair qp p) (l : List (Nat × Nat)) (bs : List Byte) :
    (s.rangesWrite l bs).plainPair qp p := by
  obtain ⟨m, e⟩ := rangesWrite_mem s l bs
  rw [e]
  exact hp

/-- A command that delivers bytes and then ends. -/
theorem delivered_closed (hp : s.plainPair c.qp p) (ha : c.abortBy = []) (he : c.ended = none) (bytes : List Byte)
    (st r : Nat) : (s.rangesWrite c.buf bytes).Closed ((s.rangesWrite c.buf bytes).finish c st r) c p st r false :=
  finish_closed (plainPair_ranges hp _ _) ha he st r false

theorem finish_delivered (hp : s.plainPair c.qp p) (ha : c.abortBy = []) (he : c.ended = none) (bytes : List Byte)
    (st r : Nat) : s.Delivered ((s.rangesWrite c.buf bytes).finish c st r) c p st r bytes ∧
      RegsKept beadRegs s ((s.rangesWrite c.buf bytes).finish c st r) ∧
      { (s.rangesWrite c.buf bytes).finish c st r with regs := s.regs, host := s.host, q := s.q } = s := by
  obtain ⟨m, e⟩ := rangesWrite_mem s c.buf bytes
  have h := delivered_closed hp ha he bytes st r
  refine ⟨⟨h.ended_of (by rw [e]), h.mem⟩, ?_, ?_⟩
  · have hk := h.kept
    rw [e] at hk ⊢
    exact hk
  · have hf := congrArg (fun x : State => { x with host := s.host }) h.frame
    rw [e] at hf ⊢
    exact hf

/-- A buffer of one range apart from the completion entry reads back as delivered. -/
theorem delivered_single {a l : Nat} {bytes : List Byte} {st r : Nat} (hp : s.plainPair c.qp p) (hbuf : c.buf = [(a, l)])
    (hout : a + l ≤ p.entryAt ∨ p.entryAt + 16 ≤ a) (hlen : bytes.length ≤ l)
    (h : (s.rangesWrite c.buf bytes).Closed t c p st r false) : t.host.mem.readN a bytes.length = bytes := by
  obtain ⟨-, -, -, hbus, -⟩ := hp
  rw [h.read_outside (by omega), hbuf, rangesWrite_single hbus, List.take_of_length_le hlen]
  exact Mem.readN_writeN_same _ _ _

end

end Sys2Proof.Machine
end

section
/-! SUPPORT. TALLY_READ and BB_READ, CNT_CONFIG and CNT_SNAPSHOT (06 R276-R279, 17 R730-R742). -/

namespace Sys2Proof.Machine

section
variable {s t : State} {qp tag : Nat} {c : QCmd} {p : QPair}

/-! ## Records read from a sequence on (06 R279) -/

/-- The highest sequence held, or a free value where none is (log entry 32). -/
theorem highest_some {l : List Nat} {n : Nat} (h : l.getLast? = some n) : s.highest l = (n, s) := by
  rw [State.highest, h]

theorem highest_draws (s : State) (l : List Nat) : ∃ n k, s.highest l = (n, { s with free := k }) := by
  unfold State.highest
  split
  · exact ⟨_, s.free, rfl⟩
  · exact ⟨_, s.free + 1, rfl⟩

theorem lengthFault_single {a l lo : Nat} (hd : c.badDesc = none) (hbuf : c.buf = [(a, l)]) (hl : lo ≤ l) :
    c.lengthFault lo none = none := by
  simp [QCmd.lengthFault, hd, QCmd.room, hbuf, hl]

theorem room_single {a l : Nat} (hbuf : c.buf = [(a, l)]) : c.room = l := by simp [QCmd.room, hbuf]

/-- Records of `n` bytes each, as many as a buffer of `l` bytes holds, fit in it. -/
theorem length_flatMap_take_le {α : Type} (rs : List α) (f : α → List Byte) (n l : Nat) (hf : ∀ r ∈ rs, (f r).length = n) :
    ((rs.take (l / n)).flatMap f).length = n * (rs.take (l / n)).length ∧
      ((rs.take (l / n)).flatMap f).length ≤ l := by
  have hlen : ((rs.take (l / n)).flatMap f).length = n * (rs.take (l / n)).length := by
    rw [List.length_flatMap, List.map_congr_left fun r hr => hf r (List.mem_of_mem_take hr)]
    simp [Nat.mul_comm]
  refine ⟨hlen, hlen ▸ (Nat.mul_le_mul_left n (List.length_take_le _ _)).trans (Nat.mul_div_le l n)⟩

theorem recordBytes_length (r : BbRecord) : (recordBytes r).length = 64 := by
  simp [recordBytes, recordBody]

theorem tallies_length {r : List Byte} (hr : r ∈ s.tallies) : r.length = 32 := by
  obtain ⟨x, -, rfl⟩ := List.mem_map.1 hr
  simp [State.ringRead]

theorem exec_tallyRead (h : s.cmdReady qp tag 0x150 c) (hl : c.lengthFault 32 none = none) (hp : s.poolLost = false) :
    exec (.tallyRead qp tag) s =
      (let l := (s.tallies.filter fun r => decide (fieldAt c.args 0 4 ≤ fieldAt r 0 4)).take (c.room / 32)
       let (q, u) := s.highest (s.tallies.map fun r => fieldAt r 0 4)
       .next ((u.rangesWrite c.buf l.flatten).finishWith c St.success l.length q)) := by
  have e : exec (.tallyRead qp tag) s = execTallyRead qp tag s := rfl
  rw [e, execTallyRead, runCmd_ready h]
  simp [hl, hp]

theorem exec_bbRead (h : s.cmdReady qp tag 0x170 c) (hl : c.lengthFault 64 none = none) :
    exec (.bbRead qp tag) s =
      (let l := (s.bbList (fieldAt c.args 0 4)).take (c.room / 64)
       let (q, u) := s.highest ((s.bbList 0).map (·.seq))
       .next ((u.rangesWrite c.buf (l.flatMap recordBytes)).finishWith c St.success l.length q)) := by
  have e : exec (.bbRead qp tag) s = execBbRead qp tag s := rfl
  rw [e, execBbRead, runCmd_ready h]
  simp [hl]

/-- What a read into one range of a host buffer leaves to be read back: status, count and bytes. The highest sequence may
be a free value. -/
theorem single_delivery {a l n q k : Nat} {bytes : List Byte} (hp : s.plainPair c.qp p) (ha : c.abortBy = [])
    (he : c.ended = none) (hbuf : c.buf = [(a, l)]) (hout : a + l ≤ p.entryAt ∨ p.entryAt + 16 ≤ a)
    (hlen : bytes.length ≤ l)
    (ht : t = (({ s with free := k } : State).rangesWrite c.buf bytes).finishWith c St.success n q) :
    t.host.mem.readN p.entryAt 4 = leBytes 2 c.tag ++ leBytes 2 St.success ∧
      t.host.mem.readN (p.entryAt + 8) 4 = leBytes 4 n ∧ t.host.mem.readN a bytes.length = bytes ∧
      t.cmd c.qp c.tag = none ∧ RegsKept beadRegs s t ∧
      { t with regs := s.regs, host := s.host, q := s.q, free := s.free } = s := by
  subst ht
  have hp' : ({ s with free := k } : State).plainPair c.qp p := hp
  have hclosed := delivered_closed hp' ha he bytes St.success (n % 2 ^ 32 + q % 2 ^ 32 * 2 ^ 32)
  obtain ⟨-, hk, hframe⟩ := finish_delivered hp' ha he bytes St.success (n % 2 ^ 32 + q % 2 ^ 32 * 2 ^ 32)
  exact ⟨hclosed.read_status, hclosed.read_count.trans (leBytes_four_low _ _), delivered_single hp' hbuf hout hlen hclosed,
    hclosed.cmd_none, hk, congrArg (fun x : State => { x with free := s.free }) hframe⟩

/-! ## CNT_CONFIG (06 R276, R277) -/

theorem exec_cntConfig_refused {o : Nat} (h : s.cmdReady qp tag 0x160 c) (hf : cntFault c.args = some o) :
    exec (.cntConfig qp tag) s = .next (s.finishWith c St.outOfRange 0 o) := by
  have e : exec (.cntConfig qp tag) s = execCntConfig qp tag s := rfl
  rw [e, execCntConfig, runCmd_ready h]
  simp [hf]

theorem beadClear_only (s : State) (i : Nat) : OnlyRegs beadRegs s (s.beadClear i) :=
  (OnlyRegs.put _ _ _ _ (by decide)).trans (.put _ _ _ _ (by decide))

theorem beadClear_zero (s : State) (i : Nat) :
    (s.beadClear i).get .BEAD_VALUE i = 0 ∧ (s.beadClear i).get .BEAD_CARRY i = 0 := by
  simp [State.beadClear, State.get_eq]

theorem beadClear_others (s : State) {i j : Nat} (n : RegName) (h : j ≠ i) : (s.beadClear i).get n j = s.get n j := by
  simp [State.beadClear, State.get_eq, regGet_regPut_ne _ _ fun e => h e.2]

/-- The registers that a CNT_CONFIG sets, before its completion. -/
abbrev beadSetRegs : List RegName := [.CNT_EVENT, .CNT_MODE] ++ beadRegs

/-- Bead `i` cleared if `clear`, and set to an event and a mode. -/
def State.beadTuned (s : State) (i event mode : Nat) (clear : Bool) : State :=
  ((if clear then s.beadClear i else s).put .CNT_EVENT i event).put .CNT_MODE i mode

theorem beadTuned_only (s : State) (i event mode : Nat) (clear : Bool) :
    OnlyRegs beadSetRegs s (s.beadTuned i event mode clear) := by
  obtain ⟨hm, hk, hw⟩ := beadClear_only s i
  have hclear : OnlyRegs beadSetRegs s (s.beadClear i) := ⟨hm, hk.mono (by decide), hw⟩
  exact ((OnlyRegs.ite hclear (.refl _ _)).trans (.put _ _ _ _ (by decide))).trans (.put _ _ _ _ (by decide))

theorem beadTuned_sets {i event mode : Nat} (clear : Bool) (he : event < 256) (hm : mode < 256) :
    (s.beadTuned i event mode clear).get .CNT_EVENT i = event ∧ (s.beadTuned i event mode clear).get .CNT_MODE i = mode ∧
      (clear = true → (s.beadTuned i event mode clear).get .BEAD_VALUE i = 0 ∧
        (s.beadTuned i event mode clear).get .BEAD_CARRY i = 0) := by
  refine ⟨?_, ?_, fun hc => ?_⟩
  · rw [State.beadTuned, State.get_eq, State.put_regs, regGet_regPut_name _ _ _ _ (by decide)]
    exact (State.put_get _ _ _ _).trans (Nat.mod_eq_of_lt he)
  · exact (State.put_get _ _ _ _).trans (Nat.mod_eq_of_lt hm)
  · obtain ⟨hvalue, hcarry⟩ := beadClear_zero s i
    rw [State.get_eq] at hvalue hcarry
    simp [State.beadTuned, State.get_eq, hc, hvalue, hcarry]

theorem beadTuned_others {i j event mode : Nat} (clear : Bool) (n : RegName) (h : j ≠ i) :
    (s.beadTuned i event mode clear).get n j = s.get n j := by
  rw [State.beadTuned, put_bead_ne _ _ h, put_bead_ne _ _ h]
  split
  · exact beadClear_others s n h
  · rfl

/-- A CNT_CONFIG tunes its bead, whose level is taken anew, and saves the settings. -/
theorem beadConfig_tuned (s : State) (i event mode : Nat) (clear : Bool) : ∃ x b, (clear = true → x = true) ∧
    s.beadConfig i event mode clear = { s.beadTuned i event mode x with bead := b } := by
  refine ⟨event != s.get .CNT_EVENT i || mode != s.get .CNT_MODE i || clear, ?_⟩
  unfold State.beadConfig
  extract_lets change u w
  cases change
  · exact ⟨w.bead, fun h => by simp [h], rfl⟩
  · exact ⟨_, fun h => by simp [h], rfl⟩

theorem exec_cntConfig_set (h : s.cmdReady qp tag 0x160 c) (hf : cntFault c.args = none) :
    ∃ x b, (bit (fieldAt c.args 3 1) 0 = true → x = true) ∧ exec (.cntConfig qp tag) s =
      .next (({ s.beadTuned (fieldAt c.args 0 1) (fieldAt c.args 1 1) (fieldAt c.args 2 1) x with
        bead := b } : State).saveSettings.finish c St.success 0) := by
  have e : exec (.cntConfig qp tag) s = execCntConfig qp tag s := rfl
  obtain ⟨x, b, hx, eb⟩ := beadConfig_tuned s (fieldAt c.args 0 1) (fieldAt c.args 1 1) (fieldAt c.args 2 1)
    (bit (fieldAt c.args 3 1) 0)
  refine ⟨x, b, hx, ?_⟩
  rw [e, execCntConfig, runCmd_ready h]
  simp only [hf, eb]

theorem cntFault_none (h : cntFault c.args = none) : fieldAt c.args 1 1 < 256 ∧ fieldAt c.args 2 1 < 256 := by
  unfold cntFault at h
  grind

/-! ## CNT_SNAPSHOT (06 R278, 17 R733) -/

/-- A bead cleared, or at rest already, is at rest once beads have been cleared. -/
theorem foldl_beadClear_zero {i : Nat} {l : List Nat}
    (h : i ∈ l ∨ s.get .BEAD_VALUE i = 0 ∧ s.get .BEAD_CARRY i = 0) :
    (l.foldl State.beadClear s).get .BEAD_VALUE i = 0 ∧ (l.foldl State.beadClear s).get .BEAD_CARRY i = 0 := by
  induction l generalizing s with
  | nil => simpa using h
  | cons j l ih =>
    refine ih ?_
    by_cases hij : i = j
    · subst hij
      exact .inr (beadClear_zero s i)
    · rw [beadClear_others s _ hij, beadClear_others s _ hij]
      simpa [hij] using h

/-- The beads as a snapshot leaves them, and its time kept. -/
def State.snapped (s : State) (clear : Bool) (time : Nat) : State :=
  (if clear then (List.range 32).foldl State.beadClear s else s).set .LAST_SNAPSHOT_TIME time

theorem snapped_only (s : State) (clear : Bool) (time : Nat) :
    OnlyRegs (.LAST_SNAPSHOT_TIME :: beadRegs) s (s.snapped clear time) := by
  obtain ⟨hm, hk, hw⟩ := foldl_rel (OnlyRegs beadRegs) (.refl _) .trans _ beadClear_only (List.range 32) s
  exact (OnlyRegs.ite ⟨hm, hk.mono (by decide), hw⟩ (.refl _ _)).set (by decide)

theorem snapped_zero {i : Nat} (hi : i < 32) (time : Nat) :
    (s.snapped true time).get .BEAD_VALUE i = 0 ∧ (s.snapped true time).get .BEAD_CARRY i = 0 := by
  obtain ⟨hvalue, hcarry⟩ := foldl_beadClear_zero (s := s) (.inl (List.mem_range.2 hi))
  exact ⟨(State.set_get_ne _ _ (by decide)).trans hvalue, (State.set_get_ne _ _ (by decide)).trans hcarry⟩

theorem exec_cntSnapshot (h : s.cmdReady qp tag 0x161 c) (hl : c.lengthFault 256 (some 256) = none) :
    exec (.cntSnapshot qp tag) s = .next (((s.rangesWrite c.buf s.beadBytes).snapped (bit (fieldAt c.args 0 1) 0)
      s.now).finish c St.success (s.now % 2 ^ 64) s.coarse) := by
  have e : exec (.cntSnapshot qp tag) s = execCntSnapshot qp tag s := rfl
  rw [e, execCntSnapshot, runCmd_ready h]
  simp only [hl]
  rfl

end

/-- Settles O23. -/
theorem logsAndBeadsAreRead : Obligations.LogsAndBeadsAreRead := by
  unfold Obligations.LogsAndBeadsAreRead
  refine ⟨fun s qp tag n c p rs h hp ha hl hpool hrs hn => ?tally,
    fun s qp tag a l c p rs h hp ha hbuf hl hout hpool hrs => ?tallySingle,
    fun s qp tag n c p rs h hp ha hl hrs hn => ?box, fun s qp tag a l c p rs h hp ha hbuf hl hout hrs => ?boxSingle,
    fun s qp tag c p i h hp ha hf hi => ?config, fun s qp tag c p o h hp ha hf => ?refused,
    fun s qp tag c p h hp ha hl hc => ?snapshot⟩
  case tally =>
    obtain ⟨hc, -, -, -, -, he, -⟩ := id h
    obtain ⟨rfl, rfl⟩ := cmd_key hc
    have ht := exec_tallyRead h hl hpool
    rw [highest_some hn, ← hrs] at ht
    exact ⟨_, ht, finish_delivered hp ha he _ _ _⟩
  case tallySingle =>
    obtain ⟨hc, -, -, -, -, he, hd⟩ := id h
    obtain ⟨rfl, rfl⟩ := cmd_key hc
    obtain ⟨q, k, eq⟩ := highest_draws s (s.tallies.map fun r => fieldAt r 0 4)
    have ht := exec_tallyRead h (lengthFault_single hd hbuf hl) hpool
    obtain ⟨hlen, hfits⟩ := length_flatMap_take_le (s.tallies.filter fun r => decide (fieldAt c.args 0 4 ≤ fieldAt r 0 4))
      id 32 l fun r hr => tallies_length (List.mem_of_mem_filter hr)
    rw [eq, room_single hbuf, ← hrs] at ht
    rw [← hrs, List.flatMap_id] at hlen hfits
    obtain ⟨hstatus, hcount, hbytes, hnone, hk, hframe⟩ := single_delivery hp ha he hbuf hout hfits rfl
    exact ⟨_, ht, hstatus, hcount, hlen ▸ hbytes, hnone, hk, hframe⟩
  case box =>
    obtain ⟨hc, -, -, -, -, he, -⟩ := id h
    obtain ⟨rfl, rfl⟩ := cmd_key hc
    have ht := exec_bbRead h hl
    rw [highest_some hn, ← hrs] at ht
    exact ⟨_, ht, finish_delivered hp ha he _ _ _⟩
  case boxSingle =>
    obtain ⟨hc, -, -, -, -, he, hd⟩ := id h
    obtain ⟨rfl, rfl⟩ := cmd_key hc
    obtain ⟨q, k, eq⟩ := highest_draws s ((s.bbList 0).map (·.seq))
    obtain ⟨hlen, hfits⟩ := length_flatMap_take_le (s.bbList (fieldAt c.args 0 4)) recordBytes 64 l
      fun r _ => recordBytes_length r
    have ht := exec_bbRead h (lengthFault_single hd hbuf hl)
    rw [eq, room_single hbuf, ← hrs] at ht
    rw [← hrs] at hlen hfits
    obtain ⟨hstatus, hcount, hbytes, hnone, hk, hframe⟩ := single_delivery hp ha he hbuf hout hfits rfl
    exact ⟨_, ht, hstatus, hcount, hlen ▸ hbytes, hnone, hk, hframe⟩
  case config =>
    subst hi
    obtain ⟨hc, -, -, -, -, he, -⟩ := id h
    obtain ⟨rfl, rfl⟩ := cmd_key hc
    obtain ⟨hevent, hmode⟩ := cntFault_none hf
    obtain ⟨x, b, hx, ht⟩ := exec_cntConfig_set h hf
    obtain ⟨hsetE, hsetM, hcleared⟩ := beadTuned_sets (s := s) (i := fieldAt c.args 0 1) x hevent hmode
    have hothers := fun k (hk : k ≠ fieldAt c.args 0 1) (n : RegName) =>
      beadTuned_others (s := s) (event := fieldAt c.args 1 1) (mode := fieldAt c.args 2 1) x n hk
    have honly := beadTuned_only s (fieldAt c.args 0 1) (fieldAt c.args 1 1) (fieldAt c.args 2 1) x
    generalize s.beadTuned (fieldAt c.args 0 1) (fieldAt c.args 1 1) (fieldAt c.args 2 1) x = u at *
    have hp' := plainPair_onlyRegs hp honly
    have hclosed := finish_closed (s := ({ u with bead := b } : State).saveSettings) hp' ha he St.success 0 false
    obtain ⟨⟨m, em⟩, hkm, -⟩ := honly
    subst em
    refine ⟨_, ht, (hclosed.kept _ _ (by decide)).trans hsetE, (hclosed.kept _ _ (by decide)).trans hsetM, fun k hk =>
      ⟨(hclosed.kept _ _ (by decide)).trans (hothers k hk _), (hclosed.kept _ _ (by decide)).trans (hothers k hk _)⟩,
      fun ⟨hclear, heven⟩ => ?cleared, hclosed.read_status, hclosed.cmd_none, fun n i hn => ?kept, ?frame⟩
    case cleared =>
      obtain ⟨hvalue, hcarry⟩ := hclosed.still _ (hsetM ▸ heven)
      obtain ⟨hvalue', hcarry'⟩ := hcleared (hx hclear)
      exact ⟨hvalue.trans hvalue', hcarry.trans hcarry'⟩
    case kept => exact (hclosed.kept n i fun e => hn (List.mem_append_right _ e)).trans (hkm n i hn)
    case frame =>
      exact congrArg (fun x : State => { x with regs := s.regs, bead := s.bead, bo.current := s.bo.current })
        hclosed.frame
  case refused =>
    obtain ⟨hc, -, -, -, -, he, -⟩ := id h
    obtain ⟨rfl, rfl⟩ := cmd_key hc
    have hclosed := finishWith_closed hp ha he St.outOfRange 0 o
    refine ⟨_, exec_cntConfig_refused h hf, ?_, hclosed.kept, hclosed.frame⟩
    simpa using hclosed.ended
  case snapshot =>
    obtain ⟨hcmd, -, -, -, -, he, -⟩ := id h
    obtain ⟨rfl, rfl⟩ := cmd_key hcmd
    have ht := exec_cntSnapshot h hl
    have hsnap := snapped_only (s.rangesWrite c.buf s.beadBytes) (bit (fieldAt c.args 0 1) 0) s.now
    have hclosed := finish_closed (plainPair_onlyRegs (plainPair_ranges hp c.buf s.beadBytes) hsnap) ha he St.success
      (s.now % 2 ^ 64) false
    have htime : ((s.rangesWrite c.buf s.beadBytes).snapped (bit (fieldAt c.args 0 1) 0) s.now).reg .LAST_SNAPSHOT_TIME =
      s.now % 2 ^ 64 := State.set_reg _ _ _
    have hzero := fun (hclear : bit (fieldAt c.args 0 1) 0 = true) i (hi : i < 32) =>
      hclear ▸ snapped_zero (s := s.rangesWrite c.buf s.beadBytes) hi s.now
    obtain ⟨m, er⟩ := rangesWrite_mem s c.buf s.beadBytes
    obtain ⟨⟨m', es⟩, hk, -⟩ := hsnap
    have hreg {n : RegName} {i : Nat} : (s.rangesWrite c.buf s.beadBytes).get n i = s.get n i := by rw [er]; rfl
    refine ⟨_, hc ▸ ht, ⟨hclosed.ended_of (by rw [es, er]), ?mem⟩, (hclosed.kept _ _ (by decide)).trans htime,
      fun hclear i hi heven => ?zero, fun n i hn => ?kept, ?frame⟩
    case mem =>
      refine hclosed.mem.trans ?_
      rw [es]
      rfl
    case zero =>
      obtain ⟨hvalue, hcarry⟩ := hclosed.still i (by rw [hk _ _ (by decide), hreg, heven])
      obtain ⟨hvalue', hcarry'⟩ := hzero hclear i hi
      exact ⟨hvalue.trans hvalue', hcarry.trans hcarry'⟩
    case kept =>
      exact (hclosed.kept n i fun e => hn (List.mem_cons_of_mem _ e)).trans ((hk n i hn).trans hreg)
    case frame =>
      have hframe := congrArg (fun x : State => { x with regs := s.regs, host := s.host }) hclosed.frame
      rw [es, er] at hframe ⊢
      exact hframe

end Sys2Proof.Machine
end

section
/-! SUPPORT. What an append with no cartridge mounted can change: the pool, the bobbins' registers, the burst's kept
triggers and the idle timers (07 R299-R307). -/

set_option Elab.async false

namespace Sys2Proof.Machine

/-- `s` is `r` but for registers of `l`, the records of bobbins in `own`, the pool's bytes and poison, the burst's triggers
and the idle timers; no cartridge is mounted. -/
structure Appends (own : List Nat) (l : List RegName) (r s : State) : Prop where
  unmounted : s.md.mounted = false
  frame : ∃ m lm bu idle tried,
    s = { r with regs := m, lm := lm, bu := bu, pw.idleFrom := idle, pw.hibTried := tried }
  lease : s.lm.lease = r.lm.lease
  length : s.lm.recs.length = r.lm.recs.length
  recs : ∀ k, k ∉ own → s.recs k = r.recs k
  kept : RegsKept l r s

/-- The registers of a bobbin that making room changes. -/
def roomRegs : List RegName := [.HEAD_OFFSET, .FLUSHED_OFFSET, .WRAP_LOST_KIB]

/-- The registers that follow a bobbin's contents, and the beads. -/
def tellRegs : List RegName :=
  [.TOFFSET_CEIL, .TSEQ_CEIL, .BOB_FULL, .BOB_HOLDING, .BOB_MARKED_PENDING] ++ beadRegs

/-- The registers that an append changes. -/
def appendRegs : List RegName := roomRegs ++ [.TAIL_OFFSET, .RC_SEQ_NEXT, .REC_DROPPED] ++ tellRegs

theorem getD_modify_ne (l : List (List Rec)) (f : List Rec → List Rec) {b k : Nat} (h : k ≠ b) :
    (l.modify b f).getD k [] = l.getD k [] := by
  simp [List.getD_eq_getElem?_getD, h.symm]

namespace Appends

variable {own : List Nat} {l : List RegName}

theorem refl {s : State} (h : s.md.mounted = false) : Appends own l s s :=
  ⟨h, ⟨s.regs, s.lm, s.bu, s.pw.idleFrom, s.pw.hibTried, rfl⟩, rfl, rfl, fun _ _ => rfl, fun _ _ _ => rfl⟩

section
variable {r s t : State} (h : Appends own l r s)
include h

theorem trans (g : Appends own l s t) : Appends own l r t := by
  obtain ⟨m, lm, bu, idle, tried, e⟩ := h.frame
  obtain ⟨m', lm', bu', idle', tried', e'⟩ := g.frame
  refine ⟨g.unmounted, ⟨m', lm', bu', idle', tried', ?_⟩, g.lease.trans h.lease, g.length.trans h.length,
    fun k hk => (g.recs k hk).trans (h.recs k hk), fun n i hn => (g.kept n i hn).trans (h.kept n i hn)⟩
  rw [e', e]

theorem mono {own' : List Nat} {l' : List RegName} (ho : own ⊆ own') (hl : l ⊆ l') : Appends own' l' r s :=
  ⟨h.unmounted, h.frame, h.lease, h.length, fun k hk => h.recs k fun e => hk (ho e), h.kept.mono hl⟩

/-- The pool and the burst change. -/
theorem same {lm : LoomS} {bu : BurstS} (hlease : lm.lease = s.lm.lease := by rfl)
    (hlength : lm.recs.length = s.lm.recs.length := by rfl)
    (hrecs : ∀ k, k ∉ own → lm.recs.getD k [] = s.recs k := by intros; rfl) :
    Appends own l r { s with lm := lm, bu := bu } := by
  obtain ⟨m, lm', bu', idle, tried, e⟩ := h.frame
  exact ⟨h.unmounted, ⟨m, lm, bu, idle, tried, by rw [e]⟩, hlease.trans h.lease, hlength.trans h.length,
    fun k hk => (hrecs k hk).trans (h.recs k hk), h.kept⟩

theorem restartIdle : Appends own l r s.restartIdle := by
  obtain ⟨m, lm, bu, idle, tried, e⟩ := h.frame
  exact ⟨h.unmounted, ⟨m, lm, bu, s.clock, false, by rw [State.restartIdle, e]⟩, h.lease, h.length, h.recs, h.kept⟩

theorem put {n : RegName} {i v : Nat} (hn : n ∈ l := by decide) : Appends own l r (s.put n i v) := by
  obtain ⟨m, lm, bu, idle, tried, e⟩ := h.frame
  refine ⟨h.unmounted, ⟨(s.put n i v).regs, lm, bu, idle, tried, by rw [State.put, e]⟩, h.lease, h.length, h.recs,
    fun k j hk => ?_⟩
  exact (regGet_regPut_name _ _ _ _ (ne_of_mem_of_not_mem hn hk).symm).trans (h.kept k j hk)

theorem add {n : RegName} {i k : Nat} (hn : n ∈ l := by decide) : Appends own l r (s.add n i k) := h.put hn

theorem ite {c : Prop} [Decidable c] (g : Appends own l r t) : Appends own l r (if c then s else t) := by
  split
  · exact h
  · exact g

theorem foldl {α : Type} {f : State → α → State} {xs : List α} (hf : ∀ t a, Appends own l r t → Appends own l r (f t a)) :
    Appends own l r (xs.foldl f s) := List.foldlRecOn xs f h fun t ht a _ => hf t a ht

theorem only {l' : List RegName} (g : OnlyRegs l' s t) (hl : l' ⊆ l := by decide) : Appends own l r t := by
  obtain ⟨⟨m, e⟩, hk, -⟩ := g
  subst e
  obtain ⟨m', lm, bu, idle, tried, e⟩ := h.frame
  exact ⟨h.unmounted, ⟨m, lm, bu, idle, tried, by rw [e]⟩, h.lease, h.length, h.recs,
    fun n i hn => (hk n i fun e => hn (hl e)).trans (h.kept n i hn)⟩

end

/-! ## Room (07 R300-R302) -/

section
variable {r s : State} (h : Appends own l r s)
include h

theorem cleanGranule {g : Nat} : Appends own l r (s.cleanGranule g) := by
  unfold State.cleanGranule
  exact .ite h.same h

theorem bobFlags {b : Nat} (hl : tellRegs ⊆ l := by decide) : Appends own l r (s.bobFlags b) := by
  unfold State.bobFlags
  exact ((h.put (hl (by decide))).put (hl (by decide))).put (hl (by decide))

theorem raiseHead {b x : Nat} (hb : b ∈ own) (hl : roomRegs ⊆ l := by decide) : Appends own l r (s.raiseHead b x) := by
  unfold State.raiseHead
  extract_lets _ _ s1 _ s2 _ s3 _ _ _ _ s4
  have h1 : Appends own l r s1 := h.foldl fun _ _ ht => .ite ht.cleanGranule ht
  have h2 : Appends own l r s2 := h1.same (hlength := by simp) (hrecs := fun k hk => getD_modify_ne _ _ fun e => hk (e ▸ hb))
  have h3 : Appends own l r s3 := h2.put (hl (by decide))
  have h4 : Appends own l r s4 := h3.same
  exact .ite h (.ite ((h4.put (hl (by decide))).put (hl (by decide))) h3)

theorem wrapFree {b need n : Nat} (hb : b ∈ own) (hl : roomRegs ⊆ l := by decide) :
    Appends own l r (s.wrapFree b need n) := by
  induction n generalizing s with
  | zero => exact h
  | succ n ih => exact .ite h (ih (h.raiseHead hb hl))

end

section
variable {r : State} {p q : Bool × State}

theorem iteSnd {c : Prop} [Decidable c] (h : Appends own l r p.2) (g : Appends own l r q.2) :
    Appends own l r (if c then p else q).2 := by
  split
  · exact h
  · exact g

end

section
variable {r s : State} (h : Appends own l r s)
include h

theorem makeRoom {b len keep : Nat} (hb : b ∈ own) (hl : roomRegs ⊆ l := by decide) :
    Appends own l r (s.makeRoom b len keep).2 :=
  have hw := h.wrapFree hb hl
  .iteSnd (.iteSnd hw (.iteSnd (hw.raiseHead hb hl) hw)) (.iteSnd (h.raiseHead hb hl) h)

/-! ## The record, and what follows it (07 R299, R306, R307, R856) -/

theorem ringWrite {b o : Nat} {bs : List Byte} : Appends own l r (s.ringWrite b o bs) := by
  unfold State.ringWrite
  exact h.same

theorem raiseCeilings {b : Nat} (hl : tellRegs ⊆ l := by decide) : Appends own l r (s.raiseCeilings b) := by
  unfold State.raiseCeilings
  extract_lets s1
  have h1 : Appends own l r s1 := .ite (h.put (hl (by decide))) h
  exact .ite (h1.put (hl (by decide))) h1

theorem pulse {code v : Nat} (hl : tellRegs ⊆ l := by decide) : Appends own l r (s.pulse code v) :=
  h.only (pulse_only s code v) fun _ hn => hl (List.mem_append_right _ hn)

/-- With no cartridge mounted no burst is allowed: a trigger is kept or has no effect. -/
theorem trigger {bobs : List Nat} {mark : Bool} {flush : Option (Nat × Nat)} :
    Appends own l r (s.trigger bobs mark flush) := by
  have hb : s.burstAllowed = false := by simp [State.burstAllowed, h.unmounted]
  unfold State.trigger
  rw [if_pos (by simp [hb])]
  exact .ite h.same h

theorem flushTriggers {b p all : Nat} {full : Bool} : Appends own l r (s.flushTriggers b p all full) := by
  unfold State.flushTriggers
  extract_lets _ _ s1 s2
  have h1 : Appends own l r s1 := .ite h.trigger h
  have h2 : Appends own l r s2 := .ite h1.trigger h1
  exact .ite h2.trigger h2

end

section
variable {r s : State} (h : Appends own l r s)
include h

theorem commitRec {b : Nat} {x : Rec} (hb : b ∈ own)
    (hl : tellRegs ++ [.TAIL_OFFSET, .RC_SEQ_NEXT] ⊆ l := by decide) : Appends own l r (s.commitRec b x) := by
  unfold State.commitRec
  extract_lets _ s1 s2 s3
  have hl' : tellRegs ⊆ l := List.Subset.trans (by decide) hl
  have h1 : Appends own l r s1 :=
    h.same (hlength := by simp) (hrecs := fun k hk => getD_modify_ne _ _ fun e => hk (e ▸ hb))
  have h2 : Appends own l r s2 := (h1.put (hl (by decide))).put (hl (by decide))
  have h3 : Appends own l r s3 := (h2.raiseCeilings hl').bobFlags hl'
  exact ((h3.pulse hl').pulse hl').restartIdle

theorem writeRec {b : Nat} {payload : List Byte} {flags source time : Nat} (hb : b ∈ own)
    (hl : tellRegs ++ [.TAIL_OFFSET, .RC_SEQ_NEXT] ⊆ l := by decide) :
    Appends own l r (s.writeRec b payload flags source time) := h.ringWrite.commitRec hb hl

theorem tryAppend {b : Nat} {payload : List Byte} {flags source time : Nat} (hb : b ∈ own) (hl : appendRegs ⊆ l := by decide) :
    Appends own l r (s.tryAppend b payload flags source time).2 :=
  have hroom := h.makeRoom hb (List.Subset.trans (by decide) hl)
  have hdrop : RegName.REC_DROPPED ∈ l := hl (by decide)
  .iteSnd (h.add hdrop) (.iteSnd (hroom.writeRec hb (List.Subset.trans (by decide) hl)).flushTriggers
    ((hroom.add hdrop).bobFlags (List.Subset.trans (by decide) hl)))

theorem appendLog {b : Nat} {payload : List Byte} {flags source time : Nat} (hb : b ∈ own)
    (hl : appendRegs ⊆ l := by decide) : Appends own l r (s.appendLog b payload flags source time) :=
  .ite (h.tryAppend hb hl) (.ite h.same (h.add (hl (by decide))))

end

end Appends

/-! ## A record that fits (07 R300-R307) -/

/-- A record listed at the tail, the tail past it and its sequence used. -/
def State.listed (s : State) (b : Nat) (x : Rec) : State :=
  (({ s with lm.recs := s.lm.recs.modify b (· ++ [x]) } : State).put .TAIL_OFFSET b (x.off + x.len)).put .RC_SEQ_NEXT b
    (x.seq + 1)

section
variable {s t : State} {b n : Nat}

/-- What follows changes no records and neither tail nor sequence. -/
theorem commitRec_listed (h : s.md.mounted = false) (x : Rec) : Appends [] tellRegs (s.listed b x) (s.commitRec b x) := by
  unfold State.commitRec
  extract_lets _ s1 s2 s3
  have h2 : Appends [] tellRegs (s.listed b x) s2 := .refl h
  have h3 : Appends [] tellRegs (s.listed b x) s3 := h2.raiseCeilings.bobFlags
  exact h3.pulse.pulse.restartIdle

theorem listed_tail (x : Rec) : (s.listed b x).get .TAIL_OFFSET b = (x.off + x.len) % 2 ^ 64 ∧
    (s.listed b x).get .RC_SEQ_NEXT b = (x.seq + 1) % 2 ^ 32 := by
  constructor
  · exact (regGet_regPut_name _ _ _ _ (by decide)).trans (State.put_get _ _ _ _)
  · exact State.put_get _ _ _ _

theorem listed_recs (x : Rec) (hb : b < s.lm.recs.length) : (s.listed b x).recs b = s.recs b ++ [x] := by
  simp [State.listed, State.recs, List.getD_eq_getElem?_getD, hb]

/-- Records and tails of the other bobbins stay. -/
theorem listed_others (x : Rec) {k : Nat} (hk : k ≠ b) :
    (s.listed b x).get .TAIL_OFFSET k = s.get .TAIL_OFFSET k ∧ (s.listed b x).recs k = s.recs k := by
  refine ⟨(put_bead_ne _ _ hk).trans (put_bead_ne _ _ hk), getD_modify_ne _ _ hk⟩

theorem recBytes_length (payload : List Byte) (flags source time seq : Nat) :
    (recBytes payload flags source time seq).length = 32 + (payload.length + 7) / 8 * 8 := by
  simp [recBytes, recHeader]
  omega

/-- Room for a record that fits needs no record to go from a bobbin that wraps. -/
theorem makeRoom_fits (h : s.roomFor b n) : (s.makeRoom b (32 + (n + 7) / 8 * 8) 40).1 = true := by
  obtain ⟨-, -, -, -, hfits, -⟩ := h
  unfold State.makeRoom
  extract_lets need u
  obtain ⟨hhold, hfree⟩ | ⟨hwrap, hneed⟩ := hfits
  · rw [if_neg (by omega), if_pos (by omega)]
  · have hdue : need ≤ s.get .HEAD_OFFSET b := by rwa [Nat.add_assoc] at hneed
    have hu : u = s := by
      unfold u
      rw [State.wrapFree, if_pos (.inl hdue)]
    rw [if_pos hwrap, hu, if_pos hdue]

/-- An append that fits makes room, writes its record and sets off the triggers. -/
theorem tryAppend_fits {payload : List Byte} (h : s.roomFor b payload.length) (flags source time : Nat) :
    s.tryAppend b payload flags source time = (true,
      ((s.makeRoom b (32 + (payload.length + 7) / 8 * 8) 40).2.writeRec b payload flags source time).flushTriggers b
        (s.pendingOf b) s.pendingBytes (s.onAt .BOB_FULL b)) := by
  obtain ⟨hup, hlease, -, hsize, -⟩ := id h
  have hroom := makeRoom_fits h
  have hserved : ¬(s.bobSize b = 0 ∨ s.lm.lease.getD b none = none ∨ s.poolUp = false) := by
    rintro (e | e | e)
    · omega
    · exact hlease e
    · simp [hup] at e
  rw [State.tryAppend, if_neg hserved]
  generalize s.makeRoom b (32 + (payload.length + 7) / 8 * 8) 40 = q at *
  obtain ⟨ok, u⟩ := q
  obtain rfl : ok = true := hroom
  rfl

/-- The record that a bobbin gains (07 R306). -/
def State.gainedRec (s : State) (b n source flags time : Nat) : Rec :=
  { off := s.get .TAIL_OFFSET b, len := 32 + (n + 7) / 8 * 8, time := time, seq := s.get .RC_SEQ_NEXT b, flags := flags,
    source := source }

/-- Listed at the old tail, the record is what `Gained` asks for. -/
theorem gained_of_listed {u v : State} {source flags time : Nat} (h : s.roomFor b n) (hb : b < 10)
    (hu : Appends [b] roomRegs s u) (hv : Appends [] tellRegs (u.listed b (s.gainedRec b n source flags time)) v) :
    s.Gained v b n source flags time := by
  obtain ⟨-, -, hlen, -, -, htail, hseq⟩ := h
  obtain ⟨hT, hS⟩ := listed_tail (s := u) (b := b) (s.gainedRec b n source flags time)
  refine ⟨?tail, ?seq, ?last, fun k hk => ?others⟩
  case tail =>
    rw [hv.kept _ _ (by decide), hT, State.gainedRec, ← Nat.add_assoc]
    exact Nat.mod_eq_of_lt htail
  case seq =>
    rw [hv.kept _ _ (by decide), hS, State.gainedRec]
    exact Nat.mod_eq_of_lt hseq
  case last =>
    rw [hv.recs b List.not_mem_nil, listed_recs _ (by rw [hu.length, hlen]; exact hb), List.getLast?_concat]
    rfl
  case others =>
    obtain ⟨hT', hR'⟩ := listed_others (s := u) (s.gainedRec b n source flags time) hk
    exact ⟨(hv.kept _ _ (by decide)).trans (hT'.trans (hu.kept _ _ (by decide))),
      (hv.recs k List.not_mem_nil).trans (hR'.trans (hu.recs k (by simpa using hk)))⟩

/-- The bobbin has gained its record, and nothing else than an append's registers has changed. -/
theorem tryAppend_gained {payload : List Byte} (h : s.takes b payload.length) (hb : b < 10) (flags source time : Nat) :
    (s.tryAppend b payload flags source time).1 = true ∧
      s.Gained (s.tryAppend b payload flags source time).2 b payload.length source flags time ∧
      Appends [b] appendRegs s (s.tryAppend b payload flags source time).2 := by
  obtain ⟨⟨-, hm, -⟩, hroom⟩ := h
  have hall : Appends [b] appendRegs s (s.tryAppend b payload flags source time).2 :=
    (Appends.refl hm).tryAppend (List.mem_singleton_self b)
  rw [tryAppend_fits hroom] at hall ⊢
  refine ⟨rfl, ?_, hall⟩
  have hu : Appends [b] roomRegs s (s.makeRoom b (32 + (payload.length + 7) / 8 * 8) 40).2 :=
    (Appends.refl hm).makeRoom (List.mem_singleton_self b)
  generalize (s.makeRoom b (32 + (payload.length + 7) / 8 * 8) 40).2 = u at *
  have hrec : u.writeRec b payload flags source time =
      (u.ringWrite b (u.get .TAIL_OFFSET b) (recBytes payload flags source time (u.get .RC_SEQ_NEXT b))).commitRec b
        (s.gainedRec b payload.length source flags time) := by
    rw [State.writeRec, recBytes_length, State.gainedRec, hu.kept .TAIL_OFFSET b (by decide),
      hu.kept .RC_SEQ_NEXT b (by decide)]
  have hw : Appends [b] roomRegs s
      (u.ringWrite b (u.get .TAIL_OFFSET b) (recBytes payload flags source time (u.get .RC_SEQ_NEXT b))) := hu.ringWrite
  rw [hrec]
  generalize u.ringWrite b (u.get .TAIL_OFFSET b) (recBytes payload flags source time (u.get .RC_SEQ_NEXT b)) = w at *
  exact gained_of_listed hroom hb hw (commitRec_listed hw.unmounted _).flushTriggers

end

end Sys2Proof.Machine
end

section
/-! O22. TIME_SET and TIME_GET (06 R273-R275, 08 R378, R381, 03 R111). -/

namespace Sys2Proof.Machine

/-- `u` is `s` with the host's time `v` taken: its registers, its time base, and what stays (06 R273, 08 R378). -/
structure State.TimeTaken (s u : State) (v : Nat) : Prop where
  time : u.time = v
  unset : u.reg .TIME_UNSET = 0
  state : u.reg .TIME_STATE = if s.reg .TIME_STATE = 0 then 1 else s.reg .TIME_STATE
  tb : u.tb = { s.tb with slew := 0 }
  still : u.md = s.md ∧ u.sec = s.sec ∧ u.sp = s.sp ∧ u.q = s.q
  pair : ∀ qp p, s.plainPair qp p → u.plainPair qp p

/-- The time and its two registers, before the set is told and recorded. -/
def State.timeSet (s : State) (v : Nat) : State :=
  let u : State := { s with time := v, pw.fineAt := 0, tb.slew := 0 }
  (if u.reg .TIME_STATE = 0 then u.set .TIME_STATE 1 else u).set .TIME_UNSET 0

section
variable {s u : State} {v : Nat}

theorem timeSet_taken (s : State) (v : Nat) : s.TimeTaken (s.timeSet v) v := by
  have honly : OnlyRegs [.TIME_STATE, .TIME_UNSET] { s with time := v, pw.fineAt := 0, tb.slew := 0 } (s.timeSet v) :=
    .set (.ite (.set (.refl _ _) (by decide)) (.refl _ _)) (by decide)
  have hpair : ∀ qp p, s.plainPair qp p → (s.timeSet v).plainPair qp p := fun qp p hp =>
    plainPair_onlyRegs (s := { s with time := v, pw.fineAt := 0, tb.slew := 0 }) hp honly
  obtain ⟨⟨m, e⟩, -⟩ := honly
  have hu : s.timeSet v = { s with time := v, pw.fineAt := 0, tb.slew := 0, regs := m } := e
  refine ⟨by rw [hu], State.set_reg _ _ _, ?_, by rw [hu], by rw [hu]; exact ⟨rfl, rfl, rfl, rfl⟩, hpair⟩
  refine (State.set_get_ne _ _ (by decide)).trans ?_
  change State.reg (if s.reg .TIME_STATE = 0 then _ else _) _ = _
  rw [apply_ite (fun w : State => w.reg .TIME_STATE), State.set_reg]
  rfl

namespace State.TimeTaken

/-- Telling of it and recording it change none of this. -/
theorem of_frame (h : s.TimeTaken u v) {w : State} {l : List RegName} (hk : RegsKept l u w)
    (hl : ∀ n ∈ [RegName.TIME_UNSET, .TIME_STATE, .LINK_STATE], n ∉ l)
    (e : ∃ m n hm p wn b lm bu idle tried, w = { u with
      regs := m, host := { u.host with notices := n, mem := hm, msixPending := p, wakeN := wn }, bb := b,
      lm := lm, bu := bu, pw.idleFrom := idle, pw.hibTried := tried }) : s.TimeTaken w v := by
  obtain ⟨m, n, hm, p, wn, b, lm, bu, idle, tried, e⟩ := e
  obtain ⟨hunset, hstate, hlink⟩ : w.reg .TIME_UNSET = u.reg .TIME_UNSET ∧ w.reg .TIME_STATE = u.reg .TIME_STATE ∧
    w.reg .LINK_STATE = u.reg .LINK_STATE :=
      ⟨hk _ _ (hl _ (by decide)), hk _ _ (hl _ (by decide)), hk _ _ (hl _ (by decide))⟩
  refine ⟨?time, hunset.trans h.unset, hstate.trans h.state, ?tb, ?still, fun qp q hq => ?pair⟩
  case pair =>
    refine plainPair_of_frame (h.pair qp q hq) (by rw [e]) ?_ (by rw [e]) (by rw [e]) (by rw [e])
    rw [State.canPost, State.canPost, State.p0Up, State.p0Up, hlink, e]
  all_goals rw [e]
  exacts [h.time, h.tb, h.still]

theorem told (h : s.TimeTaken u v) {w : State} (g : Machine.Told bookRegs u w) : s.TimeTaken w v := by
  obtain ⟨⟨m, n, hm, p, wn, b, e⟩, hk, -⟩ := g
  exact h.of_frame hk (by decide) ⟨m, n, hm, p, wn, b, u.lm, u.bu, u.pw.idleFrom, u.pw.hibTried, e⟩

theorem recorded (h : s.TimeTaken u v) {own : List Nat} {w : State} (g : Appends own appendRegs u w) : s.TimeTaken w v := by
  obtain ⟨-, ⟨m, lm, bu, idle, tried, e⟩, -, -, -, hk⟩ := g
  exact h.of_frame hk (by decide) ⟨m, u.host.notices, u.host.mem, u.host.msixPending, u.host.wakeN, u.bb, lm, bu, idle,
    tried, e⟩

end State.TimeTaken

/-- The host's set of the time takes it, tells of a forced one and records it (08 R381). -/
theorem hostSet_taken (hd : s.noDisc) (v : Nat) (force : Bool) : s.TimeTaken (s.hostSet v force) v := by
  obtain ⟨-, hm, -⟩ := hd
  have htold : s.TimeTaken (if force then (s.timeSet v).report Code.timeForced else s.timeSet v) v := by
    cases force
    · exact timeSet_taken s v
    · exact (timeSet_taken s v).told (report_told _ _ _ _ _)
  exact htold.recorded ((Appends.refl (htold.still.1 ▸ hm)).appendLog (List.mem_singleton_self 9))

section
variable {qp tag : Nat} {c : QCmd} {p : QPair}

/-- The rows of TIME_SET (06 R273-R275). -/
theorem exec_timeSet_refused (h : s.cmdReady qp tag 0x140 c) (hr : s.reg .TIME_STATE = 2 ∨ s.reg .TIME_STATE = 3 ∨
    s.on .TIME_UNSET = false ∧ (bit (fieldAt c.args 8 1) 0 = false ∨ fieldAt c.args 0 8 ≤ s.now)) :
    exec (.timeSet qp tag) s = .next (s.finishWith c St.timeRefused 0 0) := by
  have e : exec (.timeSet qp tag) s = execTimeSet qp tag s := rfl
  rw [e, execTimeSet, runCmd_ready h]
  obtain hr | hr | ⟨hset, hforce | hback⟩ := hr
  · simp [hr]
  · simp [hr]
  · simp [hset, hforce]
  · simp [hset, hback]

theorem exec_timeSet_taken (h : s.cmdReady qp tag 0x140 c) (h2 : s.reg .TIME_STATE ≠ 2) (h3 : s.reg .TIME_STATE ≠ 3)
    (ht : s.on .TIME_UNSET = true ∨ bit (fieldAt c.args 8 1) 0 = true ∧ s.now < fieldAt c.args 0 8) : ∃ force,
    exec (.timeSet qp tag) s = .next ((s.hostSet (fieldAt c.args 0 8) force).finish c St.success 0) := by
  have e : exec (.timeSet qp tag) s = execTimeSet qp tag s := rfl
  rw [e, execTimeSet, runCmd_ready h]
  cases hset : s.on .TIME_UNSET with
  | true => exact ⟨false, by simp [h2, h3]⟩
  | false =>
    obtain ⟨hf, ht⟩ := ht.resolve_left (by simp [hset])
    exact ⟨true, by simp [h2, h3, hf, ht]⟩

theorem exec_timeGet (h : s.cmdReady qp tag 0x141 c) :
    exec (.timeGet qp tag) s = .next (s.finish c St.success (s.now % 2 ^ 64) s.coarse) := by
  have e : exec (.timeGet qp tag) s = execTimeGet qp tag s := rfl
  rw [e, execTimeGet, runCmd_ready h]

/-- The end of a TIME_SET that is taken. -/
theorem timeSet_ends (hp : s.plainPair c.qp p) (ha : c.abortBy = []) (he : c.ended = none) (hd : s.noDisc) (v : Nat)
    (force : Bool) : let t := (s.hostSet v force).finish c St.success 0
      t.time = v ∧ t.reg .TIME_UNSET = 0 ∧
        t.reg .TIME_STATE = (if s.reg .TIME_STATE = 0 then 1 else s.reg .TIME_STATE) ∧ t.tb = { s.tb with slew := 0 } ∧
        t.host.mem.readN (p.cqBase + 16 * p.cqWrite) 4 = leBytes 2 c.tag ++ leBytes 2 St.success ∧
        t.cmd c.qp c.tag = none ∧ t.md = s.md ∧ t.sec = s.sec ∧ t.sp = s.sp := by
  intro t
  have hs := hostSet_taken hd v force
  have h : (s.hostSet v force).Closed t c p St.success 0 false := finish_closed (hs.pair _ _ hp) ha he _ _ _
  have hkept {α : Type} (f : State → α) (hf : ∀ x m (n : HostS) (q : QueueS), f { x with regs := m, host := n, q := q } = f x) :
      f t = f (s.hostSet v force) := (hf t _ _ _).symm.trans (congrArg f h.frame)
  obtain ⟨hmd, hsec, hsp, -⟩ := hs.still
  exact ⟨(hkept State.time fun _ _ _ _ => rfl).trans hs.time, (h.kept _ _ (by decide)).trans hs.unset,
    (h.kept _ _ (by decide)).trans hs.state, (hkept State.tb fun _ _ _ _ => rfl).trans hs.tb, h.read_status, h.cmd_none,
    (hkept State.md fun _ _ _ _ => rfl).trans hmd, (hkept State.sec fun _ _ _ _ => rfl).trans hsec,
    (hkept State.sp fun _ _ _ _ => rfl).trans hsp⟩

end

end

/-- Settles O22: the host's time is taken, told of and recorded before the command ends. -/
theorem timeIsSetAndRead : Obligations.TimeIsSetAndRead := by
  unfold Obligations.TimeIsSetAndRead
  refine ⟨?unset, ?forced, ?refused, ?get⟩
  case unset =>
    intro s qp tag c p h hp ha hd hu h2 h3
    obtain ⟨hc, -, -, -, -, he, -⟩ := id h
    obtain ⟨rfl, rfl⟩ := cmd_key hc
    obtain ⟨force, e⟩ := exec_timeSet_taken h h2 h3 (.inl hu)
    exact ⟨_, e, timeSet_ends hp ha he hd _ _⟩
  case forced =>
    intro s qp tag c p h hp ha hd hu h2 h3 hf ht
    obtain ⟨hc, -, -, -, -, he, -⟩ := id h
    obtain ⟨rfl, rfl⟩ := cmd_key hc
    obtain ⟨force, e⟩ := exec_timeSet_taken h h2 h3 (.inr ⟨hf, ht⟩)
    obtain ⟨htime, hunset, -, -, hrest⟩ := timeSet_ends hp ha he hd (fieldAt c.args 0 8) force
    exact ⟨_, e, htime, hunset, hrest⟩
  case refused =>
    intro s qp tag c p h hp ha hr
    obtain ⟨hc, -, -, -, -, he, -⟩ := id h
    obtain ⟨rfl, rfl⟩ := cmd_key hc
    have hclosed := finishWith_closed hp ha he St.timeRefused 0 0
    exact ⟨_, exec_timeSet_refused h hr, hclosed.ended, hclosed.kept, hclosed.frame⟩
  case get =>
    intro s qp tag c p h hp ha
    obtain ⟨hc, -, -, -, -, he, -⟩ := id h
    obtain ⟨rfl, rfl⟩ := cmd_key hc
    have hclosed := finish_closed hp ha he St.success (s.now % 2 ^ 64) s.coarse
    exact ⟨_, exec_timeGet h, hclosed.read_status, hclosed.read_flags,
      hclosed.read_result.trans (leBytes_congr (by norm_num)), hclosed.cmd_none, hclosed.kept, hclosed.frame⟩

end Sys2Proof.Machine
end

section
/-! O19. POOL_READ and POOL_APPEND (06 R255-R260, 07 R297, R300, R306, R307). -/

namespace Sys2Proof.Machine

section
variable {s u t : State} {qp tag b o n k : Nat} {c : QCmd} {p : QPair} {part : Option Nat} {r : List Byte}

/-! ## A command under way -/

/-- A command whose marks change is found with them. -/
theorem setCmd_cmd {f : QCmd → QCmd} (h : s.cmd c.qp c.tag = some c) (hf : ∀ d, (f d).qp = d.qp ∧ (f d).tag = d.tag) :
    (s.setCmd c f).cmd c.qp c.tag = some (f c) := by
  have hkey : ((fun d : QCmd => d.qp == c.qp && d.tag == c.tag) ∘ fun d : QCmd =>
      if d.qp == c.qp && d.tag == c.tag then f d else d) = fun d => d.qp == c.qp && d.tag == c.tag := by
    funext d
    obtain ⟨hq, ht⟩ := hf d
    simp only [Function.comp_apply]
    split
    · rw [hq, ht]
    · rfl
  rw [State.cmd, State.setCmd, List.find?_map, hkey, ← State.cmd, h]
  simp

theorem setCmd_length (f : QCmd → QCmd) : (s.setCmd c f).q.cmds.length = s.q.cmds.length := by simp [State.setCmd]

/-! ## POOL_READ -/

/-- Ranges before the first byte of a buffer hold none. -/
theorem rangesWrite_dropRanges_zero (l : List (Nat × Nat)) (bs : List Byte) :
    s.rangesWrite (dropRanges 0 l) bs = s.rangesWrite l bs := by
  induction l generalizing s bs with
  | nil => rfl
  | cons x l ih =>
    obtain ⟨a, _ | n⟩ := x
    · have hnone : s.hostWrite a [] = s := ite_self s
      simpa [dropRanges, State.rangesWrite, hnone] using ih bs
    · simp [dropRanges]

/-- Bytes that a POOL_READ has still to move (06 R255, R256). -/
def State.readLeft (s : State) (c : QCmd) (b o : Nat) : Nat :=
  min (min c.room 0x1000000 - c.count) (s.get .TAIL_OFFSET b - (o + c.count))

theorem exec_poolRead (h : s.cmdReady qp tag 0x110 c) (hl : c.lengthFault 1 (some 0x1000000) = none)
    (hb : b = fieldAt c.args 0 2) (ho : o = fieldAt c.args 8 8) (hthere : s.bobbinAbsent b = false)
    (hp : s.poolLost = false) (hs : c.started = true ∨ o < s.get .TAIL_OFFSET b) :
    exec (.poolRead qp ⟨tag, part⟩) s = .next (s.poolReadOn c b o (part.getD 0x1000000)) := by
  have e : exec (.poolRead qp ⟨tag, part⟩) s = execPoolRead qp ⟨tag, part⟩ s := rfl
  have hbeyond : ¬(c.started = false ∧ s.get .TAIL_OFFSET b ≤ o) := by
    rintro ⟨hns, hle⟩
    exact hs.elim (by simp [hns]) (by omega)
  rw [e, execPoolRead, runCmd_ready h]
  simp only [hl, ← hb, ← ho, hthere, hp, if_neg hbeyond, Bool.false_eq_true, if_false]

theorem exec_poolRead_beyond (h : s.cmdReady qp tag 0x110 c) (hl : c.lengthFault 1 (some 0x1000000) = none)
    (hs : c.started = false) (hb : b = fieldAt c.args 0 2) (ho : o = fieldAt c.args 8 8)
    (hthere : s.bobbinAbsent b = false) (hp : s.poolLost = false) (ht : s.get .TAIL_OFFSET b ≤ o) :
    exec (.poolRead qp ⟨tag, part⟩) s = .next (s.finishWith c St.rangeBeyond 0 0) := by
  have e : exec (.poolRead qp ⟨tag, part⟩) s = execPoolRead qp ⟨tag, part⟩ s := rfl
  rw [e, execPoolRead, runCmd_ready h]
  simp [hl, ← hb, ← ho, hthere, hp, hs, ht]

theorem exec_poolRead_absent (h : s.cmdReady qp tag 0x110 c) (hl : c.lengthFault 1 (some 0x1000000) = none)
    (hb : s.bobbinAbsent (fieldAt c.args 0 2) = true) :
    exec (.poolRead qp ⟨tag, part⟩) s = .next (s.finishWith c St.bobbinUnknown 0 0) := by
  have e : exec (.poolRead qp ⟨tag, part⟩) s = execPoolRead qp ⟨tag, part⟩ s := rfl
  rw [e, execPoolRead, runCmd_ready h]
  simp [hl, hb]

theorem poolReadOn_gone (h : o + c.count < s.get .HEAD_OFFSET b) (upTo : Nat) :
    s.poolReadOn c b o upTo = s.finishWith c St.rangeGone c.count 0 := by rw [State.poolReadOn, if_pos h]

/-- A row that leaves bytes to move. -/
theorem poolReadOn_part (hh : s.get .HEAD_OFFSET b ≤ o + c.count) (hk : k < s.readLeft c b o) : ∃ bad,
    s.poolReadOn c b o k = (s.rangesWrite (dropRanges c.count c.buf) (s.ringRead b (o + c.count) k)).setCmd c fun d =>
      { d with started := true, count := c.count + k, poison := bad } := by
  have hleft : min k (s.readLeft c b o) = k := by omega
  unfold State.readLeft at hk hleft
  rw [State.poolReadOn, if_neg (by omega)]
  simp only [hleft, if_pos hk]
  exact ⟨_, rfl⟩

/-- The row that moves everything. -/
theorem poolReadOn_all (hc : c.count = 0) (hpoison : c.poison = none) (hh : s.get .HEAD_OFFSET b ≤ o)
    (hn : n = min (min c.room 0x1000000) (s.get .TAIL_OFFSET b - o)) (hpos : 0 < n) :
    s.poolReadOn c b o 0x1000000 = match s.firstPoison b o n with
      | some i => (s.rangesWrite c.buf (s.ringRead b o n)).finishWith c St.poisoned n i
      | none => (s.rangesWrite c.buf (s.ringRead b o n)).finishWith c St.success n 0 := by
  have hcap : min 0x1000000 n = n := by omega
  obtain ⟨m, e⟩ := rangesWrite_mem s c.buf (s.ringRead b o n)
  have hfirst : (s.rangesWrite c.buf (s.ringRead b o n)).firstPoison b o n = s.firstPoison b o n := by rw [e]; rfl
  rw [State.poolReadOn, if_neg (by omega)]
  simp only [hc, Nat.add_zero, Nat.sub_zero, Nat.zero_add, ← hn, hcap, lt_irrefl, if_false, rangesWrite_dropRanges_zero,
    hpoison, hfirst, if_neg hpos.ne', Nat.sub_self, Option.none_or]
  cases s.firstPoison b o n <;> rfl

theorem room_pos {hi : Option Nat} (h : c.lengthFault 1 hi = none) : 0 < c.room := by
  unfold QCmd.lengthFault at h
  split at h
  · cases h
  · split at h
    · cases h
    · omega

/-- A ring without poison reads as its memory. -/
theorem ringRead_clean (h : s.lm.allPoison = false) (hl : s.lm.poison = []) (b o n : Nat) :
    s.ringRead b o n = (List.range n).map fun i => s.lm.mem.read (s.ringAddr b (o + i)) := by
  simp [State.ringRead, State.poisoned, h, hl]

theorem firstPoison_clean (h : s.lm.allPoison = false) (hl : s.lm.poison = []) (b o n : Nat) :
    s.firstPoison b o n = none := by simp [State.firstPoison, State.poisoned, h, hl]

/-- A whole POOL_READ ends with its bytes delivered, or with the first poisoned granule named (06 R257). -/
theorem poolReadOn_all_delivered (hp : s.plainPair c.qp p) (ha : c.abortBy = []) (he : c.ended = none) (hc : c.count = 0)
    (hpoison : c.poison = none) (hh : s.get .HEAD_OFFSET b ≤ o)
    (hn : n = min (min c.room 0x1000000) (s.get .TAIL_OFFSET b - o)) (hpos : 0 < n) :
    (s.firstPoison b o n = none → s.Delivered (s.poolReadOn c b o 0x1000000) c p St.success n (s.ringRead b o n)) ∧
      (∀ i, s.firstPoison b o n = some i →
        s.Delivered (s.poolReadOn c b o 0x1000000) c p St.poisoned (n + i % 2 ^ 32 * 2 ^ 32) (s.ringRead b o n)) ∧
      RegsKept beadRegs s (s.poolReadOn c b o 0x1000000) ∧
      { s.poolReadOn c b o 0x1000000 with regs := s.regs, host := s.host, q := s.q } = s := by
  have hend (st d : Nat) : (s.rangesWrite c.buf (s.ringRead b o n)).finishWith c st n d =
      (s.rangesWrite c.buf (s.ringRead b o n)).finish c st (n + d % 2 ^ 32 * 2 ^ 32) := by
    rw [State.finishWith, Nat.mod_eq_of_lt (by omega : n < 2 ^ 32)]
  have hall := poolReadOn_all hc hpoison hh hn hpos
  cases hfirst : s.firstPoison b o n with
  | none =>
    simp only [hfirst, hend, Nat.zero_mod, Nat.zero_mul, Nat.add_zero] at hall
    rw [hall]
    obtain ⟨hd, hk, hf⟩ := finish_delivered hp ha he (s.ringRead b o n) St.success n
    exact ⟨fun _ => hd, fun i hi => (nomatch hi), hk, hf⟩
  | some i =>
    simp only [hfirst, hend] at hall
    rw [hall]
    obtain ⟨hd, hk, hf⟩ := finish_delivered hp ha he (s.ringRead b o n) St.poisoned (n + i % 2 ^ 32 * 2 ^ 32)
    exact ⟨fun hi => (nomatch hi), fun j hj => Option.some.inj hj ▸ hd, hk, hf⟩

/-- A buffer of one range apart from the entry reads back as delivered. -/
theorem delivered_read {a l st v : Nat} {bytes : List Byte} (hp : s.plainPair qp p) (hbuf : c.buf = [(a, l)])
    (hout : a + l ≤ p.entryAt ∨ p.entryAt + 16 ≤ a) (hlen : bytes.length ≤ l)
    (h : t.host.mem = (s.rangesWrite c.buf bytes).host.mem.writeN p.entryAt (cqeBytes c p st v)) :
    t.host.mem.readN a bytes.length = bytes := by
  obtain ⟨-, -, -, hbus, -⟩ := hp
  rw [h, Mem.readN_writeN_outside _ _ _ _ _ (by rw [← entryBytes_fine, entryBytes_length]; omega), hbuf,
    rangesWrite_single hbus, List.take_of_length_le hlen]
  exact Mem.readN_writeN_same _ _ _

/-- What a command's end leaves. -/
theorem fields_of_frame {m : Map Nat} {host : HostS} {q : QueueS} (h : { t with regs := m, host := host, q := q } = s) :
    t.lm = s.lm ∧ t.md = s.md ∧ t.sp = s.sp ∧ t.sec = s.sec := by
  rw [← h]
  exact ⟨rfl, rfl, rfl, rfl⟩

/-! ## POOL_APPEND -/

theorem invalidateRing_frame (s : State) (b o n : Nat) : ∃ l2, s.invalidateRing b o n = { s with ca.l2 := l2 } := by
  have hline (t : State) (line : Nat) : ∃ l2, t.l2Invalidate line = { t with ca.l2 := l2 } := by
    unfold State.l2Invalidate State.l2Refill
    split <;> split
    · exact ⟨t.ca.l2, rfl⟩
    · split
      · exact ⟨t.ca.l2, rfl⟩
      · exact ⟨_, rfl⟩
    · exact ⟨t.ca.l2, rfl⟩
    · exact ⟨_, rfl⟩
  have htrans {t u v : State} (h : ∃ l2, u = { t with ca.l2 := l2 }) (g : ∃ l2, v = { u with ca.l2 := l2 }) :
      ∃ l2, v = { t with ca.l2 := l2 } := by
    obtain ⟨l2, rfl⟩ := h
    exact g
  have hbytes (t : State) (a m : Nat) : ∃ l2, t.invalidateBytes a m = { t with ca.l2 := l2 } :=
    foldl_rel (fun t u => ∃ l2, u = { t with ca.l2 := l2 }) (fun t => ⟨t.ca.l2, rfl⟩) htrans _ (fun t i => hline t _) _ t
  exact htrans (hbytes _ _ _) (hbytes _ _ _)

/-- The records' own append is kept closed: the recursion over the list alone is unfolded. -/
theorem applyRecords_one (e : s.tryAppend b r (b2n s.coarse) 0 s.now = (true, u)) : s.applyRecords b [r] = (1, u) := by
  obtain ⟨f, hf⟩ : ∃ f, @State.applyRecords = f := ⟨_, rfl⟩
  obtain ⟨g, hg⟩ : ∃ g, @State.tryAppend = g := ⟨_, rfl⟩
  rw [hg] at e
  rw [hf]
  delta State.applyRecords State.applyRecords._f at hf
  rw [hg] at hf
  subst hf
  simp [e]

/-- The lines of the L2 invalidated over what bobbin `b` has gained in `u` (14 R633). -/
def State.gainCleared (s u : State) (b : Nat) : State :=
  u.invalidateRing b (s.get .TAIL_OFFSET b) (u.get .TAIL_OFFSET b - s.get .TAIL_OFFSET b)

/-- `u` is `s` with one record gained by bobbin `b`, and nothing but the pool's state and the idle timers changed beside. -/
structure State.Extends (s u : State) (b n : Nat) : Prop where
  gained : s.Gained u b n 0 (b2n s.coarse) s.now
  lease : u.lm.lease = s.lm.lease
  kept : RegsKept appendRegs s u
  frame : ∃ m lm bu idle tried l2,
    u = { s with regs := m, lm := lm, bu := bu, pw.idleFrom := idle, pw.hibTried := tried, ca.l2 := l2 }

theorem gainCleared_extends (hg : s.Gained u b n 0 (b2n s.coarse) s.now) (h : Appends [b] appendRegs s u) :
    s.Extends (s.gainCleared u b) b n := by
  obtain ⟨-, ⟨m, lm, bu, idle, tried, e⟩, hlease, -, -, hk⟩ := h
  obtain ⟨l2, e'⟩ := invalidateRing_frame u b (s.get .TAIL_OFFSET b) (u.get .TAIL_OFFSET b - s.get .TAIL_OFFSET b)
  rw [State.gainCleared, e']
  exact ⟨hg, hlease, hk, m, lm, bu, idle, tried, l2, congrArg (fun x : State => { x with ca.l2 := l2 }) e⟩

theorem State.Extends.pair (h : s.Extends u b n) (hp : s.plainPair qp p) : u.plainPair qp p := by
  obtain ⟨-, -, hk, m, lm, bu, idle, tried, l2, e⟩ := h
  have hlink : u.reg .LINK_STATE = s.reg .LINK_STATE := hk _ _ (by decide)
  refine plainPair_of_frame hp (by rw [e]) ?_ (by rw [e]) (by rw [e]) (by rw [e])
  rw [State.canPost, State.canPost, State.p0Up, State.p0Up, hlink, e]

theorem State.Extends.still (h : s.Extends u b n) :
    u.md = s.md ∧ u.sp = s.sp ∧ u.sec = s.sec ∧ u.host = s.host ∧ u.q = s.q := by
  obtain ⟨-, -, -, m, lm, bu, idle, tried, l2, e⟩ := h
  rw [e]
  exact ⟨rfl, rfl, rfl, rfl, rfl⟩

/-- Seen from a state with the same pool and the same registers of bobbins. -/
theorem State.Extends.gained_of (h : s.Extends u b n) (hlm : t.lm = u.lm) (hk : RegsKept beadRegs u t) :
    s.Gained t b n 0 (b2n s.coarse) s.now := by
  obtain ⟨htail, hseq, hlast, hothers⟩ := h.gained
  have hrecs (k : Nat) : t.recs k = u.recs k := congrArg (fun l : LoomS => l.recs.getD k []) hlm
  have htails (k : Nat) : t.get .TAIL_OFFSET k = u.get .TAIL_OFFSET k := hk _ _ (by decide)
  refine ⟨(htails b).trans htail, (hk _ _ (by decide)).trans hseq, by rw [hrecs, hlast], fun k hne => ?_⟩
  obtain ⟨ht, hr⟩ := hothers k hne
  exact ⟨(htails k).trans ht, (hrecs k).trans hr⟩

theorem exec_poolAppend {l : List (List Byte)} (h : s.cmdReady qp tag 0x111 c) (hw : s.appendWaits c = false)
    (hl : recordList 0 (c.input.length + 1) c.input = .ok l) (hb : s.bobbinAbsent (fieldAt c.args 0 2) = false)
    (hp : s.poolLost = false) : exec (.poolAppend qp ⟨tag, part⟩) s =
      .next (if s.hostAppends (fieldAt c.args 0 2) = false then s.finishWith c St.noRights c.count 0
        else s.poolAppendOn c (fieldAt c.args 0 2) l (part.getD l.length)) := by
  have e : exec (.poolAppend qp ⟨tag, part⟩) s = execPoolAppend qp ⟨tag, part⟩ s := rfl
  obtain ⟨-, -, -, -, -, -, hdesc⟩ := id h
  rw [e, execPoolAppend, runCmd_ready h]
  simp [hw, hdesc, hl, hb, hp]

theorem exec_poolAppend_malformed (h : s.cmdReady qp tag 0x111 c) (hw : s.appendWaits c = false)
    (hl : recordList 0 (c.input.length + 1) c.input = .error o) :
    exec (.poolAppend qp ⟨tag, part⟩) s = .next (s.finishWith c St.badLength 0 o) := by
  have e : exec (.poolAppend qp ⟨tag, part⟩) s = execPoolAppend qp ⟨tag, part⟩ s := rfl
  obtain ⟨-, -, -, -, -, -, hdesc⟩ := id h
  rw [e, execPoolAppend, runCmd_ready h]
  simp [hw, hdesc, hl]

/-- One record applied of a list of one ends the command; of two it takes the command past its commit point (05
Table 5.7). -/
theorem poolAppendOn_one (hc : c.count = 0) (e : s.applyRecords b [r] = (1, u)) :
    s.poolAppendOn c b [r] 1 = (s.gainCleared u b).finishWith c St.success 1 0 := by
  simp [State.poolAppendOn, hc, e, State.gainCleared]

theorem poolAppendOn_first {q : List Byte} (hc : c.count = 0) (e : s.applyRecords b [r] = (1, u)) :
    s.poolAppendOn c b [r, q] 1 = (s.gainCleared u b).setCmd c fun d =>
      { d with started := true, committed := d.committed || true, count := 1 } := by
  simp [State.poolAppendOn, hc, e, State.gainCleared]

/-- A record that the bobbin takes is applied. -/
theorem applyRecords_extends (h : s.takes b r.length) (hb : b < 10) :
    ∃ u, s.applyRecords b [r] = (1, u) ∧ s.Extends (s.gainCleared u b) b r.length := by
  obtain ⟨hok, hg, hall⟩ := tryAppend_gained h hb (b2n s.coarse) 0 s.now
  cases e : s.tryAppend b r (b2n s.coarse) 0 s.now with
  | mk ok u =>
    rw [e] at hok hg hall
    obtain rfl : ok = true := hok
    exact ⟨u, applyRecords_one e, gainCleared_extends hg hall⟩

end

/-- Settles O19: a read moves the ring's bytes from head to tail, an append lists its record at the tail. -/
theorem poolReadsAndAppendsFollowTheStream : Obligations.PoolReadsAndAppendsFollowTheStream := by
  unfold Obligations.PoolReadsAndAppendsFollowTheStream
  refine ⟨?readOne, ?readAll, ?readPart, ?beyond, ?gone, ?absent, ?append, ?firstOfTwo, ?malformed, ?rights⟩
  case readOne =>
    intro s qp tag a l b o c p h hp ha hbuf hl hl' hcount hpoison hout hb ho hthere hpool hall hlist hh ht
    obtain ⟨hc, -, -, -, -, he, hdesc⟩ := id h
    obtain ⟨rfl, rfl⟩ := cmd_key hc
    have hfault : c.lengthFault 1 (some 0x1000000) = none := by
      simp [QCmd.lengthFault, hdesc, room_single hbuf]
      omega
    obtain ⟨hd, -, hk, hf⟩ := poolReadOn_all_delivered hp ha he hcount hpoison hh
      (n := min l (s.get .TAIL_OFFSET b - o)) (by rw [room_single hbuf]; omega) (by omega)
    obtain ⟨hended, hmem⟩ := hd (firstPoison_clean hall hlist _ _ _)
    have hread := delivered_read hp hbuf hout (bytes := s.ringRead b o (min l (s.get .TAIL_OFFSET b - o)))
      (by simp [State.ringRead]) hmem
    rw [ringRead_clean hall hlist, List.length_map, List.length_range] at hread
    have e : exec _ s = .next (s.poolReadOn c _ _ 0x1000000) :=
      exec_poolRead (part := none) h hfault hb ho hthere hpool (.inr ht)
    exact ⟨_, e, hread, hended, (fields_of_frame hf).1, hk, hf⟩
  case readAll =>
    intro s qp tag b o n c p h hp ha hl hcount hpoison hb ho hthere hpool hh ht hn
    obtain ⟨hc, -, -, -, -, he, -⟩ := id h
    obtain ⟨rfl, rfl⟩ := cmd_key hc
    have hroom := room_pos hl
    exact ⟨_, exec_poolRead h hl hb ho hthere hpool (.inr ht),
      poolReadOn_all_delivered hp ha he hcount hpoison hh hn (by omega)⟩
  case readPart =>
    intro s qp tag b o k n c h hl hb ho hthere hpool hh hs hn hk
    obtain ⟨hc, -, -, -, -, he, -⟩ := id h
    obtain ⟨rfl, rfl⟩ := cmd_key hc
    rw [ho] at hh hn
    obtain ⟨bad, e⟩ := poolReadOn_part hh (hk.trans_eq hn)
    rw [← ho] at e
    obtain ⟨m, em⟩ := rangesWrite_mem s (dropRanges c.count c.buf) (s.ringRead b o k)
    have hcmd : (s.rangesWrite (dropRanges c.count c.buf) (s.ringRead b o k)).cmd c.qp c.tag = some c := by
      rw [em]
      exact hc
    refine ⟨_, (exec_poolRead h hl hb rfl hthere hpool hs).trans (congrArg _ e), ?_, rfl, ?_, ?_, ?_⟩
    · rw [setCmd_cmd hcmd (by exact fun d => ⟨rfl, rfl⟩)]
      simp [he]
    all_goals rw [em]
    · rfl
    · exact setCmd_length _
    · rfl
  case beyond =>
    intro s qp tag part c p b o h hp ha hl hs hb ho hthere hpool ht
    obtain ⟨hc, -, -, -, -, he, -⟩ := id h
    obtain ⟨rfl, rfl⟩ := cmd_key hc
    have hclosed := finishWith_closed hp ha he St.rangeBeyond 0 0
    exact ⟨_, exec_poolRead_beyond h hl hs hb ho hthere hpool ht, hclosed.ended, hclosed.kept, hclosed.frame⟩
  case gone =>
    intro s qp tag part c p b o h hp ha hl hb ho hthere hpool ht hgone
    obtain ⟨hc, -, -, -, -, he, -⟩ := id h
    obtain ⟨rfl, rfl⟩ := cmd_key hc
    have hclosed := finishWith_closed hp ha he St.rangeGone c.count 0
    exact ⟨_, (exec_poolRead h hl hb ho hthere hpool (.inr ht)).trans (congrArg _ (poolReadOn_gone hgone _)), hclosed.ended,
      hclosed.kept, hclosed.frame⟩
  case absent =>
    intro s qp tag part c p h hp ha hl hb
    obtain ⟨hc, -, -, -, -, he, -⟩ := id h
    obtain ⟨rfl, rfl⟩ := cmd_key hc
    have hclosed := finishWith_closed hp ha he St.bobbinUnknown 0 0
    exact ⟨_, exec_poolRead_absent h hl hb, hclosed.ended, hclosed.kept, hclosed.frame⟩
  case append =>
    intro s qp tag b c p r h hp ha hw hcount hlist hb hthere hpool hright htakes
    obtain ⟨hc, -, -, -, -, he, -⟩ := id h
    obtain ⟨rfl, rfl⟩ := cmd_key hc
    subst hb
    obtain ⟨u, e1, hx⟩ := applyRecords_extends htakes (lt_ten_of_bobbin hthere)
    have hclosed := finishWith_closed (hx.pair hp) ha he St.success 1 0
    have e := exec_poolAppend h hw hlist hthere hpool (part := none)
    rw [if_neg (by simp [hright])] at e
    obtain ⟨hlm, hmd, hsp, hsec⟩ := fields_of_frame hclosed.frame
    obtain ⟨hmd', hsp', hsec', -⟩ := hx.still
    exact ⟨_, e.trans (congrArg _ (poolAppendOn_one hcount e1)), hx.gained_of hlm hclosed.kept, hclosed.entry,
      hclosed.cmd_none, (congrArg LoomS.lease hlm).trans hx.lease, hmd.trans hmd', hsp.trans hsp', hsec.trans hsec'⟩
  case firstOfTwo =>
    intro s qp tag b c r q h hw hcount hlist hb hthere hpool hright htakes
    obtain ⟨hc, -⟩ := id h
    obtain ⟨rfl, rfl⟩ := cmd_key hc
    subst hb
    obtain ⟨u, e1, hx⟩ := applyRecords_extends htakes (lt_ten_of_bobbin hthere)
    have e := exec_poolAppend h hw hlist hthere hpool (part := some 1)
    rw [if_neg (by simp [hright])] at e
    obtain ⟨hmd, hsp, hsec, hhost, hq⟩ := hx.still
    have hcmd : (s.gainCleared u (fieldAt c.args 0 2)).cmd c.qp c.tag = some c := by rw [State.cmd, hq, ← State.cmd, hc]
    refine ⟨_, e.trans (congrArg _ (poolAppendOn_first hcount e1)), hx.gained_of rfl (fun _ _ _ => rfl), ?_, hhost, hmd,
      hsp, hsec⟩
    rw [setCmd_cmd hcmd (by exact fun d => ⟨rfl, rfl⟩)]
    simp
  case malformed =>
    intro s qp tag o part c p h hp ha hw hlist
    obtain ⟨hc, -, -, -, -, he, -⟩ := id h
    obtain ⟨rfl, rfl⟩ := cmd_key hc
    have hclosed := finishWith_closed hp ha he St.badLength 0 o
    exact ⟨_, exec_poolAppend_malformed h hw hlist, by simpa using hclosed.ended, hclosed.kept, hclosed.frame⟩
  case rights =>
    intro s qp tag part c p l h hp ha hw hlist hthere hpool hright
    obtain ⟨hc, -, -, -, -, he, -⟩ := id h
    obtain ⟨rfl, rfl⟩ := cmd_key hc
    have hclosed := finishWith_closed hp ha he St.noRights c.count 0
    have e := exec_poolAppend h hw hlist hthere hpool (part := part)
    rw [if_pos hright] at e
    exact ⟨_, e, hclosed.ended, hclosed.kept, hclosed.frame⟩

end Sys2Proof.Machine
end

section
/-! O21, the archive commands. DISC_DIR, EXPORT and DISC_READ: what starts them, what they deliver, and what refuses them
(06 R266-R270, 02 R87, R88). -/

namespace Sys2Proof.Machine

section
variable {s t u v : State} {qp tag i n st d : Nat} {c : QCmd} {p : QPair} {j : ReadJob} {e : DirEntry}

/-! ## A job that starts -/

/-- Outside RUN-with-focus-and-tracking no read of a cluster starts (12 R571). -/
theorem startRead_waits (h : s.reg .SV_STATE ≠ 3) (hr : j.reading = false) : s.startRead j = (s, j) := by
  have hcan (a : Nat) : s.canRead j a = false := by simp [State.canRead, h]
  have hj : { j with reading := false } = j := by rw [← hr]
  unfold State.startRead
  split
  · rw [hj]
  · simp [hcan, hj]

theorem cursor_todo {α : Type} {l : List α} (hl : l ≠ []) (hs : j.states = l.map fun _ => .todo) : j.cursor = some 0 := by
  obtain ⟨a, l, rfl⟩ := List.exists_cons_of_ne_nil hl
  simp [ReadJob.cursor, hs, List.findIdx?_cons]

/-- Command `c` is a read past its start, and `j` its job. -/
structure State.Reads (s : State) (c : QCmd) (j : ReadJob) : Prop where
  cmd : s.cmd c.qp c.tag = some c
  started : c.started = true
  opcode : c.opcode = 0x131 ∨ c.opcode = 0x132
  qp : j.qp = c.qp
  tag : j.tag = c.tag
  alone : s.rd = [j]

theorem State.Reads.job (h : s.Reads c j) : s.job = some j := by
  obtain ⟨hcmd, hs, hop, hq, ht, hrd⟩ := h
  simp [State.job, hrd, hq, ht, hcmd, hs, hop]

theorem State.Reads.setJob (h : s.Reads c j) : s.setJob j = s := by
  obtain ⟨hcmd, -, -, hq, ht, hrd⟩ := h
  have e : ((s.rd.map fun x => if x.qp = j.qp ∧ x.tag = j.tag then j else x).filter fun x => (s.cmd x.qp x.tag).isSome) =
      s.rd := by simp [hrd, hq, ht, hcmd]
  rw [State.setJob, e]

theorem State.Reads.pollRead_waits (h : s.Reads c j) (hc : j.cursor = some i) (hr : j.reading = false)
    (hsv : s.reg .SV_STATE ≠ 3) : s.pollRead = s := by
  simp only [State.pollRead, h.job, hc, State.aimRead, hr, Bool.false_eq_true, if_false, startRead_waits hsv hr, h.setJob]

/-- A read that starts is under way with its job, the first read of which waits for the servo. -/
theorem beginRead_starts (hrun : s.running) (h : s.cmd c.qp c.tag = some c) (hop : c.opcode = 0x131 ∨ c.opcode = 0x132)
    (hq : j.qp = c.qp) (ht : j.tag = c.tag) (hrd : s.rd = []) (hc : j.cursor = some i) (hr : j.reading = false)
    (hsv : s.reg .SV_STATE ≠ 3) : (((s.beginRead c j).cmd c.qp c.tag).map (·.started)) = some true ∧
      (s.beginRead c j).rd = [j] ∧ { s.beginRead c j with q := s.q, rd := s.rd } = s := by
  obtain ⟨hmode, hentry, -, -, -, hlink⟩ := hrun
  have hcmd := setCmd_cmd (f := fun d => { d with started := true }) h fun _ => ⟨rfl, rfl⟩
  have hreads : ({ s.setCmd c fun d => { d with started := true } with rd := [j] } : State).Reads
      { c with started := true } j := ⟨hcmd, rfl, hop, hq, ht, rfl⟩
  have e : s.beginRead c j = { s.setCmd c fun d => { d with started := true } with rd := [j] } := by
    rw [← hreads.pollRead_waits hc hr hsv, State.beginRead, arrive_running s 7 false hmode hentry hlink]
    simp only [State.setCmd, hrd, List.nil_append]
  rw [e]
  exact ⟨congrArg (Option.map _) hcmd, rfl, rfl⟩

/-! ## A job that is settled -/

/-- The registers of a failed integrity check, and those that tell of it (15 R679, R680). -/
def integRegs : List RegName := [.LAST_INTEG_REASON, .LAST_INTEG_BLOCK, .INTEG_UNVERIFIABLE] ++ bookRegs

theorem rangesWrite_told (s : State) (l : List (Nat × Nat)) (bs : List Byte) : Told bookRegs s (s.rangesWrite l bs) := by
  induction l generalizing s bs with
  | nil => exact .refl _ s
  | cons x l ih => exact (hostWrite_told s x.1 (bs.take x.2)).trans (ih _ _)

theorem unverifiable_told (s : State) (reason id : Nat) : Told integRegs s (s.unverifiable reason id) := by
  unfold State.unverifiable
  extract_lets s1
  have h1 : Told integRegs s s1 :=
    (OnlyRegs.set (.set (.refl [.LAST_INTEG_REASON, .LAST_INTEG_BLOCK] s) (by decide)) (by decide)).told (by decide)
  have h2 : Told integRegs s1 (s1.bump .INTEG_UNVERIFIABLE) :=
    (OnlyRegs.put (l := [.INTEG_UNVERIFIABLE]) s1 .INTEG_UNVERIFIABLE 0 _ (by decide)).told (by decide)
  exact ((h1.trans h2).trans ((pulse_told _ _ _).mono (by decide))).trans ((report_told _ _ _ _ _).mono (by decide))

theorem plainPair_told {l : List RegName} (hp : s.plainPair qp p) (h : Told l s u)
    (hl : RegName.LINK_STATE ∉ l := by decide) : u.plainPair qp p := by
  obtain ⟨⟨m, n, hm, p, w, b, e⟩, hk, -⟩ := h
  have hlink : u.reg .LINK_STATE = s.reg .LINK_STATE := hk _ _ hl
  refine plainPair_of_frame hp (by rw [e]) ?_ (by rw [e]) (by rw [e]) (by rw [e])
  rw [State.canPost, State.canPost, State.p0Up, State.p0Up, hlink, e]

/-- Command `c` has ended in `t`, with no more changed than delivering and telling of its outcome do. -/
structure State.ReadEnds (s t : State) (c : QCmd) : Prop where
  gone : t.cmd c.qp c.tag = none
  kept : RegsKept integRegs s t
  frame : { t with regs := s.regs, host := s.host, q := s.q, bb := s.bb } = s

theorem told_readEnds (hp : s.plainPair c.qp p) (ha : c.abortBy = []) (he : c.ended = none) (h : Told integRegs s v)
    (st n d : Nat) : s.ReadEnds (v.finishWith c st n d) c := by
  have hclosed := finishWith_closed (plainPair_told hp h) ha he st n d
  generalize v.finishWith c st n d = t at *
  obtain ⟨⟨m, nt, hm, pm, w, b, ev⟩, hk, -⟩ := h
  refine ⟨hclosed.cmd_none, fun k i hn => ?_, ?_⟩
  · exact (hclosed.kept k i fun hb => hn ((by decide : beadRegs ⊆ integRegs) hb)).trans (hk k i hn)
  · have hf := congrArg (fun x : State => { x with regs := s.regs, host := s.host, q := s.q, bb := s.bb }) hclosed.frame
    refine hf.trans ?_
    rw [ev]

/-- The bytes of an EXPORT (06 R267). -/
def State.exportBytes (s : State) (j : ReadJob) (e : DirEntry) : List Byte :=
  dirEntryBytes e ++ (j.parts.zip j.states).flatMap fun p =>
    if p.2.isDone then matrixBytes p.1.addr (s.partCluster p.1) else List.replicate 67584 0

/-- The checks of an exported block (15 Table 15.6). -/
def State.exportFault (s : State) (j : ReadJob) (e : DirEntry) : Option (Nat × Nat) :=
  s.integrity e.blockId (headBefore (s.md.dir.takeWhile fun d => !(d.type == 1 && d.blockId == e.blockId)) e.stream)
    (j.parts.map s.partCluster)

theorem exportFault_ranges (l : List (Nat × Nat)) (bs : List Byte) :
    (s.rangesWrite l bs).exportFault j e = s.exportFault j e := by
  obtain ⟨m, e⟩ := rangesWrite_mem s l bs
  rw [e]
  rfl

theorem finishExport_lost (h : (j.parts.zip j.states).findIdx? (fun x => !x.2.isDone) = some i) :
    s.finishExport c j e = (s.rangesWrite c.buf (s.exportBytes j e)).finishWith c St.uncorrectable
      (s.exportBytes j e).length i := by
  unfold State.finishExport
  simp only [h]
  rfl

theorem finishExport_whole (h : (j.parts.zip j.states).findIdx? (fun x => !x.2.isDone) = none) :
    s.finishExport c j e = match s.exportFault j e with
      | some (reason, i) => ((s.rangesWrite c.buf (s.exportBytes j e)).unverifiable reason e.blockId).finishWith c
          St.integrityUnverifiable (s.exportBytes j e).length i
      | none => (s.rangesWrite c.buf (s.exportBytes j e)).finishWith c St.success (s.exportBytes j e).length
          (s.readFlags j) := by
  rw [← exportFault_ranges c.buf (s.exportBytes j e)]
  unfold State.finishExport
  simp only [h]
  rfl

theorem finishExport_ends (hp : s.plainPair c.qp p) (ha : c.abortBy = []) (he : c.ended = none) :
    s.ReadEnds (s.finishExport c j e) c := by
  have hw := (rangesWrite_told s c.buf (s.exportBytes j e)).mono (by decide : bookRegs ⊆ integRegs)
  cases h : (j.parts.zip j.states).findIdx? (fun x => !x.2.isDone) with
  | some i =>
    rw [finishExport_lost h]
    exact told_readEnds hp ha he hw _ _ _
  | none =>
    rw [finishExport_whole h]
    split
    · exact told_readEnds hp ha he (hw.trans (unverifiable_told _ _ _)) _ _ _
    · exact told_readEnds hp ha he hw _ _ _

/-- The parts of a DISC_READ up to the first that could not be read, and their user bytes (06 R269). -/
def ReadJob.whole (j : ReadJob) : List (ReadPart × PartState) := (j.parts.zip j.states).takeWhile fun x => x.2.isDone

def State.readBytes (s : State) (j : ReadJob) : List Byte :=
  j.whole.flatMap fun x => bytesAt (bodyBytes (s.partCluster x.1).body) x.1.from' x.1.len

theorem misplaced_ranges (l : List (Nat × Nat)) (bs : List Byte) : (s.rangesWrite l bs).misplaced = s.misplaced := by
  obtain ⟨m, e⟩ := rangesWrite_mem s l bs
  rw [e]
  rfl

theorem finishDiscRead_lost (h : j.whole.length < j.parts.length) : s.finishDiscRead c j =
    (s.rangesWrite c.buf (s.readBytes j)).finishWith c St.uncorrectable (s.readBytes j).length (s.readBytes j).length :=
  if_pos h

theorem finishDiscRead_whole (h : ¬j.whole.length < j.parts.length) : s.finishDiscRead c j =
    match j.parts.find? s.misplaced with
    | some x => ((s.rangesWrite c.buf (s.readBytes j)).unverifiable 2 x.block).finishWith c St.integrityUnverifiable
        (s.readBytes j).length x.index
    | none => (s.rangesWrite c.buf (s.readBytes j)).finishWith c St.success (s.readBytes j).length (s.readFlags j) := by
  rw [← misplaced_ranges c.buf (s.readBytes j)]
  exact if_neg h

theorem finishDiscRead_ends (hp : s.plainPair c.qp p) (ha : c.abortBy = []) (he : c.ended = none) :
    s.ReadEnds (s.finishDiscRead c j) c := by
  have hw := (rangesWrite_told s c.buf (s.readBytes j)).mono (by decide : bookRegs ⊆ integRegs)
  by_cases h : j.whole.length < j.parts.length
  · rw [finishDiscRead_lost h]
    exact told_readEnds hp ha he hw _ _ _
  · rw [finishDiscRead_whole h]
    split
    · exact told_readEnds hp ha he (hw.trans (unverifiable_told _ _ _)) _ _ _
    · exact told_readEnds hp ha he hw _ _ _

/-- A settled read ends, and its job with it. -/
theorem State.Reads.drops (h : s.Reads c j) (hends : s.ReadEnds t c) :
    t.rd.filter (fun x => !(x.qp == c.qp && x.tag == c.tag)) = [] := by
  have hrd : t.rd = s.rd := by rw [← hends.frame]
  simp [hrd, h.alone, h.qp, h.tag]

theorem State.Reads.pollRead_export (h : s.Reads c j) (hc : j.cursor = none) (hr : s.md.realloc = none)
    (he : j.entry = some e) (hends : s.ReadEnds (s.finishExport c j e) c) :
    s.pollRead = { s.finishExport c j e with rd := [] } := by
  rw [← h.drops hends]
  simp only [State.pollRead, h.job, hc, h.qp, h.tag, h.cmd, hr, he, Option.isSome_none, Bool.false_eq_true, if_false]

theorem State.Reads.pollRead_discRead (h : s.Reads c j) (hc : j.cursor = none) (hr : s.md.realloc = none)
    (he : j.entry = none) (hends : s.ReadEnds (s.finishDiscRead c j) c) :
    s.pollRead = { s.finishDiscRead c j with rd := [] } := by
  rw [← h.drops hends]
  simp only [State.pollRead, h.job, hc, h.qp, h.tag, h.cmd, hr, he, Option.isSome_none, Bool.false_eq_true, if_false]

/-! ## The rows -/

theorem dirEntryBytes_length (e : DirEntry) : (dirEntryBytes e).length = 64 := by simp [dirEntryBytes, beBytes]

theorem exec_discDir (h : s.cmdReady qp tag 0x130 c) (hl : c.lengthFault 64 none = none) (hd : s.discChanging = false)
    (hm : s.md.mounted = true) : exec (.discDir qp tag) s =
      (let es := (s.md.dir.drop (fieldAt c.args 0 4)).take (c.room / 64)
       .next ((s.rangesWrite c.buf (es.flatMap dirEntryBytes)).finishWith c St.success es.length s.md.dir.length)) := by
  have e : exec (.discDir qp tag) s = execDiscDir qp tag s := rfl
  rw [e, execDiscDir, runCmd_ready h]
  simp [hl, hd, hm]

theorem discFault_noDisc (h : s.noDisc) : s.discFault = some (St.noMedium, 0) := by simp [State.discFault, h.1]

theorem discChanging_noDisc (h : s.noDisc) (he : s.md.ejecting = false) : s.discChanging = false := by
  simp [State.discChanging, h.1, he]

theorem exec_discDir_empty (h : s.cmdReady qp tag 0x130 c) (hl : c.lengthFault 64 none = none) (hd : s.noDisc)
    (he : s.md.ejecting = false) : exec (.discDir qp tag) s = .next (s.finishWith c St.noMedium 0 0) := by
  have e : exec (.discDir qp tag) s = execDiscDir qp tag s := rfl
  obtain ⟨-, hm, -⟩ := id hd
  rw [e, execDiscDir, runCmd_ready h]
  simp [hl, discChanging_noDisc hd he, discFault_noDisc hd, hm]

theorem exec_exportBlock_polls (h : s.cmdReady qp tag 0x131 c) (hs : c.started = true) :
    exec (.exportBlock qp tag) s = .next s.pollRead := by
  have e : exec (.exportBlock qp tag) s = execExportBlock qp tag s := rfl
  rw [e, execExportBlock, runCmd_ready h]
  simp [hs]

/-- The job of an EXPORT, nothing read yet. -/
def State.exportJob (s : State) (qp tag : Nat) (e : DirEntry) : ReadJob :=
  { qp := qp, tag := tag, entry := some e,
    parts := (s.blockAddresses e).mapIdx fun i a =>
      { block := e.blockId, home := a.1, addr := a.2, index := i, from' := 0, len := 0 },
    states := (s.blockAddresses e).map fun _ => .todo }

theorem exportJob_places (s : State) (qp tag : Nat) (e : DirEntry) :
    (s.exportJob qp tag e).parts.map (fun x => (x.home, x.addr)) = s.blockAddresses e :=
  List.ext_getElem (by simp [State.exportJob]) fun i _ _ => by simp [State.exportJob]

theorem exec_exportBlock_starts (h : s.cmdReady qp tag 0x131 c) (hs : c.started = false) (hd : s.discChanging = false)
    (hf : s.discFault = none)
    (he : s.md.dir.find? (fun e => e.type == 1 && e.blockId == fieldAt c.args 8 8) = some e)
    (hl : c.lengthFault (64 + e.clCount * 67584) (some (64 + e.clCount * 67584)) = none)
    (hw : c.noWait = false ∨ s.on .DISC_TURNING = true) :
    exec (.exportBlock qp tag) s = .next (s.beginRead c (s.exportJob qp tag e)) := by
  have ex : exec (.exportBlock qp tag) s = execExportBlock qp tag s := rfl
  obtain ⟨-, -, -, -, -, -, hdesc⟩ := id h
  have hwait : (c.noWait && !s.on .DISC_TURNING) = false := by obtain hw | hw := hw <;> simp [hw]
  rw [ex, execExportBlock, runCmd_ready h]
  simp only [hs, hdesc, hd, he, hl, hf, hwait, Bool.false_eq_true, if_false]
  rfl

theorem exec_exportBlock_unknown (h : s.cmdReady qp tag 0x131 c) (hs : c.started = false) (hd : s.discChanging = false)
    (he : s.md.dir.find? (fun e => e.type == 1 && e.blockId == fieldAt c.args 8 8) = none) :
    exec (.exportBlock qp tag) s = .next (s.finishWith c St.blockUnknown 0 0) := by
  have ex : exec (.exportBlock qp tag) s = execExportBlock qp tag s := rfl
  obtain ⟨-, -, -, -, -, -, hdesc⟩ := id h
  rw [ex, execExportBlock, runCmd_ready h]
  simp only [hs, hdesc, hd, he, Bool.false_eq_true, if_false]

theorem exec_discRead_polls (h : s.cmdReady qp tag 0x132 c) (hs : c.started = true) :
    exec (.discRead qp tag) s = .next s.pollRead := by
  have e : exec (.discRead qp tag) s = execDiscRead qp tag s := rfl
  rw [e, execDiscRead, runCmd_ready h]
  simp [hs]

theorem exec_discRead_starts {ps : List ReadPart} (h : s.cmdReady qp tag 0x132 c) (hs : c.started = false)
    (hl : c.lengthFault 1 (some 0x1000000) = none) (hd : s.discChanging = false) (hf : s.discFault = none)
    (hb : s.bobbinAbsent (fieldAt c.args 0 2) = false) (hps : ps = s.readPlan (fieldAt c.args 0 2) (fieldAt c.args 8 8)
      (fieldAt c.args 8 8 + min c.room 0x1000000) (s.md.dir.length + 1)) (hne : ps ≠ [])
    (hw : c.noWait = false ∨ s.on .DISC_TURNING = true) : exec (.discRead qp tag) s =
      .next (s.beginRead c { qp := qp, tag := tag, parts := ps, states := ps.map fun _ => .todo }) := by
  have e : exec (.discRead qp tag) s = execDiscRead qp tag s := rfl
  have hwait : (c.noWait && !s.on .DISC_TURNING) = false := by obtain hw | hw := hw <;> simp [hw]
  have hplan : ps.isEmpty = false := by simpa using hne
  rw [e, execDiscRead, runCmd_ready h]
  simp only [hs, hl, hb, hd, hf, ← hps, hplan, hwait, Bool.false_eq_true, if_false]

theorem exec_discRead_empty (h : s.cmdReady qp tag 0x132 c) (hs : c.started = false)
    (hl : c.lengthFault 1 (some 0x1000000) = none) (hb : s.bobbinAbsent (fieldAt c.args 0 2) = false) (hd : s.noDisc)
    (he : s.md.ejecting = false) : exec (.discRead qp tag) s = .next (s.finishWith c St.noMedium 0 0) := by
  have e : exec (.discRead qp tag) s = execDiscRead qp tag s := rfl
  rw [e, execDiscRead, runCmd_ready h]
  simp only [hs, hl, hb, discChanging_noDisc hd he, discFault_noDisc hd, Bool.false_eq_true, if_false]

end

end Sys2Proof.Machine
end

section
/-! O21. CARTRIDGE eject and load (06 R271, R272, 10 R477, 02 R84), and the obligation. -/

namespace Sys2Proof.Machine

section
variable {s t u : State} {qp tag : Nat} {c : QCmd} {p : QPair}

/-- The registers of a loader that starts. -/
def loaderRegs : List RegName := [.LD_STATE, .IN_SW, .OUT_SW]

/-- A loader that starts stands at neither end (10 R477). -/
theorem loaderStart_starts (s : State) (inward : Bool) : (s.loaderStart inward).reg .LD_STATE = (if inward then 1 else 3) ∧
    (s.loaderStart inward).reg .IN_SW = 0 ∧ (s.loaderStart inward).reg .OUT_SW = 0 ∧
    RegsKept loaderRegs s (s.loaderStart inward) ∧
    ∃ m sl, s.loaderStart inward = { s with regs := m, sl := sl } := by
  have honly : OnlyRegs loaderRegs s (((s.set .LD_STATE (if inward then 1 else 3)).set .IN_SW 0).set .OUT_SW 0) :=
    .set (.set (.set (.refl _ s) (by decide)) (by decide)) (by decide)
  obtain ⟨⟨m, e⟩, hk, -⟩ := honly
  have hreg (n : RegName) : (s.loaderStart inward).reg n =
      (((s.set .LD_STATE (if inward then 1 else 3)).set .IN_SW 0).set .OUT_SW 0).reg n := rfl
  have hcode : (if inward then 1 else 3) % 2 ^ RegName.LD_STATE.info.width = if inward then 1 else 3 := by
    cases inward <;> rfl
  refine ⟨(hreg _).trans ?_, (hreg _).trans ?_, (hreg _).trans (State.set_reg _ _ _), hk, m,
    { s.sl with retry := false, back := false, loaderAt := s.clock }, ?_⟩
  · rw [State.reg, State.set_get_ne _ _ (by decide), State.set_get_ne _ _ (by decide), ← State.reg, State.set_reg, hcode]
  · exact (State.set_get_ne _ _ (by decide)).trans (State.set_reg _ _ _)
  · unfold State.loaderStart
    simp only [e]

/-- A cartridge command past its commit point (05 Table 5.7). -/
def QCmd.underWay (c : QCmd) : QCmd := { c with started := true, committed := true }

theorem pollEject_starts (he : s.md.ejecting = true) (hf : s.loaderFree = true) (hl : s.reg .LD_STATE = 2)
    (hs : s.md.session = none) : s.pollEject = s.loaderStart false := by
  simp [State.pollEject, he, hf, hl, hs]

/-- The cartridge is to leave once the loader is free. -/
def State.leaving (s : State) (c : QCmd) : State := { s.setCmd c QCmd.underWay with md.ejecting := true }

theorem exec_cartridgeEject_starts (h : s.cmdReady qp tag 0x133 c) (hrun : s.running) (hs : c.started = false)
    (ha : fieldAt c.args 0 1 = 0) (hld : s.reg .LD_STATE = 2) (he : s.md.ejecting = false) (hm : s.md.mounting = false)
    (hses : s.md.session = none) (hact : s.bu.active = false) (hturn : s.bu.turning = false) (hblock : s.bu.block = none)
    (hredo : s.bu.redo = none) (hread : s.readsWaiting = false) (hfree : s.loaderFree = true) :
    exec (.cartridgeEject qp tag) s =
      .next ((s.leaving c).loaderStart false) := by
  have e : exec (.cartridgeEject qp tag) s = execCartridgeEject qp tag s := rfl
  obtain ⟨hmode, hentry, -, -, -, hlink⟩ := hrun
  have hopen : ¬(s.leaving c).reg .LD_STATE = 4 := by
    change ¬s.reg .LD_STATE = 4
    omega
  have hclosed : ¬((s.leaving c).md.session.isSome && (s.leaving c).canSign) = true := by
    change ¬(s.md.session.isSome && _) = true
    simp [hses]
  have hstart : (s.leaving c).pollEject = (s.leaving c).loaderStart false := pollEject_starts rfl hfree hld hses
  rw [e, execCartridgeEject, runCmd_ready h]
  simp only [ha, hs, hld, he, hm, hact, hturn, hblock, hredo, hread, arrive_running s 7 false hmode hentry hlink]
  exact congrArg _ ((if_neg hopen).trans ((congrArg State.pollEject (if_neg hclosed)).trans hstart))

theorem exec_cartridgeEject_empty (h : s.cmdReady qp tag 0x133 c) (hs : c.started = false)
    (ha : fieldAt c.args 0 1 = 0) (hld : s.reg .LD_STATE = 0) :
    exec (.cartridgeEject qp tag) s = .next (s.finishWith c St.noMedium 0 0) := by
  have e : exec (.cartridgeEject qp tag) s = execCartridgeEject qp tag s := rfl
  rw [e, execCartridgeEject, runCmd_ready h]
  simp [ha, hs, hld]

theorem exec_cartridgeLoad_starts (h : s.cmdReady qp tag 0x133 c) (hrun : s.running) (hs : c.started = false)
    (ha : fieldAt c.args 0 1 = 1) (hld : s.reg .LD_STATE = 0 ∨ s.reg .LD_STATE = 4) (he : s.md.ejecting = false)
    (hfree : s.loaderFree = true) :
    exec (.cartridgeLoad qp tag) s = .next ((s.setCmd c QCmd.underWay).loaderStart true) := by
  have e : exec (.cartridgeLoad qp tag) s = execCartridgeLoad qp tag s := rfl
  obtain ⟨hmode, hentry, -, -, -, hlink⟩ := hrun
  rw [e, execCartridgeLoad, runCmd_ready h]
  obtain hld | hld := hld <;>
  · simp only [ha, hs, hld, he, hfree, arrive_running s 7 false hmode hentry hlink]
    rfl

theorem exec_cartridgeLoad_mounted (h : s.cmdReady qp tag 0x133 c) (hs : c.started = false)
    (ha : fieldAt c.args 0 1 = 1) (hld : s.reg .LD_STATE = 2) (hm : s.md.mounted = true) (hmt : s.md.mounting = false)
    (he : s.md.ejecting = false) :
    exec (.cartridgeLoad qp tag) s = .next (s.finishWith c St.success 0 (if s.md.readOnly then 2 else 1)) := by
  have e : exec (.cartridgeLoad qp tag) s = execCartridgeLoad qp tag s := rfl
  rw [e, execCartridgeLoad, runCmd_ready h]
  simp [ha, hs, hld, hm, hmt, he]

end

/-- Settles O21: a started read holds its job until every cluster is settled, an eject or load moves the loader. -/
theorem archiveAndCartridgeCommandsServeTheDisc : Obligations.ArchiveAndCartridgeCommandsServeTheDisc := by
  unfold Obligations.ArchiveAndCartridgeCommandsServeTheDisc
  refine ⟨?dir, ?dirSingle, ?exportStarts, ?exportEnds, ?unknown, ?readStarts, ?readEnds, ?readEmpty, ?dirEmpty, ?eject,
    ?load, ?ejectEmpty, ?loadMounted⟩
  case dir =>
    intro s qp tag c p es h hp ha hl hd hm hes
    obtain ⟨hc, -, -, -, -, he, -⟩ := id h
    obtain ⟨rfl, rfl⟩ := cmd_key hc
    have e := exec_discDir h hl hd hm
    rw [← hes] at e
    exact ⟨_, e, finish_delivered hp ha he _ _ _⟩
  case dirSingle =>
    intro s qp tag a l c p es h hp ha hbuf hl hout hd hm hes
    obtain ⟨hc, -, -, -, -, he, hdesc⟩ := id h
    obtain ⟨rfl, rfl⟩ := cmd_key hc
    obtain ⟨hlen, hfits⟩ := length_flatMap_take_le (s.md.dir.drop (fieldAt c.args 0 4)) dirEntryBytes 64 l
      fun e _ => dirEntryBytes_length e
    have e := exec_discDir h (lengthFault_single hdesc hbuf hl) hd hm
    rw [room_single hbuf, ← hes] at e
    rw [← hes] at hlen hfits
    refine ⟨_, e, ?_⟩
    rw [← hlen]
    exact delivered_single hp hbuf hout hfits (delivered_closed hp ha he _ _ _)
  case exportStarts =>
    intro s qp tag c e h hs hrun hd hf he hl hw hrd hne hsv
    obtain ⟨hc, hop, -⟩ := id h
    obtain ⟨rfl, rfl⟩ := cmd_key hc
    obtain ⟨hstarted, hjob, hframe⟩ := beginRead_starts (j := s.exportJob c.qp c.tag e) hrun hc (.inl hop) rfl rfl hrd
      (cursor_todo hne rfl) rfl hsv
    refine ⟨_, exec_exportBlock_starts h hs hd hf he hl hw, hstarted, ?_, ?_, hframe⟩
    · rw [hjob]
      rfl
    · rw [hjob, List.map_singleton, exportJob_places]
  case exportEnds =>
    intro s qp tag c p j e bytes h hp ha hs hrd hq ht he hcur hre hbytes
    obtain ⟨hc, hop, -, -, -, hended, -⟩ := id h
    obtain ⟨rfl, rfl⟩ := cmd_key hc
    have hreads : s.Reads c j := ⟨hc, hs, .inl hop, hq, ht, hrd⟩
    have hends : s.ReadEnds (s.finishExport c j e) c := finishExport_ends hp ha hended
    have hbytes' : bytes = s.exportBytes j e := hbytes
    subst hbytes'
    refine ⟨_, (exec_exportBlock_polls h hs).trans (congrArg _ (hreads.pollRead_export hcur hre he hends)), hends.gone, rfl,
      fun i hi => ?_, fun hi hsound => ?_, hends.kept, ?_⟩
    · rw [finishExport_lost hi]
      exact (finish_delivered hp ha hended _ _ _).1
    · have hsound' : s.exportFault j e = none := hsound
      rw [finishExport_whole hi, hsound']
      exact (finish_delivered hp ha hended _ _ _).1
    · exact congrArg (fun x : State => { x with rd := s.rd }) hends.frame
  case unknown =>
    intro s qp tag c p h hp ha hs hd hunknown
    obtain ⟨hc, -, -, -, -, he, -⟩ := id h
    obtain ⟨rfl, rfl⟩ := cmd_key hc
    have hclosed := finishWith_closed hp ha he St.blockUnknown 0 0
    exact ⟨_, exec_exportBlock_unknown h hs hd hunknown, hclosed.ended, hclosed.kept, hclosed.frame⟩
  case readStarts =>
    intro s qp tag c ps h hs hrun hl hd hf hb hps hne hw hrd hsv
    obtain ⟨hc, hop, -⟩ := id h
    obtain ⟨rfl, rfl⟩ := cmd_key hc
    obtain ⟨hstarted, hjob, hframe⟩ := beginRead_starts
      (j := { qp := c.qp, tag := c.tag, parts := ps, states := ps.map fun _ => .todo }) hrun hc (.inr hop) rfl rfl hrd
      (cursor_todo hne rfl) rfl hsv
    refine ⟨_, exec_discRead_starts h hs hl hd hf hb hps hne hw, hstarted, ?_, hframe⟩
    rw [hjob]
    rfl
  case readEnds =>
    intro s qp tag c p j ps bytes h hp ha hs hrd hq ht he hcur hre hps hbytes
    obtain ⟨hc, hop, -, -, -, hended, -⟩ := id h
    obtain ⟨rfl, rfl⟩ := cmd_key hc
    have hreads : s.Reads c j := ⟨hc, hs, .inr hop, hq, ht, hrd⟩
    have hends : s.ReadEnds (s.finishDiscRead c j) c := finishDiscRead_ends hp ha hended
    obtain rfl : ps = j.whole := hps
    obtain rfl : bytes = s.readBytes j := hbytes
    refine ⟨_, (exec_discRead_polls h hs).trans (congrArg _ (hreads.pollRead_discRead hcur hre he hends)), hends.gone, rfl,
      fun hlt => ?_, fun heq hplaced => ?_, hends.kept, ?_⟩
    · rw [finishDiscRead_lost hlt]
      exact (finish_delivered hp ha hended _ _ _).1
    · rw [finishDiscRead_whole heq.not_lt, hplaced]
      exact (finish_delivered hp ha hended _ _ _).1
    · exact congrArg (fun x : State => { x with rd := s.rd }) hends.frame
  case readEmpty =>
    intro s qp tag c p h hp ha hs hl hb hd hej
    obtain ⟨hc, -, -, -, -, he, -⟩ := id h
    obtain ⟨rfl, rfl⟩ := cmd_key hc
    have hclosed := finishWith_closed hp ha he St.noMedium 0 0
    exact ⟨_, exec_discRead_empty h hs hl hb hd hej, hclosed.ended, hclosed.kept, hclosed.frame⟩
  case dirEmpty =>
    intro s qp tag c p h hp ha hl hd hej
    obtain ⟨hc, -, -, -, -, he, -⟩ := id h
    obtain ⟨rfl, rfl⟩ := cmd_key hc
    have hclosed := finishWith_closed hp ha he St.noMedium 0 0
    exact ⟨_, exec_discDir_empty h hl hd hej, hclosed.ended, hclosed.kept, hclosed.frame⟩
  case eject =>
    intro s qp tag c h hrun hs ha hld he hm hses hact hturn hblock hredo hread hfree
    obtain ⟨hc, -⟩ := id h
    obtain ⟨rfl, rfl⟩ := cmd_key hc
    obtain ⟨hstate, hin, hout, hk, m, sl, e⟩ :=
      loaderStart_starts (s.leaving c) false
    have hcmd := setCmd_cmd (f := QCmd.underWay) hc fun _ => ⟨rfl, rfl⟩
    refine ⟨_, exec_cartridgeEject_starts h hrun hs ha hld he hm hses hact hturn hblock hredo hread hfree, hstate, hin, hout,
      ?_, by rw [e]; rfl, by rw [e]; rfl, hk, by rw [e]; rfl⟩
    rw [e]
    exact congrArg (Option.map fun d : QCmd => (d.started, d.committed)) hcmd
  case load =>
    intro s qp tag c h hrun hs ha hld he hfree
    obtain ⟨hc, -⟩ := id h
    obtain ⟨rfl, rfl⟩ := cmd_key hc
    obtain ⟨hstate, hin, hout, hk, m, sl, e⟩ := loaderStart_starts (s.setCmd c QCmd.underWay) true
    have hcmd := setCmd_cmd (f := QCmd.underWay) hc fun _ => ⟨rfl, rfl⟩
    refine ⟨_, exec_cartridgeLoad_starts h hrun hs ha hld he hfree, hstate, hin, hout, ?_, hk, by rw [e]; rfl⟩
    rw [e]
    exact congrArg (Option.map fun d : QCmd => (d.started, d.committed)) hcmd
  case ejectEmpty =>
    intro s qp tag c p h hp ha hs hact hld
    obtain ⟨hc, -, -, -, -, he, -⟩ := id h
    obtain ⟨rfl, rfl⟩ := cmd_key hc
    have hclosed := finishWith_closed hp ha he St.noMedium 0 0
    exact ⟨_, exec_cartridgeEject_empty h hs hact hld, hclosed.ended, hclosed.kept, hclosed.frame⟩
  case loadMounted =>
    intro s qp tag c p h hp ha hs hact hld hm hmt hej
    obtain ⟨hc, -, -, -, -, he, -⟩ := id h
    obtain ⟨rfl, rfl⟩ := cmd_key hc
    have hclosed := finishWith_closed hp ha he St.success 0 (if s.md.readOnly then 2 else 1)
    have hresult : 0 % 2 ^ 32 + (if s.md.readOnly then 2 else 1) % 2 ^ 32 * 2 ^ 32 =
        (if s.md.readOnly then 2 else 1) * 2 ^ 32 := by split <;> rfl
    rw [hresult] at hclosed
    exact ⟨_, exec_cartridgeLoad_mounted h hs hact hld hm hmt hej, hclosed.ended, hclosed.kept, hclosed.frame⟩

end Sys2Proof.Machine
end

section
/-! O5, and statements on resets, leases and crossbar accesses that fail, each with a state in which the model does
otherwise. -/

namespace Sys2Proof.Machine

/-- Settles O5: what a command keeps of the canonical memories (`exec_answers`), and what the passing of time keeps of them
(`Keeps.tick`), a step keeps. -/
theorem stepsKeepMemoriesCanonical : Obligations.StepsKeepMemoriesCanonical := fun _ _ h e => (step_keeps e).memOk h

/-! ## A master reset over verified blocks (07 R329) -/

/-- The reset keeps the ranges in verified blocks that lie past FLUSHED_OFFSET, with the pool that they are ranges of. -/
theorem flushedAhead_masterReset :
    (nextState (exec (.masterReset .resetN []) flushedAhead)).map (·.bu.done) = some (List.replicate 10 [(0, 4096)]) := by
  decide +kernel

/-- Refutes O32: a master reset does not leave the burst control empty (`t.bu = {}`), for the ranges in verified blocks are
kept. -/
theorem not_resetsAndBootsRestartTheFirmware : ¬ Obligations.ResetsAndBootsRestartTheFirmware := by
  unfold Obligations.ResetsAndBootsRestartTheFirmware
  rintro ⟨hreset, -⟩
  obtain ⟨t, ht, -, -, -, hbu, -⟩ := hreset flushedAhead .resetN [] (.inl rfl)
  have hdone : t.bu.done = List.replicate 10 [(0, 4096)] := by simpa [nextState_of_next ht] using flushedAhead_masterReset
  rw [hbu] at hdone
  exact absurd hdone (by decide)

/-! ## A revocation that an append meets (05 R230; 07 R320) -/

/-- A POOL_APPEND to bobbin 0, started. -/
def appendToBobbin0 : QCmd :=
  { qp := 1, tag := 7, opcode := 0x111, fence := false, noWait := false, buf := [], args := leBytes 40 0, input := [],
    order := 0, fetchedAt := 0, fetchTime := 0, started := true }

/-- Run, the pool in use, the lease of bobbin 0, which identity 0 holds, due now, and that POOL_APPEND alone on pair 1. -/
def appendAtExpiry : State :=
  { regs := regPut (regPut (regPut (regPut (regPut powerOnRegs .READY 0 1) .LINK_STATE 0 1) .POOL_STATE 0 1) .BB_HOLDER 0 0)
      .ACTIVE_SIZE_MIB 0 64
    pw := { mode := .run, pwrMainEn := true, mainPgood := true, driveDie := true }
    lm.lease := (List.replicate 10 none).set 0 (some 0)
    q := { pairs := [(1, pairOf16)], cmds := [appendToBobbin0], cache := [1], orders := 1 } }

/-- The append ends with the lease, and is outstanding no more. -/
theorem appendAtExpiry_leaseRenew :
    (nextState (exec (.leaseRenew 0) appendAtExpiry)).map (·.q.cmds) = some [] := by decide +kernel

/-- Refutes O40: its clause on a late renewal says that the queues stay (`t.q = s.q`), but a POOL_APPEND under way on the
bobbin ends with the revocation. -/
theorem not_leasesAreRenewedRevokedAndGranted : ¬ Obligations.LeasesAreRenewedRevokedAndGranted := by
  unfold Obligations.LeasesAreRenewedRevokedAndGranted
  rintro ⟨-, hlate, -⟩
  obtain ⟨t, ht, -, -, -, -, -, -, hq, -⟩ := hlate appendAtExpiry 0 0 (by decide) rfl (by decide) rfl
  have hended : t.q.cmds = [] := by simpa [nextState_of_next ht] using appendAtExpiry_leaseRenew
  rw [hq] at hended
  exact absurd hended (by decide)

/-! ## The self-test agent under an open window (16 R691) -/

/-- Run, the pool in use, a test window open over granule 0. -/
def granuleTested : State :=
  { regs := regPut (regPut powerOnRegs .READY 0 1) .POOL_STATE 0 1
    pw := { mode := .run, pwrMainEn := true, mainPgood := true, driveDie := true }
    st.window := some { region := none, openAt := 0 } }

/-- A write of agent 15 into that granule is no denied access. -/
theorem granuleTested_access :
    (nextState (exec (.crossbarAccess 15 0 true [0]) granuleTested)).map (·.reg .HEDDLE_DENY) = some 0 := by decide +kernel

/-- Refutes O41: its clause on a denied access asks of the agent only that it have no heddle entry over the granule and no
lease; the self-test agent has neither, and its access to the granule under test is carried out and not counted. -/
theorem not_commitsAndAccessesObeyTheTables : ¬ Obligations.CommitsAndAccessesObeyTheTables := by
  unfold Obligations.CommitsAndAccessesObeyTheTables
  rintro ⟨-, -, -, -, hdenied, -⟩
  obtain ⟨t, ht, hcounted, -⟩ := hdenied granuleTested 15 0 true [0] (by decide) (by decide) (by decide +kernel)
    (by decide +kernel) (by decide +kernel)
  have hzero : t.reg .HEDDLE_DENY = 0 := by
    simpa only [nextState_of_next ht, Option.map_some, Option.some.injEq] using granuleTested_access
  rw [Counted, hzero] at hcounted
  exact absurd hcounted (by decide +kernel)

end Sys2Proof.Machine
end

section
/-! SUPPORT. What the work after a loss of the pool leaves of it (07 R336): its state and its poison, the time of the loss,
no lease, the warden's buffer, and with them the device time and the keys. -/

set_option Elab.async false

namespace Sys2Proof.Machine

/-- The registers of the pool that only its loss, its training and its sizing move. -/
def poolRegs : List RegName := [.POOL_STATE, .POOL_CH0_TRAINED, .POOL_CH1_TRAINED, .POOL_LOST_COUNT, .ACTIVE_SIZE_MIB]

/-- `s` has the device time, the keys, the warden's buffer and the registers `poolRegs` of `r`, its pool is as lost and as
poisoned as a whole as that of `r`, and no bobbin has a lease that had none in `r`. -/
structure PoolStays (r s : State) : Prop where
  time : s.time = r.time
  sec : s.sec = r.sec
  warden : s.lm.warden = r.lm.warden
  allPoison : s.lm.allPoison = r.lm.allPoison
  lostAt : s.lm.lostAt = r.lm.lostAt
  unleased : ∀ b, r.lm.lease.getD b none = none → s.lm.lease.getD b none = none
  kept : ∀ n ∈ poolRegs, ∀ i, s.get n i = r.get n i

namespace PoolStays

theorem refl (s : State) : PoolStays s s := ⟨rfl, rfl, rfl, rfl, rfl, fun _ => id, fun _ _ _ => rfl⟩

section
variable {r s t : State} (h : PoolStays r s)
include h

theorem reg {n : RegName} (hn : n ∈ poolRegs := by decide) : s.reg n = r.reg n := h.kept n hn _

theorem trans (g : PoolStays s t) : PoolStays r t :=
  ⟨g.time.trans h.time, g.sec.trans h.sec, g.warden.trans h.warden, g.allPoison.trans h.allPoison,
    g.lostAt.trans h.lostAt, fun b hb => g.unleased b (h.unleased b hb), fun n hn i => (g.kept n hn i).trans (h.kept n hn i)⟩

section
variable {pending : List Instr} {clock free : Nat} {pw : PowerS} {host : HostS} {q : QueueS} {bb : BlackBoxS}
  {bead : BeadS} {lm : LoomS} {md : MediumS} {bu : BurstS} {sp : SpindleS} {sl : SledS} {sv : ServoS} {las : LaserS}
  {ch chV : ChannelS} {rd : List ReadJob} {cal : CalS} {st : SelfTestS} {ca : CacheS} {un : UnitsS} {pt : PortS}
  {tb : TimeS} {tally : Map TallyOpen} {gp : GpioS} {bo : BootS} {tap : TapS}

/-- Every other field may change, of the pool all that is not named. (The state is written out so that unification finds
`s` by its registers.) -/
theorem same (hw : lm.warden = s.lm.warden := by rfl) (ha : lm.allPoison = s.lm.allPoison := by rfl)
    (hl : lm.lostAt = s.lm.lostAt := by rfl)
    (hu : ∀ b, s.lm.lease.getD b none = none → lm.lease.getD b none = none := by exact fun _ h => h) :
    PoolStays r ⟨pending, s.regs, clock, s.time, free, pw, host, q, bb, bead, lm, md, bu, s.sec, sp, sl, sv, las, ch, chV,
      rd, cal, st, ca, un, pt, tb, tally, gp, bo, tap⟩ :=
  ⟨h.time, h.sec, hw.trans h.warden, ha.trans h.allPoison, hl.trans h.lostAt, fun b hb => hu b (h.unleased b hb), h.kept⟩

end

theorem put {n : RegName} {i v : Nat} (hn : n ∉ poolRegs := by decide) : PoolStays r (s.put n i v) :=
  ⟨h.time, h.sec, h.warden, h.allPoison, h.lostAt, h.unleased, fun k hk j =>
    (regGet_regPut_name _ _ _ _ (ne_of_mem_of_not_mem hk hn)).trans (h.kept k hk j)⟩

theorem ite {c : Prop} [Decidable c] (g : PoolStays r t) : PoolStays r (if c then s else t) := by
  split
  · exact h
  · exact g

theorem foldl {α : Type} {f : State → α → State} {l : List α} (hf : ∀ t a, PoolStays r t → PoolStays r (f t a)) :
    PoolStays r (l.foldl f s) := List.foldlRecOn l f h fun t ht a _ => hf t a ht

theorem told {l : List RegName} (g : Told l s t) (hl : ∀ n ∈ poolRegs, n ∉ l := by decide) : PoolStays r t := by
  obtain ⟨⟨m, _, _, _, _, _, rfl⟩, hk, -⟩ := g
  exact ⟨h.time, h.sec, h.warden, h.allPoison, h.lostAt, h.unleased, fun n hn i => (hk n i (hl n hn)).trans (h.kept n hn i)⟩

theorem only {l : List RegName} (g : OnlyRegs l s t) (hl : ∀ n ∈ poolRegs, n ∉ l := by decide) : PoolStays r t :=
  h.told (g.told fun _ => id) hl

theorem pulse {code v : Nat} : PoolStays r (s.pulse code v) := h.only (pulse_only _ _ _)

theorem report {code obj val second : Nat} : PoolStays r (s.report code obj val second) := h.told (report_told _ _ _ _ _)

theorem hostWrite {a : Nat} {bs : List Byte} : PoolStays r (s.hostWrite a bs) := h.told (hostWrite_told _ _ _)

theorem msixSend {v : Nat} : PoolStays r (s.msixSend v) := h.told (msixSend_told _ _)

theorem updateHealth : PoolStays r s.updateHealth := .ite h h.put.report

end

section
variable {r : State} {α : Type} {p q : α × State}

theorem iteSnd {c : Prop} [Decidable c] (h : PoolStays r p.2) (g : PoolStays r q.2) :
    PoolStays r (if c then p else q).2 := by
  split
  · exact h
  · exact g

end

section
variable {r s t : State} (h : PoolStays r s)
include h

/-! ### Core writes drain before an entry (14 R629, R633) -/

theorem poisonGranule {g : Nat} : PoolStays r (s.poisonGranule g) := .ite h (.pulse (.put h.same))

theorem l2Fill {line : Nat} {locked : Bool} : PoolStays r (s.l2Fill line locked) := by
  unfold State.l2Fill
  split
  · exact h
  · extract_lets
    split
    · exact h.same
    · split
      · exact h
      · exact h.same.pulse

theorem l2Refill {line : Nat} : PoolStays r (s.l2Refill line) := by
  unfold State.l2Refill
  split
  · exact h
  · split
    · exact h
    · exact h.same

theorem mergeTake {core addr : Nat} {bs : List Byte} (e : s.mergeTake core addr bs = some t) : PoolStays r t := by
  unfold State.mergeTake at e
  extract_lets _ hit at e
  have hhit (u : State) (hu : PoolStays r u) : PoolStays r (hit u) := by
    simp only [hit]
    split
    · exact hu
    · split
      · exact hu
      · exact hu.same
  split at e
  · cases e
  · split at e
    · cases e
      exact hhit _ h.same
    · split at e
      · cases e
        exact hhit _ h.same
      · cases e

theorem unstall {l : List (Nat × Nat × List Byte)} : PoolStays r (s.unstall l) := by
  induction l generalizing s with
  | nil => exact h.same
  | cons w ws ih =>
    unfold State.unstall
    split
    next e => exact ih (h.mergeTake e)
    next => exact h.same

theorem readsReturn {id : Nat} : PoolStays r (s.readsReturn id) := h.same.foldl fun _ _ ht => ht.same

theorem rangeFills : PoolStays r s.rangeFills := by
  unfold State.rangeFills
  split
  · exact h
  · exact h.same.foldl fun _ _ ht => .ite ht.l2Refill ht.l2Fill

theorem drainOldest : PoolStays r s.drainOldest := by
  unfold State.drainOldest
  split
  · exact h
  · extract_lets _ s1 _ s2 s3 s4
    have h1 : PoolStays r s1 := h.same
    have h2 : PoolStays r s2 := .ite h1.same h1
    have h3 : PoolStays r s3 := .ite h2.poisonGranule h2
    have h4 : PoolStays r s4 := h3.readsReturn.same
    exact h4.unstall.rangeFills

theorem drainOld {n : Nat} : PoolStays r (s.drainOld n) := by
  induction n generalizing s with
  | zero => exact h
  | succ n ih => exact ih h.drainOldest

theorem drainFirst : PoolStays r s.drainFirst := h.pulse.drainOld

/-! ### The end of a command, the halt of a pair (05 R184, R210, R215) -/

theorem signal {qp : Nat} : PoolStays r (s.signal qp) := by
  unfold State.signal
  split
  · exact h
  · exact .ite h.same.msixSend h.same

theorem writeCqe {qp tag status result : Nat} {coarse atOnce : Bool} :
    PoolStays r (s.writeCqe qp tag status result coarse atOnce) := by
  unfold State.writeCqe
  split
  · exact h
  · exact .ite h.same.pulse.hostWrite.signal h.same.pulse.hostWrite

theorem haltEntry {qp : Nat} : PoolStays r (s.haltEntry qp) := by
  unfold State.haltEntry
  split
  · exact h
  · split
    · exact h
    · split
      · exact h
      · extract_lets s1
        have h1 : PoolStays r s1 := h.drainFirst.writeCqe
        split
        · exact h1.same
        · exact h1.same

theorem endOne {c : QCmd} {status result : Nat} {coarse : Bool} : PoolStays r (s.endOne c status result coarse) :=
  .ite h.drainFirst.same.writeCqe.pulse h.same

theorem endAborts {outcome n : Nat} {l : List (Nat × Nat)} : PoolStays r (s.endAborts outcome l n) := by
  induction n generalizing s outcome l with
  | zero => exact h
  | succ n ih =>
    refine h.foldl fun t k ht => ?_
    split
    · exact ht
    · exact .ite ht (ih ht.endOne.pulse).haltEntry

theorem finishWith {c : QCmd} {status count detail : Nat} : PoolStays r (s.finishWith c status count detail) :=
  .ite h h.endOne.endAborts.haltEntry

theorem haltCmd {reason : Nat} {c : QCmd} : PoolStays r (s.haltCmd reason c) :=
  .ite h (.ite h.finishWith (.ite h.same.finishWith h))

theorem halt {qp reason : Nat} : PoolStays r (s.halt qp reason) := by
  unfold State.halt
  split
  · exact h
  · exact .ite h ((h.same.pulse.foldl fun _ _ ht => ht.haltCmd).haltEntry)

/-! ### The burst's next block (01 R37, R38; 02 R79) -/

theorem bobFlags {b : Nat} : PoolStays r (s.bobFlags b) := h.put.put.put

theorem skipRec {b : Nat} {x : Rec} : PoolStays r (s.skipRec b x) := by
  unfold State.skipRec
  extract_lets s1
  have h1 : PoolStays r s1 := .ite h h.put.pulse
  exact h1.same.put.bobFlags.report

theorem skipBad {b : Nat} {l : List Rec} : PoolStays r (s.skipBad b l).1 := by
  induction l generalizing s with
  | nil => exact h
  | cons x xs ih =>
    unfold State.skipBad
    split
    · exact h
    · exact ih h.skipRec

theorem assembleOne {b o n : Nat} {recs : List Rec} : PoolStays r (s.assembleOne b o n recs).2 := by
  unfold State.assembleOne
  extract_lets
  split
  · exact h.put.pulse
  · exact h

theorem assemble {b o z n : Nat} {recs : List Rec} : PoolStays r (s.assemble b o z recs n).2 := by
  induction n generalizing s o with
  | zero => exact h
  | succ n ih => exact .iteSnd h (ih h.assembleOne)

theorem startBlock {b : Nat} {recs : List Rec} {layer head : Nat} : PoolStays r (s.startBlock b recs layer head) := by
  unfold State.startBlock
  dsimp only
  exact h.assemble.same

theorem userFull : PoolStays r s.userFull := .foldl (.ite h h.put.report) fun _ _ ht => ht.finishWith

theorem nextBlock {n : Nat} : PoolStays r (s.nextBlock n) := by
  induction n generalizing s with
  | zero => exact h
  | succ n ih =>
    unfold State.nextBlock
    split
    · exact h
    next b l _ _ =>
      have hu : PoolStays r (s.skipBad b l).1.checkFlushes := h.skipBad.foldl fun _ _ ht => ht.finishWith
      dsimp only
      split
      · exact ih hu
      · split
        · exact ih hu
        · split
          · exact .ite hu.startBlock hu
          · exact hu.userFull
          · exact hu

/-! ### A block given up, a layer at its end, a block begun again (02 R80; 03 R118) -/

theorem burn {a : Nat} {c : Cluster} : PoolStays r (s.burn a c) := by
  unfold State.burn
  split
  · exact h
  · exact h.same

theorem advance {k : Block} {a : Nat} : PoolStays r (s.advance k a) := by
  unfold State.advance
  extract_lets
  split <;> exact h.same

theorem dropBlock : PoolStays r s.dropBlock := by
  unfold State.dropBlock
  split
  · exact h
  · extract_lets _ s1 s2
    have h1 : PoolStays r s1 := by
      unfold s1
      split
      · exact h
      · exact h.burn.advance
    have h2 : PoolStays r s2 := by
      unfold s2
      split
      · exact h1.same
      · exact h1
    exact h2.same

theorem abandonBlock : PoolStays r s.abandonBlock := by
  unfold State.abandonBlock
  split
  · exact h
  · exact .ite h.dropBlock.same.pulse.report h.dropBlock.same

theorem layerEnded {k : Block} : PoolStays r (s.layerEnded k) := by
  have ho : PoolStays r (s.orphan k) := by
    unfold State.orphan
    split
    · exact h.same
    · exact h
  exact ho.same

theorem restartBlock {k : Block} : PoolStays r (s.restartBlock k) := by
  unfold State.restartBlock
  split
  · exact h.same.userFull
  · exact .ite h h.same

/-! ### Arrivals and triggers (01 R37-R41; 03 R106, R107) -/

theorem cancelEntry : PoolStays r s.cancelEntry := by
  unfold State.cancelEntry
  split
  · exact h
  · extract_lets _ _ _ s1
    have h1 : PoolStays r s1 := h.same.put.same.pulse
    split
    · exact h1.same
    · exact h1

theorem sourceFires {cause : Nat} : PoolStays r (s.sourceFires cause) := by
  unfold State.sourceFires
  split
  · exact .ite h.same h
  · split
    · exact h.put
    · exact h.put
    · exact h.put
    · exact h

theorem beginWake {cause : Nat} : PoolStays r (s.beginWake cause) := by
  unfold State.beginWake
  split
  · exact .ite h (.ite h.same h.same.put.put.pulse)
  · exact .ite h (.ite h.same h.same.put.put.pulse)
  · exact .ite h (.ite h.same h.same.put.put.pulse)
  · exact h

theorem wakeOn {cause : Nat} {hostWrite : Bool} : PoolStays r (s.wakeOn cause hostWrite) :=
  .ite h.sourceFires.beginWake h.sourceFires

theorem arrive {cause : Nat} {hostWrite : Bool} : PoolStays r (s.arrive cause hostWrite) := by
  unfold State.arrive
  split
  · exact h.wakeOn
  · exact .ite h.sourceFires (.ite h.cancelEntry.wakeOn h.cancelEntry.sourceFires)

theorem openSession : PoolStays r s.openSession := by
  unfold State.openSession
  split
  · exact h
  · exact h.same

theorem trigger {bobs : List Nat} {mark : Bool} {flush : Option (Nat × Nat)} : PoolStays r (s.trigger bobs mark flush) :=
  .ite (.ite h.same h) (.ite h.same (.ite h.arrive h.arrive.openSession.same.pulse.same))

/-! ### The end of a session, the work that is next (02 R82) -/

theorem finishMount : PoolStays r s.finishMount := by
  unfold State.finishMount
  extract_lets _ _ _ _ s1 s2 s3 s4
  have h1 : PoolStays r s1 := h.same.put.updateHealth
  have h2 : PoolStays r s2 := .ite h1.report h1.report
  have h3 : PoolStays r s3 := .ite h2.report h2
  have h4 : PoolStays r s4 := h3.foldl fun _ _ ht => ht.finishWith
  exact .ite h4 h4.same.trigger

theorem sessionDone {e : Session} : PoolStays r (s.sessionDone e) :=
  .ite h.same.report.finishMount (.ite h.same.report.same.trigger h.same.report)

theorem startSystem {kind : BlockKind} {e : Session} : PoolStays r (s.startSystem kind e) := by
  unfold State.startSystem
  split
  · exact h
  · exact h.same

theorem nextWork : PoolStays r s.nextWork := by
  unfold State.nextWork
  split
  · split
    · exact h
    · split
      · exact h.layerEnded
      · exact h.same.put
      · exact h.same
  · exact h.restartBlock
  · exact .ite h h.startSystem
  · split
    · exact h.same
    · split
      · exact h
      · split
        · split
          · exact h.startSystem
          · exact h.sessionDone
        · exact .ite (.ite h.nextBlock h.nextBlock.same) h
  · exact h

/-! ### The gate opens on a cluster (11 R516; 12 R536) -/

theorem levelCurrent {level p : Nat} : PoolStays r (s.levelCurrent level p).2 := by
  unfold State.levelCurrent
  extract_lets
  split
  · exact h.same
  · split
    · exact h
    · dsimp only
      exact h.put.put.pulse.report

theorem writeLevels : PoolStays r s.writeLevels := by
  unfold State.writeLevels
  dsimp only
  exact h.put.levelCurrent.levelCurrent.levelCurrent.levelCurrent.same

theorem beginCluster {k : Block} : PoolStays r (s.beginCluster k) := by
  unfold State.beginCluster
  extract_lets _ _ _ s1 _ s2 u _ s3
  have h1 : PoolStays r s1 := h.same.same
  have h2 : PoolStays r s2 := .ite h1.same h1
  have hu : PoolStays r u := h2.writeLevels
  have h3 : PoolStays r s3 := hu.same
  exact .ite h3.same h3

theorem tryOpenGate : PoolStays r s.tryOpenGate := by
  unfold State.tryOpenGate
  split
  · exact h
  · exact .ite h.same (.ite h (.beginCluster (.ite h h.put)))

theorem resume : PoolStays r s.resume := h.nextWork.nextWork.tryOpenGate

/-! ### A lease revoked while the pool takes no record (07 R308, R323) -/

theorem cleanGranule {g : Nat} : PoolStays r (s.cleanGranule g) := by
  unfold State.cleanGranule
  exact .ite h.same h

theorem raiseHead {b x : Nat} : PoolStays r (s.raiseHead b x) := by
  unfold State.raiseHead
  extract_lets _ _ s1 _ _ _ s2 _ _ _ _ s3
  have h1 : PoolStays r s1 := h.foldl fun _ _ ht => .ite ht.cleanGranule ht
  have h2 : PoolStays r s2 := h1.same.put
  have h3 : PoolStays r s3 := h2.same
  exact .ite h (.ite h3.put.put h2)

theorem wrapFree {b need n : Nat} : PoolStays r (s.wrapFree b need n) := by
  induction n generalizing s with
  | zero => exact h
  | succ n ih => exact .ite h (ih h.raiseHead)

theorem makeRoom {b len keep : Nat} : PoolStays r (s.makeRoom b len keep).2 :=
  .iteSnd (.iteSnd h.wrapFree (.iteSnd h.wrapFree.raiseHead h.wrapFree)) (.iteSnd h.raiseHead h)

end

end PoolStays

end Sys2Proof.Machine
end

section
/-! O42. The loss of the pool (07 R336, R338, Table 7.11). -/

set_option Elab.async false

namespace Sys2Proof.Machine

/-! ## Every lease ends (07 R323, R336) -/

namespace PoolStays

section
variable {r s : State} (h : PoolStays r s)
include h

theorem poolUp : s.poolUp = r.poolUp := by rw [State.poolUp, h.reg, State.poolUp]

/-- While the pool takes no record a SEG_CLOSE record is held. -/
theorem segClose_down (hr : r.poolUp = false) {b reason : Nat} : PoolStays r (s.segClose b reason) := by
  have hroom : PoolStays r (s.makeRoom b 40 0).2 := h.makeRoom
  unfold State.segClose
  split
  · exact h
  · dsimp only
    rw [if_neg (by simp [hroom.poolUp, hr])]
    exact hroom.same

theorem heddle {k base limit rights bobbin lease : Nat} : PoolStays r (s.heddle k base limit rights bobbin lease) :=
  h.put.put.put.put.put.put.put.put.put

end

end PoolStays

theorem getD_set_none (l : List (Option Nat)) (b : Nat) {k : Nat} (h : k = b ∨ l.getD k none = none) :
    (l.set b none).getD k none = none := by
  rw [List.getD_eq_getElem?_getD] at h ⊢
  by_cases e : b = k
  · simp only [List.getElem?_set, if_pos e]
    split <;> rfl
  · rw [List.getElem?_set_ne e]
    exact h.resolve_left (Ne.symm e)

theorem dropLease_stays (s : State) (b : Nat) : PoolStays s (s.dropLease b) := by
  unfold State.dropLease
  split
  · exact .refl s
  · refine .same (.put (.ite (.refl s) (PoolStays.refl s).heddle)) (hu := fun k hk => getD_set_none _ _ (.inr ?_))
    exact hk

theorem dropLease_ends (s : State) (b : Nat) : (s.dropLease b).lm.lease.getD b none = none := by
  unfold State.dropLease
  split
  next e => exact e
  next => exact getD_set_none _ _ (.inl rfl)

/-- With the pool down a revocation ends the lease, and what else it does leaves the pool as it is. -/
theorem revokeLease_stays {s : State} (h : s.poolUp = false) (b reason : Nat) :
    PoolStays (s.dropLease b) (s.revokeLease b reason) := by
  have hdown : (s.dropLease b).poolUp = false := (dropLease_stays s b).poolUp.trans h
  unfold State.revokeLease
  split
  next e =>
    rw [State.dropLease, e]
    exact .refl s
  next =>
    extract_lets s1 s2 s3
    have h0 : PoolStays (s.dropLease b) ((s.dropLease b).put .BB_STATE b 3) := .put (.refl _)
    have h1 : PoolStays (s.dropLease b) s1 := by
      unfold s1 State.appendsMeet
      rwa [if_neg (by simp [h0.poolUp, hdown])]
    have h2 : PoolStays (s.dropLease b) s2 := (h1.segClose_down hdown).put
    have h3 : PoolStays (s.dropLease b) s3 := .ite h2.put h2
    exact h3.same.pulse.report

theorem revokeAll_stays {s : State} (h : s.poolUp = false) (l : List Nat) (reason : Nat) :
    PoolStays s (l.foldl (fun s b => s.revokeLease b reason) s) := by
  refine List.foldlRecOn (motive := PoolStays s) l _ (.refl s) fun t ht b _ => ?_
  exact (ht.trans (dropLease_stays t b)).trans (revokeLease_stays (ht.poolUp.trans h) b reason)

theorem revokeAll_ends {s : State} (h : s.poolUp = false) (l : List Nat) (reason : Nat) {b : Nat} (hb : b ∈ l) :
    (l.foldl (fun s b => s.revokeLease b reason) s).lm.lease.getD b none = none := by
  induction l generalizing s with
  | nil => simp at hb
  | cons a l ih =>
    have ha : PoolStays (s.dropLease a) (s.revokeLease a reason) := revokeLease_stays h a reason
    have hdown : (s.revokeLease a reason).poolUp = false := (ha.poolUp.trans (dropLease_stays s a).poolUp).trans h
    rcases List.mem_cons.1 hb with rfl | hb
    · exact (revokeAll_stays hdown l reason).unleased _ (ha.unleased _ (dropLease_ends s _))
    · exact ih hdown hb

/-! ## The loss (07 R336, Table 7.11) -/

/-- POOL_STATE 3 and every lease revoked. -/
@[irreducible] def State.leasesLost (s : State) : State :=
  (List.range 10).foldl (fun s b => s.revokeLease b 3) (s.set .POOL_STATE 3)

/-- Every granule poisoned, from now on. -/
def State.poisonAll (s : State) : State := { s with lm.allPoison := true, lm.lostAt := some s.clock }

/-- The loss counted, as many granules counted as poisoned as the pool has, and the loss reported. -/
def State.lossCounted (s : State) (mask : Nat) : State :=
  ((s.bump .POOL_LOST_COUNT).add .POISON_SET 0 (s.reg .POOL_MIB * 256)).report Code.poolLost mask

/-- The pool gone: no lease, every granule poisoned, the loss counted. What stands in the queues and in hand is still to
end. -/
def State.poolGone (s : State) (mask : Nat) : State := s.leasesLost.poisonAll.lossCounted mask

/-- Once the tails are saved and the pool is gone, the rest of a loss leaves it so. -/
theorem losePool_stays {s : State} (h : s.poolLost = false) (mask : Nat) :
    PoolStays (s.saveTails.poolGone mask) (s.losePool mask) := by
  unfold State.losePool
  rw [if_neg (by simp [h])]
  extract_lets u s1 _ _ s2 s3 _ s4 _ _ _ s5 u6
  have e : s1 = u.leasesLost := by
    unfold State.leasesLost
    rfl
  clear_value s1
  have h2 : PoolStays (u.poolGone mask) s2 := by
    rw [State.poolGone, ← e]
    exact .refl _
  clear_value s2
  have h3 : PoolStays (u.poolGone mask) s3 := h2.foldl fun _ _ ht => .ite ht ht.put
  have h4 : PoolStays (u.poolGone mask) s4 := h3.foldl fun _ _ ht => ht.halt
  have h5 : PoolStays (u.poolGone mask) s5 := h4.same.foldl fun _ _ ht => ht.finishWith
  have h6 : PoolStays (u.poolGone mask) u6 := h5.abandonBlock
  exact (PoolStays.same (h6.same)).resume

theorem poolDown_poolUp (s : State) : (s.set .POOL_STATE 3).poolUp = false := by
  rw [State.poolUp, State.set_reg]
  rfl

theorem leasesLost_clock (s : State) : ClockKept s s.leasesLost := by
  unfold State.leasesLost
  exact (ClockKept.put rfl).foldl fun _ _ ht => ht.revokeLease

theorem leasesLost_stays (s : State) : PoolStays (s.set .POOL_STATE 3) s.leasesLost := by
  unfold State.leasesLost
  exact revokeAll_stays (poolDown_poolUp s) _ _

theorem leasesLost_unleased (s : State) {b : Nat} (hb : b < 10) : s.leasesLost.lm.lease.getD b none = none := by
  unfold State.leasesLost
  exact revokeAll_ends (poolDown_poolUp s) _ _ (List.mem_range.2 hb)

theorem leasesLost_reg (s : State) {n : RegName} (hn : n ∈ poolRegs) (hs : n ≠ .POOL_STATE) :
    s.leasesLost.reg n = s.reg n :=
  ((leasesLost_stays s).reg hn).trans (State.set_reg_ne _ _ hs)

/-- The marks of trained channels. -/
def trainRegs : List RegName := [.POOL_CH0_TRAINED, .POOL_CH1_TRAINED]

/-- `t` has lost the pool of `s` at the clock of `s`: it is counted, every granule is poisoned and no lease is left, while
the warden's buffer, the keys, the device time and the marks of trained channels are as they were. -/
structure State.Lost (s t : State) : Prop where
  state : t.reg .POOL_STATE = 3
  allPoison : t.lm.allPoison = true
  lostAt : t.lm.lostAt = some s.clock
  counted : Counted .POOL_LOST_COUNT s t
  unleased : ∀ b, b < 10 → t.lm.lease.getD b none = none
  warden : t.lm.warden = s.lm.warden
  sec : t.sec = s.sec
  time : t.time = s.time
  trained : ∀ n ∈ trainRegs, t.reg n = s.reg n

theorem lossCounted_kept (s : State) (mask : Nat) :
    RegsKept (.POOL_LOST_COUNT :: endRegs) s (s.lossCounted mask) ∧ (s.lossCounted mask).lm = s.lm ∧
      (s.lossCounted mask).sec = s.sec ∧ (s.lossCounted mask).time = s.time := by
  have hput : OnlyRegs (.POOL_LOST_COUNT :: endRegs) s ((s.bump .POOL_LOST_COUNT).add .POISON_SET 0 (s.reg .POOL_MIB * 256)) :=
    (OnlyRegs.put s _ _ _ (by decide)).trans (.put _ _ _ _ (by decide))
  have htold : Told (.POOL_LOST_COUNT :: endRegs) s (s.lossCounted mask) :=
    (hput.told fun _ => id).trans ((report_told _ _ _ _ _).mono (by decide))
  exact ⟨htold.2.1, by simp [State.lossCounted], by simp [State.lossCounted], by simp [State.lossCounted]⟩

theorem lossCounted_counted (s : State) (mask : Nat) : Counted .POOL_LOST_COUNT s (s.lossCounted mask) :=
  (report_get _ _ _ _ _ _ _ (by decide)).trans ((regGet_regPut_name _ _ _ _ (by decide)).trans (State.bump_reg s _))

theorem poolGone_lost (s : State) (mask : Nat) : s.Lost (s.poolGone mask) := by
  have hclock : s.leasesLost.clock = s.clock := leasesLost_clock s
  have hleases : PoolStays (s.set .POOL_STATE 3) s.leasesLost := leasesLost_stays s
  obtain ⟨hkept, hlm, hsec, htime⟩ := lossCounted_kept s.leasesLost.poisonAll mask
  exact {
    state := (hkept _ _ (by decide)).trans (hleases.reg.trans (State.set_reg _ _ _))
    allPoison := by rw [State.poolGone, hlm, State.poisonAll]
    lostAt := by rw [State.poolGone, hlm, State.poisonAll, hclock]
    counted := (lossCounted_counted _ mask).trans (by
      rw [← leasesLost_reg s (by decide) (by decide)]
      rfl)
    unleased := fun b hb => by
      rw [State.poolGone, hlm]
      exact leasesLost_unleased s hb
    warden := by
      rw [State.poolGone, hlm]
      exact hleases.warden
    sec := hsec.trans hleases.sec
    time := htime.trans hleases.time
    trained := fun n hn => by
      have hall : ∀ n ∈ trainRegs, n ∉ RegName.POOL_LOST_COUNT :: endRegs ∧ n ∈ poolRegs ∧ n ≠ .POOL_STATE := by decide
      obtain ⟨htold, hpool, hne⟩ := hall n hn
      exact (hkept _ _ htold).trans (leasesLost_reg s hpool hne) }

theorem trainRegs_pool : trainRegs ⊆ poolRegs := by decide

theorem State.Lost.stays {s t u : State} (h : s.Lost t) (g : PoolStays t u) : s.Lost u where
  state := g.reg.trans h.state
  allPoison := g.allPoison.trans h.allPoison
  lostAt := g.lostAt.trans h.lostAt
  counted := g.reg.trans h.counted
  unleased b hb := g.unleased b (h.unleased b hb)
  warden := g.warden.trans h.warden
  sec := g.sec.trans h.sec
  time := g.time.trans h.time
  trained n hn := (g.reg (trainRegs_pool hn)).trans (h.trained n hn)

theorem State.Lost.of_stays {s t u : State} (h : t.Lost u) (g : PoolStays s t) (hc : t.clock = s.clock) : s.Lost u where
  state := h.state
  allPoison := h.allPoison
  lostAt := by rw [h.lostAt, hc]
  counted := h.counted.trans (by rw [g.reg])
  unleased := h.unleased
  warden := h.warden.trans g.warden
  sec := h.sec.trans g.sec
  time := h.time.trans g.time
  trained n hn := (h.trained n hn).trans (g.reg (trainRegs_pool hn))

theorem losePool_lost {s : State} (h : s.poolLost = false) (mask : Nat) : s.Lost (s.losePool mask) :=
  have hsaved : PoolStays s s.saveTails := (PoolStays.refl s).foldl fun _ _ ht => ht.put.put.put
  ((poolGone_lost _ mask).of_stays hsaved (ClockKept.saveTails rfl)).stays (losePool_stays h mask)

/-! ## POOL_LOSS and MR4_POLL (07 R336, R338) -/

/-- The channels of a loss trained no more. -/
def State.channelsLost (s : State) (m : Nat) : State :=
  let s := if bit m 0 then s.set .POOL_CH0_TRAINED 0 else s
  if bit m 1 then s.set .POOL_CH1_TRAINED 0 else s

theorem channelsLost_only (s : State) (m : Nat) : OnlyRegs trainRegs s (s.channelsLost m) := by
  unfold State.channelsLost
  extract_lets s1
  have h1 : OnlyRegs trainRegs s s1 := .ite ((OnlyRegs.refl _ s).set (by decide)) (.refl _ s)
  exact .ite (h1.set (by decide)) h1

theorem channelsLost_marks (s : State) (m : Nat) :
    (bit m 0 = true → (s.channelsLost m).reg .POOL_CH0_TRAINED = 0) ∧
      (bit m 1 = true → (s.channelsLost m).reg .POOL_CH1_TRAINED = 0) := by
  unfold State.channelsLost
  extract_lets s1
  refine ⟨fun h => ?_, fun h => ?_⟩
  · have h1 : s1.reg .POOL_CH0_TRAINED = 0 := by
      unfold s1
      rw [if_pos h]
      exact State.set_reg _ _ _
    split
    · exact (State.set_reg_ne _ _ (by decide)).trans h1
    · exact h1
  · rw [if_pos h]
    exact State.set_reg _ _ _

theorem channelsLost_poolUp (s : State) (m : Nat) : (s.channelsLost m).poolUp = s.poolUp := by
  obtain ⟨-, hkept, -⟩ := channelsLost_only s m
  have hstate : (s.channelsLost m).reg .POOL_STATE = s.reg .POOL_STATE := hkept _ _ (by decide)
  rw [State.poolUp, hstate, State.poolUp]

theorem poolLost_of_poolUp {s : State} (h : s.poolUp = true) : s.poolLost = false := by
  rw [State.poolUp, Bool.or_eq_true, beq_iff_eq, beq_iff_eq] at h
  rw [State.poolLost, beq_eq_false_iff_ne]
  omega

theorem exec_poolLoss {s : State} {m : Nat} (hm : m < 4) (h : s.poolUp = true) :
    exec (.poolLoss m) s = .next ((s.channelsLost m).losePool m) := by
  have hup : (s.channelsLost m).poolUp = true := (channelsLost_poolUp s m).trans h
  exact (if_pos (decide_eq_true hm)).trans (congrArg _ (if_pos hup))

theorem exec_mr4Poll_fails {s : State} {a b : Bool} (h : s.reg .POOL_STATE = 2) (hab : (a && b) = false) :
    exec (.mr4Poll a b) s = .next (s.losePool 0) := congrArg _ (if_pos ⟨h, hab⟩)

theorem exec_mr4Poll_passes {s : State} {a b : Bool} (h : s.reg .POOL_STATE ≠ 2 ∨ (a && b) = true) :
    exec (.mr4Poll a b) s = .next s := by
  refine congrArg _ (if_neg ?_)
  rintro ⟨hs, hab⟩
  rw [hab] at h
  exact h.elim (· hs) Bool.false_ne_true

end Sys2Proof.Machine
end

section
/-! O42. The one retraining: the pool comes back empty and leased, or stays lost (07 R337, R856). -/

set_option Elab.async false

namespace Sys2Proof.Machine

/-! ## Bobbins that hold nothing -/

/-- Bobbin `b` holds nothing, flushed or not. -/
def State.vacant (s : State) (b : Nat) : Prop :=
  s.get .HEAD_OFFSET b = s.get .TAIL_OFFSET b ∧ s.get .FLUSHED_OFFSET b = s.get .TAIL_OFFSET b

/-- The registers that say whether a bobbin is vacant. -/
def ringRegs : List RegName := [.HEAD_OFFSET, .FLUSHED_OFFSET, .TAIL_OFFSET]

theorem vacant_of_kept {s t : State} {b : Nat} (h : s.vacant b) (g : ∀ n ∈ ringRegs, t.get n b = s.get n b) :
    t.vacant b := by
  obtain ⟨hh, hf⟩ := h
  rw [State.vacant, g _ (by decide), g _ (by decide), g _ (by decide)]
  exact ⟨hh, hf⟩

section
variable {s : State} {b reason : Nat}

/-- A SEG_CLOSE record fits in a vacant bobbin, and nothing has to leave for it. -/
theorem makeRoom_vacant (h : s.vacant b) (hb : s.bobSize b ≠ 0) : s.makeRoom b 40 0 = (true, s) := by
  obtain ⟨hhead, hflushed⟩ := h
  have hsize : mib ≤ s.bobSize b := Nat.le_mul_of_pos_left _ (Nat.pos_of_mul_pos_right (Nat.pos_of_ne_zero hb))
  have hneed : s.headNeeded b (s.get .TAIL_OFFSET b + 40) ≤ s.get .HEAD_OFFSET b := by
    rw [State.headNeeded, granCeil, hhead]
    unfold mib at hsize
    omega
  have hfree : 40 + 0 ≤ s.freeSpace b := by
    rw [State.freeSpace, granFloor, hflushed]
    unfold mib at hsize
    omega
  have hraise : s.raiseHead b (s.headNeeded b (s.get .TAIL_OFFSET b + 40)) = s := if_pos hneed
  have hwrap : s.wrapFree b (s.headNeeded b (s.get .TAIL_OFFSET b + 40)) 40 = s := if_pos (.inl hneed)
  unfold State.makeRoom
  by_cases hpolicy : s.get .FULL_POLICY b = 1
  · rw [if_pos hpolicy, hwrap, if_pos hneed]
  · rw [if_neg hpolicy, if_pos hfree, hraise]

theorem commitRec_vacant (hm : s.md.mounted = false) (x : Rec) {k : Nat} (hk : k ≠ b) (h : s.vacant k) :
    (s.commitRec b x).vacant k := by
  have hlisted : (s.listed b x).vacant k := vacant_of_kept h fun _ _ => (put_bead_ne _ _ hk).trans (put_bead_ne _ _ hk)
  have hall : ∀ n ∈ ringRegs, n ∉ tellRegs := by decide
  exact vacant_of_kept hlisted fun n hn => (commitRec_listed hm x).kept n k (hall n hn)

/-- A record written to one bobbin leaves the others vacant. -/
theorem writeRec_vacant (hm : s.md.mounted = false) {payload : List Byte} {flags source time : Nat} {k : Nat} (hk : k ≠ b)
    (h : s.vacant k) : (s.writeRec b payload flags source time).vacant k := by
  unfold State.writeRec
  extract_lets o _ bs
  have hring : Appends [] [] s (s.ringWrite b o bs) := (Appends.refl hm).ringWrite
  exact commitRec_vacant hring.unmounted _ hk (vacant_of_kept h fun n _ => hring.kept n k List.not_mem_nil)

theorem segClose_vacant (h : s.vacant b) (hb : s.bobSize b ≠ 0) (hup : s.poolUp = true) : s.segClose b reason =
    (s.writeRec b (leBytes 4 reason) (8 + b2n s.coarse) 0xFF s.now).add .SEG_COUNT b 1 := by
  rw [State.segClose, if_neg hb, makeRoom_vacant h hb]
  exact if_pos (by simp [hup])

/-- The SEG_CLOSE record of a bobbin leaves the others vacant. -/
theorem segClose_vacant_others (h : s.vacant b) (hup : s.poolUp = true) (hm : s.md.mounted = false) {k : Nat} (hk : k ≠ b)
    (hv : s.vacant k) : (s.segClose b reason).vacant k := by
  by_cases hb : s.bobSize b = 0
  · rwa [State.segClose, if_pos hb]
  · rw [segClose_vacant h hb hup]
    exact vacant_of_kept (writeRec_vacant hm hk hv) fun n _ => put_bead_ne _ _ hk

end

/-! ## What stays of a restored pool -/

/-- `s` has the device time, the keys and the registers `poolRegs` of `r`; its pool is neither lost nor poisoned, it holds
no SEG_CLOSE record back and no cartridge is mounted. -/
structure State.Restored (r s : State) : Prop where
  time : s.time = r.time
  sec : s.sec = r.sec
  unmounted : s.md.mounted = false
  allPoison : s.lm.allPoison = false
  poison : s.lm.poison = []
  lostAt : s.lm.lostAt = none
  held : ∀ b, s.lm.segHeld.getD b none = none
  length : s.lm.lease.length = 10
  kept : ∀ n ∈ poolRegs, ∀ i, s.get n i = r.get n i

namespace State.Restored

section
variable {r s t : State} (h : r.Restored s)
include h

theorem reg {n : RegName} (hn : n ∈ poolRegs := by decide) : s.reg n = r.reg n := h.kept n hn _

theorem poolUp : s.poolUp = r.poolUp := by rw [State.poolUp, h.reg, State.poolUp]

theorem bobSize {b : Nat} : s.bobSize b = r.bobSize b := by rw [State.bobSize, h.kept _ (by decide), State.bobSize]

theorem poisoned {g : Nat} : s.poisoned g = false := by simp [State.poisoned, h.allPoison, h.poison]

/-- The pool, the burst and the power state may change, the pool's poison not. -/
theorem same {lm : LoomS} {bu : BurstS} {pw : PowerS} (ha : lm.allPoison = s.lm.allPoison := by rfl)
    (hp : lm.poison = s.lm.poison := by rfl) (hl : lm.lostAt = s.lm.lostAt := by rfl)
    (hh : lm.segHeld = s.lm.segHeld := by rfl) (hlen : lm.lease.length = s.lm.lease.length := by rfl) :
    r.Restored { s with lm := lm, bu := bu, pw := pw } :=
  ⟨h.time, h.sec, h.unmounted, ha.trans h.allPoison, hp.trans h.poison, hl.trans h.lostAt, fun b => hh ▸ h.held b,
    hlen.trans h.length, h.kept⟩

theorem told {l : List RegName} (g : Machine.Told l s t) (hl : ∀ n ∈ poolRegs, n ∉ l := by decide) : r.Restored t := by
  obtain ⟨⟨m, _, _, _, _, _, rfl⟩, hk, -⟩ := g
  exact ⟨h.time, h.sec, h.unmounted, h.allPoison, h.poison, h.lostAt, h.held, h.length,
    fun n hn i => (hk n i (hl n hn)).trans (h.kept n hn i)⟩

theorem only {l : List RegName} (g : OnlyRegs l s t) (hl : ∀ n ∈ poolRegs, n ∉ l := by decide) : r.Restored t :=
  h.told (g.told fun _ => id) hl

theorem put {n : RegName} {i v : Nat} (hn : n ∉ poolRegs := by decide) : r.Restored (s.put n i v) :=
  h.only (.put s n i v (List.mem_singleton_self n)) fun _ hk e => hn (List.mem_singleton.1 e ▸ hk)

theorem pulse {code v : Nat} : r.Restored (s.pulse code v) := h.only (pulse_only _ _ _)

theorem ite {c : Prop} [Decidable c] (g : r.Restored t) : r.Restored (if c then s else t) := by
  split
  · exact h
  · exact g

theorem foldl {α : Type} {f : State → α → State} {l : List α} (hf : ∀ t a, r.Restored t → r.Restored (f t a)) :
    r.Restored (l.foldl f s) := List.foldlRecOn l f h fun t ht a _ => hf t a ht

end

section
variable {r : State} {p q : Bool × State}

theorem iteSnd {c : Prop} [Decidable c] (h : r.Restored p.2) (g : r.Restored q.2) :
    r.Restored (if c then p else q).2 := by
  split
  · exact h
  · exact g

end

section
variable {r s : State} (h : r.Restored s)
include h

/-- No granule is poisoned, so none is cleaned. -/
theorem cleanGranule {g : Nat} : r.Restored (s.cleanGranule g) := by
  rwa [State.cleanGranule, if_neg (by simp [h.poisoned])]

theorem raiseHead {b x : Nat} : r.Restored (s.raiseHead b x) := by
  unfold State.raiseHead
  extract_lets _ _ s1 _ s2 _ s3 _ _ _ _ s4
  have h1 : r.Restored s1 := h.foldl fun _ _ ht => .ite ht.cleanGranule ht
  have h3 : r.Restored s3 := h1.same.put
  have h4 : r.Restored s4 := h3.same
  exact .ite h (.ite h4.put.put h3)

theorem wrapFree {b need n : Nat} : r.Restored (s.wrapFree b need n) := by
  induction n generalizing s with
  | zero => exact h
  | succ n ih => exact .ite h (ih h.raiseHead)

theorem makeRoom {b len keep : Nat} : r.Restored (s.makeRoom b len keep).2 :=
  .iteSnd (.iteSnd h.wrapFree (.iteSnd h.wrapFree.raiseHead h.wrapFree)) (.iteSnd h.raiseHead h)

theorem bobFlags {b : Nat} : r.Restored (s.bobFlags b) := h.put.put.put

theorem raiseCeilings {b : Nat} : r.Restored (s.raiseCeilings b) := by
  unfold State.raiseCeilings
  extract_lets s1
  have h1 : r.Restored s1 := .ite h.put h
  exact .ite h1.put h1

theorem ringWrite {b o : Nat} {bs : List Byte} : r.Restored (s.ringWrite b o bs) := h.same

theorem commitRec {b : Nat} {x : Rec} : r.Restored (s.commitRec b x) :=
  h.same.put.put.raiseCeilings.bobFlags.pulse.pulse.same

theorem writeRec {b : Nat} {payload : List Byte} {flags source time : Nat} :
    r.Restored (s.writeRec b payload flags source time) := h.ringWrite.commitRec

/-- The SEG_CLOSE record of a vacant bobbin is appended, not held. -/
theorem segClose {b reason : Nat} (hv : s.vacant b) (hup : r.poolUp = true) : r.Restored (s.segClose b reason) := by
  by_cases hb : s.bobSize b = 0
  · rwa [State.segClose, if_pos hb]
  · rw [segClose_vacant hv hb (h.poolUp.trans hup)]
    exact h.writeRec.put

theorem segCloses {reason : Nat} {l : List Nat} (hl : l.Nodup) (hv : ∀ b ∈ l, s.vacant b) (hup : r.poolUp = true) :
    r.Restored (l.foldl (fun s b => s.segClose b reason) s) := by
  induction l generalizing s with
  | nil => exact h
  | cons b l ih =>
    obtain ⟨hnot, hl⟩ := List.nodup_cons.1 hl
    have hb : s.vacant b := hv b List.mem_cons_self
    refine ih (h.segClose hb hup) hl fun k hk => ?_
    exact segClose_vacant_others hb (h.poolUp.trans hup) h.unmounted (ne_of_mem_of_not_mem hk hnot)
      (hv k (List.mem_cons_of_mem _ hk))

theorem heddle {k base limit rights bobbin lease : Nat} : r.Restored (s.heddle k base limit rights bobbin lease) :=
  h.put.put.put.put.put.put.put.put.put

theorem grantLease {b : Nat} : r.Restored (s.grantLease b) :=
  .ite h (h.put.heddle.put.put.same (hlen := List.length_set))

/-- With no cartridge mounted a trigger is kept at most. -/
theorem trigger {bobs : List Nat} : r.Restored (s.trigger bobs) := by
  have hb : s.burstAllowed = false := by simp [State.burstAllowed, h.unmounted]
  unfold State.trigger
  rw [if_pos (by simp [hb])]
  exact .ite h.same h

theorem flushTriggers {b p all : Nat} {full : Bool} : r.Restored (s.flushTriggers b p all full) := by
  unfold State.flushTriggers
  extract_lets _ _ s1 s2
  have h1 : r.Restored s1 := .ite h.trigger h
  have h2 : r.Restored s2 := .ite h1.trigger h1
  exact .ite h2.trigger h2

theorem tryAppend {b : Nat} {payload : List Byte} {flags source time : Nat} :
    r.Restored (s.tryAppend b payload flags source time).2 :=
  .iteSnd h.put (.iteSnd h.makeRoom.writeRec.flushTriggers h.makeRoom.put.bobFlags)

theorem unbuffer : r.Restored s.unbuffer := h.same.foldl fun _ _ ht => ht.tryAppend

end

end State.Restored

/-! ## The leases of a restored pool -/

theorem tryAppends_lease {s : State} (h : s.md.mounted = false) (l : List BufRec) :
    (l.foldl (fun s x => (s.tryAppend x.bobbin x.payload x.flags x.source x.time).2) s).lm.lease = s.lm.lease := by
  induction l generalizing s with
  | nil => exact Eq.refl _
  | cons x l ih =>
    have hone : Appends [x.bobbin] appendRegs s (s.tryAppend x.bobbin x.payload x.flags x.source x.time).2 :=
      (Appends.refl h).tryAppend (List.mem_singleton_self _)
    exact (ih hone.unmounted).trans hone.lease

/-- A record of the warden's buffer takes no lease and gives none. -/
theorem unbuffer_lease {s : State} (h : s.md.mounted = false) : s.unbuffer.lm.lease = s.lm.lease := by
  unfold State.unbuffer
  generalize e : ({ s with lm.warden := [] } : State) = t
  obtain ⟨hm, hl⟩ : t.md.mounted = false ∧ t.lm.lease = s.lm.lease := by
    subst e
    exact ⟨h, rfl⟩
  exact (tryAppends_lease hm _).trans hl

theorem grantLease_unserved {s : State} {b : Nat}
    (h : s.bobSize b = 0 ∨ s.lm.segHeld.getD b none ≠ none ∨ s.poolUp = false) : s.grantLease b = s := if_pos h

theorem heddle_lm (s : State) (k base limit rights bobbin lease : Nat) :
    (s.heddle k base limit rights bobbin lease).lm = s.lm := by
  obtain ⟨⟨m, e⟩, -⟩ := heddle_only s k base limit rights bobbin lease
  rw [e]

theorem grantLease_served {s : State} {b : Nat} (hb : s.bobSize b ≠ 0) (hheld : s.lm.segHeld.getD b none = none)
    (hup : s.poolUp = true) : ∃ e, (s.grantLease b).lm.lease = s.lm.lease.set b (some e) := by
  have hserved : ¬(s.bobSize b = 0 ∨ s.lm.segHeld.getD b none ≠ none ∨ s.poolUp = false) := by
    rintro (h | h | h)
    · exact hb h
    · exact h hheld
    · simp [hup] at h
  unfold State.grantLease
  rw [if_neg hserved]
  extract_lets k s1
  have h1 : s1.lm = s.lm := State.put_lm _ _ _ _
  clear_value s1
  dsimp only
  rw [State.put_lm, State.put_lm, heddle_lm, h1]
  exact ⟨_, rfl⟩

theorem getD_set_some {l : List (Option Nat)} {b k e : Nat} (hk : k < l.length) (h : l.getD k none ≠ none ∨ k = b) :
    (l.set b (some e)).getD k none ≠ none := by
  rw [List.getD_eq_getElem?_getD] at h ⊢
  by_cases hb : b = k
  · simp [hb, hk]
  · rw [List.getElem?_set_ne hb]
    exact h.resolve_right (Ne.symm hb)

/-- Every bobbin in service gets its lease. -/
theorem grants_lease {r s : State} (h : r.Restored s) (hup : r.poolUp = true) (l : List Nat) {b : Nat} (hb : b < 10)
    (hgrant : s.lm.lease.getD b none ≠ none ∨ b ∈ l ∧ r.bobSize b ≠ 0) :
    (l.foldl State.grantLease s).lm.lease.getD b none ≠ none := by
  induction l generalizing s with
  | nil => exact hgrant.resolve_right fun e => List.not_mem_nil e.1
  | cons a l ih =>
    rw [List.foldl_cons]
    refine ih h.grantLease ?_
    by_cases ha : r.bobSize a = 0
    · rw [grantLease_unserved (.inl (h.bobSize.trans ha))]
      refine hgrant.imp_right fun ⟨hmem, hne⟩ => ⟨(List.mem_cons.1 hmem).resolve_left fun e => hne (e ▸ ha), hne⟩
    · obtain ⟨e, he⟩ := grantLease_served (h.bobSize.trans_ne ha) (h.held a) (h.poolUp.trans hup)
      rw [he]
      have hlen : b < s.lm.lease.length := h.length ▸ hb
      rcases hgrant with hgrant | ⟨hmem, hne⟩
      · exact .inl (getD_set_some hlen (.inl hgrant))
      · exact (List.mem_cons.1 hmem).imp (fun e => getD_set_some hlen (.inr e)) fun hmem => ⟨hmem, hne⟩

/-! ## Every bobbin starts empty (07 R856) -/

/-- The registers that emptying a bobbin sets. -/
def emptyRegs : List RegName := [.HEAD_OFFSET, .FLUSHED_OFFSET, .TAIL_OFFSET, .RC_SEQ_NEXT, .TSAVED_VALID, .BB_STATE,
  .BOB_FULL, .BOB_HOLDING, .BOB_MARKED_PENDING]

/-- The pool with nothing in it, no lease and no SEG_CLOSE record held. -/
def State.poolCleared (s : State) : State :=
  { s with lm.mem := [], lm.recs := List.replicate 10 [], lm.poison := [], lm.ledger := [],
           lm.allPoison := false, lm.marks := [], lm.lease := List.replicate 10 none,
           lm.segHeld := List.replicate 10 none, lm.engine := List.replicate 10 .ok,
           bu.done := List.replicate 10 [] }

/-- A bobbin's offsets all at `t`. -/
def State.offsetsAt (s : State) (b t : Nat) : State :=
  ((s.put .HEAD_OFFSET b t).put .FLUSHED_OFFSET b t).put .TAIL_OFFSET b t

/-- One bobbin starts empty at its saved tail and sequence, or at its ceilings. -/
def State.startEmpty (s : State) (b : Nat) : State :=
  let saved := s.onAt .TSAVED_VALID b
  let t := if saved then s.get .TOFFSET_SAVED b else s.get .TOFFSET_CEIL b
  let q := if saved then s.get .TSEQ_SAVED b else s.get .TSEQ_CEIL b
  let s := (s.offsetsAt b t).put .RC_SEQ_NEXT b q
  let s := (s.put .TSAVED_VALID b 0).put .BB_STATE b (if s.bobSize b = 0 then 0 else 1)
  ((s.put .BOB_FULL b 0).put .BOB_HOLDING b 0).put .BOB_MARKED_PENDING b 0

theorem emptyBobbins_eq (s : State) : s.emptyBobbins = (List.range 10).foldl State.startEmpty s.poolCleared := by
  unfold State.emptyBobbins
  rfl

theorem offsetsAt_vacant (s : State) (b t : Nat) : (s.offsetsAt b t).vacant b := by
  have htail : (s.offsetsAt b t).get .TAIL_OFFSET b = t % 2 ^ 64 := State.put_get _ _ _ _
  have hflushed : (s.offsetsAt b t).get .FLUSHED_OFFSET b = t % 2 ^ 64 :=
    (regGet_regPut_name _ _ _ _ (by decide)).trans (State.put_get _ _ _ _)
  have hhead : (s.offsetsAt b t).get .HEAD_OFFSET b = t % 2 ^ 64 :=
    (regGet_regPut_name _ _ _ _ (by decide)).trans ((regGet_regPut_name _ _ _ _ (by decide)).trans (State.put_get _ _ _ _))
  rw [State.vacant, htail]
  exact ⟨hhead, hflushed⟩

/-- Beside its offsets, emptying a bobbin sets its sequence and its status. -/
theorem startEmpty_offsets (s : State) (b : Nat) :
    ∃ t, OnlyRegs (emptyRegs.drop 3) (s.offsetsAt b t) (s.startEmpty b) := by
  have put {r u : State} (h : OnlyRegs (emptyRegs.drop 3) r u) (n : RegName) (v : Nat)
      (hn : n ∈ emptyRegs.drop 3 := by decide) : OnlyRegs (emptyRegs.drop 3) r (u.put n b v) := h.trans (.put _ _ _ _ hn)
  unfold State.startEmpty
  extract_lets _ t q s1 s2
  have h1 : OnlyRegs (emptyRegs.drop 3) (s.offsetsAt b t) s1 := put (.refl _ _) .RC_SEQ_NEXT q
  have h2 : OnlyRegs (emptyRegs.drop 3) (s.offsetsAt b t) s2 := put (put h1 .TSAVED_VALID 0) .BB_STATE _
  exact ⟨t, put (put (put h2 .BOB_FULL 0) .BOB_HOLDING 0) .BOB_MARKED_PENDING 0⟩

theorem offsetsAt_only (s : State) (b t : Nat) : OnlyRegs emptyRegs s (s.offsetsAt b t) :=
  ((OnlyRegs.put s .HEAD_OFFSET b t (by decide)).trans (.put _ .FLUSHED_OFFSET b t (by decide))).trans
    (.put _ .TAIL_OFFSET b t (by decide))

theorem startEmpty_only (s : State) (b : Nat) : OnlyRegs emptyRegs s (s.startEmpty b) := by
  obtain ⟨t, h⟩ := startEmpty_offsets s b
  exact (offsetsAt_only s b t).trans (h.mono (List.drop_subset _ _))

theorem startEmpty_vacant (s : State) (b : Nat) : (s.startEmpty b).vacant b := by
  obtain ⟨t, -, hk, -⟩ := startEmpty_offsets s b
  have hall : ∀ n ∈ ringRegs, n ∉ emptyRegs.drop 3 := by decide
  exact vacant_of_kept (offsetsAt_vacant s b t) fun n hn => hk n b (hall n hn)

theorem startEmpty_ne (s : State) {b k : Nat} (h : k ≠ b) (n : RegName) : (s.startEmpty b).get n k = s.get n k := by
  have put {t : State} (ht : t.get n k = s.get n k) (m : RegName) (v : Nat) : (t.put m b v).get n k = s.get n k :=
    (put_bead_ne _ _ h).trans ht
  have hoffsets (t : Nat) : (s.offsetsAt b t).get n k = s.get n k := put (put (put (Eq.refl _) _ _) _ _) _ _
  unfold State.startEmpty
  extract_lets _ t q s1 s2
  have h1 : s1.get n k = s.get n k := put (hoffsets t) .RC_SEQ_NEXT q
  have h2 : s2.get n k = s.get n k := put (put h1 .TSAVED_VALID 0) .BB_STATE _
  exact put (put (put h2 .BOB_FULL 0) .BOB_HOLDING 0) .BOB_MARKED_PENDING 0

/-- Every bobbin emptied is vacant, and a vacant one stays so. -/
theorem startEmpties_vacant (l : List Nat) (s : State) {b : Nat} (h : s.vacant b ∨ b ∈ l) :
    (l.foldl State.startEmpty s).vacant b := by
  induction l generalizing s with
  | nil => exact h.resolve_right List.not_mem_nil
  | cons a l ih =>
    refine ih _ ?_
    by_cases hb : b = a
    · rw [hb]
      exact .inl (startEmpty_vacant s a)
    · refine h.imp (fun h => vacant_of_kept h fun n _ => startEmpty_ne s hb n) fun h => ?_
      exact (List.mem_cons.1 h).resolve_left hb

theorem emptyBobbins_vacant (s : State) {b : Nat} (hb : b < 10) : s.emptyBobbins.vacant b := by
  rw [emptyBobbins_eq]
  exact startEmpties_vacant _ _ (.inr (List.mem_range.2 hb))

theorem emptyBobbins_only (s : State) : OnlyRegs emptyRegs s.poolCleared s.emptyBobbins := by
  rw [emptyBobbins_eq]
  exact foldl_rel (OnlyRegs emptyRegs) (.refl _) .trans _ startEmpty_only _ _

/-! ## The tables derived again (07 R309, R310, R855) -/

/-- The registers of the reed table. -/
def reedRegs : List RegName := [.RD_BASE, .RD_LIMIT, .RD_READ_MASK, .RD_WRITE_MASK, .RD_VALID]

theorem reed_only (s : State) (k base limit rmask wmask : Nat) : OnlyRegs reedRegs s (s.reed k base limit rmask wmask) :=
  have put {r t : State} (h : OnlyRegs reedRegs r t) (n : RegName) (v : Nat)
      (hn : n ∈ reedRegs := by decide) : OnlyRegs reedRegs r (t.put n k v) := h.trans (.put _ _ _ _ hn)
  put (put (put (put (put (.refl _ s) .RD_BASE _) .RD_LIMIT _) .RD_READ_MASK _) .RD_WRITE_MASK _) .RD_VALID _

theorem deriveReed_only (s : State) : OnlyRegs reedRegs s s.deriveReed := by
  unfold State.deriveReed
  extract_lets c fixed s1
  have h1 : OnlyRegs reedRegs s s1 := foldl_rel (OnlyRegs reedRegs) (.refl _) .trans _ (fun _ _ => reed_only ..) _ _
  clear_value s1
  refine h1.trans (foldl_rel (OnlyRegs reedRegs) (.refl _) .trans _ (fun t b => ?_) _ _)
  exact .ite (.put _ _ _ _ (by decide)) (reed_only ..)

theorem deriveHeddle_only (s : State) : OnlyRegs heddleRegs s s.deriveHeddle := by
  unfold State.deriveHeddle
  extract_lets top fixed s1
  have h1 : OnlyRegs heddleRegs s s1 := foldl_rel (OnlyRegs heddleRegs) (.refl _) .trans _ (fun _ _ => heddle_only ..) _ _
  clear_value s1
  refine h1.trans (foldl_rel (OnlyRegs heddleRegs) (.refl _) .trans _ (fun t b => ?_) _ _)
  exact .ite (.refl _ _) (heddle_only ..)

/-! ## POOL_RETRAIN (07 R337) -/

/-- A channel fails its retraining: by the event's mask, or by an injection. -/
def State.trainsBad (s : State) (f k : Nat) : Bool := bit f k || s.st.trainFail.contains k

/-- The one attempt is used up and the channels that did not fail are trained. -/
def State.channelsTrained (s : State) (f : Nat) : State :=
  (({ s with lm.lostAt := none, st.trainFail := [] } : State).set .POOL_CH0_TRAINED (b2n !s.trainsBad f 0)).set
    .POOL_CH1_TRAINED (b2n !s.trainsBad f 1)

/-- The pool empty and in use again. -/
def State.poolEmptied (s : State) : State := s.emptyBobbins.set .POOL_STATE 1

/-- The restart told and the tables derived. -/
def State.poolRestarted (s : State) : State := (s.poolEmptied.report Code.poolRestored).deriveReed.deriveHeddle

theorem exec_poolRetrain {s : State} {f e : Nat} (hf : f < 4) (he : s.lm.lostAt = some e) (hdue : e + 10000 ≤ s.clock)
    (hlost : s.poolLost = true) : exec (.poolRetrain f) s = .next (if s.trainsBad f 0 || s.trainsBad f 1 then
      s.channelsTrained f else ((s.channelsTrained f).poolRestarted.reopen 5).unbuffer) := by
  have hready : ¬((s.lm.lostAt.all fun t => decide (s.clock < t + 10000)) || !s.poolLost) = true := by
    simp [he, hlost, hdue]
  refine (if_pos (decide_eq_true hf)).trans (congrArg _ ?_)
  exact if_neg hready

section
variable {s : State}

theorem poolEmptied_only (s : State) : OnlyRegs (.POOL_STATE :: emptyRegs) s.poolCleared s.poolEmptied :=
  ((emptyBobbins_only s).mono (List.subset_cons_self _ _)).set List.mem_cons_self

theorem poolEmptied_reg {n : RegName} (hn : n ∉ RegName.POOL_STATE :: emptyRegs) (i : Nat) :
    s.poolEmptied.get n i = s.get n i := by
  obtain ⟨-, hk, -⟩ := poolEmptied_only s
  exact hk n i hn

theorem poolEmptied_state : s.poolEmptied.reg .POOL_STATE = 1 := State.set_reg _ _ _

theorem poolEmptied_poolUp : s.poolEmptied.poolUp = true := by
  rw [State.poolUp, poolEmptied_state]
  rfl

theorem poolEmptied_bobSize (b : Nat) : s.poolEmptied.bobSize b = s.bobSize b := by
  rw [State.bobSize, poolEmptied_reg (by decide), State.bobSize]

/-- Emptied, the pool has the device time, the keys and the cartridge of before. -/
theorem poolEmptied_frame : s.poolEmptied.time = s.time ∧ s.poolEmptied.sec = s.sec ∧ s.poolEmptied.md = s.md ∧
    s.poolEmptied.lm = s.poolCleared.lm := by
  obtain ⟨⟨m, e⟩, -⟩ := poolEmptied_only s
  rw [e]
  exact ⟨rfl, rfl, rfl, rfl⟩

theorem poolEmptied_vacant {b : Nat} (hb : b < 10) : s.poolEmptied.vacant b := by
  have hempty : s.emptyBobbins.vacant b := emptyBobbins_vacant s hb
  unfold State.poolEmptied
  generalize s.emptyBobbins = t at hempty
  obtain ⟨-, hk, -⟩ := (OnlyRegs.refl [.POOL_STATE] t).set (v := 1) List.mem_cons_self
  have hall : ∀ n ∈ ringRegs, n ∉ [RegName.POOL_STATE] := by decide
  exact vacant_of_kept hempty fun n hn => hk n b (hall n hn)

theorem poolEmptied_restored (hm : s.md.mounted = false) (hl : s.lm.lostAt = none) :
    s.poolEmptied.Restored s.poolEmptied := by
  obtain ⟨-, -, hmd, hlm⟩ := poolEmptied_frame (s := s)
  exact {
    time := rfl
    sec := rfl
    unmounted := by rw [hmd, hm]
    allPoison := by rw [hlm, State.poolCleared]
    poison := by rw [hlm, State.poolCleared]
    lostAt := by rw [hlm, State.poolCleared, hl]
    held := fun b => by
      rw [hlm, State.poolCleared, List.getD_eq_getElem?_getD, List.getElem?_replicate]
      split <;> rfl
    length := by rw [hlm, State.poolCleared, List.length_replicate]
    kept := fun _ _ _ => rfl }

end

/-- The registers that the report of the restart and the derived tables set. -/
def restartRegs : List RegName := bookRegs ++ reedRegs ++ heddleRegs

theorem poolRestarted_told (s : State) : Told restartRegs s.poolEmptied s.poolRestarted := by
  unfold State.poolRestarted
  generalize s.poolEmptied = t
  have hreport : Told restartRegs t (t.report Code.poolRestored) := (report_told t _ _ _ _).mono (by decide)
  generalize t.report Code.poolRestored = u at *
  have hreed : Told restartRegs u u.deriveReed := (deriveReed_only u).told (by decide)
  generalize u.deriveReed = v at *
  exact (hreport.trans hreed).trans ((deriveHeddle_only v).told (by decide))

theorem poolRestarted_restored {s : State} (hm : s.md.mounted = false) (hl : s.lm.lostAt = none) :
    s.poolEmptied.Restored s.poolRestarted := (poolEmptied_restored hm hl).told (poolRestarted_told s)

theorem poolRestarted_vacant (s : State) {b : Nat} (hb : b < 10) : s.poolRestarted.vacant b := by
  obtain ⟨-, hk, -⟩ := poolRestarted_told s
  have hall : ∀ n ∈ ringRegs, n ∉ restartRegs := by decide
  exact vacant_of_kept (poolEmptied_vacant hb) fun n hn => hk n b (hall n hn)

/-- Every bobbin in service has its SEG_CLOSE record appended and its lease granted. -/
theorem reopen_restored {r s : State} (h : r.Restored s) (hup : r.poolUp = true) (hv : ∀ b, b < 10 → s.vacant b)
    (reason : Nat) : r.Restored (s.reopen reason) ∧
      ∀ b, b < 10 → 0 < r.bobSize b → (s.reopen reason).lm.lease.getD b none ≠ none := by
  have hmem : ∀ b, b ∈ List.range 10 ↔ b < 10 := fun _ => List.mem_range
  have hnodup : (List.range 10).Nodup := List.nodup_range
  unfold State.reopen State.grantAll
  generalize List.range 10 = l at *
  have hclosed : r.Restored (l.foldl (fun s b => s.segClose b reason) s) :=
    h.segCloses hnodup (fun b hb => hv b ((hmem b).1 hb)) hup
  refine ⟨hclosed.foldl fun _ _ ht => ht.grantLease, fun b hb hsize => ?_⟩
  exact grants_lease hclosed hup _ hb (.inr ⟨(hmem b).2 hb, hsize.ne'⟩)

theorem retrained_restored {s : State} (hm : s.md.mounted = false) (hl : s.lm.lostAt = none) :
    s.poolEmptied.Restored (s.poolRestarted.reopen 5).unbuffer ∧
      ∀ b, b < 10 → 0 < s.bobSize b → (s.poolRestarted.reopen 5).unbuffer.lm.lease.getD b none ≠ none := by
  obtain ⟨hopen, hleased⟩ := reopen_restored (poolRestarted_restored hm hl) poolEmptied_poolUp
    (fun _ => poolRestarted_vacant s) 5
  refine ⟨hopen.unbuffer, fun b hb hsize => ?_⟩
  rw [unbuffer_lease hopen.unmounted]
  exact hleased b hb ((poolEmptied_bobSize b).symm ▸ hsize)

theorem channelsTrained_marks (s : State) (f : Nat) :
    (s.channelsTrained f).reg .POOL_CH0_TRAINED = b2n (!s.trainsBad f 0) ∧
      (s.channelsTrained f).reg .POOL_CH1_TRAINED = b2n (!s.trainsBad f 1) := by
  have hbit (b : Bool) : b2n b % 2 ^ 1 = b2n b := by cases b <;> rfl
  exact ⟨((State.set_reg_ne _ _ (by decide)).trans (State.set_reg _ _ _)).trans (hbit _),
    (State.set_reg _ _ _).trans (hbit _)⟩

theorem channelsTrained_only (s : State) (f : Nat) :
    OnlyRegs trainRegs { s with lm.lostAt := none, st.trainFail := [] } (s.channelsTrained f) :=
  ((OnlyRegs.refl _ _).set (by decide)).set (by decide)

/-- A mask of failed channels names one of the two. -/
theorem bit_of_lt_four {f : Nat} (h0 : 0 < f) (h4 : f < 4) : (bit f 0 || bit f 1) = true := by
  interval_cases f <;> rfl

/-- Settles O42: the rest of a loss leaves the pool lost (`losePool_lost`), and a retraining with no channel failing brings
every bobbin back vacant, so that no SEG_CLOSE record is held and each gets its lease (`retrained_restored`). -/
theorem thePoolIsLostAndTrainedAgain : Obligations.ThePoolIsLostAndTrainedAgain := by
  refine ⟨fun s m hm hup => ?loss, fun s a b hs hab => ?polled, fun s a b h => ⟨s, exec_mr4Poll_passes h, rfl⟩,
    fun s e he hdue hlost hfail hdisc => ?restored, fun s f e h0 hf he hdue hlost => ?lost⟩
  case loss =>
    have h : (s.channelsLost m).Lost ((s.channelsLost m).losePool m) :=
      losePool_lost (poolLost_of_poolUp ((channelsLost_poolUp s m).trans hup)) m
    obtain ⟨hch0, hch1⟩ := channelsLost_marks s m
    obtain ⟨⟨r, e⟩, hk, -⟩ := channelsLost_only s m
    have hclock : (s.channelsLost m).clock = s.clock := by rw [e]
    have hwarden : (s.channelsLost m).lm.warden = s.lm.warden := by rw [e]
    have hkey : (s.channelsLost m).sec.devKey = s.sec.devKey := by rw [e]
    have htime : (s.channelsLost m).time = s.time := by rw [e]
    have hcount : (s.channelsLost m).reg .POOL_LOST_COUNT = s.reg .POOL_LOST_COUNT := hk _ _ (by decide)
    exact ⟨_, exec_poolLoss hm hup, h.state, h.allPoison, h.lostAt.trans (congrArg _ hclock),
      h.counted.trans (by rw [hcount]), h.unleased, h.warden.trans hwarden, (congrArg _ h.sec).trans hkey,
      h.time.trans htime, fun hb => (h.trained _ (by decide)).trans (hch0 hb),
      fun hb => (h.trained _ (by decide)).trans (hch1 hb)⟩
  case polled =>
    have h : s.Lost (s.losePool 0) := losePool_lost (by simp [State.poolLost, hs]) 0
    exact ⟨_, exec_mr4Poll_fails hs hab, h.state, h.allPoison, h.lostAt, h.counted, h.unleased, h.warden,
      congrArg _ h.sec, h.time⟩
  case restored =>
    have hgood (k : Nat) : s.trainsBad 0 k = false := by simp [State.trainsBad, bit, hfail]
    obtain ⟨-, hm, -⟩ := hdisc
    obtain ⟨hch0, hch1⟩ := channelsTrained_marks s 0
    obtain ⟨⟨r, e⟩, hk, -⟩ := channelsTrained_only s 0
    have ht := exec_poolRetrain (f := 0) (by decide) he hdue hlost
    rw [if_neg (by simp [hgood])] at ht
    generalize s.channelsTrained 0 = u at *
    obtain ⟨h, hleased⟩ := retrained_restored (s := u) (by rw [e]; exact hm) (by rw [e])
    obtain ⟨htime, hsec, -⟩ := poolEmptied_frame (s := u)
    have hsize (b : Nat) : u.bobSize b = s.bobSize b := by
      rw [State.bobSize, hk _ _ (by decide)]
      rfl
    refine ⟨_, ht, h.reg.trans poolEmptied_state, ?_, ?_, h.lostAt, h.allPoison, h.poison, h.length,
      fun b hb hpos => hleased b hb ((hsize b).symm ▸ hpos), ?_, ?_⟩
    · exact (h.reg.trans (poolEmptied_reg (by decide) _)).trans (hch0.trans (by rw [hgood]; rfl))
    · exact (h.reg.trans (poolEmptied_reg (by decide) _)).trans (hch1.trans (by rw [hgood]; rfl))
    · rw [h.time, htime, e]
    · rw [h.sec, hsec, e]
  case lost =>
    have hbad : (s.trainsBad f 0 || s.trainsBad f 1) = true := by
      have hbit := bit_of_lt_four h0 hf
      rw [Bool.or_eq_true] at hbit ⊢
      exact hbit.imp (fun h => by simp [State.trainsBad, h]) fun h => by simp [State.trainsBad, h]
    obtain ⟨hch0, hch1⟩ := channelsTrained_marks s f
    obtain ⟨⟨r, e⟩, hk, -⟩ := channelsTrained_only s f
    have ht := exec_poolRetrain hf he hdue hlost
    rw [if_pos hbad] at ht
    refine ⟨_, ht, (hk _ _ (by decide)).trans (beq_iff_eq.1 hlost), by rw [e], hch0, hch1, by rw [e], hk⟩

end Sys2Proof.Machine
end
